-- ==== Sys2Proof/Config.lean ====
section
/-! DEFINITION. The fixed figures of the part: its capacities and its fixed times (00_scope.md, "Capacities and
limits"). The manual leaves no value of the part's own to an implementation, so no constant here is opaque. -/

namespace Sys2Proof.Config

/-- Records of the fade pool (R24). -/
def fadePool : Nat := 256
/-- The largest time of a fade, link, expiry or stop, in milliseconds (R21, R85, R115, R165). -/
def maxTimeMs : Nat := 600000
/-- Cues of the list, entries of the action pool, actions of one cue (R84, R87, R92). -/
def maxCues : Nat := 512
def actionPool : Nat := 4096
def actionsPerCue : Nat := 32
/-- Records of the instance table (R100). -/
def maxInstances : Nat := 8
/-- Calls of the call table (R167). -/
def maxCalls : Nat := 16
/-- Lines of the received-line queue and of the reply queue (R194, R195). -/
def rxLines : Nat := 8
def replyLines : Nat := 8
/-- Characters a received line may hold (R193). -/
def maxLineChars : Nat := 200
/-- Counts that stay at 65535 once there. -/
def countTop : Nat := 65535
/-- Frames in one millisecond of the frame clock (R4). -/
def framesPerMs : Nat := 48
/-- Samples of a store block, and the highest block address (R122). -/
def blockSamples : Nat := 256
def maxBlock : Nat := 16777215
/-- Largest length of a sound, in samples (R122). -/
def maxSoundLen : Nat := 2147483647
/-- Frames of a store tag's timer: 50 ms (R125). -/
def tagFrames : Nat := 2400
/-- Frames of a role-row crossfade (R55). -/
def xfadeFrames : Nat := 240
/-- Frames of a guard window (R150). -/
def guardWindow : Nat := 480
/-- Frames a changed pin level must hold (R185). -/
def debounceFrames : Nat := 480
/-- Frames within range that end a clip episode (R19). -/
def clipQuiet : Nat := 4800
/-- Largest gap between two bytes of one telemetry record, in frames (R62). -/
def tlmGapFrames : Nat := 96
/-- WCLK periods in tolerance that lock the clock monitor (R206). -/
def lockPeriods : Nat := 4800
/-- Characters of a name and of a cue label (R42, R85). -/
def nameChars : Nat := 12
def labelChars : Nat := 16

end Sys2Proof.Config
end

