-- ==== Sys2Proof/Word.lean ====
section
/-! DEFINITION. The plain types the block's values have: wire words, samples, level codes, names, and the
numbers of its objects. An object numbered 1 to n by the manual is a `Fin n`, so that no record can name an
object that does not exist; `num` gives back the manual's number. -/

namespace Sys2Proof

/-- One received byte, of the control link or of the telemetry input. -/
abbrev Byte := BitVec 8

/-- One 32-bit word of a TDM slot or of a store block; a sample stands in its upper 24 bits (R124, R205). -/
abbrev Word32 := BitVec 32

/-- A sample, or a sum of scaled samples before saturation: an exact integer (R8, R16). -/
abbrev Sample := Int

/-- A level code: half-decibels from -179 to +20, with -180 standing for OFF (the glossary of 00_scope.md, R1). -/
abbrev LevelCode := Int

/-- A name or a label, as the characters written (R42, R85). -/
abbrev Name := List Char

abbrev InputId := Fin 64
abbrev RoleId := Fin 40
abbrev PerfId := Fin 48
abbrev VoiceId := Fin 24
abbrev PlayerId := Fin 2
abbrev PageId := Fin 2
abbrev ReaderId := Fin 26
abbrev HouseId := Fin 8
abbrev FbId := Fin 16
abbrev ZoneId := Fin 24
abbrev GroupId := Fin 8
abbrev SoundId := Fin 1024
abbrev PresetId := Fin 16
abbrev LineId := Fin 16
abbrev InstSlot := Fin 8
abbrev RingSlot := Fin 8
abbrev TagId := Fin 8

/-- The row positions 1 to 128 and column positions 1 to 25 of the mix matrix (R9). -/
abbrev RowPos := Fin 128
abbrev ColPos := Fin 25

/-- The manual's number of an object. -/
def num {n : Nat} (i : Fin n) : Nat := i.val + 1

/-- The object the manual numbers `k`, if `k` lies in 1 to `n`. -/
def ofNum (n k : Nat) : Option (Fin n) :=
  if h : 1 ≤ k ∧ k ≤ n then some ⟨k - 1, by omega⟩ else none

/-- A row of the matrix: an input row, a role row or a voice row (R9). -/
inductive Row where
  | inp (i : InputId)
  | role (r : RoleId)
  | voice (v : VoiceId)
  deriving DecidableEq, Repr

/-- A column of the matrix: a house bus, a foldback bus or the relay bus (R9). -/
inductive Bus where
  | house (h : HouseId)
  | fb (k : FbId)
  | relay
  deriving DecidableEq, Repr

/-- What a fade moves: the level of one crosspoint or the voice level of one voice (R24). -/
inductive Target where
  | xpt (row : Row) (bus : Bus)
  | voice (v : VoiceId)
  deriving DecidableEq, Repr

/-- The fourteen kinds of report, in the order of the table of R199. -/
inductive ReportKind where
  | cue | voice | player | mic | perf | call | guard | clip | line | fade | store | link | tlm | clock
  deriving DecidableEq, Repr

end Sys2Proof
end

