-- ==== Sys2Proof/Syntax.lean ====
section
/-! DEFINITION. The commands of the block: one constructor of `Instr` for each row of spec/opcode_table.json.

The first rows are the command lines of the control link. Such a constructor carries the line's tag (R196) and its
arguments as `Args`: either a line that is malformed for its verb, or the arguments the words spell, not yet
checked against any range. The remaining rows are the part's events: what the link, the frame clock, the telemetry
input, the store bus, the logic lines and WCLK bring, and the expiries the part's own timers reach. -/

namespace Sys2Proof

/-- The tag of a command line, if it has one (R196). -/
abbrev Tag := Option Nat

/-- The arguments of a command line: malformed for its verb, or what its words spell. -/
inductive Args (α : Type) where
  /-- The words do not have the form the command's rule gives: it is answered `ERR SYNTAX`. -/
  | malformed
  | given (a : α)
  deriving DecidableEq, Repr

/-- A level field: the word `off`, or a decimal number in thousandths of a dB (R2). -/
inductive LevelField where
  | off
  | num (thousandths : Int)
  deriving DecidableEq, Repr

/-- A row name as written, its number not yet checked (R21). -/
inductive RowName where
  | inp (n : Nat)
  | role (n : Nat)
  | voice (n : Nat)
  deriving DecidableEq, Repr

/-- A bus name as written (R21). -/
inductive BusName where
  | house (n : Nat)
  | fb (n : Nat)
  | relay
  deriving DecidableEq, Repr

/-- The link field of a cue, its time in milliseconds as written (R86). -/
inductive LinkField where
  | none
  | start (ms : Int)
  | finish (ms : Int)
  deriving DecidableEq, Repr

/-- An action as an ACT line writes it (R88). A time field that is absent is `none`. -/
inductive ActionField where
  | level (row : RowName) (bus : BusName) (level : LevelField) (t : Option Int)
  | play (voice sound : Nat) (fadeIn : Option Int)
  | stop (voice : Nat) (t : Option Int)
  | call (preset : Nat)
  | line (line : Nat) (on : Bool)
  deriving DecidableEq, Repr

/-- The source of a call request as written (R165). -/
inductive SourceName where
  | sound (n : Nat)
  | page (n : Nat)
  deriving DecidableEq, Repr

/-- A target of a call request as written (R165). -/
inductive CallTargetName where
  | zone (n : Nat)
  | group (n : Nat)
  | perf (n : Nat)
  | role (n : Nat)
  deriving DecidableEq, Repr

/-- The member list of TALKBACK (R154). -/
inductive MembersField where
  | none
  | all
  | list (buses : List Nat)
  deriving DecidableEq, Repr

/-- The function of a logic line as written (R183). -/
inductive FunctionName where
  | none | go | halt | resume | stopAll
  | preset (k : Nat)
  | talk | cueActive | standbyReady | halted | micAlert
  | callLive (z : Nat)
  | callWaiting | voiceFault | cueLine
  deriving DecidableEq, Repr

/-- `LEVEL <row> <bus> <level> [t=<ms>]` (R21). -/
structure LevelArgs where
  row : RowName
  bus : BusName
  level : LevelField
  t : Option Int
  deriving DecidableEq, Repr

/-- `LEVEL? <row> [<bus>]` (R22). -/
structure LevelQueryArgs where
  row : RowName
  bus : Option BusName
  deriving DecidableEq, Repr

/-- `INPUT <in> trim=<level>` (R23). -/
structure InputArgs where
  input : Nat
  trim : LevelField
  deriving DecidableEq, Repr

/-- `ROLE <role> name=<text>` (R42). -/
structure RoleArgs where
  role : Nat
  name : Name
  deriving DecidableEq, Repr

/-- The fields of `PERF <perf> ...` (R47); an absent field is `none`. `main` and `zone` are `some none` where the
word `none` is written, and `spares` is the empty list there. -/
structure PerfArgs where
  perf : Nat
  name : Option Name := none
  main : Option (Option Nat) := none
  spares : Option (List Nat) := none
  trim : Option LevelField := none
  zone : Option (Option Nat) := none
  /-- `revert=auto` is `true`, `revert=hold` is `false`. -/
  revertAuto : Option Bool := none
  /-- `mode=auto` is `true`, `mode=manual` is `false`. -/
  modeAuto : Option Bool := none
  deriving DecidableEq, Repr

/-- `PAGE <page> in=<in|none>` (R50). -/
structure PageArgs where
  page : Nat
  input : Option Nat
  deriving DecidableEq, Repr

/-- `CAST <role> perf=<perf|none>` (R52). -/
structure CastArgs where
  role : Nat
  perf : Option Nat
  deriving DecidableEq, Repr

/-- The fields of `SUPV` (R64), whole numbers as written; an absent field is `none`. -/
structure SupvArgs where
  floor : Option Int := none
  hyst : Option Int := none
  overThreshold : Option Int := none
  batt : Option Int := none
  dropout : Option Int := none
  restore : Option Int := none
  stale : Option Int := none
  ref : Option (Option Nat) := none
  margin : Option Int := none
  deriving DecidableEq, Repr

/-- `SELECT <perf> in=<in>` (R78). -/
structure SelectArgs where
  perf : Nat
  input : Nat
  deriving DecidableEq, Repr

/-- `CUE <n> [label=<text>] [link=<link>]` (R86); cue numbers are in tenths (R83). -/
structure CueArgs where
  cue : Nat
  label : Option Name := none
  link : Option LinkField := none
  deriving DecidableEq, Repr

/-- `ACT <n> <kind> <fields>` (R92). -/
structure ActArgs where
  cue : Nat
  action : ActionField
  deriving DecidableEq, Repr

/-- `ACTDEL <n> <i>` and `ACT? <n> <i>` (R93, R95). -/
structure ActIndexArgs where
  cue : Nat
  index : Nat
  deriving DecidableEq, Repr

/-- `SOUND <snd> block=<b> len=<n> [loop=<start>,<end>] [replace=yes]` (R123). -/
structure SoundArgs where
  sound : Nat
  block : Nat
  len : Nat
  loop : Option (Nat × Nat)
  replace : Bool
  deriving DecidableEq, Repr

/-- `PLAY <voice> <snd> [in=<ms>]` (R136). -/
structure PlayArgs where
  voice : Nat
  sound : Nat
  fadeIn : Option Int
  deriving DecidableEq, Repr

/-- `STOP <voice> [<ms>]` (R135). -/
structure StopArgs where
  voice : Nat
  t : Option Int
  deriving DecidableEq, Repr

/-- `FB <fb> [lock=] [guard=] [ceiling=]` (R148). -/
structure FbArgs where
  fb : Nat
  lock : Option Bool := none
  guard : Option Bool := none
  ceiling : Option LevelField := none
  deriving DecidableEq, Repr

/-- `TALKBACK [level=] [depth=] [members=]` (R154); the depth is in thousandths of a dB. -/
structure TalkbackArgs where
  level : Option LevelField := none
  depth : Option Int := none
  members : Option MembersField := none
  deriving DecidableEq, Repr

/-- `ZONE <zone> ...` (R161). -/
structure ZoneArgs where
  zone : Nat
  name : Option Name := none
  relay : Option Bool := none
  level : Option LevelField := none
  trim : Option LevelField := none
  quiet : Option Bool := none
  groups : Option (List Nat) := none
  deriving DecidableEq, Repr

/-- The fields of a call request (R165); the depth is in thousandths of a dB. -/
structure CallArgs where
  src : SourceName
  targets : List CallTargetName
  pri : Option Nat := none
  duck : Option Int := none
  level : Option LevelField := none
  expiry : Option Int := none
  deriving DecidableEq, Repr

/-- `PRESETDEF <k> <request>` or `PRESETDEF <k> none` (R179). -/
structure PresetDefArgs where
  preset : Nat
  request : Option CallArgs
  deriving DecidableEq, Repr

/-- `LINESET <line> [fn=] [pol=]` (R183); `pol=high` is `true`. -/
structure LinesetArgs where
  line : Nat
  fn : Option FunctionName := none
  polHigh : Option Bool := none
  deriving DecidableEq, Repr

/-- `LINE <line> <on|off>` (R189). -/
structure LineArgs where
  line : Nat
  on : Bool
  deriving DecidableEq, Repr

/-- `REPORT [all=] [<kind>=]...` (R200). -/
structure ReportArgs where
  all : Option Bool := none
  kinds : List (ReportKind × Bool) := []
  deriving DecidableEq, Repr

/-- Why a taken line fails at link level (R196, checks 1 to 3). -/
inductive LinkFail where
  /-- The line held more than 200 characters. -/
  | long
  /-- A framing error, a forbidden character, a malformed tag or a missing verb. -/
  | form
  /-- A verb that is not one of the part's. -/
  | verb
  deriving DecidableEq, Repr

/-- A character received on the control link, and whether its stop bit was low (R193). -/
structure RxChar where
  byte : Byte
  framing : Bool := false
  deriving DecidableEq, Repr

/-- The commands and events of the block, in the order of spec/opcode_table.json. -/
inductive Instr where
  | level (tag : Tag) (a : Args LevelArgs)
  | levelQuery (tag : Tag) (a : Args LevelQueryArgs)
  | input (tag : Tag) (a : Args InputArgs)
  | inputQuery (tag : Tag) (a : Args Nat)
  | clipQuery (tag : Tag) (a : Args BusName)
  | fadeQuery (tag : Tag) (a : Args Unit)
  | role (tag : Tag) (a : Args RoleArgs)
  | perf (tag : Tag) (a : Args PerfArgs)
  | perfQuery (tag : Tag) (a : Args Nat)
  | page (tag : Tag) (a : Args PageArgs)
  | pageQuery (tag : Tag) (a : Args Unit)
  | talkin (tag : Tag) (a : Args (Option Nat))
  | talkinQuery (tag : Tag) (a : Args Unit)
  | cast (tag : Tag) (a : Args CastArgs)
  | castQuery (tag : Tag) (a : Args (Option Nat))
  | supv (tag : Tag) (a : Args SupvArgs)
  | supvQuery (tag : Tag) (a : Args Unit)
  | tlmQuery (tag : Tag) (a : Args Unit)
  | micQuery (tag : Tag) (a : Args (Option Nat))
  | select (tag : Tag) (a : Args SelectArgs)
  | auto (tag : Tag) (a : Args Nat)
  | cue (tag : Tag) (a : Args CueArgs)
  | cueQuery (tag : Tag) (a : Args (Option Nat))
  | act (tag : Tag) (a : Args ActArgs)
  | actQuery (tag : Tag) (a : Args ActIndexArgs)
  | actDel (tag : Tag) (a : Args ActIndexArgs)
  | cueDel (tag : Tag) (a : Args Nat)
  | go (tag : Tag) (a : Args (Option Nat))
  | back (tag : Tag) (a : Args Unit)
  | jump (tag : Tag) (a : Args Nat)
  | halt (tag : Tag) (a : Args Unit)
  | resume (tag : Tag) (a : Args Unit)
  | stopAll (tag : Tag) (a : Args (Option Int))
  | engine (tag : Tag) (a : Args Int)
  | engineQuery (tag : Tag) (a : Args Unit)
  | instQuery (tag : Tag) (a : Args Unit)
  | sound (tag : Tag) (a : Args SoundArgs)
  | soundQuery (tag : Tag) (a : Args Nat)
  | play (tag : Tag) (a : Args PlayArgs)
  | stop (tag : Tag) (a : Args StopArgs)
  | voiceQuery (tag : Tag) (a : Args (Option Nat))
  | playerQuery (tag : Tag) (a : Args Nat)
  | fetch (tag : Tag) (a : Args Int)
  | fetchQuery (tag : Tag) (a : Args Unit)
  | fb (tag : Tag) (a : Args FbArgs)
  | fbQuery (tag : Tag) (a : Args (Option Nat))
  | talkback (tag : Tag) (a : Args TalkbackArgs)
  | talkbackQuery (tag : Tag) (a : Args Unit)
  | talk (tag : Tag) (a : Args Bool)
  | zone (tag : Tag) (a : Args ZoneArgs)
  | zoneQuery (tag : Tag) (a : Args Nat)
  | groupQuery (tag : Tag) (a : Args Nat)
  | call (tag : Tag) (a : Args CallArgs)
  | callQuery (tag : Tag) (a : Args (Option Nat))
  | callEnd (tag : Tag) (a : Args Nat)
  | callCancel (tag : Tag) (a : Args Nat)
  | presetDef (tag : Tag) (a : Args PresetDefArgs)
  | presetDefQuery (tag : Tag) (a : Args Nat)
  | preset (tag : Tag) (a : Args Nat)
  | lineset (tag : Tag) (a : Args LinesetArgs)
  | line (tag : Tag) (a : Args LineArgs)
  | lineQuery (tag : Tag) (a : Args (Option Nat))
  | report (tag : Tag) (a : Args ReportArgs)
  | reportQuery (tag : Tag) (a : Args Unit)
  | linkQuery (tag : Tag) (a : Args Unit)
  | statusQuery (tag : Tag) (a : Args Unit)
  | showReset (tag : Tag) (a : Args Unit)
  | clockQuery (tag : Tag) (a : Args Unit)
  /-- A taken line that fails at link level (R196). -/
  | unknown (tag : Tag) (why : LinkFail)
  /-- The characters of one line, up to the LF that ends it, and whether one of them arrived while the
  received-line queue held 8 lines (R193, R194). -/
  | lineReceived (chars : List RxChar) (metFull : Bool)
  /-- The transmitter is free to begin a line (R198). -/
  | transmitLine
  /-- The PAUSE input takes this level (R198). -/
  | pause (asserted : Bool)
  /-- Power-up, or RESETN falls (R203). -/
  | fullReset
  /-- RESETN rises, or power-up completes, with the strap pins at these levels (R192, R203). -/
  | resetEnd (baud1 baud0 : Bool)
  /-- The priming evaluation a show reset leaves (R121). -/
  | showResetPriming
  /-- One frame of the frame clock: the slot words of inputs 1 to 64 and the levels on the pins of lines 1 to 16
  (R16, R185, R205). -/
  | frame (slots : Vector Word32 64) (pins : Vector Bool 16)
  /-- The quiet run of a column's clip record has reached 4800 frames (R19). -/
  | clipClear (bus : Bus)
  /-- A fade record has reached its duration (R31). -/
  | fadeComplete (target : Target)
  /-- A crossfade's frame k = 240 has been computed (R55). -/
  | crossfadeEnd (role : RoleId)
  /-- A byte arrives on the telemetry input (R62). -/
  | telemetryByte (byte : Byte) (framing : Bool)
  /-- The supervisor takes the valid record the telemetry receiver handed over (R81). -/
  | validRecord
  /-- Expiries of an input's health timers (R69, R70, R71) and of the reference (R65). -/
  | dropoutExpiry (input : InputId)
  | restoreExpiry (input : InputId)
  | staleExpiry (input : InputId)
  | referenceStale
  /-- The pending chain's time has run out (R112). -/
  | chainExpiry
  /-- The fetch arbiter makes a grant (R138). -/
  | fetchGrant
  /-- The sample store completes the read under a tag, with 256 words or with ERROR (R139, R140). -/
  | completionOk (tag : TagId) (words : Vector Word32 256)
  | completionError (tag : TagId)
  /-- A BUSY tag's timer expires (R141). -/
  | tagTimeout (tag : TagId)
  /-- A guard window of 480 frames ends (R152). -/
  | guardWindowEnd
  /-- A WAITING recorded call's expiry runs out (R177). -/
  | expired (id : Nat)
  /-- An input line's changed level has held 480 frames (R185). -/
  | debounce (line : LineId)
  /-- 2 ms without a WCLK edge while LOCKED, and while QUALIFYING (R206). -/
  | clockLost
  | qualifyingTimeout
  /-- The WCLK edge that completes the 4800th period in tolerance (R206). -/
  | clockRestored
  /-- A rising edge of WCLK, with the time since the edge before it in picoseconds; while LOCKED it begins a frame (R206). -/
  | wclkRisingEdge (periodPs : Nat)
  deriving DecidableEq, Repr

end Sys2Proof
end

