-- ==== Sys2Proof/Decode.lean ====
section
/-! DEFINITION. From what reaches the block to the command it spells. No row of spec/opcode_table.json has bits, so
`decodeTableWord` spells no command; the block's own decoding is that of a command line of text (R193, R196), done by
`parseLine` from the grammar of R196 and the field forms of R2, R4 and R83 and of each command's own rule. -/

namespace Sys2Proof

/-- The command a table word spells: the table gives no row any bits. -/
def decodeTableWord (_nbits _w : Nat) : Option Instr := none

namespace Text

/-- A word of a command line, or the part of one that stands before or after a separator. -/
abbrev Word := List Char

/-- A word in lower case: verbs, prefixes, field names and named values are accepted in any case (R196). -/
def lower (w : Word) : Word := w.map Char.toLower

/-- Whether a word reads as a keyword, in any case. -/
def reads (w : Word) (keyword : String) : Bool := String.ofList (lower w) == keyword

/-- The part before the first occurrence of a character, and the part after it if there is one. -/
def cut (c : Char) : Word → Word × Option Word
  | [] => ([], none)
  | x :: xs =>
    if x = c then ([], some xs)
    else ((x :: (cut c xs).1), (cut c xs).2)

/-- The pieces between the occurrences of a character. -/
def pieces (c : Char) : List Char → List Word
  | [] => [[]]
  | x :: xs =>
    match pieces c xs with
    | [] => [[x]]
    | w :: ws => if x = c then [] :: w :: ws else (x :: w) :: ws

/-- The words of a line: what stands between its spaces (R196). -/
def words (line : List Char) : List Word := (pieces ' ' line).filter (fun w => !w.isEmpty)

/-- The value of a run of digits. -/
def digitsValue (w : Word) : Nat := w.foldl (fun n c => 10 * n + (c.toNat - 48)) 0

/-- A whole decimal number without sign: one or more digits. -/
def whole (w : Word) : Option Nat :=
  if !w.isEmpty && w.all Char.isDigit then some (digitsValue w) else none

/-- A time field: an optional `-`, then one or more digits (R4). -/
def time : Word → Option Int
  | '-' :: w => (whole w).map (fun n => -(n : Int))
  | w => (whole w).map (fun n => (n : Int))

/-- An unsigned decimal with at most three digits after its point, in thousandths (R2). -/
def thousandths (w : Word) : Option Nat :=
  match cut '.' w with
  | (a, none) => (whole a).map (· * 1000)
  | (a, some b) =>
    match whole a, whole b with
    | some n, some f =>
      if b.length = 1 then some (n * 1000 + f * 100)
      else if b.length = 2 then some (n * 1000 + f * 10)
      else if b.length = 3 then some (n * 1000 + f)
      else none
    | _, _ => none

/-- A number of dB with its optional sign, in thousandths (R2). -/
def decibels : Word → Option Int
  | '-' :: w => (thousandths w).map (fun n => -(n : Int))
  | '+' :: w => (thousandths w).map (fun n => (n : Int))
  | w => (thousandths w).map (fun n => (n : Int))

/-- A level field (R2). -/
def level (w : Word) : Option LevelField :=
  if reads w "off" then some .off else (decibels w).map .num

/-- A cue number field, in tenths (R83). -/
def cueNumber (w : Word) : Option Nat :=
  match cut '.' w with
  | (a, none) => (whole a).map (· * 10)
  | (a, some b) =>
    match whole a, whole b with
    | some n, some f => if b.length = 1 then some (n * 10 + f) else none
    | _, _ => none

/-- An object name of one kind: its prefix, a colon and a number. -/
def object (kind : String) (w : Word) : Option Nat :=
  match cut ':' w with
  | (k, some n) => if reads k kind then whole n else none
  | (_, none) => none

/-- The word `none`, or a value. -/
def orNone {α : Type} (f : Word → Option α) (w : Word) : Option (Option α) :=
  if reads w "none" then some none else (f w).map some

/-- One of two words. -/
def either (yes no : String) (w : Word) : Option Bool :=
  if reads w yes then some true else if reads w no then some false else none

def onOff : Word → Option Bool := either "on" "off"

/-- One or more items joined by commas. -/
def list {α : Type} (f : Word → Option α) (w : Word) : Option (List α) := (pieces ',' w).mapM f

/-- A list, or the word `none` for the empty one. -/
def listOrNone {α : Type} (f : Word → Option α) (w : Word) : Option (List α) :=
  if reads w "none" then some [] else list f w

/-- A row name (R21). -/
def rowName (w : Word) : Option RowName :=
  (object "in" w).map .inp <|> (object "role" w).map .role <|> (object "voice" w).map .voice

/-- A bus name (R21). -/
def busName (w : Word) : Option BusName :=
  (if reads w "relay" then some .relay else none) <|> (object "house" w).map .house <|> (object "fb" w).map .fb

/-- The link field of a cue (R86). -/
def link (w : Word) : Option LinkField :=
  if reads w "none" then some .none
  else
    match cut ':' w with
    | (k, some t) =>
      if reads k "start" then (time t).map .start
      else if reads k "end" then (time t).map .finish
      else none
    | (_, none) => none

/-- The source of a call request (R165). -/
def source (w : Word) : Option SourceName := (object "snd" w).map .sound <|> (object "page" w).map .page

/-- A target of a call request (R165). -/
def callTarget (w : Word) : Option CallTargetName :=
  (object "zone" w).map .zone <|> (object "group" w).map .group <|> (object "perf" w).map .perf
    <|> (object "role" w).map .role

/-- The member list of TALKBACK (R154). -/
def members (w : Word) : Option MembersField :=
  if reads w "none" then some .none
  else if reads w "all" then some .all
  else (list (object "fb") w).map .list

/-- The plain function words of LINESET (R183). -/
def functionWords : List (String × FunctionName) :=
  [("none", .none), ("go", .go), ("halt", .halt), ("resume", .resume), ("stopall", .stopAll), ("talk", .talk),
   ("cue_active", .cueActive), ("standby_ready", .standbyReady), ("halted", .halted), ("mic_alert", .micAlert),
   ("call_waiting", .callWaiting), ("voice_fault", .voiceFault), ("cue_line", .cueLine)]

/-- The function of a logic line (R183). -/
def function (w : Word) : Option FunctionName :=
  ((functionWords.find? (fun e => reads w e.1)).map (·.2)) <|> (object "preset" w).map .preset
    <|> (object "call_live" w).map .callLive

/-- The loop field of SOUND: two numbers joined by a comma (R123). -/
def loop (w : Word) : Option (Nat × Nat) :=
  match cut ',' w with
  | (a, some b) => do some ((← whole a), (← whole b))
  | (_, none) => none

/-! ## The arguments and fields of a line -/

/-- The words after the verb: positional arguments, and fields by name in lower case (R196). -/
structure Split where
  positional : List Word
  fields : List (Word × Word)

/-- The words after the verb: those with a `=` are fields, the others positional arguments, in whatever order the two kinds stand
(R86, R196; DESIGN CHOICE, log 38). -/
def split (ws : List Word) : Split where
  positional := ws.filter (fun w => !w.contains '=')
  fields := (ws.filter (fun w => w.contains '=')).map (fun w => (lower (cut '=' w).1, ((cut '=' w).2).getD []))

/-- Whether every field has one of these names, and none is repeated. -/
def Split.only (a : Split) (names : List String) : Option Unit :=
  if (a.fields.all fun f => names.any fun n => String.ofList f.1 == n) ∧ (a.fields.map (·.1)).Nodup
  then some () else none

/-- The value of an optional field; a malformed value makes the line malformed. -/
def Split.opt {α : Type} (a : Split) (name : String) (f : Word → Option α) : Option (Option α) :=
  match a.fields.find? (fun e => String.ofList e.1 == name) with
  | none => some none
  | some e => (f e.2).map some

/-- The value of a required field. -/
def Split.req {α : Type} (a : Split) (name : String) (f : Word → Option α) : Option α := do (← a.opt name f)

/-- What the words spell, or a malformed line. -/
def args {α : Type} : Option α → Args α
  | none => .malformed
  | some a => .given a

/-- A line with no argument and no field. -/
def noArgs (a : Split) : Args Unit :=
  if a.positional.isEmpty ∧ a.fields.isEmpty then .given () else .malformed

/-- A line with one positional argument and no field. -/
def oneArg {α : Type} (f : Word → Option α) (a : Split) : Args α := args do
  a.only []
  let [w] := a.positional | none
  f w

/-- A line with at most one positional argument and no field. -/
def maybeArg {α : Type} (f : Word → Option α) (a : Split) : Args (Option α) := args do
  a.only []
  match a.positional with
  | [] => some none
  | [w] => (f w).map some
  | _ => none

def levelArgs (a : Split) : Args LevelArgs := args do
  a.only ["t"]
  let [r, b, l] := a.positional | none
  return { row := ← rowName r, bus := ← busName b, level := ← level l, t := ← a.opt "t" time }

def levelQueryArgs (a : Split) : Args LevelQueryArgs := args do
  a.only []
  match a.positional with
  | [r] => return { row := ← rowName r, bus := none }
  | [r, b] => return { row := ← rowName r, bus := some (← busName b) }
  | _ => none

def inputArgs (a : Split) : Args InputArgs := args do
  a.only ["trim"]
  let [i] := a.positional | none
  return { input := ← object "in" i, trim := ← a.req "trim" level }

def roleArgs (a : Split) : Args RoleArgs := args do
  a.only ["name"]
  let [r] := a.positional | none
  return { role := ← object "role" r, name := ← a.req "name" some }

def perfArgs (a : Split) : Args PerfArgs := args do
  a.only ["name", "main", "spares", "trim", "zone", "revert", "mode"]
  let [p] := a.positional | none
  return { perf := ← object "perf" p, name := ← a.opt "name" some, main := ← a.opt "main" (orNone (object "in")),
           spares := ← a.opt "spares" (listOrNone (object "in")), trim := ← a.opt "trim" level,
           zone := ← a.opt "zone" (orNone (object "zone")), revertAuto := ← a.opt "revert" (either "auto" "hold"),
           modeAuto := ← a.opt "mode" (either "auto" "manual") }

def pageArgs (a : Split) : Args PageArgs := args do
  a.only ["in"]
  let [p] := a.positional | none
  return { page := ← object "page" p, input := ← a.req "in" (orNone (object "in")) }

def talkinArgs (a : Split) : Args (Option Nat) := args do
  a.only ["in"]
  let [] := a.positional | none
  a.req "in" (orNone (object "in"))

def castArgs (a : Split) : Args CastArgs := args do
  a.only ["perf"]
  let [r] := a.positional | none
  return { role := ← object "role" r, perf := ← a.req "perf" (orNone (object "perf")) }

def supvArgs (a : Split) : Args SupvArgs := args do
  a.only ["floor", "hyst", "over", "batt", "dropout", "restore", "stale", "ref", "margin"]
  let [] := a.positional | none
  return { floor := ← a.opt "floor" time, hyst := ← a.opt "hyst" time, overThreshold := ← a.opt "over" time,
           batt := ← a.opt "batt" time, dropout := ← a.opt "dropout" time, restore := ← a.opt "restore" time,
           stale := ← a.opt "stale" time, ref := ← a.opt "ref" (orNone (object "in")),
           margin := ← a.opt "margin" time }

def selectArgs (a : Split) : Args SelectArgs := args do
  a.only ["in"]
  let [p] := a.positional | none
  return { perf := ← object "perf" p, input := ← a.req "in" (object "in") }

def cueArgs (a : Split) : Args CueArgs := args do
  a.only ["label", "link"]
  let [n] := a.positional | none
  return { cue := ← cueNumber n, label := ← a.opt "label" some, link := ← a.opt "link" link }

/-- The action of an ACT line: the kind word and what follows it (R88). -/
def action (kind : Word) (rest : List Word) (a : Split) : Option ActionField :=
  if reads kind "level" then do
    a.only ["t"]
    let [r, b, l] := rest | none
    return .level (← rowName r) (← busName b) (← level l) (← a.opt "t" time)
  else if reads kind "play" then do
    a.only ["in"]
    let [v, n] := rest | none
    return .play (← object "voice" v) (← object "snd" n) (← a.opt "in" time)
  else if reads kind "stop" then do
    a.only ["t"]
    let [v] := rest | none
    return .stop (← object "voice" v) (← a.opt "t" time)
  else if reads kind "call" then do
    a.only []
    let [k] := rest | none
    return .call (← whole k)
  else if reads kind "line" then do
    a.only []
    let [n, v] := rest | none
    return .line (← object "line" n) (← onOff v)
  else none

def actArgs (a : Split) : Args ActArgs := args do
  let n :: kind :: rest := a.positional | none
  return { cue := ← cueNumber n, action := ← action kind rest a }

def actIndexArgs (a : Split) : Args ActIndexArgs := args do
  a.only []
  let [n, i] := a.positional | none
  return { cue := ← cueNumber n, index := ← whole i }

def engineArgs (a : Split) : Args Int := args do
  a.only ["stopall"]
  let [] := a.positional | none
  a.req "stopall" time

def soundArgs (a : Split) : Args SoundArgs := args do
  a.only ["block", "len", "loop", "replace"]
  let [n] := a.positional | none
  let replace ← a.opt "replace" (fun w => if reads w "yes" then some true else none)
  return { sound := ← object "snd" n, block := ← a.req "block" whole, len := ← a.req "len" whole,
           loop := ← a.opt "loop" loop, replace := replace.isSome }

def playArgs (a : Split) : Args PlayArgs := args do
  a.only ["in"]
  let [v, n] := a.positional | none
  return { voice := ← object "voice" v, sound := ← object "snd" n, fadeIn := ← a.opt "in" time }

def stopArgs (a : Split) : Args StopArgs := args do
  a.only []
  match a.positional with
  | [v] => return { voice := ← object "voice" v, t := none }
  | [v, t] => return { voice := ← object "voice" v, t := some (← time t) }
  | _ => none

/-- The arguments of STOP after the word ALL (R115). -/
def stopAllArgs (rest : List Word) (a : Split) : Args (Option Int) := args do
  a.only []
  match rest with
  | [] => some none
  | [t] => (time t).map some
  | _ => none

def fetchArgs (a : Split) : Args Int := args do
  a.only ["refill"]
  let [] := a.positional | none
  a.req "refill" time

def fbArgs (a : Split) : Args FbArgs := args do
  a.only ["lock", "guard", "ceiling"]
  let [k] := a.positional | none
  return { fb := ← object "fb" k, lock := ← a.opt "lock" onOff, guard := ← a.opt "guard" onOff,
           ceiling := ← a.opt "ceiling" level }

def talkbackArgs (a : Split) : Args TalkbackArgs := args do
  a.only ["level", "depth", "members"]
  let [] := a.positional | none
  return { level := ← a.opt "level" level, depth := ← a.opt "depth" decibels, members := ← a.opt "members" members }

def zoneArgs (a : Split) : Args ZoneArgs := args do
  a.only ["name", "relay", "level", "trim", "quiet", "groups"]
  let [z] := a.positional | none
  return { zone := ← object "zone" z, name := ← a.opt "name" some, relay := ← a.opt "relay" onOff,
           level := ← a.opt "level" level, trim := ← a.opt "trim" level,
           quiet := ← a.opt "quiet" (either "yes" "no"), groups := ← a.opt "groups" (listOrNone (object "group")) }

/-- The fields of a call request (R165). -/
def requestFields (a : Split) : Option CallArgs := do
  a.only ["src", "to", "pri", "duck", "level", "exp"]
  return { src := ← a.req "src" source, targets := ← a.req "to" (list callTarget), pri := ← a.opt "pri" whole,
           duck := ← a.opt "duck" decibels, level := ← a.opt "level" level, expiry := ← a.opt "exp" time }

def callArgs (a : Split) : Args CallArgs := args do
  let [] := a.positional | none
  requestFields a

def presetDefArgs (a : Split) : Args PresetDefArgs := args do
  match a.positional with
  | [k] => return { preset := ← whole k, request := some (← requestFields a) }
  | [k, w] =>
    a.only []
    if reads w "none" then return { preset := ← whole k, request := none } else none
  | _ => none

def linesetArgs (a : Split) : Args LinesetArgs := args do
  a.only ["fn", "pol"]
  let [n] := a.positional | none
  return { line := ← object "line" n, fn := ← a.opt "fn" function, polHigh := ← a.opt "pol" (either "high" "low") }

def lineArgs (a : Split) : Args LineArgs := args do
  a.only []
  let [n, v] := a.positional | none
  return { line := ← object "line" n, on := ← onOff v }

/-- The kind names of REPORT, in the order of the table of R199 (R200). -/
def kindWords : List (String × ReportKind) :=
  [("cue", .cue), ("voice", .voice), ("player", .player), ("mic", .mic), ("perf", .perf), ("call", .call),
   ("guard", .guard), ("clip", .clip), ("line", .line), ("fade", .fade), ("store", .store), ("link", .link),
   ("tlm", .tlm), ("clock", .clock)]

def reportArgs (a : Split) : Args ReportArgs := args do
  a.only ("all" :: kindWords.map (·.1))
  let [] := a.positional | none
  let kinds ← kindWords.mapM fun e => do return (← a.opt e.1 onOff).map fun v => (e.2, v)
  return { all := ← a.opt "all" onOff, kinds := kinds.filterMap id }

/-! ## Verbs and lines -/

/-- A verb and the command it names. -/
abbrev Verb := String × (Tag → Split → Instr)

/-- Verbs of the mix matrix, the fades and the cast table (R196). -/
def mixAndCast : List Verb :=
  [("level", fun t a => .level t (levelArgs a)), ("level?", fun t a => .levelQuery t (levelQueryArgs a)),
   ("input", fun t a => .input t (inputArgs a)), ("input?", fun t a => .inputQuery t (oneArg (object "in") a)),
   ("clip?", fun t a => .clipQuery t (oneArg busName a)), ("fade?", fun t a => .fadeQuery t (noArgs a)),
   ("role", fun t a => .role t (roleArgs a)), ("perf", fun t a => .perf t (perfArgs a)),
   ("perf?", fun t a => .perfQuery t (oneArg (object "perf") a)), ("page", fun t a => .page t (pageArgs a)),
   ("page?", fun t a => .pageQuery t (noArgs a)), ("talkin", fun t a => .talkin t (talkinArgs a)),
   ("talkin?", fun t a => .talkinQuery t (noArgs a)), ("cast", fun t a => .cast t (castArgs a)),
   ("cast?", fun t a => .castQuery t (maybeArg (object "role") a))]

/-- Verbs of radio microphone supervision, the cue list and the cue engine (R196); STOP ALL is `parseStop`. -/
def supervisionAndCues : List Verb :=
  [("supv", fun t a => .supv t (supvArgs a)), ("supv?", fun t a => .supvQuery t (noArgs a)),
   ("tlm?", fun t a => .tlmQuery t (noArgs a)), ("mic?", fun t a => .micQuery t (maybeArg (object "in") a)),
   ("select", fun t a => .select t (selectArgs a)), ("auto", fun t a => .auto t (oneArg (object "perf") a)),
   ("cue", fun t a => .cue t (cueArgs a)), ("cue?", fun t a => .cueQuery t (maybeArg cueNumber a)),
   ("act", fun t a => .act t (actArgs a)), ("act?", fun t a => .actQuery t (actIndexArgs a)),
   ("actdel", fun t a => .actDel t (actIndexArgs a)), ("cuedel", fun t a => .cueDel t (oneArg cueNumber a)),
   ("go", fun t a => .go t (maybeArg cueNumber a)), ("back", fun t a => .back t (noArgs a)),
   ("jump", fun t a => .jump t (oneArg cueNumber a)), ("halt", fun t a => .halt t (noArgs a)),
   ("resume", fun t a => .resume t (noArgs a)), ("engine", fun t a => .engine t (engineArgs a)),
   ("engine?", fun t a => .engineQuery t (noArgs a)), ("inst?", fun t a => .instQuery t (noArgs a))]

/-- Verbs of playback, foldback and the relay and calls (R196). -/
def soundAndCalls : List Verb :=
  [("sound", fun t a => .sound t (soundArgs a)), ("sound?", fun t a => .soundQuery t (oneArg (object "snd") a)),
   ("play", fun t a => .play t (playArgs a)), ("voice?", fun t a => .voiceQuery t (maybeArg (object "voice") a)),
   ("player?", fun t a => .playerQuery t (oneArg (object "player") a)), ("fetch", fun t a => .fetch t (fetchArgs a)),
   ("fetch?", fun t a => .fetchQuery t (noArgs a)), ("fb", fun t a => .fb t (fbArgs a)),
   ("fb?", fun t a => .fbQuery t (maybeArg (object "fb") a)), ("talkback", fun t a => .talkback t (talkbackArgs a)),
   ("talkback?", fun t a => .talkbackQuery t (noArgs a)), ("talk", fun t a => .talk t (oneArg onOff a)),
   ("zone", fun t a => .zone t (zoneArgs a)), ("zone?", fun t a => .zoneQuery t (oneArg (object "zone") a)),
   ("group?", fun t a => .groupQuery t (oneArg (object "group") a)), ("call", fun t a => .call t (callArgs a)),
   ("call?", fun t a => .callQuery t (maybeArg whole a)), ("callend", fun t a => .callEnd t (oneArg whole a)),
   ("callcancel", fun t a => .callCancel t (oneArg whole a))]

/-- Verbs of the call presets, the logic lines and the control link (R196). -/
def linesAndLink : List Verb :=
  [("presetdef", fun t a => .presetDef t (presetDefArgs a)),
   ("presetdef?", fun t a => .presetDefQuery t (oneArg whole a)), ("preset", fun t a => .preset t (oneArg whole a)),
   ("lineset", fun t a => .lineset t (linesetArgs a)), ("line", fun t a => .line t (lineArgs a)),
   ("line?", fun t a => .lineQuery t (maybeArg (object "line") a)), ("report", fun t a => .report t (reportArgs a)),
   ("report?", fun t a => .reportQuery t (noArgs a)), ("link?", fun t a => .linkQuery t (noArgs a)),
   ("status?", fun t a => .statusQuery t (noArgs a)), ("showreset", fun t a => .showReset t (noArgs a)),
   ("clock?", fun t a => .clockQuery t (noArgs a))]

/-- The verbs other than STOP, with the command each names (R196). -/
def verbs : List Verb := mixAndCast ++ (supervisionAndCues ++ (soundAndCalls ++ linesAndLink))

/-- STOP followed by the argument ALL is STOP ALL; with any other argument it is the voice STOP (R196). -/
def parseStop (t : Tag) (a : Split) : Instr :=
  match a.positional with
  | w :: rest => if reads w "all" then .stopAll t (stopAllArgs rest a) else .stop t (stopArgs a)
  | [] => .stop t (stopArgs a)

/-- The command a verb and its words spell (R196). -/
def parseVerb (t : Tag) (verb : Word) (rest : List Word) : Instr :=
  if reads verb "stop" then parseStop t (split rest)
  else
    match verbs.find? (fun e => reads verb e.1) with
    | some e => e.2 t (split rest)
    | none => .unknown t .verb

/-- A tag word: `@` and a decimal number from 1 to 9999 with no leading zero (R196). -/
def tagWord : Word → Option Nat
  | '@' :: d =>
    match whole d, d with
    | some n, c :: _ => if c ≠ '0' ∧ 1 ≤ n ∧ n ≤ 9999 then some n else none
    | _, _ => none
  | _ => none

/-- The tag at the start of a line, if a well-formed one stands there. -/
def leadingTag (line : List Char) : Tag := (words line).head?.bind tagWord

/-- The tag of a long line: read if it stood complete, a space after it, in the first 200 characters (R193). -/
def longTag (kept : List Char) : Tag :=
  let body := kept.dropWhile (· = ' ')
  if body.contains ' ' then leadingTag body else none

/-- Whether a character may stand in a command line (R193). -/
def allowed (c : Char) : Bool := 32 ≤ c.toNat ∧ c.toNat ≤ 126

/-- The command a received line spells, by the link-level checks of R196 in their order. -/
def parseLine (line : List Char) : Instr :=
  if Config.maxLineChars < line.length then .unknown (longTag (line.take Config.maxLineChars)) .long
  else if !line.all allowed then .unknown (leadingTag line) .form
  else
    match words line with
    | [] => .unknown none .form
    | w :: rest =>
      if w.head? = some '@' then
        match tagWord w, rest with
        | none, _ => .unknown none .form
        | some t, [] => .unknown (some t) .form
        | some t, verb :: more => parseVerb (some t) verb more
      else parseVerb none w rest

/-! ## Received characters -/

/-- The characters of a line before its LF, without a CR that stands immediately before it (R193). -/
def keptChars (chars : List RxChar) : List RxChar :=
  match chars.getLast? with
  | some c => if c.byte = 13 ∧ !c.framing then chars.dropLast else chars
  | none => chars

/-- The text of a line; a character with a framing error reads as one no command line may hold. -/
def lineChars (chars : List RxChar) : List Char :=
  chars.map fun c => if c.framing then Char.ofNat 0 else Char.ofNat c.byte.toNat

/-- Whether a line holds no character, or only spaces, as far as the part keeps them (R193). -/
def emptyLine (chars : List RxChar) : Bool :=
  chars.length ≤ Config.maxLineChars ∧ chars.all fun c => c.byte = 32 ∧ !c.framing

end Text

end Sys2Proof
end

