-- ==== Sys2Proof/Machine/State.lean ====
section
/-! DEFINITION. The state of the block as plain data, one record for each of the twelve blocks of 00_scope.md, the
state after full reset, and the reasons a step can stop.

Times of the frame clock that nothing ever freezes (telemetry timers, tag timers, call expiries) are held as the frame
number at which they run out, counted by `State.now`; times that HALT freezes (fades, the chain) are held as the
frames they have run. -/

namespace Sys2Proof.Machine

open Sys2Proof

/-! ## Levels in motion -/

/-- A duck ramp: the interpolation of R29 from `start` to `goal` over `ms`, `elapsed` frames run (R30). -/
structure Ramp where
  start : LevelCode
  goal : LevelCode
  ms : Nat
  elapsed : Nat
  deriving DecidableEq, Repr

/-- A fade record in use (R24). -/
structure Fade where
  target : Target
  start : LevelCode
  goal : LevelCode
  ms : Nat
  /-- Frames run, 0 to 48 × `ms`. -/
  elapsed : Nat
  owner : Option InstSlot
  stopAtOff : Bool
  deriving DecidableEq, Repr

/-- The fade engine: the records in use, at most 256, and the snap count (R24, R40). -/
structure FadeBlock where
  pool : List Fade := []
  snaps : Nat := 0
  deriving DecidableEq, Repr

/-! ## Mix matrix -/

/-- A clip record; `count`, `peak` and `quiet` are 0 while it is CLEAR (R19). -/
structure Clip where
  clipped : Bool := false
  count : Nat := 0
  peak : Nat := 0
  quiet : Nat := 0
  deriving DecidableEq, Repr

/-- Input trims, crosspoint levels by row and column position, and clip records (R10, R14, R19). A crosspoint's
fade reference is the fade record that has it as target. -/
structure MatrixBlock where
  trims : Vector LevelCode 64 := .replicate 64 0
  xpts : Vector (Vector LevelCode 25) 128 := .replicate 128 (.replicate 25 (-180))
  clips : Vector Clip 25 := .replicate 25 {}
  deriving DecidableEq, Repr

/-! ## Audio ports and frame clock -/

/-- The TDM output slots of the frame now leaving, outputs 1 to 48, and the two frames of outputs formed but not yet
sent (R20, R205). -/
structure PortBlock where
  slots : Vector Word32 48 := .replicate 48 0
  formed : Vector Sample 48 := .replicate 48 0
  formedBefore : Vector Sample 48 := .replicate 48 0
  deriving DecidableEq, Repr

/-- The state of the clock monitor (R206). -/
inductive Monitor where
  | absent | qualifying | locked
  deriving DecidableEq, Repr

/-- The frame clock: its source is WCLK exactly while `wclk` holds (R206). `begun` is the model's own: the frames that edges of WCLK
have begun and that FRAME has not yet computed (log 9). -/
structure ClockBlock where
  wclk : Bool := false
  monitor : Monitor := .absent
  count : Nat := 0
  losses : Nat := 0
  begun : Nat := 0
  deriving DecidableEq, Repr

/-! ## Cast table -/

/-- A crossfade on a role row: the old source, silence or an input with the trim captured, and the frames run (R55). -/
structure Crossfade where
  old : Option (InputId × LevelCode)
  k : Nat
  deriving DecidableEq, Repr

/-- A role record (R42). -/
structure Role where
  name : Name := []
  holder : Option PerfId := none
  xfade : Option Crossfade := none
  deriving DecidableEq, Repr

/-- A performer's state (R43). -/
inductive PerfState where
  | main | spare | alarm | manual
  deriving DecidableEq, Repr

/-- A performer record (R43). -/
structure Perf where
  name : Name := []
  main : Option InputId := none
  spares : List InputId := []
  trim : LevelCode := 0
  zone : Option ZoneId := none
  revertAuto : Bool := true
  modeAuto : Bool := true
  active : Option InputId := none
  state : PerfState := .main
  compromised : Bool := false
  role : Option RoleId := none
  deriving DecidableEq, Repr

/-- The place an input holds in its performer's record (R45). -/
inductive Place where
  | main | spare1 | spare2
  deriving DecidableEq, Repr

/-- The cast table: roles, performers, the claim map, and the paging and talkback assignments (R42 to R51). -/
structure CastBlock where
  roles : Vector Role 40 := .replicate 40 {}
  perfs : Vector Perf 48 := .replicate 48 {}
  claims : Vector (Option (PerfId × Place)) 64 := .replicate 64 none
  pages : Vector (Option InputId) 2 := .replicate 2 none
  talkin : Option InputId := none
  deriving DecidableEq, Repr

/-! ## Mic supervisor -/

/-- The supervision settings (R64). -/
structure Supervision where
  floor : Nat := 20
  hyst : Nat := 6
  overThreshold : Nat := 90
  batt : Nat := 15
  dropout : Nat := 150
  restore : Nat := 2000
  stale : Nat := 1000
  ref : Option InputId := none
  margin : Nat := 10
  deriving DecidableEq, Repr

/-- The framing state of the telemetry receiver; COLLECT holds the bytes gathered, the sync first (R62). -/
inductive Framing where
  | hunt
  | waitSync
  | collect (bytes : List Byte)
  deriving DecidableEq, Repr

/-- The cause of a telemetry discard (R63). -/
inductive Discard where
  | checksum | channel | sync | incomplete
  deriving DecidableEq, Repr

/-- The telemetry receiver: framing state, the frame at which the last byte of the record came, and its counts (R62, R63). -/
structure Telemetry where
  framing : Framing := .hunt
  lastByte : Nat := 0
  good : Nat := 0
  checksum : Nat := 0
  channel : Nat := 0
  sync : Nat := 0
  incomplete : Nat := 0
  skipped : Nat := 0
  deriving DecidableEq, Repr

/-- A valid record as the supervisor uses it: RF level, battery (none: unknown), pilot and mute (R61). -/
structure TlmRecord where
  channel : InputId
  rf : Nat
  batt : Option Nat
  pilot : Bool
  mute : Bool
  deriving DecidableEq, Repr

/-- A health state, and the cause of a DOWN (R66). -/
inductive Health where
  | noData | good | fading | down | recovering
  deriving DecidableEq, Repr

inductive DownCause where
  | rf | pilot | stale
  deriving DecidableEq, Repr

/-- A health record (R66). A running timer is the frame number at which it expires. `last` is the last valid record and
`lastAt` the frame it was taken; the age is the time since then. -/
structure HealthRec where
  state : Health := .noData
  cause : Option DownCause := none
  last : Option TlmRecord := none
  lastAt : Nat := 0
  overFlag : Bool := false
  lowBatt : Bool := false
  dropoutAt : Option Nat := none
  restoreAt : Option Nat := none
  staleAt : Option Nat := none
  fadeStart : Option Nat := none
  lastFade : Option Nat := none
  deriving DecidableEq, Repr

/-- The mic supervisor: settings, the reference record and its stale timer (R65), the telemetry receiver, the valid
records handed over and not yet taken, and one health record for each claimed input (R66). -/
structure MicBlock where
  sup : Supervision := {}
  refRf : Option Nat := none
  refStaleAt : Option Nat := none
  tlm : Telemetry := {}
  handed : List TlmRecord := []
  health : Vector (Option HealthRec) 64 := .replicate 64 none
  deriving DecidableEq, Repr

/-! ## Cue store -/

/-- A cue's link (R85). -/
inductive Link where
  | none
  | start (ms : Nat)
  | finish (ms : Nat)
  deriving DecidableEq, Repr

/-- An action as held (R88). -/
inductive Action where
  | level (row : Row) (bus : Bus) (code : LevelCode) (ms : Nat)
  | play (voice : VoiceId) (sound : SoundId) (fadeIn : Nat)
  | stop (voice : VoiceId) (ms : Nat)
  | call (preset : PresetId)
  | line (line : LineId) (on : Bool)
  deriving DecidableEq, Repr

/-- A cue record, its number in tenths (R83, R85). -/
structure Cue where
  number : Nat
  label : Name := []
  link : Link := .none
  actions : List Action := []
  deriving DecidableEq, Repr

/-! ## Cue engine -/

/-- An instance record (R100). -/
structure Inst where
  slot : InstSlot
  cue : Nat
  stamp : Nat
  count : Nat
  chainTarget : Option Nat
  /-- The milliseconds of the fired cue's END link, if it had one. -/
  endLink : Option Nat
  deriving DecidableEq, Repr

/-- A pending chain: target, milliseconds, frames counted, origin, setting cue (R99, R112). -/
structure Chain where
  target : Nat
  ms : Nat
  elapsed : Nat
  /-- Origin START is `true`, END is `false`. -/
  fromStart : Bool
  setBy : Nat
  deriving DecidableEq, Repr

/-- An event of the CUE report: its name, the cue and the slot it names, and its extra fields (R119). -/
structure CueEvent where
  name : String
  cue : Option Nat := none
  slot : Option InstSlot := none
  extra : String := ""
  deriving DecidableEq, Repr

/-- A CUE report as it was formed when its event was raised: what stands before the value of `ready=`, that value, and what
stands after it (R118, R119). -/
structure CueReport where
  head : String
  ready : Bool
  tail : String
  deriving DecidableEq, Repr

/-- The cue engine (R99). The instances stand oldest first. The fields from `readyShown` on are the model's own:
STANDBY_READY as last reported, the show reset's priming evaluation still to be taken (R121), and, inside one
operation only, whether an evaluation is called for, the instance now firing, and the CUE report raised last. -/
structure EngineBlock where
  halted : Bool := false
  standby : Option Nat := none
  lastFired : Option Nat := none
  insts : List Inst := []
  chain : Option Chain := none
  stopAllMs : Nat := 3000
  fired : Nat := 0
  nextStamp : Nat := 0
  readyShown : Bool := false
  primeDue : Bool := false
  evalDue : Bool := false
  firing : Option InstSlot := none
  opEvent : Option CueReport := none
  deriving DecidableEq, Repr

/-! ## Sample fetch unit -/

/-- A sound record; a loop is its start and its end (R122). -/
structure Sound where
  first : Nat
  len : Nat
  loop : Option (Nat × Nat)
  deriving DecidableEq, Repr

/-- A slot of a reader's ring, with the block of the sound it was requested for (R126). -/
inductive Slot where
  | empty
  | pending (tag : TagId) (block : Nat)
  | full (block : Nat) (samples : Vector Sample 256)
  deriving DecidableEq, Repr

/-- The state of a reader (R128). -/
inductive ReaderState where
  | idle | priming | primed | starting | playing | stalled | faulted
  deriving DecidableEq, Repr

/-- A reader: voices 1 to 24 are readers 1 to 24, call players 1 and 2 are readers 25 and 26 (R126). `cursor` is the
block of the sound the next new request asks for. The retry mark keeps the block its slot was requested for.
`late` and `stall` are the delay of the latest entry to PLAYING and the latest stall, in milliseconds (R144), and
`stalledFor` the frames of a stall in progress (R129). -/
structure Reader where
  state : ReaderState := .idle
  sound : Option (SoundId × Sound) := none
  ring : Vector Slot 8 := .replicate 8 .empty
  head : RingSlot := 0
  tail : RingSlot := 0
  pos : Nat := 0
  cursor : Nat := 0
  retry : Option (RingSlot × Nat) := none
  playMoment : Nat := 0
  level : LevelCode := -180
  owner : Option InstSlot := none
  keptFadeIn : Option Nat := none
  primeStamp : Nat := 0
  stalledFor : Nat := 0
  late : Option Nat := none
  stall : Option Nat := none
  underruns : Nat := 0
  retries : Nat := 0
  deriving DecidableEq, Repr

/-- A store-bus tag (R125); a BUSY tag has the block address requested and the frame at which its timer expires. -/
inductive StoreTag where
  | free
  | busy (reader : ReaderId) (slot : RingSlot) (address : Nat) (expires : Nat)
  | orphaned (address : Nat) (expires : Nat)
  | lost
  deriving DecidableEq, Repr

/-- The sample fetch unit: sound table, readers, tags, refill watermark, store counts (R122 to R146), the next
priming stamp, and whether the store-bus reset is driven (R124, R203). -/
structure FetchBlock where
  sounds : Vector (Option Sound) 1024 := .replicate 1024 none
  readers : Vector Reader 26 := .replicate 26 {}
  tags : Vector StoreTag 8 := .replicate 8 .free
  refill : Nat := 4
  timeouts : Nat := 0
  errors : Nat := 0
  stray : Nat := 0
  nextPrimeStamp : Nat := 0
  busReset : Bool := false
  deriving DecidableEq, Repr

/-! ## Foldback -/

/-- The guard state of a foldback bus (R150). -/
inductive Guard where
  | off | armed | metering
  deriving DecidableEq, Repr

/-- A foldback bus record (R147). `lastP` is absent until a window completes; `episode` is the deepest reduction and
the count of reduced windows. -/
structure FbBus where
  lock : Bool := false
  guard : Guard := .off
  ceiling : LevelCode := -12
  red : LevelCode := 0
  peak : Nat := 0
  lastP : Option LevelCode := none
  episode : Option (LevelCode × Nat) := none
  member : Bool := false
  duck : LevelCode := 0
  ramp : Option Ramp := none
  skips : Nat := 0
  deriving DecidableEq, Repr

/-- The foldback section: bus records, talkback settings, the held TALK lines, and the frames of the guard window now
running (R147, R150, R154, R155). The talkback depth is in half-decibels. -/
structure FoldbackBlock where
  buses : Vector FbBus 16 := .replicate 16 {}
  talkLevel : LevelCode := -180
  talkDepth : Nat := 0
  talkCommand : Bool := false
  heldLines : Vector Bool 16 := .replicate 16 false
  window : Nat := 0
  deriving DecidableEq, Repr

/-! ## Relay and call router -/

/-- A zone record (R160); the groups are held as one flag for each. -/
structure Zone where
  name : Name := []
  relay : Bool := true
  level : LevelCode := 0
  trim : LevelCode := 0
  quiet : Bool := false
  groups : Vector Bool 8 := .replicate 8 false
  holding : Option Nat := none
  duck : LevelCode := 0
  ramp : Option Ramp := none
  deriving DecidableEq, Repr

/-- The source and the targets of a call request (R165). -/
inductive Source where
  | sound (n : SoundId)
  | page (n : PageId)
  deriving DecidableEq, Repr

inductive CallTarget where
  | zone (n : ZoneId)
  | group (n : GroupId)
  | perf (n : PerfId)
  | role (n : RoleId)
  deriving DecidableEq, Repr

/-- A call request (R165); the depth is in half-decibels, the expiry in milliseconds. -/
structure CallRequest where
  src : Source
  targets : List CallTarget
  pri : Nat
  duck : Nat
  level : LevelCode
  expiry : Nat
  deriving DecidableEq, Repr

/-- A LIVE call's grant stamp and held player (R167). -/
structure Grant where
  stamp : Nat
  player : Option PlayerId
  deriving DecidableEq, Repr

/-- An entry of the call table (R167). It is LIVE exactly while `grant` is present; `admittedAt` is the frame of its
admission, from which its expiry counts (R177). -/
structure Call where
  id : Nat
  req : CallRequest
  zones : List ZoneId
  stamp : Nat
  admittedAt : Nat
  grant : Option Grant
  line : Option LineId
  deriving DecidableEq, Repr

/-- The relay and call router: zones, the call table in its order, presets, the next-id counter and the stamps
(R160 to R182). -/
structure RouterBlock where
  zones : Vector Zone 24 := .replicate 24 {}
  calls : List Call := []
  presets : Vector (Option CallRequest) 16 := .replicate 16 none
  nextId : Nat := 1
  admitStamp : Nat := 0
  grantStamp : Nat := 0
  deriving DecidableEq, Repr

/-! ## Logic lines -/

/-- The function of a logic line (R183). -/
inductive LineFn where
  | none | go | halt | resume | stopAll
  | preset (k : PresetId)
  | talk | cueActive | standbyReady | halted | micAlert
  | callLive (z : ZoneId)
  | callWaiting | voiceFault | cueLine
  deriving DecidableEq, Repr

/-- A line record (R183). The debounced state is absent for an output function. `drive` is the level driven on the pin
in the current frame, absent while the pin is not driven (R188). -/
structure LineRec where
  fn : LineFn := .none
  activeHigh : Bool := true
  debounced : Option Bool := some false
  count : Nat := 0
  cueLine : Bool := false
  refused : Nat := 0
  drive : Option Bool := none
  deriving DecidableEq, Repr

/-- The logic lines, and the levels last read on their pins. -/
structure LineBlock where
  recs : Vector LineRec 16 := .replicate 16 {}
  pins : Vector Bool 16 := .replicate 16 false
  deriving DecidableEq, Repr

/-! ## Control link -/

/-- The key of a pending report: its kind and its object (R199). -/
inductive ReportKey where
  | cue
  | voice (v : VoiceId)
  | player (p : PlayerId)
  | mic (i : InputId)
  | perf (p : PerfId)
  | call (id : Nat)
  | guard (k : FbId)
  | clip (c : Bus)
  | line (n : LineId)
  | fade | store | link | tlm | clock
  deriving DecidableEq, Repr

/-- The kind of a report key (R199). -/
def ReportKey.kind : ReportKey → ReportKind
  | .cue => .cue
  | .voice _ => .voice
  | .player _ => .player
  | .mic _ => .mic
  | .perf _ => .perf
  | .call _ => .call
  | .guard _ => .guard
  | .clip _ => .clip
  | .line _ => .line
  | .fade => .fade
  | .store => .store
  | .link => .link
  | .tlm => .tlm
  | .clock => .clock

/-- A pending report: its key and its line as last formed, without the LF, which the transmitter sends after it (R199). -/
structure Report where
  key : ReportKey
  text : String
  deriving DecidableEq, Repr

/-- The control link: baud rate, the received lines waiting, each as the command it spells, the replies waiting, each without
its LF, the line being sent, with the LF that ends it (R197, R199), the PAUSE input, the report set in order of first raising, the kinds disabled in the report-enable mask,
and the counts (R192 to R201). -/
structure LinkBlock where
  baud : Nat := 115200
  rxq : List Instr := []
  replies : List String := []
  sending : Option String := none
  paused : Bool := false
  reports : List Report := []
  disabled : List ReportKind := []
  overflow : Nat := 0
  framing : Nat := 0
  long : Nat := 0
  deriving DecidableEq, Repr

/-! ## The whole machine -/

/-- The state of the NL-640. `inReset` holds while a full reset is in force (R203). `now` numbers the frames of the
frame clock from the end of the full reset and is the model's own, as is the queue `pending` of the commands and
events that are waiting, first in, first out. -/
structure State where
  link : LinkBlock := {}
  ports : PortBlock := {}
  clock : ClockBlock := {}
  matrix : MatrixBlock := {}
  fades : FadeBlock := {}
  cast : CastBlock := {}
  mic : MicBlock := {}
  cues : List Cue := []
  engine : EngineBlock := {}
  fetch : FetchBlock := {}
  foldback : FoldbackBlock := {}
  router : RouterBlock := {}
  lines : LineBlock := {}
  inReset : Bool := false
  now : Nat := 0
  pending : List Instr := []
  deriving DecidableEq, Repr

/-- The machine right after a full reset has ended, with both baud straps low and no command waiting (R41, R60, R82, R98,
R121, R146, R159, R182, R191, R203, R206). -/
def State.reset : State := {}

/-- The reasons a step can stop with a fault. The manual gives every command and every event an effect in every state, so
there is none. -/
inductive Fault where
  deriving DecidableEq, Repr

/-- The reasons a step can be refused. -/
inductive Refusal where
  /-- Raised by `exec` alone, for a row that has no meaning yet: the model leaves a gap there (safe). -/
  | notModelled (mnemonic : String)
  deriving DecidableEq, Repr

/-- What a command or an event answers. -/
abbrev Outcome := Host.Outcome State Fault Refusal

end Sys2Proof.Machine
end

