-- ==== Sys2Proof/Machine/Levels.lean ====
section
/-! DEFINITION. The arithmetic of the audio path (01_levels_and_the_mix_matrix.md, 02_fades.md, 08_foldback.md): the gain
and threshold tables, the scaling step, saturation, level addition, interpolation, ramps, and the 24-bit sample within
a 32-bit word. -/

namespace Sys2Proof.Machine

open Sys2Proof

/-- The level code OFF, which the arithmetic treats as -180 (R1). -/
def offCode : LevelCode := -180

/-- The gains g(c) for c = -179 to +20: 16384 × 10^(c/40), rounded half up (R7). -/
def gainTable : List Nat :=
  [1, 1, 1, 1, 1, 1, 1, 1, 1, 1, 1, 1, 1, 1, 1, 1, 1, 1, 2, 2] ++
  [2, 2, 2, 2, 2, 2, 2, 3, 3, 3, 3, 3, 3, 4, 4, 4, 4, 5, 5, 5] ++
  [5, 6, 6, 7, 7, 7, 8, 8, 9, 9, 10, 10, 11, 12, 12, 13, 14, 15, 15, 16] ++
  [17, 18, 19, 21, 22, 23, 25, 26, 28, 29, 31, 33, 35, 37, 39, 41, 44, 46, 49, 52] ++
  [55, 58, 62, 65, 69, 73, 78, 82, 87, 92, 98, 103, 110, 116, 123, 130, 138, 146, 155, 164] ++
  [174, 184, 195, 206, 218, 231, 245, 260, 275, 291, 309, 327, 346, 367, 389, 412, 436, 462, 489, 518] ++
  [549, 581, 616, 652, 691, 732, 775, 821, 870, 921, 976, 1034, 1095, 1160, 1229, 1301, 1379, 1460, 1547, 1638] ++
  [1735, 1838, 1947, 2063, 2185, 2314, 2451, 2597, 2751, 2914, 3086, 3269, 3463, 3668, 3885, 4115, 4359, 4618, 4891, 5181] ++
  [5488, 5813, 6158, 6523, 6909, 7318, 7752, 8211, 8698, 9213, 9759, 10338, 10950, 11599, 12286, 13014, 13785, 14602, 15467, 16384] ++
  [17355, 18383, 19472, 20626, 21848, 23143, 24514, 25967, 27506, 29135, 30862, 32690, 34627, 36679, 38853, 41155, 43593, 46176, 48913, 51811]

/-- The gain g(c) of a level code; the gain of OFF is 0 (R7). -/
def gain (c : LevelCode) : Int :=
  if c ≤ offCode then 0 else Int.ofNat (gainTable.getD (c + 179).toNat 51811)

/-- The thresholds T(c) for c = -179 to +40: 8,388,607 × 10^(c/40), rounded up (R151). -/
def thresholdTable : List Nat :=
  [281, 298, 316, 334, 354, 375, 397, 421, 446, 472, 500, 530, 561, 594, 630, 667, 706, 748, 792, 839] ++
  [889, 942, 997, 1057, 1119, 1185, 1256, 1330, 1409, 1492, 1581, 1674, 1773, 1878, 1990, 2108, 2232, 2365, 2505, 2653] ++
  [2810, 2977, 3153, 3340, 3538, 3748, 3970, 4205, 4454, 4718, 4997, 5293, 5607, 5939, 6291, 6664, 7059, 7477, 7920, 8389] ++
  [8886, 9413, 9970, 10561, 11187, 11850, 12552, 13296, 14083, 14918, 15802, 16738, 17730, 18780, 19893, 21072, 22320, 23643, 25044, 26528] ++
  [28099, 29764, 31528, 33396, 35375, 37471, 39691, 42043, 44534, 47173, 49968, 52929, 56065, 59387, 62906, 66634, 70582, 74764, 79194, 83887] ++
  [88857, 94122, 99699, 105607, 111864, 118493, 125514, 132951, 140829, 149173, 158012, 167375, 177293, 187798, 198926, 210713, 223198, 236424, 250433, 265272] ++
  [280990, 297640, 315276, 333957, 353745, 374706, 396908, 420427, 445339, 471727, 499678, 529286, 560648, 593868, 629057, 666331, 705814, 747636, 791936, 838861] ++
  [888567, 941218, 996988, 1056064, 1118639, 1184923, 1255134, 1329505, 1408283, 1491729, 1580120, 1673748, 1772923, 1877976, 1989253, 2107123, 2231978, 2364231, 2504321, 2652711] ++
  [2809894, 2976391, 3152753, 3339565, 3537447, 3747054, 3969080, 4204263, 4453381, 4717261, 4996776, 5292854, 5606475, 5938679, 6290568, 6663308, 7058134, 7476354, 7919356, 8388607] ++
  [8885664, 9412172, 9969879, 10560631, 11186388, 11849223, 12551333, 13295047, 14082828, 14917288, 15801192, 16737472, 17729229, 18779752, 19892523, 21071229, 22319777, 23642307, 25043202, 26527105] ++
  [28098935, 29763901, 31527523, 33395646, 35374463, 37470532, 39690800, 42042628, 44533810, 47172604, 49967757, 52928532, 56064745, 59386790, 62905679, 66633074, 70581332, 74763539, 79193557, 83886070]

/-- The peak in half-decibels relative to full scale: the largest code whose threshold is at or below the peak. The
thresholds rise with the code, so that code is found by counting them; with none of them reached it is OFF (R151). -/
def peakCode (peak : Nat) : LevelCode :=
  offCode + (thresholdTable.countP (· ≤ peak) : Nat)

/-- The scaling step: v × g / 16384, rounded to the nearest integer, ties toward plus infinity (R8). -/
def scale (v : Sample) (g : Int) : Sample := (v * g + 8192) / 16384

/-- Saturation to 24 bits (R8). -/
def saturate (v : Sample) : Sample := max (-8388608) (min 8388607 v)

/-- Whether a value lies within the 24-bit range (R19). -/
def inRange24 (v : Sample) : Bool := -8388608 ≤ v ∧ v ≤ 8388607

/-- Level addition (R5). -/
def levelAdd (a b : LevelCode) : LevelCode :=
  if a = offCode ∨ b = offCode then offCode
  else if 20 < a + b then 20
  else if a + b < -179 then offCode
  else a + b

/-- The level of a movement from `s` to `e` over `d` milliseconds after `t` of them (R29). -/
def interpolate (s e : LevelCode) (t d : Nat) : LevelCode := s + ((e - s) * t).tdiv d

/-- A ramp from an offset as it stands toward its end: none where the two are equal (R156, R164). -/
def beginRamp (offset goal : LevelCode) (ms : Nat) : Option Ramp :=
  if goal = offset then none else some { start := offset, goal := goal, ms := ms, elapsed := 0 }

/-- One frame of a duck ramp: the offset, and the ramp while it still runs (R30). -/
def Ramp.advance (r : Ramp) : LevelCode × Option Ramp :=
  let e := r.elapsed + 1
  if Config.framesPerMs * r.ms ≤ e then (r.goal, none)
  else (interpolate r.start r.goal (e / Config.framesPerMs) r.ms, some { r with elapsed := e })

/-- One frame of an offset with or without a ramp (R30). -/
def rampFrame (offset : LevelCode) (ramp : Option Ramp) : LevelCode × Option Ramp :=
  match ramp with
  | none => (offset, none)
  | some r => r.advance

/-- The sample in the upper 24 bits of a word, two's complement; the lower 8 bits are ignored (R124, R205). -/
def sampleOf (w : Word32) : Sample := w.toInt / 256

/-- The slot word that carries a sample, its lower 8 bits 0 (R205). -/
def slotOf (v : Sample) : Word32 := BitVec.ofInt 32 (v * 256)

/-- A count that stays at 65535 once there. -/
def bump (n : Nat) : Nat := min (n + 1) Config.countTop

/-- The element of a table changed at one place. -/
def update {n : Nat} {α : Type} (v : Vector α n) (i : Fin n) (f : α → α) : Vector α n :=
  v.set i.val (f (v.get i)) i.isLt

/-- The element of a table replaced at one place. -/
def put {n : Nat} {α : Type} (v : Vector α n) (i : Fin n) (a : α) : Vector α n := v.set i.val a i.isLt

/-- The objects 1 to `n` of a table that satisfy a test, in ascending order. -/
def pick {n : Nat} (p : Fin n → Bool) : List (Fin n) := (List.finRange n).filter p

end Sys2Proof.Machine
end

