-- ==== Sys2Proof/Machine/Operands.lean ====
section
/-! DEFINITION. Every operand form: how level, depth and time fields are rounded and brought into range, how names and
indices are checked against the range of their kind, and the error codes (R2, R3, R4, R88, R165, R183, R197). -/

namespace Sys2Proof.Machine

open Sys2Proof

/-- The error codes of a reply (R197). -/
inductive ErrCode where
  | syntaxErr | unknown | range | noSuch | exists_ | full | claimed | inRole | held | halted | atEnd | duplicate
  | queueFull | noZones | align | long
  deriving DecidableEq, Repr

def ErrCode.text : ErrCode → String
  | .syntaxErr => "SYNTAX"
  | .unknown => "UNKNOWN"
  | .range => "RANGE"
  | .noSuch => "NOSUCH"
  | .exists_ => "EXISTS"
  | .full => "FULL"
  | .claimed => "CLAIMED"
  | .inRole => "INROLE"
  | .held => "HELD"
  | .halted => "HALTED"
  | .atEnd => "END"
  | .duplicate => "DUPLICATE"
  | .queueFull => "QUEUEFULL"
  | .noZones => "NOZONES"
  | .align => "ALIGN"
  | .long => "LONG"

/-- A value brought into a range. -/
def clampInt (lo hi x : Int) : Int := max lo (min hi x)

/-- Thousandths of a dB rounded to half-decibels: the nearer step, halfway to the lower one (R2). -/
def halfDecibels (x : Int) : Int := -((250 - x) / 500)

/-- A level field whose range allows OFF, as held (R3). -/
def heldOrOff (hi : LevelCode) : LevelField → LevelCode
  | .off => offCode
  | .num x => if halfDecibels x ≤ offCode then offCode else min hi (halfDecibels x)

/-- A level field with a higher minimum, as held (R3). -/
def heldFrom (lo hi : LevelCode) : LevelField → LevelCode
  | .off => lo
  | .num x => clampInt lo hi (halfDecibels x)

/-- A depth field as held, in half-decibels (R3). -/
def heldDepth (hi : Nat) (x : Int) : Nat := (clampInt 0 hi (halfDecibels x)).toNat

/-- The level and depth fields of the table of R3. -/
def crosspointLevel : LevelField → LevelCode := heldOrOff 20
def trimLevel : LevelField → LevelCode := heldFrom (-80) 20
def ceilingLevel : LevelField → LevelCode := heldFrom (-80) 0
def talkbackLevel : LevelField → LevelCode := heldOrOff 20
def talkbackDepth : Int → Nat := heldDepth 80
def relayLevel : LevelField → LevelCode := heldOrOff 20
def callTrim : LevelField → LevelCode := heldFrom (-40) 20
def callLevel : LevelField → LevelCode := heldOrOff 20
def callDepth : Int → Nat := heldDepth 120

/-- A time field, or a whole number written as one, brought into its range (R4, R64). -/
def heldNumber (lo hi : Nat) (x : Int) : Nat := (clampInt lo hi x).toNat

/-- A time field of 0 to 600000 ms; absent it is 0 (R21, R88, R135). -/
def heldTime : Option Int → Nat
  | none => 0
  | some t => heldNumber 0 Config.maxTimeMs t

/-- The row, or a number outside its kind's range. -/
def rowOf : RowName → Option Row
  | .inp n => (ofNum 64 n).map .inp
  | .role n => (ofNum 40 n).map .role
  | .voice n => (ofNum 24 n).map .voice

def busOf : BusName → Option Bus
  | .house n => (ofNum 8 n).map .house
  | .fb n => (ofNum 16 n).map .fb
  | .relay => some .relay

/-- A cue number lies within 0.1 to 9999.9 (R83). -/
def cueInRange (n : Nat) : Bool := 1 ≤ n ∧ n ≤ 99999

/-- A character a name or a label may hold (R42, R85). -/
def nameChar (c : Char) : Bool := c.isAlphanum || c = '-' || c = '_' || c = '.'

/-- A name whose characters are all allowed (R42, R85, R161). -/
def nameAllowed (n : Name) : Bool := n.all nameChar

/-- An optional number against its kind's range: out of range, absent, or an object. -/
def optNum (n : Nat) : Option Nat → Option (Option (Fin n))
  | none => some none
  | some k => (ofNum n k).map some

/-- The numbers of a list against their kind's range. -/
def nums (n : Nat) (l : List Nat) : Option (List (Fin n)) := l.mapM (ofNum n)

/-- An action as held, or a number outside its kind's range (R88, R92). -/
def actionOf : ActionField → Option Action
  | .level row bus l t => do return .level (← rowOf row) (← busOf bus) (crosspointLevel l) (heldTime t)
  | .play v n t => do return .play (← ofNum 24 v) (← ofNum 1024 n) (heldTime t)
  | .stop v t => do return .stop (← ofNum 24 v) (heldTime t)
  | .call k => do return .call (← ofNum 16 k)
  | .line n on => do return .line (← ofNum 16 n) on

/-- A cue's link as held (R86). -/
def linkOf : Option LinkField → Link
  | none => .none
  | some .none => .none
  | some (.start t) => .start (heldNumber 0 Config.maxTimeMs t)
  | some (.finish t) => .finish (heldNumber 0 Config.maxTimeMs t)

def callTargetOf : CallTargetName → Option CallTarget
  | .zone n => (ofNum 24 n).map .zone
  | .group n => (ofNum 8 n).map .group
  | .perf n => (ofNum 48 n).map .perf
  | .role n => (ofNum 40 n).map .role

def sourceOf : SourceName → Option Source
  | .sound n => (ofNum 1024 n).map .sound
  | .page n => (ofNum 2 n).map .page

/-- The request a line spells as held: a SYNTAX or RANGE refusal, or the request (R165, checks 1 and 2). -/
def requestOf (a : CallArgs) : Except ErrCode CallRequest :=
  match a.src, a.expiry with
  | .page _, some _ => .error .syntaxErr
  | src, expiry =>
    match sourceOf src, a.targets.mapM callTargetOf with
    | some src, some targets =>
      let pri := a.pri.getD 2
      if 1 ≤ pri ∧ pri ≤ 4 then
        .ok { src := src, targets := targets, pri := pri, duck := callDepth (a.duck.getD 0),
              level := (a.level.map callLevel).getD 0, expiry := heldTime expiry }
      else .error .range
    | _, _ => .error .range

/-- The function of a logic line, or a number outside its range (R183). -/
def lineFnOf : FunctionName → Option LineFn
  | .none => some .none
  | .go => some .go
  | .halt => some .halt
  | .resume => some .resume
  | .stopAll => some .stopAll
  | .preset k => (ofNum 16 k).map .preset
  | .talk => some .talk
  | .cueActive => some .cueActive
  | .standbyReady => some .standbyReady
  | .halted => some .halted
  | .micAlert => some .micAlert
  | .callLive z => (ofNum 24 z).map .callLive
  | .callWaiting => some .callWaiting
  | .voiceFault => some .voiceFault
  | .cueLine => some .cueLine

end Sys2Proof.Machine
end

