-- ==== Sys2Proof/Machine/Text.lean ====
section
/-! DEFINITION. How the part writes levels, times, cue numbers and object names in replies and reports (R6, R83, and the
object names of 00_scope.md). -/

namespace Sys2Proof.Machine

open Sys2Proof

/-- A whole number in decimal. -/
def natText (n : Nat) : String := toString n

/-- A half-decibel count with one fraction digit, unsigned: a depth (R6). -/
def depthText (d : Nat) : String := natText (d / 2) ++ (if d % 2 = 1 then ".5" else ".0")

/-- A level: `off`, or a signed decimal with one fraction digit, no sign for zero (R6). -/
def levelText (c : LevelCode) : String :=
  if c ≤ offCode then "off"
  else if 0 < c then "+" ++ depthText c.toNat
  else if c < 0 then "-" ++ depthText (-c).toNat
  else "0.0"

/-- A cue number: its whole part, a point and one digit (R83). -/
def cueText (n : Nat) : String := natText (n / 10) ++ "." ++ natText (n % 10)

def nameText (n : Name) : String := String.ofList n

/-- An object name: its kind, a colon and its number. -/
def objText (kind : String) {n : Nat} (i : Fin n) : String := kind ++ ":" ++ natText (num i)

def inText (i : InputId) : String := objText "in" i
def roleText (r : RoleId) : String := objText "role" r
def perfText (p : PerfId) : String := objText "perf" p
def voiceText (v : VoiceId) : String := objText "voice" v
def playerText (p : PlayerId) : String := objText "player" p
def pageText (p : PageId) : String := objText "page" p
def soundText (n : SoundId) : String := objText "snd" n
def fbText (k : FbId) : String := objText "fb" k
def zoneText (z : ZoneId) : String := objText "zone" z
def groupText (g : GroupId) : String := objText "group" g
def lineText (n : LineId) : String := objText "line" n

def rowText : Row → String
  | .inp i => inText i
  | .role r => roleText r
  | .voice v => voiceText v

def busText : Bus → String
  | .house h => objText "house" h
  | .fb k => fbText k
  | .relay => "relay"

/-- A fade target: row and column joined by a comma, or the voice (R40). -/
def targetText : Target → String
  | .xpt row bus => rowText row ++ "," ++ busText bus
  | .voice v => voiceText v

/-- An optional value, or the word `none`. -/
def optText {α : Type} (f : α → String) : Option α → String
  | none => "none"
  | some a => f a

/-- A standby position: a cue, or `end`. -/
def standbyText : Option Nat → String
  | none => "end"
  | some n => cueText n

def onOff (b : Bool) : String := if b then "on" else "off"
def yesNo (b : Bool) : String := if b then "yes" else "no"

/-- Texts joined by a separator. -/
def joinText (sep : String) : List String → String
  | [] => ""
  | [a] => a
  | a :: rest => a ++ sep ++ joinText sep rest

/-- A list joined by commas, or the word `none` (R162, R200). -/
def listText (l : List String) : String := if l.isEmpty then "none" else joinText "," l

/-- Items after `OK`, separated by spaces, or the word `none`. -/
def itemsText (l : List String) : String := if l.isEmpty then "none" else joinText " " l

end Sys2Proof.Machine
end

