-- ==== Sys2Proof/Machine/Flags.lean ====
section
/-! DEFINITION. The status the part shows: the conditions its blocks provide to the logic lines, and the report set with
its report-enable mask (R80, R99, R118, R128, R181, R199, R200). -/

namespace Sys2Proof.Machine

open Sys2Proof

/-- The reader of a voice and of a call player (R126). -/
def voiceReader (v : VoiceId) : ReaderId := ⟨v.val, by omega⟩
def playerReader (p : PlayerId) : ReaderId := ⟨24 + p.val, by omega⟩

/-- The cue with a number, if the list holds it. -/
def State.cueAt (s : State) (n : Nat) : Option Cue := s.cues.find? (fun c => c.number = n)

/-- The cue at the standby position. -/
def State.standbyCue (s : State) : Option Cue := s.engine.standby.bind s.cueAt

/-- The voice and the sound of a PLAY action. -/
def playOf : Action → Option (VoiceId × SoundId)
  | .play v n _ => some (v, n)
  | _ => none

/-- The PLAY actions of the standby cue, in order. -/
def State.standbyPlays (s : State) : List (VoiceId × SoundId) :=
  match s.standbyCue with
  | none => []
  | some c => c.actions.filterMap playOf

/-- The number of the sound a reader holds. -/
def Reader.soundId (r : Reader) : Option SoundId := r.sound.map (·.1)

/-! ## Conditions -/

/-- CUE_ACTIVE (R99). -/
def State.cueActive (s : State) : Bool := !s.engine.insts.isEmpty

/-- STANDBY_READY: the standby position is a cue, and each of its PLAY actions has its voice PRIMED with its sound (R118). -/
def State.standbyReady (s : State) : Bool :=
  s.standbyCue.isSome && s.standbyPlays.all fun e =>
    let r := s.fetch.readers.get (voiceReader e.1)
    r.state = .primed ∧ r.soundId = some e.2

/-- MIC_ALERT: at least one performer is in ALARM or SPARE (R80). -/
def State.micAlert (s : State) : Bool :=
  s.cast.perfs.toList.any fun p => p.state = .alarm ∨ p.state = .spare

/-- CALL_LIVE of a zone: it has a holding call (R181). -/
def State.callLive (s : State) (z : ZoneId) : Bool := (s.router.zones.get z).holding.isSome

/-- CALL_WAITING: at least one call is WAITING (R181). -/
def State.callWaiting (s : State) : Bool := s.router.calls.any fun c => c.grant.isNone

/-- VOICE_FAULT: at least one of the 26 readers is FAULTED (R128). -/
def State.voiceFault (s : State) : Bool := s.fetch.readers.toList.any fun r => r.state = .faulted

/-- HOLD is asserted while the received-line queue holds 8 lines, and while a full reset is in force (R194, R203). -/
def State.hold (s : State) : Bool := s.inReset || Config.rxLines ≤ s.link.rxq.length

/-! ## The report set -/

/-- The report set with an entry of this key made at the end, or replaced in its place (R199). -/
def upsert (reports : List Report) (key : ReportKey) (text : String) : List Report :=
  if reports.any (fun r => r.key = key) then
    reports.map fun r => if r.key = key then { key := key, text := text } else r
  else reports ++ [{ key := key, text := text }]

/-- A block raises a report: of an enabled kind it makes or replaces the pending entry of its key, and of a disabled
kind it is discarded (R199, R200). -/
def State.raise (s : State) (key : ReportKey) (text : String) : State :=
  if s.link.disabled.contains key.kind then s
  else { s with link := { s.link with reports := upsert s.link.reports key text } }

end Sys2Proof.Machine
end

