-- ==== Sys2Proof/Machine/Ops.lean ====
section
/-! DEFINITION. The shared operations every block uses: reading and writing one record of a block, the levels a fade can
move, and the accounting of the cue engine that the ending of fades and starts feeds (R31, R108 to R111, R119). -/

namespace Sys2Proof.Machine

open Sys2Proof

/-! ## One block changed -/

def State.onLink (s : State) (f : LinkBlock → LinkBlock) : State := { s with link := f s.link }
def State.onPorts (s : State) (f : PortBlock → PortBlock) : State := { s with ports := f s.ports }
def State.onClock (s : State) (f : ClockBlock → ClockBlock) : State := { s with clock := f s.clock }
def State.onMatrix (s : State) (f : MatrixBlock → MatrixBlock) : State := { s with matrix := f s.matrix }
def State.onFades (s : State) (f : FadeBlock → FadeBlock) : State := { s with fades := f s.fades }
def State.onCast (s : State) (f : CastBlock → CastBlock) : State := { s with cast := f s.cast }
def State.onMic (s : State) (f : MicBlock → MicBlock) : State := { s with mic := f s.mic }
def State.onCues (s : State) (f : List Cue → List Cue) : State := { s with cues := f s.cues }
def State.onEngine (s : State) (f : EngineBlock → EngineBlock) : State := { s with engine := f s.engine }
def State.onFetch (s : State) (f : FetchBlock → FetchBlock) : State := { s with fetch := f s.fetch }
def State.onFoldback (s : State) (f : FoldbackBlock → FoldbackBlock) : State := { s with foldback := f s.foldback }
def State.onRouter (s : State) (f : RouterBlock → RouterBlock) : State := { s with router := f s.router }
def State.onLines (s : State) (f : LineBlock → LineBlock) : State := { s with lines := f s.lines }

/-! ## One record of a block -/

def State.reader (s : State) (r : ReaderId) : Reader := s.fetch.readers.get r
def State.onReader (s : State) (r : ReaderId) (f : Reader → Reader) : State :=
  s.onFetch fun b => { b with readers := update b.readers r f }

def State.voice (s : State) (v : VoiceId) : Reader := s.reader (voiceReader v)
def State.onVoice (s : State) (v : VoiceId) (f : Reader → Reader) : State := s.onReader (voiceReader v) f

def State.role (s : State) (r : RoleId) : Role := s.cast.roles.get r
def State.onRole (s : State) (r : RoleId) (f : Role → Role) : State :=
  s.onCast fun b => { b with roles := update b.roles r f }

def State.perf (s : State) (p : PerfId) : Perf := s.cast.perfs.get p
def State.onPerf (s : State) (p : PerfId) (f : Perf → Perf) : State :=
  s.onCast fun b => { b with perfs := update b.perfs p f }

def State.claim (s : State) (i : InputId) : Option (PerfId × Place) := s.cast.claims.get i

def State.health (s : State) (i : InputId) : Option HealthRec := s.mic.health.get i
def State.setHealth (s : State) (i : InputId) (h : Option HealthRec) : State :=
  s.onMic fun b => { b with health := put b.health i h }

def State.bus (s : State) (k : FbId) : FbBus := s.foldback.buses.get k
def State.onBus (s : State) (k : FbId) (f : FbBus → FbBus) : State :=
  s.onFoldback fun b => { b with buses := update b.buses k f }

def State.zone (s : State) (z : ZoneId) : Zone := s.router.zones.get z
def State.onZone (s : State) (z : ZoneId) (f : Zone → Zone) : State :=
  s.onRouter fun b => { b with zones := update b.zones z f }

def State.line (s : State) (n : LineId) : LineRec := s.lines.recs.get n
def State.onLine (s : State) (n : LineId) (f : LineRec → LineRec) : State :=
  s.onLines fun b => { b with recs := update b.recs n f }

/-! ## Matrix geometry and crosspoints -/

/-- The position of a row: inputs 1 to 64, roles 65 to 104, voices 105 to 128 (R9). -/
def rowPos : Row → RowPos
  | .inp i => ⟨i.val, by omega⟩
  | .role r => ⟨64 + r.val, by omega⟩
  | .voice v => ⟨104 + v.val, by omega⟩

/-- The position of a column: house 1 to 8, foldback 9 to 24, relay 25 (R9). -/
def colPos : Bus → ColPos
  | .house h => ⟨h.val, by omega⟩
  | .fb k => ⟨8 + k.val, by omega⟩
  | .relay => 24

/-- The columns in their order (R9). -/
def allBuses : List Bus :=
  (List.finRange 8).map Bus.house ++ ((List.finRange 16).map Bus.fb ++ [Bus.relay])

/-- The current level of a crosspoint (R14). -/
def State.xpt (s : State) (row : Row) (bus : Bus) : LevelCode := (s.matrix.xpts.get (rowPos row)).get (colPos bus)

def State.setXpt (s : State) (row : Row) (bus : Bus) (c : LevelCode) : State :=
  s.onMatrix fun b => { b with xpts := update b.xpts (rowPos row) fun cols => put cols (colPos bus) c }

/-- The level a fade moves: a crosspoint's current level or a voice level (R24). -/
def State.levelOf (s : State) : Target → LevelCode
  | .xpt row bus => s.xpt row bus
  | .voice v => (s.voice v).level

def State.setLevelOf (s : State) (t : Target) (c : LevelCode) : State :=
  match t with
  | .xpt row bus => s.setXpt row bus c
  | .voice v => s.onVoice v fun r => { r with level := c }

/-- Whether an input is claimed by a performer (R45). -/
def State.claimed (s : State) (i : InputId) : Bool := (s.claim i).isSome

/-- Whether a row is the input row of a claimed input (R15). -/
def State.claimedRow (s : State) : Row → Bool
  | .inp i => s.claimed i
  | _ => false

/-! ## The CUE report and the accounting of instances -/

/-- The chain's remaining time in milliseconds (R112). -/
def Chain.left (c : Chain) : Nat := c.ms - c.elapsed / Config.framesPerMs

/-- The `chain=` field (R119). -/
def chainText : Option Chain → String
  | none => "none"
  | some c => cueText c.target ++ ":" ++ natText c.left ++ ":" ++ (if c.fromStart then "start" else "end")

def runText (halted : Bool) : String := if halted then "halted" else "running"

def slotText (i : InstSlot) : String := natText (num i)

/-- The fields a CUE report and ENGINE? share, up to the value of `ready=` (R119, R120). -/
def State.engineHead (s : State) : String :=
  "run=" ++ runText s.engine.halted ++ " standby=" ++ standbyText s.engine.standby ++ " last="
    ++ optText cueText s.engine.lastFired ++ " instances=" ++ natText s.engine.insts.length ++ " chain="
    ++ chainText s.engine.chain ++ " ready="

/-- The fields a CUE report and ENGINE? share (R119, R120). -/
def State.engineText (s : State) : String := s.engineHead ++ yesNo s.standbyReady

/-- The label of the cue a report names, as the report carries it: a last field, and none for the empty label, which is the absent
one, nor where no cue of the list is named (R85; its place and its name are a DESIGN CHOICE, log 37). -/
def State.labelField (s : State) (n : Option Nat) : String :=
  match (n.bind s.cueAt).map (·.label) with
  | none | some [] => ""
  | some (c :: l) => " label=" ++ nameText (c :: l)

/-- The CUE report for an event, as a snapshot of the engine: the line of R119, its extra fields, and the cue's label (R85, R119;
logs 15 and 37). -/
def State.cueReport (s : State) (e : CueEvent) : CueReport :=
  { head := "!CUE event=" ++ e.name ++ " cue=" ++ optText cueText e.cue ++ " slot=" ++ optText slotText e.slot ++ " "
      ++ s.engineHead
    ready := s.standbyReady
    tail := " fired=" ++ natText s.engine.fired ++ e.extra ++ s.labelField e.cue }

/-- The line of a CUE report with a value of STANDBY_READY (R118, R119). -/
def CueReport.text (r : CueReport) (ready : Bool) : String := r.head ++ yesNo ready ++ r.tail

/-- The engine raises the CUE report with an event (R119); the report stays known until the operation ends (R118). -/
def State.raiseCue (s : State) (e : CueEvent) : State :=
  let r := s.cueReport e
  (s.onEngine fun b => { b with opEvent := some r }).raise .cue (r.text r.ready)

/-- A chain is set: one already pending is replaced and reported void (R111). -/
def State.setChain (s : State) (c : Chain) : State :=
  let s := match s.engine.chain with
    | none => s
    | some old => s.raiseCue { name := "chainvoid", cue := some old.target }
  (s.onEngine fun b => { b with chain := some c }).raiseCue { name := "chain", cue := some c.setBy }

/-- The END link of an instance that completes or is retired: a chain is set if its chain target is the standby cue,
and otherwise the chain is void (R109, R110). -/
def State.endLink (s : State) (i : Inst) : State :=
  match i.endLink with
  | none => s
  | some ms =>
    match i.chainTarget with
    | some n =>
      if s.engine.standby = some n then
        s.setChain { target := n, ms := ms, elapsed := 0, fromStart := false, setBy := i.cue }
      else s.raiseCue { name := "chainvoid", cue := some n }
    | none => s.raiseCue { name := "chainvoid" }

def State.instAt (s : State) (slot : InstSlot) : Option Inst := s.engine.insts.find? fun i => i.slot = slot

def State.removeInst (s : State) (slot : InstSlot) : State :=
  s.onEngine fun b => { b with insts := b.insts.filter fun i => i.slot ≠ slot }

def State.setCount (s : State) (slot : InstSlot) (n : Nat) : State :=
  s.onEngine fun b => { b with insts := b.insts.map fun i => if i.slot = slot then { i with count := n } else i }

/-- An instance whose count has reached 0 completes (R109); at its own firing no `complete` report is raised. -/
def State.completeInst (s : State) (i : Inst) (atFiring : Bool) : State :=
  let s := s.removeInst i.slot
  let s := if atFiring then s else s.raiseCue { name := "complete", cue := some i.cue, slot := some i.slot }
  s.endLink i

/-- One item of an instance's work is done: its count falls by 1, and at 0 it completes, the instance now firing only
when its firing has applied its actions (R31, R103, R108, R109). -/
def State.instDone (s : State) (slot : InstSlot) : State :=
  match s.instAt slot with
  | none => s
  | some i =>
    let n := i.count - 1
    let s := s.setCount slot n
    if n = 0 ∧ s.engine.firing ≠ some slot then s.completeInst { i with count := n } false else s

/-- An item of work owned by an instance, or by none, is done. -/
def State.ownerDone (s : State) : Option InstSlot → State
  | none => s
  | some slot => s.instDone slot

/-- An instance's count rises by 1 (R108). -/
def State.ownerAdd (s : State) : Option InstSlot → State
  | none => s
  | some slot => s.onEngine fun b =>
      { b with insts := b.insts.map fun i => if i.slot = slot then { i with count := i.count + 1 } else i }

end Sys2Proof.Machine
end

