-- ==== Sys2Proof/Machine/FadeOps.lean ====
section
/-! DEFINITION. The shared operations of the fade engine (02_fades.md): requesting, replacing, removing and completing
fade records, and their frame step. -/

namespace Sys2Proof.Machine

open Sys2Proof

/-- The fade record that addresses a target, if one does (R24). -/
def State.fadeOf (s : State) (t : Target) : Option Fade := s.fades.pool.find? fun f => f.target = t

/-- The record on a target leaves the pool, its owner not told. -/
def State.dropFade (s : State) (t : Target) : State :=
  s.onFades fun b => { b with pool := b.pool.filter fun f => f.target ≠ t }

/-- The record on a target, if any, is removed, and its owner counts it completed (R34, R36). -/
def State.removeFade (s : State) (t : Target) : State :=
  match s.fadeOf t with
  | none => s
  | some f => (s.dropFade t).ownerDone f.owner

/-- A snap: the record on the target is removed and the target takes the level at once (R34). -/
def State.snapLevel (s : State) (t : Target) (c : LevelCode) : State := (s.removeFade t).setLevelOf t c

/-- Whether an owned record's count stands still: while the cue engine is HALTED (R39). -/
def State.frozen (s : State) (f : Fade) : Bool := f.owner.isSome && s.engine.halted

/-- How a fade request was taken (R25). -/
inductive FadeTaken where
  | replaced | ended | made | snapped
  deriving DecidableEq, Repr

/-- The FADE report of a pool-full snap (R40). -/
def State.fadeReport (s : State) (t : Target) (c : LevelCode) : String :=
  "!FADE used=" ++ natText s.fades.pool.length ++ " snaps=" ++ natText s.fades.snaps ++ " last=" ++ targetText t
    ++ " level=" ++ levelText c

/-- A pool-full snap: the target takes the end level, no record is made, and the FADE report is raised (R35, R40). -/
def State.poolFullSnap (s : State) (t : Target) (c : LevelCode) : State :=
  let s := (s.setLevelOf t c).onFades fun b => { b with snaps := bump b.snaps }
  s.raise .fade (s.fadeReport t c)

/-- How the fade engine would take a request: the first case of R25 that holds. -/
def State.fadeCase (s : State) (t : Target) (goal : LevelCode) : FadeTaken :=
  if (s.fadeOf t).isSome then .replaced
  else if s.levelOf t = goal then .ended
  else if s.fades.pool.length < Config.fadePool then .made
  else .snapped

/-- A fade request: end level, time, owner, and stop-at-off for a stop fade (R25, R33, R35). -/
def State.requestFade (s : State) (t : Target) (goal : LevelCode) (ms : Nat) (owner : Option InstSlot)
    (stopAtOff : Bool) : State :=
  let record : Fade := { target := t, start := s.levelOf t, goal := goal, ms := ms, elapsed := 0, owner := owner,
                         stopAtOff := stopAtOff }
  match s.fadeCase t goal with
  | .replaced =>
    let old := (s.fadeOf t).bind (·.owner)
    let s := s.onFades fun b => { b with pool := b.pool.map fun f => if f.target = t then record else f }
    (s.ownerDone old).ownerAdd owner
  | .ended => s
  | .made => (s.onFades fun b => { b with pool := b.pool ++ [record] }).ownerAdd owner
  | .snapped => s.poolFullSnap t goal

/-! ## The frame step -/

/-- Milliseconds of a fade still to run (R22). -/
def Fade.left (f : Fade) : Nat := f.ms - f.elapsed / Config.framesPerMs

/-- Whether a record has reached its duration (R31). -/
def Fade.due (f : Fade) : Bool := Config.framesPerMs * f.ms ≤ f.elapsed

/-- A record after one counted frame (R29). -/
def Fade.advance (f : Fade) : Fade := if f.due then f else { f with elapsed := f.elapsed + 1 }

/-- The level a record gives its target at its elapsed time (R29). -/
def Fade.levelNow (f : Fade) : LevelCode :=
  interpolate f.start f.goal (f.elapsed / Config.framesPerMs) f.ms

/-- The target's level after a record's frame, where a whole millisecond has been completed; the step that reaches the
duration is the record's completion (R29, R31). -/
def State.fadeStep (s : State) (f : Fade) : State :=
  if s.frozen f || f.advance.due || f.elapsed / Config.framesPerMs = f.advance.elapsed / Config.framesPerMs then s
  else s.setLevelOf f.target f.advance.levelNow

/-- One frame of the fade engine: every record that is not frozen counts, and moves its target (R29, R39). -/
def State.fadeFrame (s : State) : State :=
  let moved := s.fades.pool.foldl State.fadeStep s
  moved.onFades fun b => { b with pool := b.pool.map fun f => if s.frozen f then f else f.advance }

/-! ## Owners lost -/

/-- A retired instance's records lose their owner and run on (R38). -/
def State.disownFades (s : State) (slot : InstSlot) : State :=
  s.onFades fun b => { b with pool := b.pool.map fun f => if f.owner = some slot then { f with owner := none } else f }

/-- STOP ALL removes each owned record on a crosspoint, telling no instance (R37). -/
def Fade.ownedCrosspoint (f : Fade) : Bool :=
  match f.target with
  | .xpt _ _ => f.owner.isSome
  | .voice _ => false

end Sys2Proof.Machine
end

