-- ==== Sys2Proof/Machine/ReaderOps.lean ====
section
/-! DEFINITION. The shared operations of the sample fetch unit (07_playback_voices_and_the_sample_store.md): sounds and
their block sequences, rings and tags, the states of readers, PLAY, STOP, priming, faults and the arbiter. What a call
player's end or fault means for its call is the router's. -/

namespace Sys2Proof.Machine

open Sys2Proof

/-! ## Sounds (R122, R127) -/

/-- The played extent of a sound: its loop end, or its length (R122). -/
def Sound.extent (d : Sound) : Nat :=
  match d.loop with
  | some (_, e) => e
  | none => d.len

/-- The number of blocks a sound uses (R122). -/
def Sound.blocks (d : Sound) : Nat := (d.extent + 255) / Config.blockSamples

/-- The entry of the block sequence after block `j` (R127): past the end of an unlooped sound it is `blocks`. -/
def Sound.next (d : Sound) (j : Nat) : Nat :=
  match d.loop with
  | some (b, e) => if j + 1 = e / Config.blockSamples then b / Config.blockSamples else j + 1
  | none => j + 1

/-- Whether block `j` is the last of the block sequence; a looped sound has no last block (R127, R130). -/
def Sound.lastBlock (d : Sound) (j : Nat) : Bool := d.loop.isNone && j + 1 = d.blocks

/-! ## Rings and tags (R125, R126) -/

def Slot.isFull : Slot → Bool
  | .full _ _ => true
  | _ => false

def Slot.isPending : Slot → Bool
  | .pending _ _ => true
  | _ => false

def Slot.isEmpty : Slot → Bool
  | .empty => true
  | _ => false

def Reader.slot (r : Reader) (i : RingSlot) : Slot := r.ring.get i

def Reader.fullCount (r : Reader) : Nat := r.ring.toList.countP Slot.isFull
def Reader.pendingCount (r : Reader) : Nat := r.ring.toList.countP Slot.isPending

/-- The next slot in ring order. -/
def nextSlot (i : RingSlot) : RingSlot := i + 1

/-- A reader has data left while its cursor has not passed the end of the sequence (R127). -/
def Reader.dataLeft (r : Reader) : Bool :=
  match r.sound with
  | none => false
  | some (_, d) => d.loop.isSome || r.cursor < d.blocks

/-- A tag of a slot whose ring is cleared becomes orphaned, and its timer runs on (R125, R143). -/
def StoreTag.orphan (r : ReaderId) : StoreTag → StoreTag
  | .busy r' slot a t => if r' = r then .orphaned a t else .busy r' slot a t
  | t => t

def Reader.clearRing (r : Reader) : Reader :=
  { r with ring := .replicate 8 .empty, retry := none, head := 0, tail := 0 }

/-- A reader's ring is cleared (R126). -/
def State.clearRing (s : State) (r : ReaderId) : State :=
  (s.onFetch fun b => { b with tags := b.tags.map (StoreTag.orphan r) }).onReader r Reader.clearRing

/-! ## Reports (R144, R145) -/

def readerStateText : ReaderState → String
  | .idle => "idle"
  | .priming => "priming"
  | .primed => "primed"
  | .starting => "starting"
  | .playing => "playing"
  | .stalled => "stalled"
  | .faulted => "faulted"

/-- The fields a reader's report and query share before the event, and after it (R144). -/
def Reader.stateFields (r : Reader) : String :=
  "state=" ++ readerStateText r.state ++ " snd=" ++ optText soundText r.soundId ++ " pos=" ++ natText r.pos

def Reader.countFields (r : Reader) : String :=
  " late=" ++ optText natText r.late ++ " stall=" ++ optText natText r.stall ++ " underruns=" ++ natText r.underruns
    ++ " retries=" ++ natText r.retries

/-- A reader is a voice or a call player (R126). -/
def readerKind (r : ReaderId) : VoiceId ⊕ PlayerId :=
  if h : r.val < 24 then .inl ⟨r.val, h⟩ else .inr ⟨r.val - 24, by omega⟩

/-- A reader raises its VOICE or PLAYER report (R144). Of several changes in one event each raises it, so that a new entry takes its
place at the first change and shows the last (DESIGN CHOICE, log 45). -/
def State.raiseReader (s : State) (r : ReaderId) (event : String) : State :=
  let d := s.reader r
  match readerKind r with
  | .inl v => s.raise (.voice v) ("!VOICE " ++ voiceText v ++ " " ++ d.stateFields ++ " level=" ++ levelText d.level
      ++ " event=" ++ event ++ d.countFields)
  | .inr p => s.raise (.player p) ("!PLAYER " ++ playerText p ++ " " ++ d.stateFields ++ " event=" ++ event
      ++ d.countFields)

def StoreTag.isFree : StoreTag → Bool
  | .free => true
  | _ => false

def StoreTag.isBusy : StoreTag → Bool
  | .busy _ _ _ _ => true
  | _ => false

def StoreTag.isOrphaned : StoreTag → Bool
  | .orphaned _ _ => true
  | _ => false

def StoreTag.isLost : StoreTag → Bool
  | .lost => true
  | _ => false

def FetchBlock.tagCount (b : FetchBlock) (p : StoreTag → Bool) : Nat := b.tags.toList.countP p

/-- The tag and store counts, as the STORE report and FETCH? write them (R145). -/
def FetchBlock.storeText (b : FetchBlock) : String :=
  "free=" ++ natText (b.tagCount StoreTag.isFree) ++ " busy=" ++ natText (b.tagCount StoreTag.isBusy) ++ " orphaned="
    ++ natText (b.tagCount StoreTag.isOrphaned) ++ " lost=" ++ natText (b.tagCount StoreTag.isLost) ++ " timeouts="
    ++ natText b.timeouts ++ " errors=" ++ natText b.errors ++ " stray=" ++ natText b.stray

/-- The STORE report (R145). -/
def State.raiseStore (s : State) (event : String) (t : TagId) : State :=
  s.raise .store ("!STORE event=" ++ event ++ " tag=" ++ natText t.val ++ " " ++ s.fetch.storeText)

def State.setTag (s : State) (t : TagId) (x : StoreTag) : State :=
  s.onFetch fun b => { b with tags := put b.tags t x }

/-! ## Entering IDLE (R134) -/

/-- A voice tells the cue engine that it has entered IDLE: where the standby cue plays on it, a priming evaluation is
called for (R117). -/
def State.callEvaluation (s : State) (v : VoiceId) : State :=
  if s.standbyPlays.any fun e => e.1 = v then s.onEngine fun b => { b with evalDue := true } else s

def Reader.toIdle (r : Reader) : Reader :=
  { r.clearRing with state := .idle, sound := none, pos := 0, cursor := 0, keptFadeIn := none, owner := none,
                     stalledFor := 0 }

/-- A reader enters IDLE with the report event of its cause: its ring is cleared, a voice-level record is removed, a
start owner is told, and the cue engine is told of a voice (R134, R36). The VOICE report comes before the CUE events of the owners
told (DESIGN CHOICE, log 40). -/
def State.enterIdle (s : State) (r : ReaderId) (event : String) : State :=
  let owner := (s.reader r).owner
  let s := ((s.clearRing r).onReader r Reader.toIdle).raiseReader r event
  match readerKind r with
  | .inl v => ((s.removeFade (.voice v)).ownerDone owner).callEvaluation v
  | .inr _ => s

/-! ## Starting and playing (R130, R132) -/

/-- The start condition of R130: the head slot is FULL, and either the next slot is or the head's block is the last. -/
def Reader.canStart (r : Reader) : Bool :=
  match r.slot r.head, r.sound with
  | .full j _, some (_, d) => (r.slot (nextSlot r.head)).isFull || d.lastBlock j
  | _, _ => false

/-- The fade-in a voice requests when it enters PLAYING: none for a kept time of 0 (R27, R130). -/
def State.fadeIn (s : State) (v : VoiceId) : Option Nat → State
  | none => s
  | some 0 => s
  | some ms => s.requestFade (.voice v) 0 ms none false

/-- A reader enters PLAYING from STARTING or, with a delay of 0, from PRIMED. What R130 lists is done in the order of its list:
the fade-in is requested and the start owner told before the report is raised, so that the report shows the level the
request leaves (DEDUCED, log 32). -/
def State.enterPlaying (s : State) (r : ReaderId) (late : Nat) : State :=
  let d := s.reader r
  let s := s.onReader r fun x => { x with state := .playing, late := some late, keptFadeIn := none, owner := none }
  let s := match readerKind r with
    | .inl v => (s.fadeIn v d.keptFadeIn).ownerDone d.owner
    | .inr _ => s
  s.raiseReader r "playing"

/-- A STARTING reader whose start condition holds enters PLAYING (R130). -/
def State.testStart (s : State) (r : ReaderId) : State :=
  let d := s.reader r
  if d.state = .starting ∧ d.canStart then s.enterPlaying r ((s.now - d.playMoment) / Config.framesPerMs) else s

/-- The record of a sound, if the table holds one (R122). -/
def State.soundRec (s : State) (n : SoundId) : Option Sound := s.fetch.sounds.get n

/-- A reader with its ring cleared, ready to fetch a sound from its first block (R132, R133, R137). -/
def Reader.load (r : Reader) (n : SoundId) (d : Sound) (st : ReaderState) : Reader :=
  { r.clearRing with state := st, sound := some (n, d), pos := 0, cursor := 0, stalledFor := 0 }

/-- The fields of a voice a PLAY sets in every state: level, kept fade-in, play moment, start owner, and the copy of the
sound's record (R132). -/
def Reader.takePlay (r : Reader) (now : Nat) (n : SoundId) (d : Sound) (fadeIn : Nat) (owner : Option InstSlot) :
    Reader :=
  { r with level := if fadeIn = 0 then 0 else offCode, keptFadeIn := some fadeIn, playMoment := now, owner := owner,
           sound := some (n, d) }

/-- A PLAY of a sound with a record on a voice, taken by the voice's state (R132, R105). The instance that owns the start
counts it where the voice enters STARTING. The owners that lose the voice are told before its report (DESIGN CHOICE, log 40). -/
def State.play (s : State) (v : VoiceId) (n : SoundId) (d : Sound) (fadeIn : Nat) (owner : Option InstSlot) : State :=
  let r := voiceReader v
  let before := s.reader r
  let s := (s.removeFade (.voice v)).ownerDone before.owner
  if before.state = .primed ∧ before.soundId = some n then
    (s.onReader r fun x => x.takePlay s.now n d fadeIn none).enterPlaying r 0
  else
    let s :=
      if before.state = .priming ∧ before.soundId = some n then
        s.onReader r fun x => { x with state := .starting }
      else (s.clearRing r).onReader r fun x => x.load n d .starting
    let s := (s.onReader r fun x => x.takePlay s.now n d fadeIn owner).ownerAdd owner
    (s.raiseReader r "starting").testStart r

/-! ## Stopping (R28, R106, R135) -/

/-- A stop of a voice, from the STOP command, from a cue STOP action or from STOP ALL, taken by the voice's state (R28, R37, R106,
R135). That STOP ALL too sends a sounding voice whose level is OFF to IDLE at once, a record on it or not, is a DESIGN CHOICE (log 46).
With a full pool the FADE report comes before the VOICE report (DESIGN CHOICE, log 40). -/
def State.stopVoice (s : State) (v : VoiceId) (ms : Nat) (owner : Option InstSlot) : State :=
  let r := voiceReader v
  let d := s.reader r
  match d.state with
  | .idle => s
  | .priming | .primed => s.enterIdle r "released"
  | .starting | .faulted => s.enterIdle r "stopped"
  | .playing | .stalled =>
    if ms = 0 ∨ d.level = offCode then s.enterIdle r "stopped"
    else
      match s.fadeCase (.voice v) offCode with
      | .snapped => (s.poolFullSnap (.voice v) offCode).enterIdle r "stopped"
      | _ => s.requestFade (.voice v) offCode ms owner true

/-! ## Priming (R133) -/

/-- The cue engine asks for an IDLE voice to be primed with a sound (R133). -/
def State.prime (s : State) (v : VoiceId) (n : SoundId) : State :=
  match s.soundRec n with
  | none => s
  | some d =>
    let r := voiceReader v
    let stamp := s.fetch.nextPrimeStamp
    let s := (s.onFetch fun b => { b with nextPrimeStamp := stamp + 1 }).onReader r fun x =>
      { x.load n d .priming with primeStamp := stamp }
    s.raiseReader r "priming"

/-- Whether a PRIMING voice enters PRIMED: all 8 slots FULL, or no data left and no slot PENDING or retry-marked (R133). -/
def Reader.isPrimed (r : Reader) : Bool :=
  r.fullCount = 8 || (!r.dataLeft && r.pendingCount = 0 && r.retry.isNone)

def State.testPrimed (s : State) (r : ReaderId) : State :=
  let d := s.reader r
  if d.state = .priming ∧ d.isPrimed then
    (s.onReader r fun x => { x with state := .primed }).raiseReader r "primed"
  else s

/-! ## Call players (R137) -/

/-- The router starts a call player with a sound (R137). -/
def State.startPlayer (s : State) (p : PlayerId) (n : SoundId) : State :=
  match s.soundRec n with
  | none => s
  | some d =>
    let r := playerReader p
    let s := (s.clearRing r).onReader r fun x => { x.load n d .starting with playMoment := s.now }
    s.raiseReader r "starting"

/-- The router's stop request sends a player to IDLE; one already IDLE is left as it is (R137, R175). -/
def State.stopPlayer (s : State) (p : PlayerId) : State :=
  if (s.reader (playerReader p)).state = .idle then s else s.enterIdle (playerReader p) "stopped"

/-! ## Failures (R140 to R142) -/

/-- A reader enters FAULTED: its ring is cleared, and a voice loses its record, its start and its kept fade-in (R142). The VOICE
report comes before the CUE events of the owners told (DESIGN CHOICE, log 40). -/
def State.enterFaulted (s : State) (r : ReaderId) : State :=
  let owner := (s.reader r).owner
  let s := ((s.clearRing r).onReader r fun x =>
    { x with state := .faulted, keptFadeIn := none, owner := none, stalledFor := 0 }).raiseReader r "fault"
  match readerKind r with
  | .inl v => (s.removeFade (.voice v)).ownerDone owner
  | .inr _ => s

/-- A slot of a reader has failed: it is retry-marked, or the reader enters FAULTED (R140, R141). -/
def State.failSlot (s : State) (r : ReaderId) (i : RingSlot) : State :=
  let d := s.reader r
  match d.retry, d.slot i with
  | none, .pending _ j =>
    (s.onReader r fun x => { x with ring := put x.ring i .empty, retry := some (i, j), retries := bump x.retries }
      ).raiseReader r "retry"
  | _, _ => s.enterFaulted r

/-- An OK completion fills its slot; a retry mark on that slot is removed (R139). -/
def Reader.fill (r : Reader) (i : RingSlot) (samples : Vector Sample 256) : Reader :=
  match r.slot i with
  | .pending _ j =>
    { r with ring := put r.ring i (.full j samples),
             retry := if r.retry.map (·.1) = some i then none else r.retry }
  | _ => r

/-! ## The arbiter (R138) -/

/-- The slot a reader would be granted, with the block requested and whether it is a retry: the retry-marked slot where
it is EMPTY, and otherwise the tail slot while data is left (R138). -/
def Reader.wants (r : Reader) : Option (RingSlot × Nat × Bool) :=
  let tail := if (r.slot r.tail).isEmpty && r.dataLeft then some (r.tail, r.cursor, false) else none
  match r.retry with
  | some (i, j) => if (r.slot i).isEmpty then some (i, j, true) else tail
  | none => tail

/-- Whether a reader is eligible (R138). -/
def Reader.eligible (r : Reader) : Bool :=
  match r.state with
  | .priming | .starting | .playing | .stalled => r.wants.isSome
  | .idle | .primed | .faulted => false

/-- The class of a reader: URGENT 0, PRIME 1, NORMAL 2 (R138). -/
def Reader.rankClass (refill : Nat) (r : Reader) : Nat :=
  if r.retry.isSome then 0
  else
    match r.state with
    | .starting | .stalled => 0
    | .playing => if r.fullCount < refill then 0 else 2
    | _ => 1

/-- The order within the class: by slots FULL or PENDING, or by priming stamp in class PRIME (R138). -/
def Reader.rankOrder (refill : Nat) (r : Reader) : Nat :=
  if r.rankClass refill = 1 then r.primeStamp else r.fullCount + r.pendingCount

/-- Whether a reader comes before another that has the higher number (R138). -/
def Reader.before (refill : Nat) (a b : Reader) : Bool :=
  a.rankClass refill < b.rankClass refill ||
    (a.rankClass refill = b.rankClass refill && a.rankOrder refill ≤ b.rankOrder refill)

/-- The first eligible reader of the first non-empty class, ties by lower reader number (R138). -/
def FetchBlock.nextReader (b : FetchBlock) : Option ReaderId :=
  (pick fun r => (b.readers.get r).eligible).foldl
    (fun best r =>
      match best with
      | none => some r
      | some q => if (b.readers.get q).before b.refill (b.readers.get r) then some q else some r)
    none

/-- The lowest-numbered FREE tag (R138). -/
def FetchBlock.nextTag (b : FetchBlock) : Option TagId := (pick fun t => (b.tags.get t).isFree).head?

/-- A reader with a request made for one of its slots; a tail request moves the cursor and the tail on (R138). -/
def Reader.request (r : Reader) (t : TagId) (i : RingSlot) (j : Nat) (isRetry : Bool) : Reader :=
  let r := { r with ring := put r.ring i (.pending t j) }
  if isRetry then r
  else { r with tail := nextSlot r.tail, cursor := match r.sound with
                                                    | some (_, d) => d.next r.cursor
                                                    | none => r.cursor }

/-- One grant of the arbiter, if a tag is FREE and a reader is eligible: the request goes out under the tag, whose timer
starts, and the store-bus reset is no longer driven (R125, R138). -/
def State.grantTag (s : State) : State :=
  match s.fetch.nextTag, s.fetch.nextReader with
  | some t, some r =>
    match (s.reader r).wants, (s.reader r).sound with
    | some (i, j, isRetry), some (_, d) =>
      ((s.onReader r fun x => x.request t i j isRetry).setTag t
        (.busy r i (d.first + j) (s.now + Config.tagFrames))).onFetch fun b => { b with busReset := false }
    | _, _ => s
  | _, _ => s

/-- The arbiter repeats until no tag is FREE or no reader is eligible; each grant takes a FREE tag, so at most 8 follow
one another (R138). -/
def State.grantAll (s : State) : State := (List.range 8).foldl (fun s _ => s.grantTag) s

/-! ## The sample step (R129) -/

/-- The sample a reader outputs in a frame: that of its play position while it plays, or finds its head slot FULL again
after a stall, and 0 otherwise (R128, R129). -/
def Reader.output (r : Reader) : Sample :=
  match r.state with
  | .playing | .stalled =>
    match r.slot r.head with
    | .full _ samples => samples.get ⟨r.pos % 256, Nat.mod_lt _ (by decide)⟩
    | _ => 0
  | _ => 0

/-- A reader after its sample: the position rises, wraps at a loop end, and the head slot is consumed after the last
sample of its block (R129). -/
def Reader.advance (r : Reader) : Reader :=
  let pos := r.pos + 1
  let wrapped := match r.sound with
    | some (_, { loop := some (b, e), .. }) => if pos = e then b else pos
    | _ => pos
  let r' := { r with state := .playing, pos := wrapped, stalledFor := 0 }
  if r.pos % Config.blockSamples = 255 then { r' with ring := put r.ring r.head .empty, head := nextSlot r.head }
  else r'

/-- Whether an unlooped sound has ended: the position has reached its length (R131). -/
def Reader.ended (r : Reader) : Bool :=
  match r.sound with
  | some (_, { loop := none, len := n, .. }) => n ≤ r.pos
  | _ => false

/-- The sample step of one reader in a frame, short of what the end of a sound means for a call (R129, R131). The latest stall of
`stall=` is set where a stall ends in PLAYING, and by nothing else (DESIGN CHOICE, log 47). -/
def State.sampleStep (s : State) (r : ReaderId) : State :=
  let d := s.reader r
  if d.state = .playing ∨ d.state = .stalled then
    if (d.slot d.head).isFull then
      let s :=
        if d.state = .stalled then
          (s.onReader r fun x => { x.advance with stall := some (x.stalledFor / Config.framesPerMs),
                                                   underruns := bump x.underruns }).raiseReader r "underrun"
        else s.onReader r Reader.advance
      if (s.reader r).ended then s.enterIdle r "end" else s
    else if d.state = .playing then
      (s.onReader r fun x => { x with state := .stalled, stalledFor := 1 }).raiseReader r "stalled"
    else s.onReader r fun x => { x with stalledFor := x.stalledFor + 1 }
  else s

end Sys2Proof.Machine
end

