-- ==== Sys2Proof/Machine/RouterOps.lean ====
section
/-! DEFINITION. The shared operations of the relay and call router (09_show_relay_and_calls.md): target resolution, admission
and displacement, the grant walk, and the ends of calls. -/

namespace Sys2Proof.Machine

open Sys2Proof

/-! ## The call table and the CALL report (R167, R181) -/

inductive CallState where
  | waiting | live | ended
  deriving DecidableEq, Repr

/-- The cause of a call's end (R181). -/
inductive CallCause where
  | finished | ended | released | fault | preempted | cancelled | expired | displaced
  deriving DecidableEq, Repr

def callStateText : CallState → String
  | .waiting => "waiting"
  | .live => "live"
  | .ended => "ended"

def causeText : CallCause → String
  | .finished => "end"
  | .ended => "ended"
  | .released => "released"
  | .fault => "fault"
  | .preempted => "preempted"
  | .cancelled => "cancelled"
  | .expired => "expired"
  | .displaced => "displaced"

def sourceText : Source → String
  | .sound n => soundText n
  | .page n => pageText n

def Call.state (c : Call) : CallState := if c.grant.isSome then .live else .waiting

/-- The player a LIVE recorded call holds (R167). -/
def Call.player (c : Call) : Option PlayerId := c.grant.bind (·.player)

/-- The fields the CALL report and CALL? share (R181). -/
def callFields (c : Call) (st : CallState) (player : Option PlayerId) (cause : Option CallCause) : String :=
  "call:" ++ natText c.id ++ " state=" ++ callStateText st ++ " src=" ++ sourceText c.req.src ++ " pri="
    ++ natText c.req.pri ++ " zones=" ++ listText (c.zones.map zoneText) ++ " player=" ++ optText playerText player
    ++ " cause=" ++ optText causeText cause

/-- The CALL report (R181). -/
def State.raiseCall (s : State) (c : Call) (st : CallState) (player : Option PlayerId) (cause : Option CallCause)
    (by_ : Option Nat) (event : String) : State :=
  s.raise (.call c.id) ("!CALL " ++ callFields c st player cause ++ " by=" ++ optText natText by_ ++ " event=" ++ event)

def State.callAt (s : State) (id : Nat) : Option Call := s.router.calls.find? fun c => c.id = id

def State.dropCall (s : State) (id : Nat) : State :=
  s.onRouter fun b => { b with calls := b.calls.filter fun c => c.id ≠ id }

/-- A call placed in the table's order: priority, highest first, then admission stamp, earliest first (R167). -/
def insertCall (c : Call) : List Call → List Call
  | [] => [c]
  | d :: rest => if d.req.pri < c.req.pri then c :: d :: rest else d :: insertCall c rest

/-! ## The end of a call (R175) -/

/-- A zone of a call that ends becomes free, and its duck ramp toward 0 begins (R164, R175). -/
def Zone.release (z : Zone) : Zone := { z with holding := none, ramp := beginRamp z.duck 0 500 }

/-- A call leaves the table, a LIVE one freeing its zones and its player first, and its CALL report is raised; the walk it
calls for is the caller's (R175). -/
def State.closeCall (s : State) (c : Call) (cause : CallCause) (by_ : Option Nat) : State :=
  let s :=
    if c.grant.isSome then
      let s := c.zones.foldl (fun s z => s.onZone z Zone.release) s
      match c.player with
      | some p => s.stopPlayer p
      | none => s
    else s
  (s.dropCall c.id).raiseCall c .ended none (some cause) by_ "ended"

/-! ## The grant walk (R170 to R172) -/

/-- The LIVE call that holds a player. -/
def State.playerCall (s : State) (p : PlayerId) : Option Call := s.router.calls.find? fun c => c.player = some p

/-- Whether a player's holder gives it up before another's: the call of lower priority, and between equal priorities the
one of the later grant (R171). -/
def givesUpFirst (a b : Call) : Bool :=
  a.req.pri < b.req.pri ||
    (a.req.pri = b.req.pri && (b.grant.map (·.stamp)).getD 0 ≤ (a.grant.map (·.stamp)).getD 0)

/-- The player a recorded call would take: a free one, player 1 first, or that of a LIVE call of lower priority (R171). -/
def State.playerFor (s : State) (pri : Nat) : Option PlayerId :=
  match (pick fun p => (s.playerCall p).isNone).head? with
  | some p => some p
  | none =>
    let held := s.router.calls.filter fun c => c.player.isSome ∧ c.req.pri < pri
    (held.foldl (fun best c =>
        match best with
        | none => some c
        | some d => if givesUpFirst d c then some d else some c) none).bind Call.player

/-- Whether a zone may be taken by a call of a priority: it is free, or held by a LIVE call of lower priority (R171). -/
def State.zoneOpen (s : State) (pri : Nat) (z : ZoneId) : Bool :=
  match (s.zone z).holding with
  | none => true
  | some id =>
    match s.callAt id with
    | none => true
    | some c => c.req.pri < pri

/-- Whether a paging input is used by a LIVE call (R171). -/
def State.pageUsed (s : State) (n : PageId) : Bool :=
  s.router.calls.any fun c => c.grant.isSome ∧ c.req.src = .page n

/-- What a call would take of the players: nothing for a live call whose paging input is free, a player for a recorded
call; none where its player or paging input is not to be had (R171). -/
def State.sourceFor (s : State) (c : Call) : Option (Option PlayerId) :=
  match c.req.src with
  | .sound _ => (s.playerFor c.req.pri).map some
  | .page n => if s.pageUsed n then none else some none

/-- Whether a WAITING call is grantable, with the player it would take (R171). -/
def State.grantable (s : State) (reserved : List ZoneId) (c : Call) : Option (Option PlayerId) :=
  if c.zones.all fun z => !reserved.contains z && s.zoneOpen c.req.pri z then s.sourceFor c else none

/-- A zone granted to a call: it is held, and its duck ramp toward the call's depth begins (R164, R172). -/
def Zone.take (id depth : Nat) (z : Zone) : Zone :=
  { z with holding := some id, ramp := beginRamp z.duck (-(depth : Int)) 100 }

/-- A grantable call first ends every LIVE call that holds a zone of its set or the player it takes, and then goes LIVE
(R172). The calls it ends are ended in the order of the call table (DESIGN CHOICE, log 43). -/
def State.grantCall (s : State) (c : Call) (player : Option PlayerId) : State :=
  let conflicts := s.router.calls.filter fun d =>
    d.grant.isSome ∧ (c.zones.any (fun z => (s.zone z).holding = some d.id) ∨ (player.isSome ∧ d.player = player))
  let s := conflicts.foldl (fun s d => s.closeCall d .preempted (some c.id)) s
  let stamp := s.router.grantStamp
  let live : Call := { c with grant := some { stamp := stamp, player := player } }
  let s := s.onRouter fun b =>
    { b with grantStamp := stamp + 1, calls := b.calls.map fun d => if d.id = c.id then live else d }
  let s := c.zones.foldl (fun s z => s.onZone z (Zone.take c.id c.req.duck)) s
  let s := match player, c.req.src with
    | some p, .sound n => s.startPlayer p n
    | _, _ => s
  s.raiseCall live .live player none none "granted"

/-- A walk in progress: the state, the zones reserved so far, and whether a call was granted. -/
structure Walk where
  state : State
  reserved : List ZoneId := []
  granted : Bool := false

/-- A walk visits one WAITING call: it is granted, or it reserves every zone of its set (R170, R171). -/
def Walk.visit (w : Walk) (id : Nat) : Walk :=
  match w.state.callAt id with
  | none => w
  | some c =>
    if c.grant.isSome then w
    else
      match w.state.grantable w.reserved c with
      | some player => { w with state := w.state.grantCall c player, granted := true }
      | none => { w with reserved := w.reserved ++ c.zones }

/-- One walk over the calls that are WAITING when it begins, in table order (R170). -/
def State.walkOnce (s : State) : Walk :=
  ((s.router.calls.filter fun c => c.grant.isNone).map (·.id)).foldl Walk.visit { state := s }

/-- A walk and its follow-up walks, at most `n` (R170). -/
def State.walkUpTo : Nat → State → State
  | 0, s => s
  | n + 1, s =>
    let w := s.walkOnce
    if w.granted then w.state.walkUpTo n else w.state

/-- The grant walk: each walk that grants takes a call out of WAITING, so one more walk than there are calls ends the
sequence (R170). -/
def State.walk (s : State) : State := s.walkUpTo (s.router.calls.length + 1)

/-- A call ends or is removed, and the walk it calls for runs (R175). -/
def State.endCall (s : State) (c : Call) (cause : CallCause) : State := (s.closeCall c cause none).walk

/-- A call player reports the end of its sound or its entry to FAULTED: the call that holds it ends, and a report that
finds no call is discarded (R174, R175). -/
def State.playerReports (s : State) (p : PlayerId) (cause : CallCause) : State :=
  match s.playerCall p with
  | none => s
  | some c => s.endCall c cause

/-! ## Admission (R166, R168, R169) -/

/-- The dressing-room zone the cast table resolves a performer to (R54). -/
def State.perfZone (s : State) (p : PerfId) : Option ZoneId := (s.perf p).zone

/-- Whether a target names a zone (R166). -/
def State.targetHas (s : State) (z : ZoneId) : CallTarget → Bool
  | .zone n => n = z
  | .group g => (s.zone z).groups.get g
  | .perf p => s.perfZone p = some z
  | .role r => ((s.role r).holder.bind s.perfZone) = some z

/-- A request's zone set: gathered without duplicates in ascending order, and for priorities 1 and 2 without the quiet
zones (R166). -/
def State.resolve (s : State) (q : CallRequest) : List ZoneId :=
  pick fun z => q.targets.any (s.targetHas z) && (2 < q.pri || !(s.zone z).quiet)

/-- The call id that comes `k` places after a counter, counting up from 255 to 1 (R167). -/
def idAfter (counter k : Nat) : Nat := (counter - 1 + k) % 255 + 1

/-- The first id at or after the counter that no call of the table holds (R167). -/
def RouterBlock.freeId (b : RouterBlock) : Nat :=
  ((List.range 255).map (idAfter b.nextId)).find? (fun id => b.calls.all fun c => c.id ≠ id) |>.getD b.nextId

/-- Of two WAITING calls, whether the first is displaced before the second: lower priority, or the later admission (R169). -/
def displacedFirst (a b : Call) : Bool :=
  a.req.pri < b.req.pri || (a.req.pri = b.req.pri && b.stamp ≤ a.stamp)

/-- The WAITING call of the lowest priority with the latest admission stamp (R169). -/
def RouterBlock.lastWaiting (b : RouterBlock) : Option Call :=
  (b.calls.filter fun c => c.grant.isNone).foldl
    (fun best c =>
      match best with
      | none => some c
      | some d => if displacedFirst d c then some d else some c) none

/-- Room for a request of a priority: a free place, the call it displaces, or none (R168, R169). -/
inductive Room where
  | free
  | displacing (c : Call)
  | full

def RouterBlock.room (b : RouterBlock) (pri : Nat) : Room :=
  if b.calls.length < Config.maxCalls then .free
  else
    match b.lastWaiting with
    | some c => if c.req.pri < pri then .displacing c else .full
    | none => .full

/-- A request with its zone set goes into the table as a WAITING call with the next id and admission stamp (R168). -/
def State.enterCall (s : State) (q : CallRequest) (zones : List ZoneId) (line : Option LineId) : State :=
  let c : Call := { id := s.router.freeId, req := q, zones := zones, stamp := s.router.admitStamp,
                    admittedAt := s.now, grant := none, line := line }
  let s := s.onRouter fun b =>
    { b with calls := insertCall c b.calls, nextId := idAfter c.id 1, admitStamp := b.admitStamp + 1 }
  s.raiseCall c .waiting none none none "admitted"

/-- A checked request is submitted for admission: refused with NOZONES or QUEUEFULL, or admitted, which gives its id and
the state when the walks it set going have finished (R165 steps 5 and 6, R168, R169). -/
def State.submit (s : State) (q : CallRequest) (line : Option LineId) : Except ErrCode (Nat × State) :=
  let zones := s.resolve q
  if zones.isEmpty then .error .noZones
  else
    match s.router.room q.pri with
    | .full => .error .queueFull
    | .free => .ok (s.router.freeId, (s.enterCall q zones line).walk)
    | .displacing c =>
      let id := (s.dropCall c.id).router.freeId
      let s := s.closeCall c .displaced (some id)
      .ok (id, (s.enterCall q zones line).walk)

/-- The start line of a call that a press of a line admits: the line, for a paging source (R178). -/
def startLine (q : CallRequest) (n : LineId) : Option LineId :=
  match q.src with
  | .page _ => some n
  | .sound _ => none

/-- The release event of a line ends the call whose start line it is, or finds none (R178). -/
def State.releaseLine (s : State) (n : LineId) : State :=
  match s.router.calls.find? fun c => c.line = some n with
  | none => s
  | some c => s.endCall c .released

/-- The state of a call as a reply gives it: one that has left the table has ended (R168). -/
def State.callStateOf (s : State) (id : Nat) : CallState :=
  match s.callAt id with
  | none => .ended
  | some c => c.state

/-! ## Readers that report to the router (R131, R142) -/

/-- The sample step of one reader in a frame; a call player whose sound ends tells the router (R129, R131, R174). -/
def State.readerFrame (s : State) (r : ReaderId) : State :=
  let d := s.reader r
  let s := s.sampleStep r
  match readerKind r with
  | .inl _ => s
  | .inr p => if d.state ≠ .idle ∧ (s.reader r).state = .idle then s.playerReports p .finished else s

/-- A slot of a reader has failed; a call player that enters FAULTED tells the router, which ends its call and asks the
player to stop (R140, R142, R174). -/
def State.slotFailed (s : State) (r : ReaderId) (i : RingSlot) : State :=
  let s := s.failSlot r i
  match readerKind r with
  | .inl _ => s
  | .inr p => if (s.reader r).state = .faulted then s.playerReports p .fault else s

end Sys2Proof.Machine
end

