-- ==== Sys2Proof/Machine/EngineOps.lean ====
section
/-! DEFINITION. The shared operations of the cue engine (06_the_cue_engine.md): priming of the standby cue, STANDBY_READY,
firing, retirement, chains, halt, resume and stop all; and the end of an operation, where what it called for is settled. -/

namespace Sys2Proof.Machine

open Sys2Proof

/-! ## Neighbours in the cue list (R84) -/

/-- The next cue after a number, or END. The list stands in ascending order. -/
def State.cueAfter (s : State) (n : Nat) : Option Nat := (s.cues.find? fun c => n < c.number).map (·.number)

/-- The cue before a number, or none. -/
def State.cueBefore (s : State) (n : Nat) : Option Nat := (s.cues.filter fun c => c.number < n).getLast?.map (·.number)

def State.firstCue (s : State) : Option Nat := s.cues.head?.map (·.number)
def State.lastCue (s : State) : Option Nat := s.cues.getLast?.map (·.number)

/-! ## Priming (R117) -/

/-- Whether a voice is PRIMING or PRIMED. -/
def Reader.isPriming (r : Reader) : Bool := r.state = .priming ∨ r.state = .primed

/-- Whether a PLAY action of the standby cue names a voice with the sound it is priming (R117). -/
def State.primingWanted (s : State) (v : VoiceId) : Bool :=
  s.standbyPlays.any fun e => e.1 = v ∧ some e.2 = (s.voice v).soundId

/-- The first half of an evaluation on one voice: a priming that does not match is released (R117). -/
def State.releaseUnwanted (s : State) (v : VoiceId) : State :=
  if (s.voice v).isPriming && !s.primingWanted v then s.enterIdle (voiceReader v) "released" else s

/-- The second half on one PLAY action: an IDLE voice is asked to prime (R117). -/
def State.primeWanted (s : State) (e : VoiceId × SoundId) : State :=
  if (s.voice e.1).state = .idle then s.prime e.1 e.2 else s

/-- The engine evaluates the priming of the standby cue. The voices that no action wants are released by ascending voice number, and
those to be primed are asked in the order of the action list, which gives their priming stamps (R96, R117; DESIGN CHOICE,
log 36). -/
def State.evaluatePriming (s : State) : State :=
  let s := (List.finRange 24).foldl State.releaseUnwanted s
  (s.standbyPlays.foldl State.primeWanted s).onEngine fun b => { b with evalDue := false }

/-! ## The end of an operation -/

/-- STANDBY_READY is settled. The CUE report the operation raised last is a snapshot at its own raising, and carries in
`ready=` the value the operation leaves; where the operation raised none, a change of the value raises the CUE report with event
`ready` (R118, R119). -/
def State.settleReady (s : State) : State :=
  let ready := s.standbyReady
  let s :=
    match s.engine.opEvent with
    | some r => if r.ready = ready then s else s.raise .cue (r.text ready)
    | none =>
      if ready = s.engine.readyShown then s else s.raiseCue { name := "ready", cue := s.engine.standby }
  s.onEngine fun b => { b with readyShown := ready, opEvent := none }

/-- The end of an operation: a priming evaluation it called for is made (R117), and STANDBY_READY is settled (R118). -/
def State.finish (s : State) : State :=
  (if s.engine.evalDue then s.evaluatePriming else s).settleReady

/-! ## The standby position (R101) -/

/-- A move of the standby position: one that changes it leads to a priming evaluation and then the `standby` event (R101; their
order is a DESIGN CHOICE, log 40). -/
def State.moveStandby (s : State) (n : Option Nat) : State :=
  if s.engine.standby = n then s
  else ((s.onEngine fun b => { b with standby := n }).evaluatePriming).raiseCue { name := "standby", cue := n }

/-! ## Firing (R103 to R107) -/

/-- The counts of skipped and unanswered actions of a firing (R119). -/
structure FireCounts where
  locked : Nat := 0
  claimed : Nat := 0
  nocall : Nat := 0

/-- Whether a bus is a locked foldback bus (R149). -/
def State.lockedBus (s : State) : Bus → Bool
  | .fb k => (s.bus k).lock
  | _ => false

/-- A skip by a lock is counted on its bus (R149). -/
def State.countSkip (s : State) : Bus → State
  | .fb k => s.onBus k fun b => { b with skips := bump b.skips }
  | _ => s

/-- A LEVEL action applied at firing, by the first case of R104 that holds. -/
def State.fireLevel (s : State) (n : FireCounts) (slot : InstSlot) (row : Row) (bus : Bus) (code : LevelCode)
    (ms : Nat) : State × FireCounts :=
  if s.lockedBus bus then (s.countSkip bus, { n with locked := n.locked + 1 })
  else if s.claimedRow row then (s, { n with claimed := n.claimed + 1 })
  else if ms = 0 ∨ s.xpt row bus = code then (s.snapLevel (.xpt row bus) code, n)
  else (s.requestFade (.xpt row bus) code ms (some slot) false, n)

/-- A CALL action submits its preset; one that submits nothing or is refused is counted (R107, R180). -/
def State.fireCall (s : State) (n : FireCounts) (k : PresetId) : State × FireCounts :=
  match s.router.presets.get k with
  | none => (s, { n with nocall := n.nocall + 1 })
  | some q =>
    match s.submit q none with
    | .error _ => (s, { n with nocall := n.nocall + 1 })
    | .ok (_, s') => (s', n)

/-- One action of a firing (R104 to R107). -/
def State.fireAction (slot : InstSlot) (acc : State × FireCounts) (a : Action) : State × FireCounts :=
  let (s, n) := acc
  match a with
  | .level row bus code ms => s.fireLevel n slot row bus code ms
  | .play v snd fadeIn =>
    match s.soundRec snd with
    | none => (s, n)
    | some d => (s.play v snd d fadeIn (some slot), n)
  | .stop v ms => (s.stopVoice v ms (some slot), n)
  | .call k => s.fireCall n k
  | .line l on => (s.onLine l fun r => { r with cueLine := on }, n)

/-- The voices an instance started that are still STARTING lose their start owner (R110). -/
def State.disownStarts (s : State) (slot : InstSlot) : State :=
  s.onFetch fun b =>
    { b with readers := b.readers.map fun r => if r.owner = some slot then { r with owner := none } else r }

/-- The oldest of eight instances is retired to make room for a ninth (R110). -/
def State.retire (s : State) (i : Inst) : State :=
  ((((s.removeInst i.slot).disownFades i.slot).disownStarts i.slot).raiseCue
    { name := "retired", cue := some i.cue, slot := some i.slot, extra := " out=" ++ natText i.count }).endLink i

/-- Step 1 of a firing: with eight instances in the table, the oldest is retired (R103). -/
def State.makeRoom (s : State) : State :=
  match s.engine.insts with
  | i :: _ => if Config.maxInstances ≤ s.engine.insts.length then s.retire i else s
  | [] => s

/-- Step 2 of a firing: a pending chain to the cue fired is cancelled (R113). A chain whose expiry fires the cue is no longer
pending here (DEDUCED, log 44). -/
def State.cancelChain (s : State) (n : Nat) : State :=
  match s.engine.chain with
  | none => s
  | some c =>
    if c.target = n then
      (s.onEngine fun b => { b with chain := none }).raiseCue { name := "chaincancel", cue := some n }
    else s

/-- The lowest-numbered free slot of the instance table (R100). -/
def EngineBlock.freeSlot (b : EngineBlock) : InstSlot :=
  ((pick fun slot => b.insts.all fun i => i.slot ≠ slot).head?).getD 0

/-- The END link of a cue, as an instance keeps it (R100). -/
def Cue.endLink (c : Cue) : Option Nat :=
  match c.link with
  | .finish ms => some ms
  | _ => none

/-- Steps 3 and 4 of a firing: the new instance, the last fired cue, the standby position and the fired count (R103). -/
def State.openInst (s : State) (c : Cue) : State :=
  let next := s.cueAfter c.number
  s.onEngine fun b =>
    { b with
      insts := b.insts ++ [{ slot := b.freeSlot, cue := c.number, stamp := b.nextStamp, count := 0, chainTarget := next,
                             endLink := c.endLink }]
      nextStamp := b.nextStamp + 1, lastFired := some c.number, standby := next, fired := bump b.fired,
      firing := some b.freeSlot }

/-- Step 6 of a firing: a START link sets a chain to the standby cue (R103, R111). -/
def State.startLink (s : State) (c : Cue) : State :=
  match c.link, s.engine.standby with
  | .start ms, some n => s.setChain { target := n, ms := ms, elapsed := 0, fromStart := true, setBy := c.number }
  | _, _ => s

/-- Step 8 of a firing: the `fired` report, and the completion of an instance with nothing outstanding (R103, R109). -/
def State.closeFiring (s : State) (c : Cue) (slot : InstSlot) (n : FireCounts) : State × Nat :=
  let count := ((s.instAt slot).map (·.count)).getD 0
  let s := s.raiseCue
    { name := "fired", cue := some c.number, slot := some slot,
      extra := " out=" ++ natText count ++ " locked=" ++ natText n.locked ++ " claimed=" ++ natText n.claimed
        ++ " nocall=" ++ natText n.nocall }
  let s := s.onEngine fun b => { b with firing := none }
  match s.instAt slot with
  | some i => if i.count = 0 then (s.completeInst i true, count) else (s, count)
  | none => (s, count)

/-- A firing of a cue: the steps of R103 in order. It answers the instance's slot and its count when its actions have
been applied. -/
def State.fire (s : State) (c : Cue) : State × InstSlot × Nat :=
  let s := s.makeRoom.cancelChain c.number
  let slot := s.engine.freeSlot
  let (s, n) := c.actions.foldl (State.fireAction slot) (s.openInst c, {})
  let (s, count) := (s.startLink c).evaluatePriming.closeFiring c slot n
  (s, slot, count)

/-! ## GO, chains, halt and stop all (R102, R112, R114, R115) -/

/-- The cue a GO fires, or its refusal, from step 3 of R102 on. -/
def State.goCue (s : State) (n : Option Nat) : Except ErrCode Cue :=
  if s.engine.halted then .error .halted
  else
    match n with
    | some n =>
      match s.cueAt n with
      | some c => .ok c
      | none => .error .noSuch
    | none =>
      match s.standbyCue with
      | some c => .ok c
      | none => .error .atEnd

/-- Whether a chain's time has run out (R112). -/
def Chain.due (c : Chain) : Bool := Config.framesPerMs * c.ms ≤ c.elapsed

/-- A pending chain's expiry while RUNNING: it is removed, and fires its target if that is standby (R112). It is gone before the
firing begins, so step 2 of the firing finds no chain to cancel and raises no `chaincancel` for it (R103, R113; DEDUCED, log 44). -/
def State.expireChain (s : State) : State :=
  match s.engine.chain with
  | none => s
  | some c =>
    if s.engine.halted || !c.due then s
    else
      let s := s.onEngine fun b => { b with chain := none }
      match (if s.engine.standby = some c.target then s.standbyCue else none) with
      | some cue => (s.fire cue).1
      | none => s.raiseCue { name := "chainvoid", cue := some c.target }

/-- A chain set with a time of 0 is pending for no time: while RUNNING its expiry is the event that follows the operation which
set it, or the RESUME (R111). -/
def State.promptChain (s : State) : Bool := s.engine.chain.any (fun c => c.ms = 0) && !s.engine.halted

/-- At most so many expiries of chains with a time of 0, each an operation of its own (R111). -/
def State.takePrompt : Nat → State → State
  | 0, s => s
  | n + 1, s => if s.promptChain then s.expireChain.finish.takePrompt n else s

/-- The expiries of chains with a time of 0, which are taken before any other line or event. Each that fires moves the standby
position on along the cue list, so there are no more of them than cues, and one that is void (R111, R112). -/
def State.takePromptChains (s : State) : State := s.takePrompt (s.cues.length + 1)

/-- One frame of the chain: it counts while RUNNING, up to its time (R112). -/
def State.chainFrame (s : State) : State :=
  s.onEngine fun b =>
    { b with chain := b.chain.map fun c =>
        if b.halted || c.due then c else { c with elapsed := c.elapsed + 1 } }

/-- HALT and RESUME: a change of the run state raises the CUE report (R114). -/
def State.setRun (s : State) (halted : Bool) : State :=
  if s.engine.halted = halted then s
  else (s.onEngine fun b => { b with halted := halted }).raiseCue
    { name := if halted then "halted" else "resumed" }

/-- The voices STOP ALL reaches: in STARTING, and in PLAYING or STALLED (R115). -/
def State.startingVoices (s : State) : List VoiceId := pick fun v => (s.voice v).state = .starting
def State.soundingVoices (s : State) : List VoiceId :=
  pick fun v => (s.voice v).state = .playing ∨ (s.voice v).state = .stalled

/-- STOP ALL over a time (R115). Every instance leaves the table first, so that the endings of steps 1 to 3 tell none. The voices
of each of steps 1 and 2 are reached by ascending voice number, and so the last free fade records go to the lower numbers (R37,
R115; DESIGN CHOICE, log 29). -/
def State.stopAll (s : State) (ms : Nat) : State :=
  let retired := s.engine.insts.length
  let starting := s.startingVoices
  let sounding := s.soundingVoices
  let s := s.onEngine fun b => { b with insts := [] }
  let s := starting.foldl (fun s v => s.enterIdle (voiceReader v) "stopped") s
  let s := sounding.foldl (fun s v => s.stopVoice v ms none) s
  let s := s.onFades fun b =>
    { b with pool := (b.pool.filter fun f => !f.ownedCrosspoint).map fun f => { f with owner := none } }
  let s := s.onEngine fun b => { b with chain := none, halted := false }
  s.raiseCue { name := "stopall", extra := " retired=" ++ natText retired }

end Sys2Proof.Machine
end

