-- ==== Sys2Proof/Machine/CastOps.lean ====
section
/-! DEFINITION. The shared operations of the cast table (03_the_cast_table.md): uses of inputs, resolution of role rows,
crossfades, changeovers and the change of a role's holder. -/

namespace Sys2Proof.Machine

open Sys2Proof

/-! ## Uses of inputs (R45) -/

/-- The use of an input, as the matrix reads it (R10, R45). -/
inductive Use where
  | free
  | claimed (p : PerfId) (place : Place)
  | paging (n : PageId)
  | talkback
  deriving DecidableEq, Repr

/-- The paging input an input is assigned as, if any (R45). -/
def State.pageOf (s : State) (i : InputId) : Option PageId := (pick fun n => s.cast.pages.get n = some i).head?

def State.use (s : State) (i : InputId) : Use :=
  match s.claim i with
  | some (p, place) => .claimed p place
  | none =>
    match s.pageOf i with
    | some n => .paging n
    | none => if s.cast.talkin = some i then .talkback else .free

/-! ## Resolution and crossfades (R54 to R58) -/

/-- The source of a role row: its holder's active input at the holder's trim, or silence (R12, R54). -/
def State.rowSource (s : State) (r : RoleId) : Option (InputId × LevelCode) :=
  match (s.role r).holder with
  | none => none
  | some p => ((s.perf p).active).map fun i => (i, (s.perf p).trim)

/-- A crossfade begins on a role row, or one running restarts, from the source the row had just before the change (R56, R57). -/
def State.beginCrossfade (s : State) (r : RoleId) (old : Option (InputId × LevelCode)) : State :=
  s.onRole r fun x => { x with xfade := some { old := old, k := 0 } }

/-- The cast table makes an input a performer's active input: at once, with a crossfade on the role the performer holds (R58). -/
def State.changeover (s : State) (p : PerfId) (i : InputId) : State :=
  if (s.perf p).active = some i then s
  else
    let changed := s.onPerf p fun x => { x with active := some i }
    match (s.perf p).role with
    | none => changed
    | some r => changed.beginCrossfade r (s.rowSource r)

/-! ## The PERF report (R80) -/

def perfStateText : PerfState → String
  | .main => "main"
  | .spare => "spare"
  | .alarm => "alarm"
  | .manual => "manual"

/-- The PERF report of a performer (R80). -/
def State.raisePerf (s : State) (p : PerfId) (event : String) : State :=
  let x := s.perf p
  s.raise (.perf p) ("!PERF " ++ perfText p ++ " state=" ++ perfStateText x.state ++ " active=" ++ optText inText x.active
    ++ " compromised=" ++ yesNo x.compromised ++ " role=" ++ optText roleText x.role ++ " event=" ++ event)

/-! ## Casting (R53) -/

/-- An accepted CAST: where the holder changes, a crossfade begins on the row, and the PERF report of each performer whose
role held changed is raised, the outgoing holder's first (R53; DESIGN CHOICE, log 31). -/
def State.castRole (s : State) (r : RoleId) (p : Option PerfId) : State :=
  let before := (s.role r).holder
  if before = p then s
  else
    let old := s.rowSource r
    let s := match before with
      | none => s
      | some q => s.onPerf q fun x => { x with role := none }
    let s := match p with
      | none => s
      | some q => s.onPerf q fun x => { x with role := some r }
    let s := (s.onRole r fun x => { x with holder := p }).beginCrossfade r old
    let s := match before with
      | none => s
      | some q => s.raisePerf q "cast"
    match p with
    | none => s
    | some q => s.raisePerf q "cast"

/-! ## A performer's inputs (R43, R48) -/

/-- The claimed inputs of a performer, with their places: main, spare 1, spare 2 (R43). -/
def Perf.inputs (x : Perf) : List (InputId × Place) :=
  (match x.main with
    | none => []
    | some i => [(i, Place.main)]) ++ x.spares.zip [.spare1, .spare2]

/-- The place of a performer's active input (R74). -/
def Perf.activePlace (x : Perf) : Option Place :=
  x.active.bind fun i => (x.inputs.find? fun e => e.1 = i).map (·.2)

/-- The state that follows from the place of the active input: MAIN, or SPARE on a spare (R74, R79). -/
def placeState : Option Place → PerfState
  | some .spare1 => .spare
  | some .spare2 => .spare
  | _ => .main

/-- The crosspoints of an input row: one for each column (R15). -/
def rowTargets (i : InputId) : List Target := allBuses.map fun b => .xpt (.inp i) b

/-- A claim of an input silences its row: every crosspoint OFF, every record on them removed, each owner counting it
completed (R15, R36, R46), in the order of the columns (DESIGN CHOICE, log 30). -/
def State.silenceRow (s : State) (i : InputId) : State :=
  (rowTargets i).foldl (fun s t => s.snapLevel t offCode) s

end Sys2Proof.Machine
end

