-- ==== Sys2Proof/Machine/FoldbackOps.lean ====
section
/-! DEFINITION. The shared operations of the foldback section (08_foldback.md): the guard and its windows, talk and the
talkback duck ramps. -/

namespace Sys2Proof.Machine

open Sys2Proof

/-! ## The guard (R150 to R153) -/

def guardText : Guard → String
  | .off => "off"
  | .armed => "armed"
  | .metering => "metering"

/-- The GUARD report of a bus for an event, with the episode it carries (R153). -/
def State.raiseGuard (s : State) (k : FbId) (event : String) (episode : LevelCode × Nat) (peak : Option LevelCode) :
    State :=
  let b := s.bus k
  s.raise (.guard k) ("!GUARD " ++ fbText k ++ " state=" ++ (if event = "reduce" then "reducing" else "clear") ++ " red="
    ++ levelText b.red ++ " deepest=" ++ levelText episode.1 ++ " windows=" ++ natText episode.2 ++ " ceiling="
    ++ levelText b.ceiling ++ " peak=" ++ optText levelText peak ++ " event=" ++ event)

/-- The guard update: the new reduction from P, the ceiling and the reduction as it stands (R152). -/
def guardUpdate (p ceiling red : LevelCode) : LevelCode :=
  if ceiling < p + red then max (-80) (ceiling - p)
  else if red < 0 ∧ p + red + 1 ≤ ceiling then red + 1
  else red

/-- The episode after an update that leaves the reduction at `red` (R153). -/
def nextEpisode (episode : Option (LevelCode × Nat)) (red : LevelCode) : Option (LevelCode × Nat) :=
  if red < 0 then
    match episode with
    | none => some (red, 1)
    | some (deepest, windows) => some (min deepest red, bump windows)
  else none

/-- The end of a window on a bus record (R150, R152). -/
def FbBus.endWindow (b : FbBus) : FbBus :=
  match b.guard with
  | .off => b
  | .armed => { b with guard := .metering, peak := 0 }
  | .metering =>
    let p := peakCode b.peak
    let red := guardUpdate p b.ceiling b.red
    { b with red := red, lastP := some p, peak := 0, episode := nextEpisode b.episode red }

/-- The end of a window on one bus, with the GUARD report where the reduction leaves 0 or returns to it (R152, R153). -/
def State.endWindow (s : State) (k : FbId) : State :=
  let before := s.bus k
  let s := s.onBus k FbBus.endWindow
  let after := s.bus k
  if before.red = 0 ∧ after.red < 0 then s.raiseGuard k "reduce" (after.episode.getD (0, 0)) after.lastP
  else if before.red < 0 ∧ after.red = 0 then s.raiseGuard k "clear" (before.episode.getD (0, 0)) after.lastP
  else s

/-- The end of the guard window on the sixteen buses, which share its boundaries (R150), by ascending bus number, which is the order
of their GUARD reports (R153; DESIGN CHOICE, log 41). -/
def State.endWindows (s : State) : State :=
  ((List.finRange 16).foldl State.endWindow s).onFoldback fun b => { b with window := 0 }

/-- A bus whose guard is turned off (R150). -/
def FbBus.guardOff (b : FbBus) : FbBus :=
  { b with guard := .off, red := 0, peak := 0, lastP := none, episode := none }

/-- `guard=on` and `guard=off` (R150). -/
def State.setGuard (s : State) (k : FbId) (on : Bool) : State :=
  let before := s.bus k
  if on then
    if before.guard = .off then s.onBus k fun b => { b with guard := .armed } else s
  else
    let s := s.onBus k FbBus.guardOff
    if before.red < 0 then s.raiseGuard k "off" (before.episode.getD (0, 0)) none else s

/-! ## Talk and its ducks (R155, R156) -/

/-- Talk is active (R155). -/
def FoldbackBlock.talkActive (b : FoldbackBlock) : Bool := b.talkCommand || b.heldLines.toList.any id

/-- The end of a ramp while talk is active (R156). -/
def FoldbackBlock.ducked (b : FoldbackBlock) : LevelCode := -(b.talkDepth : Int)

/-- A ramp of a bus's duck offset toward an end (R156). -/
def FbBus.rampTo (goal : LevelCode) (ms : Nat) (b : FbBus) : FbBus := { b with ramp := beginRamp b.duck goal ms }

/-- The ramp of every member bus (R156). -/
def FoldbackBlock.rampMembers (b : FoldbackBlock) (goal : LevelCode) (ms : Nat) : FoldbackBlock :=
  { b with buses := b.buses.map fun x => if x.member then x.rampTo goal ms else x }

/-- The ramps a change of talk begins, `was` the talk before it (R155, R156). -/
def FoldbackBlock.afterTalk (was : Bool) (b : FoldbackBlock) : FoldbackBlock :=
  if b.talkActive = was then b
  else if was then b.rampMembers 0 300
  else b.rampMembers b.ducked 50

/-- The talk command state is set (R155). -/
def FoldbackBlock.setTalk (b : FoldbackBlock) (on : Bool) : FoldbackBlock :=
  { b with talkCommand := on }.afterTalk b.talkActive

/-- A line joins or leaves the set of held TALK lines (R155). -/
def FoldbackBlock.holdLine (b : FoldbackBlock) (n : LineId) (held : Bool) : FoldbackBlock :=
  { b with heldLines := put b.heldLines n held }.afterTalk b.talkActive

/-- A new talkback depth: while talk is active a change of it moves every member bus (R156). -/
def FoldbackBlock.setDepth (b : FoldbackBlock) (depth : Nat) : FoldbackBlock :=
  if depth = b.talkDepth then b
  else
    let b := { b with talkDepth := depth }
    if b.talkActive then b.rampMembers b.ducked 50 else b

/-- One bus under a new member set (R156). -/
def FbBus.setMember (active : Bool) (ducked : LevelCode) (member : Bool) (x : FbBus) : FbBus :=
  if member = x.member then x
  else
    let y := { x with member := member }
    if member then (if active then y.rampTo ducked 50 else y) else y.rampTo 0 300

/-- A new member set (R156). -/
def FoldbackBlock.setMembers (b : FoldbackBlock) (members : FbId → Bool) : FoldbackBlock :=
  { b with buses := Vector.ofFn fun k => (b.buses.get k).setMember b.talkActive b.ducked (members k) }

end Sys2Proof.Machine
end

