-- ==== Sys2Proof/Machine/AudioOps.lean ====
section
/-! DEFINITION. One frame of the audio path, from the words on the input slots to the 48 output samples, read from the state
as it stands when the frame's computation begins (R8 to R18, R55, R157, R158, R163). -/

namespace Sys2Proof.Machine

open Sys2Proof

/-! ## Row signals (R10 to R13, R55) -/

/-- The sample received on an input in a frame (R205). -/
def received (slots : Vector Word32 64) (i : InputId) : Sample := sampleOf (slots.get i)

/-- A sample scaled by the gain of a level code and saturated. -/
def gained (v : Sample) (c : LevelCode) : Sample := saturate (scale v (gain c))

/-- The trimmed sample of an input (R11). -/
def State.trimmed (s : State) (slots : Vector Word32 64) (i : InputId) : Sample :=
  gained (received slots i) (s.matrix.trims.get i)

/-- The row signal of an input row: its trimmed sample while the input is free (R11). -/
def State.inputSignal (s : State) (slots : Vector Word32 64) (i : InputId) : Sample :=
  if s.use i = .free then s.trimmed slots i else 0

/-- A source of a role row: an input at a trim, or silence (R12, R55). -/
def sourceSignal (slots : Vector Word32 64) : Option (InputId × LevelCode) → Sample
  | none => 0
  | some (i, trim) => gained (received slots i) trim

/-- The blend of a crossfade in its frame `k` (R55). -/
def blend (old new : Sample) (k : Nat) : Sample :=
  if Config.xfadeFrames ≤ k then new else (old * (240 - (k : Int)) + new * k).tdiv 240

/-- The row signal of a role row; the frame computed is the next of a crossfade in progress (R12, R55). -/
def State.roleSignal (s : State) (slots : Vector Word32 64) (r : RoleId) : Sample :=
  let new := sourceSignal slots (s.rowSource r)
  match (s.role r).xfade with
  | none => new
  | some x => blend (sourceSignal slots x.old) new (x.k + 1)

/-- The row signal of a voice row (R13). -/
def State.voiceSignal (s : State) (v : VoiceId) : Sample := gained (s.voice v).output (s.voice v).level

/-- The row signals in the order of the row positions (R9). -/
def State.rowSignals (s : State) (slots : Vector Word32 64) : List Sample :=
  (List.finRange 64).map (s.inputSignal slots) ++
    ((List.finRange 40).map (s.roleSignal slots) ++ (List.finRange 24).map s.voiceSignal)

/-! ## Bus sums (R16) -/

/-- The accumulator of a column: row signals weighed by the crosspoint gains (R16). -/
def State.accumulator (s : State) (rows : List Sample) (c : ColPos) : Int :=
  ((List.finRange 128).zipWith (fun p v => v * gain ((s.matrix.xpts.get p).get c)) rows).sum

/-- The pre-output value b of a column (R16). -/
def State.busValue (s : State) (rows : List Sample) (c : ColPos) : Sample := (s.accumulator rows c + 8192) / 16384

/-! ## Foldback outputs (R157, R158) -/

/-- The talkback audio of a foldback bus (R157). -/
def State.talkAudio (s : State) (slots : Vector Word32 64) (k : FbId) : Sample :=
  if s.foldback.talkActive && (s.bus k).member then
    match s.cast.talkin with
    | some i => s.trimmed slots i
    | none => 0
  else 0

/-- The pre-output value y of a foldback bus (R158). -/
def State.foldbackValue (s : State) (k : FbId) (b t : Sample) : Sample :=
  scale b (gain (levelAdd (s.bus k).red (s.bus k).duck)) + scale t (gain s.foldback.talkLevel)

/-! ## Zone outputs (R163, R173) -/

/-- The relay gain code of a zone (R163). -/
def Zone.relayCode (z : Zone) : LevelCode := if z.relay then levelAdd z.level z.duck else offCode

/-- The audio of a LIVE call in a frame (R173). -/
def State.callAudio (s : State) (slots : Vector Word32 64) (c : Call) : Sample :=
  match c.req.src with
  | .page n =>
    match s.cast.pages.get n with
    | some i => s.trimmed slots i
    | none => 0
  | .sound _ =>
    match c.player with
    | some p => (s.reader (playerReader p)).output
    | none => 0

/-- The call a zone is held by. -/
def State.holdingCall (s : State) (z : ZoneId) : Option Call := (s.zone z).holding.bind s.callAt

/-- The pre-output value of a zone from the relay value (R163). -/
def State.zoneValue (s : State) (slots : Vector Word32 64) (relay : Sample) (z : ZoneId) : Sample :=
  let r := scale relay (gain (s.zone z).relayCode)
  match s.holdingCall z with
  | none => r
  | some c => r + scale (s.callAudio slots c) (gain (levelAdd c.req.level (s.zone z).trim))

/-! ## The frame's values -/

/-- What a frame computes: the values the clip records take, in column order, the values of the foldback columns the
guard meters, and the 48 output samples (R16 to R20). -/
structure Audio where
  clip : List Sample
  foldback : List Sample
  outputs : List Sample

/-- One frame of the audio path (R11 to R18, R158, R163). -/
def State.audio (s : State) (slots : Vector Word32 64) : Audio :=
  let rows := s.rowSignals slots
  let house := (List.finRange 8).map fun h => s.busValue rows (colPos (.house h))
  let fb := (List.finRange 16).map fun k => s.busValue rows (colPos (.fb k))
  let relay := s.busValue rows (colPos .relay)
  let y := (List.finRange 16).zipWith (fun k b => s.foldbackValue k b (s.talkAudio slots k)) fb
  let zones := (List.finRange 24).map (s.zoneValue slots (saturate relay))
  { clip := house ++ (y ++ [relay]), foldback := fb, outputs := (house ++ (y ++ zones)).map saturate }

end Sys2Proof.Machine
end

