-- ==== Sys2Proof/Machine/LineOps.lean ====
section
/-! DEFINITION. The shared operations of the logic lines (10_logic_lines.md): functions and their words, the conditions of
output lines, press and release events, refusals, and the setting of a line. -/

namespace Sys2Proof.Machine

open Sys2Proof

/-- The function of a line as LINESET writes it (R183). -/
def fnText : LineFn → String
  | .none => "none"
  | .go => "go"
  | .halt => "halt"
  | .resume => "resume"
  | .stopAll => "stopall"
  | .preset k => objText "preset" k
  | .talk => "talk"
  | .cueActive => "cue_active"
  | .standbyReady => "standby_ready"
  | .halted => "halted"
  | .micAlert => "mic_alert"
  | .callLive z => objText "call_live" z
  | .callWaiting => "call_waiting"
  | .voiceFault => "voice_fault"
  | .cueLine => "cue_line"

/-- The condition an output line follows; absent for an input line (R188). -/
def State.condition (s : State) (r : LineRec) : Option Bool :=
  match r.fn with
  | .none | .go | .halt | .resume | .stopAll | .preset _ | .talk => none
  | .cueActive => some s.cueActive
  | .standbyReady => some s.standbyReady
  | .halted => some s.engine.halted
  | .micAlert => some s.micAlert
  | .callLive z => some (s.callLive z)
  | .callWaiting => some s.callWaiting
  | .voiceFault => some s.voiceFault
  | .cueLine => some r.cueLine

/-- Whether a function is an output function (R183). -/
def LineFn.isOutput : LineFn → Bool
  | .none | .go | .halt | .resume | .stopAll | .preset _ | .talk => false
  | .cueActive | .standbyReady | .halted | .micAlert | .callLive _ | .callWaiting | .voiceFault | .cueLine => true

/-- The `state=` of a line: an input line's debounced state, or whether an output line's condition is true (R190). -/
def State.lineState (s : State) (n : LineId) : Bool :=
  let r := s.line n
  match s.condition r with
  | some on => on
  | none => r.debounced.getD false

def activeText (b : Bool) : String := if b then "active" else "inactive"

/-! ## Events of a line (R186, R187) -/

/-- A press its target does not carry out: it is counted, and the LINE report of the line raised (R187). -/
def State.refusePress (s : State) (n : LineId) (why : String) : State :=
  let s := s.onLine n fun r => { r with refused := bump r.refused }
  s.raise (.line n) ("!LINE " ++ lineText n ++ " fn=" ++ fnText (s.line n).fn ++ " event=refused why=" ++ why
    ++ " refused=" ++ natText (s.line n).refused)

/-- A GO press: the standby cue fires, or the CUE report is raised with `ignored` and then the press refused (R116, R187; the order of
the two reports is a DESIGN CHOICE, log 40). -/
def State.pressGo (s : State) (n : LineId) : State :=
  match s.goCue none with
  | .ok c => (s.fire c).1
  | .error e =>
    let why := if e = .halted then "halted" else "end"
    (s.raiseCue { name := "ignored", extra := " why=" ++ why }).refusePress n why

/-- A press of a PRESET line fires the preset, its call taking the line as start line for a paging source (R178, R180). -/
def State.pressPreset (s : State) (n : LineId) (k : PresetId) : State :=
  match s.router.presets.get k with
  | none => s.refusePress n "empty"
  | some q =>
    match s.submit q (startLine q n) with
    | .ok (_, s) => s
    | .error e => s.refusePress n (if e = .noZones then "nozones" else "queuefull")

/-- A press event is passed to the block that the line's function names (R186). -/
def State.press (s : State) (n : LineId) : State :=
  match (s.line n).fn with
  | .go => s.pressGo n
  | .halt => s.setRun true
  | .resume => s.setRun false
  | .stopAll => s.stopAll s.engine.stopAllMs
  | .preset k => s.pressPreset n k
  | .talk => s.onFoldback fun b => b.holdLine n true
  | .none | .cueActive | .standbyReady | .halted | .micAlert | .callLive _ | .callWaiting | .voiceFault | .cueLine => s

/-- A release event is passed for a PRESET and a TALK line (R186). -/
def State.release (s : State) (n : LineId) : State :=
  match (s.line n).fn with
  | .preset _ => s.releaseLine n
  | .talk => s.onFoldback fun b => b.holdLine n false
  | .none | .go | .halt | .resume | .stopAll | .cueActive | .standbyReady | .halted | .micAlert | .callLive _
  | .callWaiting | .voiceFault | .cueLine => s

/-- The level a pin has under a polarity: active or inactive (R185). -/
def pinActive (activeHigh pin : Bool) : Bool := pin = activeHigh

/-- The debounce count of an input line has reached 480 (R185). -/
def LineRec.due (r : LineRec) : Bool := r.debounced.isSome && Config.debounceFrames ≤ r.count

/-- A line's record with its debounced state changed (R185). -/
def LineRec.turn (r : LineRec) : LineRec := { r with debounced := r.debounced.map (!·), count := 0 }

/-- An input line's changed level has held 480 frames: its debounced state changes, and its event is made (R185, R186). -/
def State.debounced (s : State) (n : LineId) : State :=
  let s := s.onLine n LineRec.turn
  if (s.line n).debounced = some true then s.press n else s.release n

/-- One frame of an input line's debounce on the level of its pin (R185). -/
def LineRec.frame (pin : Bool) (r : LineRec) : LineRec :=
  match r.debounced with
  | none => r
  | some d => if pinActive r.activeHigh pin = d then { r with count := 0 } else { r with count := r.count + 1 }

/-! ## Setting a line (R184) -/

/-- A line's record under a new function and polarity, its pin at a level (R184, steps 2 and 3). -/
def LineRec.configure (fn : LineFn) (activeHigh pin : Bool) (r : LineRec) : LineRec :=
  if fn.isOutput then { r with fn := fn, activeHigh := activeHigh, debounced := none, count := 0 }
  else { r with fn := fn, activeHigh := activeHigh, debounced := some (pinActive activeHigh pin), count := 0,
                drive := none }

/-- Step 1: the old input role of a line is ended, as a release of the line (R184). -/
def State.endRole (s : State) (n : LineId) : State := s.release n

/-- An accepted LINESET (R184). -/
def State.setLine (s : State) (n : LineId) (fn : LineFn) (activeHigh : Bool) : State :=
  let r := s.line n
  if r.fn = fn ∧ r.activeHigh = activeHigh then s
  else (s.endRole n).onLine n (LineRec.configure fn activeHigh (s.lines.pins.get n))

end Sys2Proof.Machine
end

