-- ==== Sys2Proof/Machine/LinkOps.lean ====
section
/-! DEFINITION. The shared operations of the control link (11_the_control_link_audio_ports_and_clocking.md): receiving a line,
taking a command and placing its reply, sending, and what an event of the part does about a reset in force. -/

namespace Sys2Proof.Machine

open Sys2Proof

/-! ## Receiving (R193, R194, R201) -/

/-- The LINK report (R201). -/
def State.raiseLink (s : State) (event : String) : State :=
  s.raise .link ("!LINK event=" ++ event ++ " overflow=" ++ natText s.link.overflow ++ " framing="
    ++ natText s.link.framing ++ " long=" ++ natText s.link.long)

/-- An overflow line: it is discarded and counted (R194). -/
def State.overflowLine (s : State) : State :=
  (s.onLink fun b => { b with overflow := bump b.overflow }).raiseLink "overflow"

/-- A line with framing errors is counted (R193). -/
def State.framingLine (s : State) : State :=
  (s.onLink fun b => { b with framing := bump b.framing }).raiseLink "framing"

/-- A line enters the received-line queue, or finds it full (R194). -/
def State.enqueueLine (s : State) (c : Instr) : State :=
  if Config.rxLines ≤ s.link.rxq.length then s.overflowLine
  else s.onLink fun b => { b with rxq := b.rxq ++ [c] }

/-- The LF of a line arrives; `metFull` where one of its characters arrived while the queue held 8 lines. A framing error is
counted on every line that is not empty, an overflow line too (R193, R194). -/
def State.receiveLine (s : State) (chars : List RxChar) (metFull : Bool) : State :=
  let kept := Text.keptChars chars
  if Text.emptyLine kept then s
  else
    let s := if kept.any (·.framing) then s.framingLine else s
    if metFull then s.overflowLine else s.enqueueLine (Text.parseLine (Text.lineChars kept))

/-! ## Taking a command (R195, R197) -/

/-- What a command gives: an error code, or the state it leaves and its reply, written from the state at the end of the
operation. -/
abbrev Answer := Except ErrCode (State × (State → String))

/-- A value that must be there, or a refusal. -/
def need {α : Type} (e : ErrCode) : Option α → Except ErrCode α
  | none => .error e
  | some a => .ok a

/-- A check that must not hold, or a refusal. -/
def refuseIf (b : Bool) (e : ErrCode) : Except ErrCode Unit := if b then .error e else .ok ()

/-- A query's answer: nothing changes. -/
def State.tells (s : State) (text : String) : Answer := .ok (s, fun _ => text)

/-- A changed state, with a reply written from the state the command leaves. -/
def State.replies (s : State) (text : State → String) : Answer := .ok (s, text)

/-- The tag of a reply (R197). -/
def tagText : Tag → String
  | none => ""
  | some n => "@" ++ natText n ++ " "

/-- A reply is placed at the end of the reply queue; the LF that ends it follows as it is sent (R195, R197). -/
def State.placeReply (s : State) (tag : Tag) (text : String) : State :=
  s.onLink fun b => { b with replies := b.replies ++ [tagText tag ++ text] }

/-- The priming evaluation a show reset leaves is an event of its own (R121). -/
def State.showResetPriming (s : State) : State :=
  if s.engine.primeDue then ((s.onEngine fun b => { b with primeDue := false }).evaluatePriming).finish else s

/-- The events of the part's own that follow an operation and come before the next line is taken: the show reset's priming
evaluation (R121), and the expiries of chains with a time of 0 (R111). -/
def State.eventsOwed (s : State) : State := s.showResetPriming.takePromptChains

/-- A taken command is carried out whole, and its reply placed (R195): its tag, and `OK` with the fields of its rule, or `ERR`
with a code (R197). -/
def State.answer (s : State) (tag : Tag) (run : State → Answer) : State :=
  match run s with
  | .error e => s.placeReply tag ("ERR " ++ e.text)
  | .ok (t, text) => let t := t.finish; t.placeReply tag ("OK " ++ text t)

/-- The reply queue has a free place (R195). -/
def State.replyRoom (s : State) : Bool := s.link.replies.length < Config.replyLines

/-- The oldest received line leaves the queue (R195). -/
def State.dropLine (s : State) : State := s.onLink fun b => { b with rxq := b.rxq.tail }

/-- A command line. Where the link holds no line it is taken as it arrives, if the reply queue has a free place, and otherwise
waits; where it is the oldest line the link holds, the link takes that line when the reply queue has a free place; behind
another line it waits in the queue (R194, R195; DESIGN CHOICE, log 3). Before a line is taken the priming evaluation
a show reset left is (R121), and the expiry of a chain with a time of 0 (R111). While a full reset is in force nothing is received (R203). -/
def State.commandLine (s : State) (c : Instr) (carry : State → State) : State :=
  if s.inReset then s
  else
    match s.link.rxq with
    | [] => if s.replyRoom then carry s.eventsOwed else s.enqueueLine c
    | h :: _ =>
      if h = c then (if s.replyRoom then carry s.dropLine.eventsOwed else s)
      else s.enqueueLine c

/-- A command with its arguments: a line malformed for its verb is refused with SYNTAX (R196). -/
def command {α : Type} (c : Instr) (tag : Tag) (a : Args α) (f : α → State → Answer) (s : State) : Outcome :=
  .next (s.commandLine c fun s =>
    s.answer tag fun s =>
      match a with
      | .malformed => .error .syntaxErr
      | .given a => f a s)

/-- A taken line that fails at link level (R193, R196). -/
def State.linkFailure (s : State) (tag : Tag) (why : LinkFail) : State :=
  match why with
  | .long => (s.onLink fun b => { b with long := bump b.long }).placeReply tag ("ERR " ++ ErrCode.long.text)
  | .form => s.placeReply tag ("ERR " ++ ErrCode.syntaxErr.text)
  | .verb => s.placeReply tag ("ERR " ++ ErrCode.unknown.text)

/-! ## Events of the part -/

/-- An event other than a command: while a full reset is in force it has no effect (R203); otherwise its effect, and the end
of the operation (R117, R118). -/
def event (f : State → State) (s : State) : Outcome := .next (if s.inReset then s else (f s).finish)

/-- An event that may find a chain with a time of 0 pending, whose expiry comes before it (R111). -/
def laterEvent (f : State → State) (s : State) : Outcome := event (fun s => f s.takePromptChains) s

/-! ## Sending (R198, R199) -/

/-- The transmitter begins a line, which ends with LF (0A hex): the oldest reply, otherwise the oldest entry of the report set,
which leaves the set (R197, R198, R199). -/
def LinkBlock.beginLine (b : LinkBlock) : LinkBlock :=
  if b.paused then b
  else
    match b.replies, b.reports with
    | r :: rest, _ => { b with replies := rest, sending := some (r ++ "\n") }
    | [], r :: rest => { b with reports := rest, sending := some (r.text ++ "\n") }
    | [], [] => b

end Sys2Proof.Machine
end

