-- ==== Sys2Proof/Machine/MicOps.lean ====
section
/-! DEFINITION. The shared operations of radio microphone supervision (04_radio_microphone_supervision.md): the telemetry
receiver, the effective floor, the health state machine, changeover selection and revert. -/

namespace Sys2Proof.Machine

open Sys2Proof

/-! ## The telemetry receiver (R61 to R63) -/

/-- The cause of a discard in `last=`, in lower case as the part writes its other named values (R63; DESIGN CHOICE, log 34). -/
def discardText : Discard → String
  | .checksum => "checksum"
  | .channel => "channel"
  | .sync => "sync"
  | .incomplete => "partial"

/-- The count fields of the TLM report and of TLM? (R63). -/
def Telemetry.countText (t : Telemetry) : String :=
  "good=" ++ natText t.good ++ " checksum=" ++ natText t.checksum ++ " channel=" ++ natText t.channel ++ " sync="
    ++ natText t.sync ++ " partial=" ++ natText t.incomplete ++ " skipped=" ++ natText t.skipped

def State.onTlm (s : State) (f : Telemetry → Telemetry) : State := s.onMic fun b => { b with tlm := f b.tlm }

/-- A discard: the receiver hunts, the cause is counted and the TLM report raised (R63). -/
def State.discard (s : State) (cause : Discard) : State :=
  let s := s.onTlm fun t =>
    match cause with
    | .checksum => { t with framing := .hunt, checksum := bump t.checksum }
    | .channel => { t with framing := .hunt, channel := bump t.channel }
    | .sync => { t with framing := .hunt, sync := bump t.sync }
    | .incomplete => { t with framing := .hunt, incomplete := bump t.incomplete }
  s.raise .tlm ("!TLM " ++ s.mic.tlm.countText ++ " last=" ++ discardText cause)

/-- The valid record of six bytes, as the supervisor uses it (R61). -/
def recordOf (channel : InputId) (rf batt flags : Byte) : TlmRecord :=
  { channel := channel, rf := min 100 rf.toNat, batt := if batt = 255 then none else some (min 100 batt.toNat),
    pilot := flags.getLsbD 0, mute := flags.getLsbD 1 }

/-- A complete record is checked: checksum first, channel second; a valid one is handed to the supervisor (R63). -/
def State.checkRecord (s : State) (bytes : List Byte) : State :=
  match bytes with
  | [_, ch, rf, batt, flags, sum] =>
    if ch + rf + batt + flags ≠ sum then s.discard .checksum
    else
      match ofNum 64 ch.toNat with
      | none => s.discard .channel
      | some i =>
        (s.onTlm fun t => { t with framing := .waitSync, good := bump t.good }).onMic fun b =>
          { b with handed := b.handed ++ [recordOf i rf batt flags] }
  | _ => s

/-- A byte taken in HUNT (R62). -/
def State.huntByte (s : State) (byte : Byte) (framing : Bool) : State :=
  if byte = 0xA5 ∧ !framing then s.onTlm fun t => { t with framing := .collect [byte], lastByte := s.now }
  else s.onTlm fun t => { t with framing := .hunt, skipped := bump t.skipped }

/-- A received telemetry byte, by the framing state (R62). -/
def State.takeByte (s : State) (byte : Byte) (framing : Bool) : State :=
  match s.mic.tlm.framing with
  | .hunt => s.huntByte byte framing
  | .waitSync =>
    if byte = 0xA5 ∧ !framing then s.onTlm fun t => { t with framing := .collect [byte], lastByte := s.now }
    else s.discard .sync
  | .collect bytes =>
    if Config.tlmGapFrames < s.now - s.mic.tlm.lastByte then (s.discard .incomplete).huntByte byte framing
    else if framing then s.discard .incomplete
    else
      let s := s.onTlm fun t => { t with framing := .collect (bytes ++ [byte]), lastByte := s.now }
      if bytes.length = 5 then s.checkRecord (bytes ++ [byte]) else s

/-! ## The reference and the effective floor (R65) -/

/-- The reference is live from a valid record until its stale timer has run out (R65). -/
def MicBlock.refLive (b : MicBlock) : Bool := b.sup.ref.isSome && b.refStaleAt.isSome

/-- The effective floor F (R65). -/
def MicBlock.effectiveFloor (b : MicBlock) : Nat :=
  match b.refRf with
  | some rf => if b.refLive then min 100 (max b.sup.floor (rf + b.sup.margin)) else b.sup.floor
  | none => b.sup.floor

/-- The frame at which a timer started now with a time in milliseconds expires (R66). -/
def State.expiry (s : State) (ms : Nat) : Nat := s.now + Config.framesPerMs * ms

/-- Whether a timer has run out. -/
def State.passed (s : State) (at_ : Option Nat) : Bool :=
  match at_ with
  | none => false
  | some n => n ≤ s.now

/-- A valid record on the reference channel updates the reference record (R65, R81 step 1). -/
def State.takeReference (s : State) (d : TlmRecord) : State :=
  if s.mic.sup.ref = some d.channel then
    s.onMic fun b => { b with refRf := some d.rf, refStaleAt := some (s.expiry b.sup.stale) }
  else s

/-! ## Health records (R66 to R73) -/

def healthText : Health → String
  | .noData => "no_data"
  | .good => "good"
  | .fading => "fading"
  | .down => "down"
  | .recovering => "recovering"

def downCauseText : DownCause → String
  | .rf => "rf"
  | .pilot => "pilot"
  | .stale => "stale"

def boundText (h : HealthRec) : String :=
  if h.overFlag then (if h.lowBatt then "high,low" else "high") else if h.lowBatt then "low" else "none"

def battText (d : TlmRecord) : String :=
  match d.batt with
  | none => "unknown"
  | some n => natText n

/-- The fields of a health record before the event or the age (R73). -/
def healthFields (i : InputId) (h : HealthRec) (p : PerfId) : String :=
  inText i ++ " state=" ++ healthText h.state ++ " cause=" ++ optText downCauseText h.cause ++ " rf="
    ++ optText (fun d => natText d.rf) h.last ++ " batt=" ++ optText battText h.last ++ " pilot="
    ++ optText (fun d => yesNo d.pilot) h.last ++ " mute=" ++ optText (fun d => yesNo d.mute) h.last ++ " bound="
    ++ boundText h ++ " fade=" ++ optText natText h.lastFade ++ " perf=" ++ perfText p

/-- The MIC report of an input (R73). -/
def State.raiseMic (s : State) (i : InputId) (h : HealthRec) (p : PerfId) (event : String) : State :=
  s.raise (.mic i) ("!MIC " ++ healthFields i h p ++ " event=" ++ event)

/-- Tracking of an input starts: a record in NO_DATA with its stale timer running, and the event `tracked` (R66). -/
def State.track (s : State) (i : InputId) (p : PerfId) : State :=
  let h : HealthRec := { staleAt := some (s.expiry s.mic.sup.stale) }
  (s.setHealth i (some h)).raiseMic i h p "tracked"

/-- Tracking of an input stops: its record is discarded with its timers, and the event `released` is raised (R66). -/
def State.untrack (s : State) (i : InputId) (p : PerfId) : State :=
  (s.setHealth i none).raise (.mic i) ("!MIC " ++ inText i
    ++ " state=none cause=none rf=none batt=none pilot=none mute=none bound=none fade=none perf=" ++ perfText p
    ++ " event=released")

/-- A record is bad (R67). -/
def TlmRecord.bad (d : TlmRecord) (f : Nat) : Bool := d.rf < f || !d.pilot || d.mute

/-- A record is restoring (R67). -/
def TlmRecord.restoring (d : TlmRecord) (f hyst : Nat) : Bool := f + hyst ≤ d.rf && d.pilot && !d.mute

/-- The down cause a record gives (R67). -/
def TlmRecord.downCause (d : TlmRecord) : DownCause := if !d.pilot || d.mute then .pilot else .rf

/-- The state table of R68: a record's effect on a health record, `f` the effective floor, `now` the frame. -/
def HealthRec.byRecord (h : HealthRec) (d : TlmRecord) (f : Nat) (sup : Supervision) (now : Nat) : HealthRec :=
  let at_ (ms : Nat) := some (now + Config.framesPerMs * ms)
  match h.state with
  | .noData =>
    if d.restoring f sup.hyst then { h with state := .good, cause := none }
    else { h with state := .down, cause := some d.downCause }
  | .good =>
    if d.bad f then { h with state := .fading, fadeStart := some now, dropoutAt := at_ sup.dropout } else h
  | .fading =>
    if d.bad f then h
    else { h with state := .good, cause := none, dropoutAt := none, fadeStart := none,
                  lastFade := some ((now - h.fadeStart.getD now) / Config.framesPerMs) }
  | .down =>
    if d.restoring f sup.hyst then { h with state := .recovering, restoreAt := at_ sup.restore }
    else { h with cause := some d.downCause }
  | .recovering =>
    if d.restoring f sup.hyst then h
    else { h with state := .down, cause := some d.downCause, restoreAt := none }

/-- A valid record on a health record: stale timer, last values, bound flags, then the state table (R68, R72). -/
def HealthRec.take (h : HealthRec) (d : TlmRecord) (f : Nat) (sup : Supervision) (now : Nat) : HealthRec :=
  { h with
    staleAt := some (now + Config.framesPerMs * sup.stale)
    last := some d
    lastAt := now
    overFlag := sup.overThreshold ≤ d.rf
    lowBatt := match d.batt with
      | none => false
      | some n => n < sup.batt }.byRecord d f sup now

/-- The event of the MIC report for a change of a health record: that of the state change, else `cause`, else `bound`;
none where nothing that is reported changed (R73). -/
def micEvent (before after : HealthRec) : Option String :=
  if before.state ≠ after.state then
    if before.state = .fading ∧ after.state = .good then some "restored" else some (healthText after.state)
  else if before.cause ≠ after.cause then some "cause"
  else if before.overFlag ≠ after.overFlag ∨ before.lowBatt ≠ after.lowBatt then some "bound"
  else none

/-! ## Selection and revert (R74 to R77) -/

/-- Whether an input is GOOD. -/
def State.isGood (s : State) (i : InputId) : Bool := (s.health i).any fun h => h.state = .good

def State.isDown (s : State) (i : InputId) : Bool := (s.health i).any fun h => h.state = .down

/-- The LOW_BATT flag of an input (R72). -/
def State.lowBatt (s : State) (i : InputId) : Bool := (s.health i).any fun h => h.lowBatt

/-- The last RF level of an input (R66). -/
def State.rfOf (s : State) (i : InputId) : Nat := (((s.health i).bind (·.last)).map (·.rf)).getD 0

/-- Step 1 of selection: a performer's GOOD inputs other than the active one, main, spare 1, spare 2 (R75). -/
def State.candidates (s : State) (x : Perf) : List (InputId × Place) :=
  x.inputs.filter fun e => s.isGood e.1 ∧ x.active ≠ some e.1

/-- Step 2: candidates with LOW_BATT are set aside, unless none remains without them (R75). -/
def State.shortlist (s : State) (l : List (InputId × Place)) : List (InputId × Place) :=
  let kept := l.filter fun e => !s.lowBatt e.1
  if kept.isEmpty then l else kept

/-- Step 3: the highest RF level, the earlier place between equals (R75). -/
def State.winner (s : State) (l : List (InputId × Place)) : Option (InputId × Place) :=
  l.foldl
    (fun best e =>
      match best with
      | none => some e
      | some b => if s.rfOf b.1 < s.rfOf e.1 then some e else some b) none

/-- Changeover selection for a performer (R75), and the event of the PERF report where it changed the active input, the
state or the compromised flag (R80). -/
def State.select (s : State) (p : PerfId) : State × Option String :=
  let x := s.perf p
  match x.active with
  | none => (s, none)
  | some active =>
    match s.winner (s.shortlist (s.candidates x)) with
    | some (i, place) =>
      ((s.changeover p i).onPerf p fun y =>
        { y with state := placeState (some place), compromised := s.lowBatt i }, some "changeover")
    | none =>
      let state := if s.isGood active then placeState x.activePlace else .alarm
      if x.state = state then (s, none)
      else (s.onPerf p fun y => { y with state := state }, some (if state = .alarm then "alarm" else "recovered"))

/-- Revert: a performer in SPARE goes back to its main input (R77). -/
def State.revert (s : State) (p : PerfId) (i : InputId) : State × Option String :=
  ((s.changeover p i).onPerf p fun y => { y with state := .main, compromised := s.lowBatt i }, some "revert")

/-- What a change of an input's state calls for: selection when the active input enters DOWN, or when an input enters
GOOD in ALARM (R74); revert when the main input enters GOOD in SPARE (R77). Nothing in MANUAL. -/
def State.afterHealth (s : State) (p : PerfId) (i : InputId) (before after : Health) : State × Option String :=
  let x := s.perf p
  if !x.modeAuto || before = after then (s, none)
  else if after = .down ∧ x.active = some i then s.select p
  else if after = .good ∧ x.state = .alarm then s.select p
  else if after = .good ∧ x.state = .spare ∧ x.revertAuto ∧ x.main = some i then s.revert p i
  else (s, none)

/-- An optional PERF report (R80). -/
def State.raisePerfIf (s : State) (p : PerfId) : Option String → State
  | none => s
  | some e => s.raisePerf p e

/-- A change of a claimed input's health, carried through in the order of R81: the record, selection or revert, the MIC
report, the PERF report. -/
def State.changeHealth (s : State) (i : InputId) (f : HealthRec → HealthRec) : State :=
  match s.health i, s.claim i with
  | some h, some (p, _) =>
    let h' := f h
    let (s, perfEvent) := (s.setHealth i (some h')).afterHealth p i h.state h'.state
    let s := match micEvent h h' with
      | none => s
      | some e => s.raiseMic i h' p e
    s.raisePerfIf p perfEvent
  | _, _ => s

/-- The supervisor takes a valid record (R81). -/
def State.takeRecord (s : State) (d : TlmRecord) : State :=
  let s := s.takeReference d
  s.changeHealth d.channel fun h => h.take d s.mic.effectiveFloor s.mic.sup s.now

/-- The dropout timer expires (R69). -/
def HealthRec.dropout (h : HealthRec) : HealthRec :=
  { h with state := .down, cause := some ((h.last.map TlmRecord.downCause).getD .rf), dropoutAt := none,
           fadeStart := none }

/-- The restore timer expires (R70). -/
def HealthRec.restore (h : HealthRec) : HealthRec := { h with state := .good, cause := none, restoreAt := none }

/-- The stale timer expires (R71). -/
def HealthRec.goStale (h : HealthRec) : HealthRec :=
  { h with state := .down, cause := some .stale, staleAt := none, dropoutAt := none, restoreAt := none,
           fadeStart := none }

/-- The AUTO command's effect on a performer (R79). -/
def State.setAuto (s : State) (p : PerfId) : State :=
  let x := s.perf p
  let s := s.onPerf p fun y => { y with modeAuto := true, state := placeState y.activePlace }
  let s := match x.active with
    | none => s
    | some i => if s.isGood i then s else (s.select p).1
  s.raisePerf p "auto"

end Sys2Proof.Machine
end

