-- ==== Sys2Proof/Machine/FrameOps.lean ====
section
/-! DEFINITION. The events the part's own timers reach, each with the condition under which it is due, the store's
completions, and one frame of the frame clock (R16, R19, R29 to R31, R55, R65, R69 to R71, R112, R125, R129, R138 to R141, R152,
R177, R185, R205). An event that is not due has no effect. -/

namespace Sys2Proof.Machine

open Sys2Proof

/-! ## Clip records (R19) -/

/-- The clip record of a column as a query or a report gives it (R19; the report's form is a DESIGN CHOICE, log 16). -/
def clipText (bus : Bus) (c : Clip) : String :=
  busText bus ++ " state=" ++ (if c.clipped then "clipped" else "clear") ++ " frames=" ++ natText c.count ++ " peak="
    ++ natText c.peak

def State.clip (s : State) (bus : Bus) : Clip := s.matrix.clips.get (colPos bus)

def State.setClip (s : State) (bus : Bus) (c : Clip) : State :=
  s.onMatrix fun b => { b with clips := put b.clips (colPos bus) c }

def State.raiseClip (s : State) (bus : Bus) (c : Clip) : State := s.raise (.clip bus) ("!CLIP " ++ clipText bus c)

/-- A clip record fed with a frame's value; the end of its quiet run is an event of its own (R19). -/
def Clip.feed (c : Clip) (v : Sample) : Clip :=
  if inRange24 v then (if c.clipped then { c with quiet := min (c.quiet + 1) Config.clipQuiet } else c)
  else if c.clipped then { c with count := bump c.count, peak := max c.peak v.natAbs, quiet := 0 }
  else { clipped := true, count := 1, peak := v.natAbs, quiet := 0 }

/-- A column's clip record fed with a frame's value; the start of an episode is reported (R19). -/
def State.feedClip (s : State) (e : Bus × Sample) : State :=
  let before := s.clip e.1
  let after := before.feed e.2
  let s := s.setClip e.1 after
  if after.clipped && !before.clipped then s.raiseClip e.1 after else s

/-- The quiet run of a column has reached 4800 frames: CLEAR, with a report that carries the episode (R19). -/
def State.clearClip (s : State) (bus : Bus) : State :=
  let c := s.clip bus
  if c.clipped ∧ Config.clipQuiet ≤ c.quiet then
    (s.setClip bus {}).raiseClip bus { c with clipped := false }
  else s

/-! ## Fades and crossfades (R31, R55) -/

/-- A record completes: its target takes the end level, it is freed, its owner is told, and a stop fade at OFF sends its
voice to IDLE (R31). The owner is told before the voice enters IDLE, as R31 writes them, so its CUE events come before the VOICE
report (DESIGN CHOICE, log 40). -/
def State.completeFade (s : State) (f : Fade) : State :=
  let s := ((s.setLevelOf f.target f.goal).dropFade f.target).ownerDone f.owner
  match f.target with
  | .voice v => if f.stopAtOff ∧ f.goal = offCode then s.enterIdle (voiceReader v) "stopped" else s
  | .xpt _ _ => s

/-- The record on a target has reached its duration, and is not frozen (R31, R39). -/
def State.fadeDone (s : State) (t : Target) : State :=
  match s.fadeOf t with
  | none => s
  | some f => if f.due && !s.frozen f then s.completeFade f else s

/-- A crossfade whose frame 240 has been computed leaves its role record (R55). -/
def State.crossfadeDone (s : State) (r : RoleId) : State :=
  match (s.role r).xfade with
  | none => s
  | some x => if Config.xfadeFrames ≤ x.k then s.onRole r fun y => { y with xfade := none } else s

/-! ## Supervision (R65, R69 to R71, R81) -/

/-- The supervisor takes the oldest valid record handed over (R63, R81). -/
def State.takeHanded (s : State) : State :=
  match s.mic.handed with
  | [] => s
  | d :: rest => (s.onMic fun b => { b with handed := rest }).takeRecord d

def State.dropoutDone (s : State) (i : InputId) : State :=
  match s.health i with
  | none => s
  | some h => if h.state = .fading ∧ s.passed h.dropoutAt then s.changeHealth i HealthRec.dropout else s

def State.restoreDone (s : State) (i : InputId) : State :=
  match s.health i with
  | none => s
  | some h => if h.state = .recovering ∧ s.passed h.restoreAt then s.changeHealth i HealthRec.restore else s

def State.staleDone (s : State) (i : InputId) : State :=
  match s.health i with
  | none => s
  | some h => if s.passed h.staleAt then s.changeHealth i HealthRec.goStale else s

/-- The reference goes stale, with no report (R65). -/
def State.referenceDone (s : State) : State :=
  if s.passed s.mic.refStaleAt then s.onMic fun b => { b with refStaleAt := none } else s

/-! ## The store bus (R125, R139 to R141) -/

/-- A BUSY tag's timer has run out: the tag is LOST, the timeout counted and reported, and the slot it was for has failed
(R125, R141). STORE is raised after what the failure leads to (DEDUCED, log 20). -/
def State.tagDone (s : State) (t : TagId) : State :=
  let lost (s : State) : State := (s.setTag t .lost).onFetch fun b => { b with timeouts := bump b.timeouts }
  match s.fetch.tags.get t with
  | .busy r slot _ expires => if expires ≤ s.now then ((lost s).slotFailed r slot).raiseStore "timeout" t else s
  | .orphaned _ expires => if expires ≤ s.now then (lost s).raiseStore "timeout" t else s
  | .free | .lost => s

/-- A completion on a FREE tag is a stray (R124); one on an orphaned tag is discarded, and one on a LOST tag is discarded and
reported; both free the tag (R125, R143). -/
def State.discardCompletion (s : State) (t : TagId) : State :=
  match s.fetch.tags.get t with
  | .free => (s.onFetch fun b => { b with stray := bump b.stray }).raiseStore "stray" t
  | .orphaned _ _ => s.setTag t .free
  | .lost => (s.setTag t .free).raiseStore "late" t
  | .busy _ _ _ _ => s

/-- The samples of a completion's words (R124). -/
def samplesOf (words : Vector Word32 256) : Vector Sample 256 := words.map sampleOf

/-- An OK completion (R139). -/
def State.completeOk (s : State) (t : TagId) (words : Vector Word32 256) : State :=
  match s.fetch.tags.get t with
  | .busy r slot _ _ =>
    (((s.setTag t .free).onReader r fun x => x.fill slot (samplesOf words)).testPrimed r).testStart r
  | _ => s.discardCompletion t

/-- An ERROR completion is counted and reported whatever its tag's state; on a BUSY tag the slot has failed, and STORE is raised
after what that leads to (R140, R145; DEDUCED, log 20). -/
def State.completeError (s : State) (t : TagId) : State :=
  let s := s.onFetch fun b => { b with errors := bump b.errors }
  match s.fetch.tags.get t with
  | .busy r slot _ _ => ((s.setTag t .free).slotFailed r slot).raiseStore "error" t
  | .orphaned _ _ => (s.discardCompletion t).raiseStore "error" t
  | _ => (s.raiseStore "error" t).discardCompletion t

/-! ## Calls, guard windows and lines (R152, R177, R185) -/

/-- A WAITING recorded call whose expiry has run out (R177). -/
def Call.expiredBy (c : Call) (now : Nat) : Bool :=
  c.grant.isNone && 0 < c.req.expiry && c.admittedAt + Config.framesPerMs * c.req.expiry ≤ now

def State.callDone (s : State) (id : Nat) : State :=
  match s.callAt id with
  | none => s
  | some c => if c.expiredBy s.now then s.endCall c .expired else s

def State.windowDone (s : State) : State :=
  if Config.guardWindow ≤ s.foldback.window then s.endWindows else s

def State.lineDone (s : State) (n : LineId) : State := if (s.line n).due then s.debounced n else s

/-! ## Events outstanding at a frame -/

/-- Events of one kind, each ended as an operation, and followed by the expiries of chains it set with a time of 0 (R111). -/
def State.each {α : Type} (s : State) (l : List α) (f : State → α → State) : State :=
  l.foldl (fun s a => (f s a).finish.takePromptChains) s

/-- Events of the timers and of the units between the link and the mix that are due and have not been taken. -/
def State.takeTimers (s : State) : State :=
  let s := s.eventsOwed
  let s := s.each s.mic.handed fun s _ => s.takeHanded
  let s := s.each (List.finRange 40) State.crossfadeDone
  let s := s.each (s.fades.pool.map (·.target)) State.fadeDone
  let s := s.each allBuses State.clearClip
  let s := s.each (List.finRange 64) State.dropoutDone
  let s := s.each (List.finRange 64) State.restoreDone
  let s := s.each (List.finRange 64) State.staleDone
  s.referenceDone

/-- Every event that is due and has not been taken is taken before the next frame (DESIGN CHOICE, log 5): those of
`takeTimers`, the tag timers, the chain, the call expiries in the order of the call table, the guard window, the debounces, and
the arbiter's grants. -/
def State.takeDue (s : State) : State :=
  let s := s.takeTimers
  let s := s.each (List.finRange 8) State.tagDone
  let s := s.expireChain.finish.takePromptChains
  let s := s.each (s.router.calls.map (·.id)) State.callDone
  let s := s.windowDone
  let s := s.each (List.finRange 16) State.lineDone
  s.grantAll

/-! ## The frame -/

/-- The pin of an output line takes its condition at the start of the frame (R188). -/
def State.lampOf (s : State) (r : LineRec) : Option Bool := (s.condition r).map fun on => on = r.activeHigh

def State.driveLamps (s : State) : State :=
  s.onLines fun b => { b with recs := b.recs.map fun r => { r with drive := s.lampOf r } }

/-- One frame of the duck ramps of the zones and of the foldback buses (R30). -/
def Zone.frame (z : Zone) : Zone :=
  { z with duck := (rampFrame z.duck z.ramp).1, ramp := (rampFrame z.duck z.ramp).2 }

def FbBus.frame (b : FbBus) : FbBus :=
  { b with duck := (rampFrame b.duck b.ramp).1, ramp := (rampFrame b.duck b.ramp).2 }

/-- A METERING bus takes the magnitude of b into its window peak (R151). -/
def FbBus.meter (b : FbBus) (v : Sample) : FbBus :=
  if b.guard = .metering then { b with peak := max b.peak v.natAbs } else b

/-- One frame of a role record's crossfade (R55). -/
def Role.frame (r : Role) : Role :=
  { r with xfade := r.xfade.map fun x => { x with k := min (x.k + 1) Config.xfadeFrames } }

/-- The counts of the frame clock: fades, ramps, chain, crossfades, guard window and debounces (R29, R30, R55, R112, R150,
R185). -/
def State.countFrame (s : State) (pins : Vector Bool 16) : State :=
  let s := ({ s with now := s.now + 1 }.fadeFrame).chainFrame
  let s := s.onRouter fun b => { b with zones := b.zones.map Zone.frame }
  let s := s.onFoldback fun b => { b with buses := b.buses.map FbBus.frame, window := b.window + 1 }
  let s := s.onCast fun b => { b with roles := b.roles.map Role.frame }
  s.onLines fun b =>
    { b with recs := Vector.ofFn fun n => (b.recs.get n).frame (pins.get n), pins := pins }

/-- The frame's values reach the clip records and the guard meters (R18, R19, R151). Episodes that begin in one frame are reported in
the order of the columns, after the frame's sample steps (DESIGN CHOICE, log 39). -/
def State.meterFrame (s : State) (a : Audio) : State :=
  let s := (allBuses.zip a.clip).foldl State.feedClip s
  s.onFoldback fun b =>
    { b with buses := Vector.ofFn fun k => (b.buses.get k).meter (a.foldback.getD k.val 0) }

/-- The output slots: what a frame computes leaves two frames later (R20, R205). -/
def PortBlock.frame (b : PortBlock) (outputs : List Sample) : PortBlock :=
  { slots := b.formedBefore.map slotOf, formedBefore := b.formed,
    formed := Vector.ofFn fun i => outputs.getD i.val 0 }

/-- One frame of the frame clock on a state with nothing outstanding: the lamps and the audio path from the state as it
stands, then the counts, the sample steps, the meters and the output slots (R16, R129, R188, R205). The fades, the ramps and the
chain count before the sample steps, whose reports so show the levels after the fade step of the frame; the readers take their
steps by ascending reader number, the voices and then call player 1 and call player 2, and the clip records come after them
(DESIGN CHOICE, log 39). -/
def State.computeFrame (s : State) (slots : Vector Word32 64) (pins : Vector Bool 16) : State :=
  let a := s.audio slots
  let s := s.driveLamps.countFrame pins
  let s := (List.finRange 26).foldl State.readerFrame s
  let s := s.meterFrame a
  (s.onPorts fun b => b.frame a.outputs).onFetch fun b => { b with busReset := false }

/-- Whether the frame clock has a frame to compute: on the internal reference each FRAME is one, and while LOCKED those that edges of
WCLK have begun (R206; log 9). -/
def State.frameBegun (s : State) : Bool := s.clock.monitor ≠ .locked || 0 < s.clock.begun

/-- FRAME: with no frame of the frame clock, as in the gap of R206, nothing is computed and every frame count stands still. -/
def State.frame (s : State) (slots : Vector Word32 64) (pins : Vector Bool 16) : State :=
  if s.frameBegun then
    (s.takeDue.computeFrame slots pins).onClock fun b => { b with begun := b.begun - 1 }
  else s

end Sys2Proof.Machine
end

