-- ==== Sys2Proof/Machine/CueEngine.lean ====
section
/-! DEFINITION. The commands of the cue engine: GO, BACK, JUMP, HALT, RESUME, STOP ALL, ENGINE, ENGINE? and INST? (R101, R102,
R114, R115, R120). -/

namespace Sys2Proof.Machine

open Sys2Proof

/-- GO (R102). -/
def fireGo (n : Option Nat) (s : State) : Answer := do
  refuseIf (n.any fun n => !cueInRange n) .range
  let c ← s.goCue n
  let (t, slot, count) := s.fire c
  t.replies fun t =>
    "go=" ++ cueText c.number ++ " slot=" ++ slotText slot ++ " standby=" ++ standbyText t.engine.standby
      ++ " outstanding=" ++ natText count

def execGo (tag : Tag) (a : Args (Option Nat)) (s : State) : Outcome := command (.go tag a) tag a fireGo s

/-- The reply of BACK and JUMP (R101). -/
def State.positionText (s : State) : String :=
  "standby=" ++ standbyText s.engine.standby ++ " ready=" ++ yesNo s.standbyReady

/-- The standby position BACK goes to: the cue before; at the first cue it stays, and at END it is the last cue (R101). -/
def State.backPosition (s : State) : Option Nat :=
  match s.engine.standby with
  | none => s.lastCue
  | some n =>
    match s.cueBefore n with
    | none => some n
    | some m => some m

/-- BACK (R101). -/
def goBack (_ : Unit) (s : State) : Answer := (s.moveStandby s.backPosition).replies State.positionText

def execBack (tag : Tag) (a : Args Unit) (s : State) : Outcome := command (.back tag a) tag a goBack s

/-- JUMP (R101). -/
def jumpTo (n : Nat) (s : State) : Answer := do
  refuseIf (!cueInRange n) .range
  refuseIf (s.cueAt n).isNone .noSuch
  (s.moveStandby (some n)).replies State.positionText

def execJump (tag : Tag) (a : Args Nat) (s : State) : Outcome := command (.jump tag a) tag a jumpTo s

/-- HALT (R114). -/
def haltRun (_ : Unit) (s : State) : Answer := (s.setRun true).replies fun _ => "run=halted"

def execHalt (tag : Tag) (a : Args Unit) (s : State) : Outcome := command (.halt tag a) tag a haltRun s

/-- RESUME (R114). -/
def resumeRun (_ : Unit) (s : State) : Answer := (s.setRun false).replies fun _ => "run=running"

def execResume (tag : Tag) (a : Args Unit) (s : State) : Outcome := command (.resume tag a) tag a resumeRun s

/-- STOP ALL (R115). -/
def stopShow (t : Option Int) (s : State) : Answer :=
  let ms := match t with
    | none => s.engine.stopAllMs
    | some t => heldNumber 0 Config.maxTimeMs t
  let voices := s.startingVoices.length + s.soundingVoices.length
  let retired := s.engine.insts.length
  (s.stopAll ms).replies fun _ =>
    "stopall t=" ++ natText ms ++ " voices=" ++ natText voices ++ " retired=" ++ natText retired

def execStopAll (tag : Tag) (a : Args (Option Int)) (s : State) : Outcome :=
  command (.stopAll tag a) tag a stopShow s

/-- The reply of ENGINE? (R120). -/
def State.engineLine (s : State) : String :=
  s.engineText ++ " stopall=" ++ natText s.engine.stopAllMs ++ " fired=" ++ natText s.engine.fired

/-- ENGINE (R120). -/
def setEngine (t : Int) (s : State) : Answer :=
  (s.onEngine fun b => { b with stopAllMs := heldNumber 0 Config.maxTimeMs t }).replies State.engineLine

def execEngine (tag : Tag) (a : Args Int) (s : State) : Outcome := command (.engine tag a) tag a setEngine s

/-- ENGINE? (R120). -/
def readEngine (_ : Unit) (s : State) : Answer := s.tells s.engineLine

def execEngineQuery (tag : Tag) (a : Args Unit) (s : State) : Outcome :=
  command (.engineQuery tag a) tag a readEngine s

/-- The instance table, oldest first (R120). -/
def State.instsText (s : State) : String :=
  itemsText (s.engine.insts.map fun i => "slot:" ++ slotText i.slot ++ "=" ++ cueText i.cue ++ "/" ++ natText i.count)

/-- INST? (R120). -/
def readInsts (_ : Unit) (s : State) : Answer := s.tells s.instsText

def execInstQuery (tag : Tag) (a : Args Unit) (s : State) : Outcome := command (.instQuery tag a) tag a readInsts s

end Sys2Proof.Machine
end

