-- ==== Sys2Proof/Machine/CueList.lean ====
section
/-! DEFINITION. The commands of the cue list: CUE, CUE?, ACT, ACT?, ACTDEL and CUEDEL (R83 to R96). -/

namespace Sys2Proof.Machine

open Sys2Proof

/-! ## The list and the pool (R84, R87) -/

/-- A cue placed in ascending order, or the header of a cue that is there (R84, R86). -/
def placeCue (n : Nat) (label : Name) (link : Link) : List Cue → List Cue
  | [] => [{ number := n, label := label, link := link }]
  | c :: rest =>
    if n < c.number then { number := n, label := label, link := link } :: c :: rest
    else if n = c.number then { c with label := label, link := link } :: rest
    else c :: placeCue n label link rest

/-- The cues with one cue's actions changed. -/
def changeActions (n : Nat) (f : List Action → List Action) (l : List Cue) : List Cue :=
  l.map fun c => if c.number = n then { c with actions := f c.actions } else c

/-- The entries of the action pool in use, and those free (R87). -/
def State.poolUsed (s : State) : Nat := (s.cues.map fun c => c.actions.length).sum
def State.poolFree (s : State) : Nat := Config.actionPool - s.poolUsed

/-- The cue store tells the cue engine of an edit of the standby cue (R96, R117). -/
def State.edited (s : State) (n : Nat) : State := if s.engine.standby = some n then s.evaluatePriming else s

/-! ## Texts (R85, R88, R95) -/

def linkText : Link → String
  | .none => "none"
  | .start ms => "start:" ++ natText ms
  | .finish ms => "end:" ++ natText ms

/-- An action as ACT? writes it (R88). -/
def actionText : Action → String
  | .level row bus code ms =>
    "LEVEL " ++ rowText row ++ " " ++ busText bus ++ " " ++ levelText code ++ " t=" ++ natText ms
  | .play v n ms => "PLAY " ++ voiceText v ++ " " ++ soundText n ++ " in=" ++ natText ms
  | .stop v ms => "STOP " ++ voiceText v ++ " t=" ++ natText ms
  | .call k => "CALL " ++ natText (num k)
  | .line n on => "LINE " ++ lineText n ++ " " ++ onOff on

/-- The reply of CUE? for a cue (R95). -/
def State.cueLine (s : State) (n : Nat) : String :=
  match s.cueAt n with
  | none => ""
  | some c =>
    "cue=" ++ cueText n ++ " label=" ++ nameText c.label ++ " link=" ++ linkText c.link ++ " actions="
      ++ natText c.actions.length ++ " prev=" ++ optText cueText (s.cueBefore n) ++ " next="
      ++ standbyText (s.cueAfter n)

/-! ## CUE and CUE? (R86, R95) -/

/-- CUE (R86). -/
def setCue (a : CueArgs) (s : State) : Answer := do
  let label := a.label.getD []
  refuseIf (!nameAllowed label) .syntaxErr
  refuseIf (!cueInRange a.cue || Config.labelChars < label.length) .range
  refuseIf ((s.cueAt a.cue).isNone && Config.maxCues ≤ s.cues.length) .full
  ((s.onCues (placeCue a.cue label (linkOf a.link))).edited a.cue).replies fun s => s.cueLine a.cue

def execCue (tag : Tag) (a : Args CueArgs) (s : State) : Outcome := command (.cue tag a) tag a setCue s

/-- The reply of CUE? without an argument (R95). -/
def State.cuesText (s : State) : String :=
  "cues=" ++ natText s.cues.length ++ " actions=" ++ natText s.poolUsed ++ " free=" ++ natText s.poolFree ++ " first="
    ++ optText cueText s.firstCue ++ " last=" ++ optText cueText s.lastCue

/-- CUE? (R95). -/
def readCue (n : Option Nat) (s : State) : Answer :=
  match n with
  | none => s.tells s.cuesText
  | some n => do
    refuseIf (!cueInRange n) .range
    refuseIf (s.cueAt n).isNone .noSuch
    s.tells (s.cueLine n)

def execCueQuery (tag : Tag) (a : Args (Option Nat)) (s : State) : Outcome :=
  command (.cueQuery tag a) tag a readCue s

/-! ## ACT, ACT? and ACTDEL (R88, R92, R93, R95) -/

/-- The target of an action (R88). -/
inductive ActionTarget where
  | xpt (row : Row) (bus : Bus)
  | voice (v : VoiceId)
  | preset (k : PresetId)
  | line (n : LineId)
  deriving DecidableEq, Repr

def actionTarget : Action → ActionTarget
  | .level row bus _ _ => .xpt row bus
  | .play v _ _ => .voice v
  | .stop v _ => .voice v
  | .call k => .preset k
  | .line n _ => .line n

/-- Whether an action names a sound with no record (R90). -/
def State.soundMissing (s : State) : Action → Bool
  | .play _ n _ => (s.soundRec n).isNone
  | _ => false

/-- Whether an action is a LEVEL on the input row of a claimed input (R89). -/
def State.rowClaimed (s : State) : Action → Bool
  | .level row _ _ _ => s.claimedRow row
  | _ => false

/-- ACT (R92). -/
def addAct (a : ActArgs) (s : State) : Answer := do
  refuseIf (!cueInRange a.cue) .range
  let act ← need .range (actionOf a.action)
  let c ← need .noSuch (s.cueAt a.cue)
  refuseIf (s.soundMissing act) .noSuch
  refuseIf (c.actions.any fun b => actionTarget b = actionTarget act) .duplicate
  refuseIf (s.rowClaimed act) .claimed
  refuseIf (Config.actionsPerCue ≤ c.actions.length || s.poolFree = 0) .full
  ((s.onCues (changeActions a.cue (· ++ [act]))).edited a.cue).replies fun s =>
    "cue=" ++ cueText a.cue ++ " act=" ++ natText (c.actions.length + 1) ++ " free=" ++ natText s.poolFree

def execAct (tag : Tag) (a : Args ActArgs) (s : State) : Outcome := command (.act tag a) tag a addAct s

/-- The action a line names by cue and number, with its cue (R93, R95). -/
def State.actAt (s : State) (a : ActIndexArgs) : Except ErrCode (Cue × Action) := do
  refuseIf (!cueInRange a.cue || a.index < 1 || Config.actionsPerCue < a.index) .range
  let c ← need .noSuch (s.cueAt a.cue)
  let act ← need .noSuch c.actions[a.index - 1]?
  return (c, act)

/-- ACT? (R95). -/
def readAct (a : ActIndexArgs) (s : State) : Answer := do
  let (_, act) ← s.actAt a
  s.tells ("cue=" ++ cueText a.cue ++ " act=" ++ natText a.index ++ " " ++ actionText act)

def execActQuery (tag : Tag) (a : Args ActIndexArgs) (s : State) : Outcome :=
  command (.actQuery tag a) tag a readAct s

/-- ACTDEL (R93). -/
def dropAct (a : ActIndexArgs) (s : State) : Answer := do
  let (c, _) ← s.actAt a
  ((s.onCues (changeActions a.cue fun l => l.eraseIdx (a.index - 1))).edited a.cue).replies fun s =>
    "cue=" ++ cueText a.cue ++ " actions=" ++ natText (c.actions.length - 1) ++ " free=" ++ natText s.poolFree

def execActDel (tag : Tag) (a : Args ActIndexArgs) (s : State) : Outcome := command (.actDel tag a) tag a dropAct s

/-! ## CUEDEL (R94) -/

/-- A cue leaves the list; a standby position on it moves to the next cue after it (R94, R101). -/
def State.deleteCue (s : State) (n : Nat) : State :=
  let s := s.onCues fun l => l.filter fun c => c.number ≠ n
  if s.engine.standby = some n then s.moveStandby (s.cueAfter n) else s

/-- CUEDEL (R94). -/
def dropCue (n : Nat) (s : State) : Answer := do
  refuseIf (!cueInRange n) .range
  refuseIf (s.cueAt n).isNone .noSuch
  (s.deleteCue n).replies fun s =>
    "cue=" ++ cueText n ++ " deleted free=" ++ natText s.poolFree ++ " standby=" ++ standbyText s.engine.standby

def execCueDel (tag : Tag) (a : Args Nat) (s : State) : Outcome := command (.cueDel tag a) tag a dropCue s

end Sys2Proof.Machine
end

