-- ==== Sys2Proof/Machine/ResetOps.lean ====
section
/-! DEFINITION. The two resets, block by block (R41, R60, R82, R98, R121, R146, R159, R182, R191, R203, R204), and the clock
monitor (R206, R207). -/

namespace Sys2Proof.Machine

open Sys2Proof

/-! ## Show reset (R204) -/

/-- Crosspoints OFF and clip records CLEAR; trims stand (R10, R14, R19). -/
def MatrixBlock.showReset (b : MatrixBlock) : MatrixBlock :=
  { b with xpts := .replicate 128 (.replicate 25 offCode), clips := .replicate 25 {} }

/-- Crossfades end; the cast table stands (R60). -/
def CastBlock.showReset (b : CastBlock) : CastBlock :=
  { b with roles := b.roles.map fun r => { r with xfade := none } }

/-- The cue engine with its standby position on the first cue, and its priming evaluation still to come (R121). -/
def EngineBlock.showReset (b : EngineBlock) (first : Option Nat) : EngineBlock :=
  { b with halted := false, standby := first, lastFired := none, insts := [], chain := none, fired := 0,
           primeDue := true, evalDue := false, firing := none, opEvent := none }

/-- Readers IDLE with level OFF and counts 0, every tag FREE, the store-bus reset driven; the sound table, W and the store
counts stand (R146). -/
def FetchBlock.showReset (b : FetchBlock) : FetchBlock :=
  { b with readers := .replicate 26 {}, tags := .replicate 8 .free, busReset := true }

/-- One foldback bus (R159). -/
def FbBus.showReset (b : FbBus) : FbBus :=
  { b with guard := if b.guard = .metering then .armed else b.guard, red := 0, peak := 0, lastP := none,
           episode := none, duck := 0, ramp := none, skips := 0 }

/-- The foldback section; where a held TALK line keeps talk active, each member bus ducks again from 0 (R156, R159). -/
def FoldbackBlock.showReset (b : FoldbackBlock) : FoldbackBlock :=
  let b := { b with buses := b.buses.map FbBus.showReset, talkCommand := false }
  if b.talkActive then b.rampMembers b.ducked 50 else b

/-- One zone (R182). -/
def Zone.showReset (z : Zone) : Zone := { z with holding := none, duck := 0, ramp := none }

/-- The router: the call table empty, the counter and the stamps at their start (R167, R182). -/
def RouterBlock.showReset (b : RouterBlock) : RouterBlock :=
  { b with zones := b.zones.map Zone.showReset, calls := [], nextId := 1, admitStamp := 0, grantStamp := 0 }

/-- Every CUE_LINE value off (R191). -/
def LineBlock.showReset (b : LineBlock) : LineBlock :=
  { b with recs := b.recs.map fun r => { r with cueLine := false } }

/-- The report set empty; queues, mask and counts stand (R204). -/
def LinkBlock.showReset (b : LinkBlock) : LinkBlock := { b with reports := [] }

/-- A show reset, in every block together, with STANDBY_READY as it leaves it known and not reported (R121, R204). -/
def State.showReset (s : State) : State :=
  let s := { s with
    link := s.link.showReset, matrix := s.matrix.showReset, fades := {}, cast := s.cast.showReset,
    engine := s.engine.showReset s.firstCue, fetch := s.fetch.showReset, foldback := s.foldback.showReset,
    router := s.router.showReset, lines := s.lines.showReset }
  s.onEngine fun b => { b with readyShown := s.standbyReady }

/-! ## Full reset (R203) -/

/-- RESETN is held low: output slots carry 0, line pins are undriven, nothing is sent, and the store-bus reset is driven
(R203). -/
def State.enterReset (s : State) : State :=
  { s with
    inReset := true
    ports := {}
    lines := { s.lines with recs := s.lines.recs.map fun r => { r with drive := none } }
    link := { s.link with sending := none }
    fetch := { s.fetch with busReset := true } }

/-- The baud rate the strap pins select (R192). -/
def baudOf (baud1 baud0 : Bool) : Nat :=
  match baud1, baud0 with
  | false, false => 115200
  | false, true => 230400
  | true, false => 460800
  | true, true => 921600

/-- The full reset ends: the state after full reset at the rate of the straps; the levels on the PAUSE and line pins are
the outside's and stand as they are (R203). -/
def State.leaveReset (s : State) (baud1 baud0 : Bool) : State :=
  let r := State.reset
  { r with
    link := { r.link with baud := baudOf baud1 baud0, paused := s.link.paused }
    lines := { r.lines with pins := s.lines.pins }
    pending := s.pending }

/-! ## The clock monitor (R206, R207) -/

def monitorText : Monitor → String
  | .absent => "absent"
  | .qualifying => "qualifying"
  | .locked => "locked"

def ClockBlock.text (b : ClockBlock) : String :=
  "source=" ++ (if b.wclk then "wclk" else "internal") ++ " state=" ++ monitorText b.monitor

/-- The CLOCK report (R207). -/
def State.raiseClock (s : State) (event : String) : State :=
  s.raise .clock ("!CLOCK " ++ s.clock.text ++ " event=" ++ event ++ " losses=" ++ natText s.clock.losses)

/-- A WCLK period in tolerance, in picoseconds: between 1/49,000 s and 1/47,000 s (R206). -/
def inTolerance (periodPs : Nat) : Bool := 1000000000000 ≤ 49000 * periodPs ∧ 47000 * periodPs ≤ 1000000000000

/-- 2 ms without a WCLK edge while LOCKED: the frames are those of the internal reference from now on (R206). -/
def State.loseClock (s : State) : State :=
  if s.clock.monitor = .locked then
    (s.onClock fun b => { b with monitor := .absent, count := 0, wclk := false, losses := bump b.losses, begun := 0
      }).raiseClock "lost"
  else s

/-- 2 ms without a WCLK edge while QUALIFYING (R206). -/
def State.dropQualifying (s : State) : State :=
  if s.clock.monitor = .qualifying then s.onClock fun b => { b with monitor := .absent, count := 0 } else s

/-- The 4800th period in tolerance: LOCKED on WCLK, and that edge begins the next frame (R206). -/
def State.lockClock (s : State) : State :=
  if s.clock.monitor = .qualifying ∧ s.clock.count = 4799 then
    (s.onClock fun b => { b with monitor := .locked, count := Config.lockPeriods, wclk := true, begun := 1 }).raiseClock
      "restored"
  else s

/-- A rising edge of WCLK; while LOCKED it begins a frame, which FRAME then computes (R206; log 9). -/
def State.clockEdge (s : State) (periodPs : Nat) : State :=
  match s.clock.monitor with
  | .absent => s.onClock fun b => { b with monitor := .qualifying, count := 0 }
  | .qualifying =>
    if inTolerance periodPs then
      if s.clock.count < 4799 then s.onClock fun b => { b with count := b.count + 1 } else s.lockClock
    else s.onClock fun b => { b with count := 0 }
  | .locked => s.onClock fun b => { b with begun := b.begun + 1 }

end Sys2Proof.Machine
end

