-- ==== Sys2Proof/Machine/Events.lean ====
section
/-! DEFINITION. The events of the frame clock, the telemetry input, the timers, the store bus, the logic lines and WCLK: from
SHOW_RESET_PRIMING and FRAME to WCLK_RISING_EDGE (R16, R19, R31, R55, R61 to R81, R112, R121, R125, R138 to R141, R152, R177,
R185, R206). -/

namespace Sys2Proof.Machine

open Sys2Proof

/-- SHOW_RESET_PRIMING (R121). -/
def execShowResetPriming (s : State) : Outcome := laterEvent State.showResetPriming s

/-- FRAME (R16, R205). -/
def execFrame (slots : Vector Word32 64) (pins : Vector Bool 16) (s : State) : Outcome :=
  event (fun s => s.frame slots pins) s

/-- CLIP_CLEAR (R19). -/
def execClipClear (bus : Bus) (s : State) : Outcome := laterEvent (fun s => s.clearClip bus) s

/-- FADE_COMPLETE (R31). -/
def execFadeComplete (target : Target) (s : State) : Outcome := laterEvent (fun s => s.fadeDone target) s

/-- CROSSFADE_END (R55). -/
def execCrossfadeEnd (role : RoleId) (s : State) : Outcome := laterEvent (fun s => s.crossfadeDone role) s

/-- TELEMETRY_BYTE (R62). -/
def execTelemetryByte (byte : Byte) (framing : Bool) (s : State) : Outcome :=
  laterEvent (fun s => s.takeByte byte framing) s

/-- VALID_RECORD (R81). -/
def execValidRecord (s : State) : Outcome := laterEvent State.takeHanded s

/-- DROPOUT_EXPIRY (R69). -/
def execDropoutExpiry (input : InputId) (s : State) : Outcome := laterEvent (fun s => s.dropoutDone input) s

/-- RESTORE_EXPIRY (R70). -/
def execRestoreExpiry (input : InputId) (s : State) : Outcome := laterEvent (fun s => s.restoreDone input) s

/-- STALE_EXPIRY (R71). -/
def execStaleExpiry (input : InputId) (s : State) : Outcome := laterEvent (fun s => s.staleDone input) s

/-- REFERENCE_STALE (R65). -/
def execReferenceStale (s : State) : Outcome := laterEvent State.referenceDone s

/-- CHAIN_EXPIRY (R112). -/
def execChainExpiry (s : State) : Outcome := event State.expireChain s

/-- FETCH_GRANT (R138). -/
def execFetchGrant (s : State) : Outcome := laterEvent State.grantTag s

/-- COMPLETION_OK (R139). -/
def execCompletionOk (tag : TagId) (words : Vector Word32 256) (s : State) : Outcome :=
  laterEvent (fun s => s.completeOk tag words) s

/-- COMPLETION_ERROR (R140). -/
def execCompletionError (tag : TagId) (s : State) : Outcome := laterEvent (fun s => s.completeError tag) s

/-- TAG_TIMEOUT (R125, R141). -/
def execTagTimeout (tag : TagId) (s : State) : Outcome := laterEvent (fun s => s.tagDone tag) s

/-- GUARD_WINDOW_END (R152). -/
def execGuardWindowEnd (s : State) : Outcome := laterEvent State.windowDone s

/-- EXPIRED (R177). -/
def execExpired (id : Nat) (s : State) : Outcome := laterEvent (fun s => s.callDone id) s

/-- DEBOUNCE (R185, R186). -/
def execDebounce (line : LineId) (s : State) : Outcome := laterEvent (fun s => s.lineDone line) s

/-- CLOCK_LOST (R206). -/
def execClockLost (s : State) : Outcome := laterEvent State.loseClock s

/-- QUALIFYING_TIMEOUT (R206). -/
def execQualifyingTimeout (s : State) : Outcome := laterEvent State.dropQualifying s

/-- CLOCK_RESTORED (R206). -/
def execClockRestored (s : State) : Outcome := laterEvent State.lockClock s

/-- WCLK_RISING_EDGE (R206). -/
def execWclkRisingEdge (periodPs : Nat) (s : State) : Outcome := laterEvent (fun s => s.clockEdge periodPs) s

end Sys2Proof.Machine
end

