-- ==== Sys2Proof/Machine/Foldback.lean ====
section
/-! DEFINITION. The commands of the foldback section: FB, FB?, TALKBACK, TALKBACK? and TALK (R148, R154, R155). -/

namespace Sys2Proof.Machine

open Sys2Proof

/-! ## FB and FB? (R148) -/

/-- The reply of FB? for a bus (R148). -/
def State.fbLine (s : State) (k : FbId) : String :=
  let b := s.bus k
  fbText k ++ " lock=" ++ onOff b.lock ++ " guard=" ++ guardText b.guard ++ " ceiling=" ++ levelText b.ceiling ++ " red="
    ++ levelText b.red ++ " peak=" ++ optText levelText b.lastP ++ " duck=" ++ levelText b.duck ++ " member="
    ++ yesNo b.member ++ " skipped=" ++ natText b.skips

/-- An accepted FB applies the ceiling, the lock and the guard (R148). -/
def State.applyFb (s : State) (k : FbId) (a : FbArgs) : State :=
  let s := s.onBus k fun b =>
    { b with ceiling := (a.ceiling.map ceilingLevel).getD b.ceiling, lock := a.lock.getD b.lock }
  match a.guard with
  | none => s
  | some on => s.setGuard k on

/-- FB (R148). -/
def setFb (a : FbArgs) (s : State) : Answer := do
  refuseIf (a.lock.isNone && a.guard.isNone && a.ceiling.isNone) .syntaxErr
  let k ← need .range (ofNum 16 a.fb)
  (s.applyFb k a).replies fun s => s.fbLine k

def execFb (tag : Tag) (a : Args FbArgs) (s : State) : Outcome := command (.fb tag a) tag a setFb s

/-- What FB? without an argument writes of a bus, if anything (R148). -/
def State.fbItem (s : State) (k : FbId) : Option String :=
  let b := s.bus k
  let marks := (if b.lock then ["lock"] else []) ++ (if b.red < 0 then ["red:" ++ levelText b.red] else [])
  if marks.isEmpty then none else some (fbText k ++ "=" ++ joinText "," marks)

/-- FB? (R148). -/
def readFb (n : Option Nat) (s : State) : Answer :=
  match n with
  | none => s.tells (itemsText ((List.finRange 16).filterMap s.fbItem))
  | some n => do
    let k ← need .range (ofNum 16 n)
    s.tells (s.fbLine k)

def execFbQuery (tag : Tag) (a : Args (Option Nat)) (s : State) : Outcome := command (.fbQuery tag a) tag a readFb s

/-! ## TALKBACK and TALK (R154, R155) -/

/-- The number of TALK lines held (R154). -/
def FoldbackBlock.held (b : FoldbackBlock) : Nat := b.heldLines.toList.countP id

/-- The fields TALK and TALKBACK? share (R154, R155). -/
def State.talkText (s : State) : String :=
  "talk=" ++ onOff s.foldback.talkCommand ++ " lines=" ++ natText s.foldback.held ++ " active="
    ++ yesNo s.foldback.talkActive

/-- The reply of TALKBACK? (R154), the members by ascending bus number (DESIGN CHOICE, log 42). -/
def State.talkbackText (s : State) : String :=
  "in=" ++ optText inText s.cast.talkin ++ " level=" ++ levelText s.foldback.talkLevel ++ " depth="
    ++ depthText s.foldback.talkDepth ++ " members=" ++ listText ((pick fun k => (s.bus k).member).map fbText) ++ " "
    ++ s.talkText

/-- The buses a member list names, or a number out of range (R154). -/
def membersOf : MembersField → Option (List FbId)
  | .none => some []
  | .all => some (List.finRange 16)
  | .list l => nums 16 l

/-- An accepted TALKBACK applies the level, the depth and the member set (R154). -/
def applyTalkback (a : TalkbackArgs) (members : Option (List FbId)) (b : FoldbackBlock) : FoldbackBlock :=
  let b := { b with talkLevel := (a.level.map talkbackLevel).getD b.talkLevel }
  let b := match a.depth with
    | none => b
    | some d => b.setDepth (talkbackDepth d)
  match members with
  | none => b
  | some l => b.setMembers fun k => l.contains k

/-- TALKBACK (R154). -/
def setTalkback (a : TalkbackArgs) (s : State) : Answer := do
  refuseIf (a.level.isNone && a.depth.isNone && a.members.isNone) .syntaxErr
  let members ← match a.members with
    | none => Except.ok none
    | some m => (need .range (membersOf m)).map some
  refuseIf (members.any fun l => !decide l.Nodup) .duplicate
  (s.onFoldback (applyTalkback a members)).replies State.talkbackText

def execTalkback (tag : Tag) (a : Args TalkbackArgs) (s : State) : Outcome :=
  command (.talkback tag a) tag a setTalkback s

/-- TALKBACK? (R154). -/
def readTalkback (_ : Unit) (s : State) : Answer := s.tells s.talkbackText

def execTalkbackQuery (tag : Tag) (a : Args Unit) (s : State) : Outcome :=
  command (.talkbackQuery tag a) tag a readTalkback s

/-- TALK (R155). -/
def setTalk (on : Bool) (s : State) : Answer := (s.onFoldback fun b => b.setTalk on).replies State.talkText

def execTalk (tag : Tag) (a : Args Bool) (s : State) : Outcome := command (.talk tag a) tag a setTalk s

end Sys2Proof.Machine
end

