-- ==== Sys2Proof/Machine/Lines.lean ====
section
/-! DEFINITION. The commands of the logic lines: LINESET, LINE and LINE? (R183, R184, R189, R190). -/

namespace Sys2Proof.Machine

open Sys2Proof

/-- The reply of LINE? for a line (R190). -/
def State.lineLine (s : State) (n : LineId) : String :=
  let r := s.line n
  lineText n ++ " fn=" ++ fnText r.fn ++ " pol=" ++ (if r.activeHigh then "high" else "low") ++ " state="
    ++ activeText (s.lineState n) ++ " cue=" ++ onOff r.cueLine ++ " refused=" ++ natText r.refused

/-- LINESET (R183, R184). -/
def setLineset (a : LinesetArgs) (s : State) : Answer := do
  refuseIf (a.fn.isNone && a.polHigh.isNone) .syntaxErr
  let n ← need .range (ofNum 16 a.line)
  let fn ← match a.fn with
    | none => Except.ok (s.line n).fn
    | some f => need .range (lineFnOf f)
  (s.setLine n fn (a.polHigh.getD (s.line n).activeHigh)).replies fun s => s.lineLine n

def execLineset (tag : Tag) (a : Args LinesetArgs) (s : State) : Outcome := command (.lineset tag a) tag a setLineset s

/-- LINE (R189). -/
def setCueLine (a : LineArgs) (s : State) : Answer := do
  let n ← need .range (ofNum 16 a.line)
  (s.onLine n fun r => { r with cueLine := a.on }).replies fun s =>
    lineText n ++ " cue=" ++ onOff (s.line n).cueLine ++ " fn=" ++ fnText (s.line n).fn

def execLine (tag : Tag) (a : Args LineArgs) (s : State) : Outcome := command (.line tag a) tag a setCueLine s

/-- The lines whose function is not NONE, in line order (R190). -/
def State.linesText (s : State) : String :=
  itemsText ((pick fun n => (s.line n).fn ≠ .none).map fun n =>
    lineText n ++ "=" ++ fnText (s.line n).fn ++ ":" ++ activeText (s.lineState n))

/-- LINE? (R190). -/
def readLine (n : Option Nat) (s : State) : Answer :=
  match n with
  | none => s.tells s.linesText
  | some n => do
    let n ← need .range (ofNum 16 n)
    s.tells (s.lineLine n)

def execLineQuery (tag : Tag) (a : Args (Option Nat)) (s : State) : Outcome :=
  command (.lineQuery tag a) tag a readLine s

end Sys2Proof.Machine
end

