-- ==== Sys2Proof/Machine/Link.lean ====
section
/-! DEFINITION. The commands of the control link and the clock, lines that fail at link level, and the events of the link:
REPORT, REPORT?, LINK?, STATUS?, SHOWRESET, CLOCK?, UNKNOWN, LINE_RECEIVED, TRANSMIT_LINE, PAUSE, FULL_RESET and RESET_END
(R193 to R204, R207). -/

namespace Sys2Proof.Machine

open Sys2Proof

/-! ## REPORT and REPORT? (R200) -/

/-- The kinds of report in the order of R199, with their names (R200). -/
def kindNames : List (ReportKind × String) := Text.kindWords.map fun e => (e.2, e.1)

/-- Whether a kind is enabled after a line: its own field, else `all=`, else as it was (R200). -/
def kindEnabled (a : ReportArgs) (was : Bool) (k : ReportKind) : Bool :=
  match a.kinds.find? fun e => e.1 = k with
  | some e => e.2
  | none => a.all.getD was

/-- The kinds the mask disables after a line, in the order of R199 (R200). -/
def disabledAfter (a : ReportArgs) (disabled : List ReportKind) : List ReportKind :=
  (kindNames.map (·.1)).filter fun k => !kindEnabled a (!disabled.contains k) k

/-- Disabling a kind removes its pending entries (R200). -/
def LinkBlock.setMask (b : LinkBlock) (disabled : List ReportKind) : LinkBlock :=
  { b with disabled := disabled, reports := b.reports.filter fun r => !disabled.contains r.key.kind }

/-- The reply of REPORT and REPORT? (R200). -/
def State.maskText (s : State) : String :=
  "on=" ++ listText ((kindNames.filter fun e => !s.link.disabled.contains e.1).map (·.2)) ++ " off="
    ++ listText ((kindNames.filter fun e => s.link.disabled.contains e.1).map (·.2))

/-- REPORT (R200). -/
def setMask (a : ReportArgs) (s : State) : Answer := do
  refuseIf (a.all.isNone && a.kinds.isEmpty) .syntaxErr
  (s.onLink fun b => b.setMask (disabledAfter a b.disabled)).replies State.maskText

def execReport (tag : Tag) (a : Args ReportArgs) (s : State) : Outcome := command (.report tag a) tag a setMask s

def readMask (_ : Unit) (s : State) : Answer := s.tells s.maskText

def execReportQuery (tag : Tag) (a : Args Unit) (s : State) : Outcome := command (.reportQuery tag a) tag a readMask s

/-! ## LINK?, STATUS? and CLOCK? (R201, R202, R207) -/

/-- LINK?, read once its line has left the queue and before its reply is placed (R201). -/
def readLink (_ : Unit) (s : State) : Answer :=
  let b := s.link
  s.tells ("baud=" ++ natText b.baud ++ " queued=" ++ natText b.rxq.length ++ " replies=" ++ natText b.replies.length
    ++ " hold=" ++ yesNo s.hold ++ " pause=" ++ yesNo b.paused ++ " overflow=" ++ natText b.overflow ++ " framing="
    ++ natText b.framing ++ " long=" ++ natText b.long)

def execLinkQuery (tag : Tag) (a : Args Unit) (s : State) : Outcome := command (.linkQuery tag a) tag a readLink s

/-- STATUS? (R202). -/
def readStatus (_ : Unit) (s : State) : Answer :=
  s.tells ("run=" ++ runText s.engine.halted ++ " standby=" ++ standbyText s.engine.standby ++ " instances="
    ++ natText s.engine.insts.length ++ " fades=" ++ natText s.fades.pool.length ++ " tags="
    ++ natText (s.fetch.tagCount StoreTag.isBusy + s.fetch.tagCount StoreTag.isOrphaned) ++ " lost="
    ++ natText (s.fetch.tagCount StoreTag.isLost) ++ " waiting="
    ++ natText (s.router.calls.countP fun c => c.grant.isNone) ++ " live="
    ++ natText (s.router.calls.countP fun c => c.grant.isSome) ++ " clock="
    ++ (if s.clock.wclk then "wclk" else "internal") ++ " reports=" ++ natText s.link.reports.length)

def execStatusQuery (tag : Tag) (a : Args Unit) (s : State) : Outcome :=
  command (.statusQuery tag a) tag a readStatus s

/-- CLOCK? (R207). -/
def readClock (_ : Unit) (s : State) : Answer :=
  s.tells (s.clock.text ++ " count=" ++ natText s.clock.count ++ " losses=" ++ natText s.clock.losses)

def execClockQuery (tag : Tag) (a : Args Unit) (s : State) : Outcome := command (.clockQuery tag a) tag a readClock s

/-! ## SHOWRESET (R204) -/

/-- SHOWRESET (R204). -/
def resetShow (_ : Unit) (s : State) : Answer :=
  s.showReset.replies fun s => "showreset standby=" ++ standbyText s.engine.standby

def execShowReset (tag : Tag) (a : Args Unit) (s : State) : Outcome := command (.showReset tag a) tag a resetShow s

/-! ## Lines that fail at link level, and the link's events -/

/-- UNKNOWN (R193, R196). -/
def execUnknown (tag : Tag) (why : LinkFail) (s : State) : Outcome :=
  .next (s.commandLine (.unknown tag why) fun s => s.linkFailure tag why)

/-- LINE_RECEIVED (R193, R194). -/
def execLineReceived (chars : List RxChar) (metFull : Bool) (s : State) : Outcome :=
  laterEvent (fun s => s.receiveLine chars metFull) s

/-- TRANSMIT_LINE (R198). -/
def execTransmitLine (s : State) : Outcome := laterEvent (fun s => s.onLink LinkBlock.beginLine) s

/-- PAUSE: the level of an input, whatever the part does (R198). -/
def execPause (asserted : Bool) (s : State) : Outcome := .next (s.onLink fun b => { b with paused := asserted })

/-- FULL_RESET (R203). -/
def execFullReset (s : State) : Outcome := .next s.enterReset

/-- RESET_END; it ends a full reset that is in force (R192, R203). -/
def execResetEnd (baud1 baud0 : Bool) (s : State) : Outcome :=
  .next (if s.inReset then s.leaveReset baud1 baud0 else s)

end Sys2Proof.Machine
end

