-- ==== Sys2Proof/Machine/Mix.lean ====
section
/-! DEFINITION. The commands of the mix matrix and of the fades: LEVEL, LEVEL?, INPUT, INPUT?, CLIP? and FADE? (R19, R21, R22,
R23, R40). -/

namespace Sys2Proof.Machine

open Sys2Proof

/-- The effect of an accepted LEVEL on a crosspoint: a snap, or an unowned fade (R21). -/
def State.moveLevel (s : State) (row : Row) (bus : Bus) (code : LevelCode) (ms : Nat) : State :=
  if ms = 0 ∨ s.xpt row bus = code then s.snapLevel (.xpt row bus) code
  else s.requestFade (.xpt row bus) code ms none false

/-- LEVEL, its checks after SYNTAX and its effect (R21). -/
def setLevel (a : LevelArgs) (s : State) : Answer := do
  let row ← need .range (rowOf a.row)
  let bus ← need .range (busOf a.bus)
  refuseIf (s.claimedRow row) .claimed
  let code := crosspointLevel a.level
  (s.moveLevel row bus code (heldTime a.t)).replies fun _ =>
    rowText row ++ " " ++ busText bus ++ " level=" ++ levelText code

def execLevel (tag : Tag) (a : Args LevelArgs) (s : State) : Outcome := command (.level tag a) tag a setLevel s

/-- The reply of LEVEL? for one crosspoint (R22). -/
def State.xptText (s : State) (row : Row) (bus : Bus) : String :=
  rowText row ++ " " ++ busText bus ++ " level=" ++ levelText (s.xpt row bus) ++
    (match s.fadeOf (.xpt row bus) with
    | none => ""
    | some f => " target=" ++ levelText f.goal ++ " left=" ++ natText f.left)

/-- The reply of LEVEL? for a row: its crosspoints that are not OFF, in column order (R22). -/
def State.rowLevelsText (s : State) (row : Row) : String :=
  rowText row ++ " " ++ itemsText ((allBuses.filter fun bus => s.xpt row bus ≠ offCode).map fun bus =>
    busText bus ++ "=" ++ levelText (s.xpt row bus))

/-- LEVEL? (R22). -/
def readLevel (a : LevelQueryArgs) (s : State) : Answer := do
  let row ← need .range (rowOf a.row)
  match a.bus with
  | none => s.tells (s.rowLevelsText row)
  | some b =>
    let bus ← need .range (busOf b)
    s.tells (s.xptText row bus)

def execLevelQuery (tag : Tag) (a : Args LevelQueryArgs) (s : State) : Outcome :=
  command (.levelQuery tag a) tag a readLevel s

def placeText : Place → String
  | .main => "main"
  | .spare1 => "spare1"
  | .spare2 => "spare2"

/-- The `use=` field (R23, R45). -/
def useText : Use → String
  | .free => "free"
  | .claimed p place => perfText p ++ " " ++ placeText place
  | .paging n => pageText n
  | .talkback => "talkback"

/-- The reply of INPUT and INPUT? (R23). -/
def State.inputText (s : State) (i : InputId) : String :=
  inText i ++ " trim=" ++ levelText (s.matrix.trims.get i) ++ " use=" ++ useText (s.use i)

/-- INPUT (R23). -/
def setInput (a : InputArgs) (s : State) : Answer := do
  let i ← need .range (ofNum 64 a.input)
  (s.onMatrix fun b => { b with trims := put b.trims i (trimLevel a.trim) }).replies fun s => s.inputText i

def execInput (tag : Tag) (a : Args InputArgs) (s : State) : Outcome := command (.input tag a) tag a setInput s

/-- INPUT? (R23). -/
def readInput (n : Nat) (s : State) : Answer := do
  let i ← need .range (ofNum 64 n)
  s.tells (s.inputText i)

def execInputQuery (tag : Tag) (a : Args Nat) (s : State) : Outcome := command (.inputQuery tag a) tag a readInput s

/-- CLIP? (R19). -/
def readClip (name : BusName) (s : State) : Answer := do
  let bus ← need .range (busOf name)
  s.tells (clipText bus (s.clip bus))

def execClipQuery (tag : Tag) (a : Args BusName) (s : State) : Outcome := command (.clipQuery tag a) tag a readClip s

/-- The reply of FADE? (R40). -/
def State.fadesText (s : State) : String :=
  let owned := s.fades.pool.countP fun f => f.owner.isSome
  "used=" ++ natText s.fades.pool.length ++ " owned=" ++ natText owned ++ " frozen="
    ++ natText (if s.engine.halted then owned else 0) ++ " snaps=" ++ natText s.fades.snaps

/-- FADE? (R40). -/
def readFades (_ : Unit) (s : State) : Answer := s.tells s.fadesText

def execFadeQuery (tag : Tag) (a : Args Unit) (s : State) : Outcome := command (.fadeQuery tag a) tag a readFades s

end Sys2Proof.Machine
end

