-- ==== Sys2Proof/Machine/Playback.lean ====
section
/-! DEFINITION. The commands of the sample fetch unit: SOUND, SOUND?, PLAY, STOP, VOICE?, PLAYER?, FETCH and FETCH? (R123, R135,
R136, R144, R145). -/

namespace Sys2Proof.Machine

open Sys2Proof

/-! ## SOUND (R122, R123) -/

/-- The record a SOUND line spells. -/
def soundOf (a : SoundArgs) : Sound := { first := a.block, len := a.len, loop := a.loop }

/-- Whether a record breaks a range of R123, step 2. -/
def Sound.outOfRange (d : Sound) : Bool :=
  Config.maxBlock < d.first || d.len = 0 || Config.maxSoundLen < d.len
    || (d.loop.any fun l => l.2 ≤ l.1 || d.len < l.2) || Config.maxBlock + 1 < d.first + d.blocks

/-- Whether a loop point is not a multiple of 256 (R123, step 3). -/
def Sound.misaligned (d : Sound) : Bool :=
  d.loop.any fun l => l.1 % Config.blockSamples ≠ 0 || l.2 % Config.blockSamples ≠ 0

/-- Whether a reader is using a sound (R123, step 4). -/
def State.soundInUse (s : State) (n : SoundId) : Bool :=
  s.fetch.readers.toList.any fun r => r.state ≠ .idle ∧ r.soundId = some n

/-- The reply of SOUND? for a record (R123). -/
def soundLine (n : SoundId) (d : Sound) : String :=
  soundText n ++ " block=" ++ natText d.first ++ " len=" ++ natText d.len ++ " loop="
    ++ optText (fun l => natText l.1 ++ "," ++ natText l.2) d.loop ++ " blocks=" ++ natText d.blocks

/-- SOUND (R123). -/
def setSound (a : SoundArgs) (s : State) : Answer := do
  let d := soundOf a
  let n ← need .range (ofNum 1024 a.sound)
  refuseIf d.outOfRange .range
  refuseIf d.misaligned .align
  refuseIf (if a.replace then s.soundInUse n else (s.soundRec n).isSome) .exists_
  (s.onFetch fun b => { b with sounds := put b.sounds n (some d) }).replies fun _ => soundLine n d

def execSound (tag : Tag) (a : Args SoundArgs) (s : State) : Outcome := command (.sound tag a) tag a setSound s

/-- SOUND? (R123). -/
def readSound (n : Nat) (s : State) : Answer := do
  let n ← need .range (ofNum 1024 n)
  let d ← need .noSuch (s.soundRec n)
  s.tells (soundLine n d)

def execSoundQuery (tag : Tag) (a : Args Nat) (s : State) : Outcome := command (.soundQuery tag a) tag a readSound s

/-! ## PLAY and STOP (R135, R136) -/

/-- A voice and its state, as the replies of PLAY and STOP give them (R135, R136). -/
def State.voiceState (s : State) (v : VoiceId) : String := voiceText v ++ " state=" ++ readerStateText (s.voice v).state

/-- PLAY (R136). -/
def startPlay (a : PlayArgs) (s : State) : Answer := do
  let v ← need .range (ofNum 24 a.voice)
  let n ← need .range (ofNum 1024 a.sound)
  let d ← need .noSuch (s.soundRec n)
  (s.play v n d (heldTime a.fadeIn) none).replies fun s => s.voiceState v ++ " " ++ soundText n

def execPlay (tag : Tag) (a : Args PlayArgs) (s : State) : Outcome := command (.play tag a) tag a startPlay s

/-- STOP of a voice (R135). -/
def stopPlay (a : StopArgs) (s : State) : Answer := do
  let v ← need .range (ofNum 24 a.voice)
  (s.stopVoice v (heldTime a.t) none).replies fun s => s.voiceState v

def execStop (tag : Tag) (a : Args StopArgs) (s : State) : Outcome := command (.stop tag a) tag a stopPlay s

/-! ## VOICE? and PLAYER? (R144) -/

/-- The fields that stand in place of `event=` (R144). -/
def Reader.ringFields (r : Reader) : String :=
  " full=" ++ natText r.fullCount ++ " pending=" ++ natText r.pendingCount ++ " retry="
    ++ optText (fun m => natText m.1.val) r.retry

/-- The reply of VOICE? for a voice (R144). -/
def State.voiceLine (s : State) (v : VoiceId) : String :=
  let r := s.voice v
  voiceText v ++ " " ++ r.stateFields ++ " level=" ++ levelText r.level ++ r.ringFields ++ " owner="
    ++ optText slotText r.owner ++ r.countFields

/-- The voices that are not IDLE, in voice order (R144). -/
def State.voicesText (s : State) : String :=
  itemsText ((pick fun v => (s.voice v).state ≠ .idle).map fun v =>
    voiceText v ++ "=" ++ readerStateText (s.voice v).state)

/-- VOICE? (R144). -/
def readVoice (n : Option Nat) (s : State) : Answer :=
  match n with
  | none => s.tells s.voicesText
  | some n => do
    let v ← need .range (ofNum 24 n)
    s.tells (s.voiceLine v)

def execVoiceQuery (tag : Tag) (a : Args (Option Nat)) (s : State) : Outcome :=
  command (.voiceQuery tag a) tag a readVoice s

/-- PLAYER? (R144). -/
def readPlayer (n : Nat) (s : State) : Answer := do
  let p ← need .range (ofNum 2 n)
  let r := s.reader (playerReader p)
  s.tells (playerText p ++ " " ++ r.stateFields ++ r.ringFields ++ r.countFields)

def execPlayerQuery (tag : Tag) (a : Args Nat) (s : State) : Outcome :=
  command (.playerQuery tag a) tag a readPlayer s

/-! ## FETCH (R145) -/

/-- The reply of FETCH? (R145). -/
def State.fetchLine (s : State) : String := "refill=" ++ natText s.fetch.refill ++ " " ++ s.fetch.storeText

/-- FETCH (R145). -/
def setFetch (w : Int) (s : State) : Answer :=
  (s.onFetch fun b => { b with refill := heldNumber 1 7 w }).replies State.fetchLine

def execFetch (tag : Tag) (a : Args Int) (s : State) : Outcome := command (.fetch tag a) tag a setFetch s

/-- FETCH? (R145). -/
def readFetch (_ : Unit) (s : State) : Answer := s.tells s.fetchLine

def execFetchQuery (tag : Tag) (a : Args Unit) (s : State) : Outcome := command (.fetchQuery tag a) tag a readFetch s

end Sys2Proof.Machine
end

