-- ==== Sys2Proof/Machine/Relay.lean ====
section
/-! DEFINITION. The commands of the relay and call router: ZONE, ZONE?, GROUP?, CALL, CALL?, CALLEND, CALLCANCEL, PRESETDEF,
PRESETDEF? and PRESET (R161, R162, R165, R168, R176, R179, R180, R181). -/

namespace Sys2Proof.Machine

open Sys2Proof

/-! ## ZONE, ZONE? and GROUP? (R161, R162) -/

/-- The groups a zone names, in ascending order (DESIGN CHOICE, log 42). -/
def Zone.groupList (z : Zone) : List GroupId := pick fun g => z.groups.get g

/-- The reply of ZONE? (R162). -/
def State.zoneLine (s : State) (z : ZoneId) : String :=
  let x := s.zone z
  zoneText z ++ " name=" ++ nameText x.name ++ " relay=" ++ onOff x.relay ++ " level=" ++ levelText x.level ++ " trim="
    ++ levelText x.trim ++ " quiet=" ++ yesNo x.quiet ++ " groups=" ++ listText (x.groupList.map groupText) ++ " call="
    ++ optText natText x.holding ++ " duck=" ++ levelText x.duck

/-- Whether the line carries any field (R161). -/
def zoneHasField (a : ZoneArgs) : Bool :=
  a.name.isSome || a.relay.isSome || a.level.isSome || a.trim.isSome || a.quiet.isSome || a.groups.isSome

/-- A zone record with the fields of a line applied together (R161). -/
def applyZone (a : ZoneArgs) (groups : Option (List GroupId)) (x : Zone) : Zone :=
  { x with
    name := a.name.getD x.name
    relay := a.relay.getD x.relay
    level := (a.level.map relayLevel).getD x.level
    trim := (a.trim.map callTrim).getD x.trim
    quiet := a.quiet.getD x.quiet
    groups := (groups.map fun l => Vector.ofFn fun g => l.contains g).getD x.groups }

/-- ZONE (R161). -/
def setZone (a : ZoneArgs) (s : State) : Answer := do
  refuseIf (!zoneHasField a) .syntaxErr
  refuseIf (!(a.name.all nameAllowed)) .syntaxErr
  refuseIf (a.name.any fun n => Config.nameChars < n.length) .range
  let z ← need .range (ofNum 24 a.zone)
  let groups ← match a.groups with
    | none => Except.ok none
    | some l => (need .range (nums 8 l)).map some
  refuseIf (groups.any fun l => !decide l.Nodup) .duplicate
  ((s.onZone z (applyZone a groups)).walk).replies fun s => s.zoneLine z

def execZone (tag : Tag) (a : Args ZoneArgs) (s : State) : Outcome := command (.zone tag a) tag a setZone s

/-- ZONE? (R162). -/
def readZone (n : Nat) (s : State) : Answer := do
  let z ← need .range (ofNum 24 n)
  s.tells (s.zoneLine z)

def execZoneQuery (tag : Tag) (a : Args Nat) (s : State) : Outcome := command (.zoneQuery tag a) tag a readZone s

/-- The member zones of a group, in ascending order (R160, R162). -/
def State.groupZones (s : State) (g : GroupId) : List ZoneId := pick fun z => (s.zone z).groups.get g

/-- GROUP? (R162). -/
def readGroup (n : Nat) (s : State) : Answer := do
  let g ← need .range (ofNum 8 n)
  s.tells (groupText g ++ " zones=" ++ listText ((s.groupZones g).map zoneText))

def execGroupQuery (tag : Tag) (a : Args Nat) (s : State) : Outcome := command (.groupQuery tag a) tag a readGroup s

/-! ## CALL and CALL? (R165, R168, R181) -/

/-- Whether a request names a sound with no record (R165, check 4). -/
def State.sourceMissing (s : State) (q : CallRequest) : Bool :=
  match q.src with
  | .sound n => (s.soundRec n).isNone
  | .page _ => false

/-- A request as CALL and PRESETDEF check it, steps 1 to 4 (R165, R179). -/
def State.checkRequest (s : State) (a : CallArgs) : Except ErrCode CallRequest := do
  let q ← requestOf a
  refuseIf (!decide q.targets.Nodup) .duplicate
  refuseIf (s.sourceMissing q) .noSuch
  return q

/-- CALL (R165, R168). -/
def makeCall (a : CallArgs) (s : State) : Answer := do
  let q ← s.checkRequest a
  let (id, t) ← s.submit q none
  t.replies fun t => "call=" ++ natText id ++ " state=" ++ callStateText (t.callStateOf id)

def execCall (tag : Tag) (a : Args CallArgs) (s : State) : Outcome := command (.call tag a) tag a makeCall s

/-- The milliseconds a WAITING recorded call with an expiry has left (R167, R177). -/
def Call.expiryLeft (c : Call) (now : Nat) : Option Nat :=
  if c.grant.isNone && 0 < c.req.expiry then some (c.req.expiry - (now - c.admittedAt) / Config.framesPerMs) else none

/-- The reply of CALL? for a call (R181). -/
def State.callLine (s : State) (c : Call) : String :=
  callFields c c.state c.player none ++ " exp=" ++ optText natText (c.expiryLeft s.now) ++ " line="
    ++ optText lineText c.line

/-- The reply of CALL? without an argument (R181). -/
def State.callsText (s : State) : String :=
  itemsText (s.router.calls.map fun c => "call:" ++ natText c.id ++ "=" ++ callStateText c.state)

/-- An id outside 1 to 255 (R176). -/
def idOutOfRange (id : Nat) : Bool := id < 1 || 255 < id

/-- CALL? (R181): an id that no call of the table has is NOSUCH. -/
def readCall (n : Option Nat) (s : State) : Answer :=
  match n with
  | none => s.tells s.callsText
  | some id => do
    let c ← need .noSuch (s.callAt id)
    s.tells (s.callLine c)

def execCallQuery (tag : Tag) (a : Args (Option Nat)) (s : State) : Outcome :=
  command (.callQuery tag a) tag a readCall s

/-! ## CALLEND and CALLCANCEL (R176) -/

/-- CALLEND and CALLCANCEL differ in the cause they record (R176). -/
def finishCall (cause : CallCause) (id : Nat) (s : State) : Answer := do
  refuseIf (idOutOfRange id) .range
  let c ← need .noSuch (s.callAt id)
  (s.endCall c cause).replies fun _ => "call=" ++ natText id ++ " state=ended cause=" ++ causeText cause

def execCallEnd (tag : Tag) (a : Args Nat) (s : State) : Outcome :=
  command (.callEnd tag a) tag a (finishCall .ended) s

def execCallCancel (tag : Tag) (a : Args Nat) (s : State) : Outcome :=
  command (.callCancel tag a) tag a (finishCall .cancelled) s

/-! ## Presets (R179, R180) -/

def targetName : CallTarget → String
  | .zone n => zoneText n
  | .group n => groupText n
  | .perf n => perfText n
  | .role n => roleText n

def presetName (k : PresetId) : String := objText "preset" k

/-- The reply of PRESETDEF? (R179). -/
def State.presetLine (s : State) (k : PresetId) : String :=
  match s.router.presets.get k with
  | none => presetName k ++ " none"
  | some q =>
    presetName k ++ " src=" ++ sourceText q.src ++ " to=" ++ joinText "," (q.targets.map targetName) ++ " pri="
      ++ natText q.pri ++ " duck=" ++ depthText q.duck ++ " level=" ++ levelText q.level ++ " exp=" ++ natText q.expiry

/-- A preset replaced whole (R179). -/
def State.storePreset (s : State) (k : PresetId) (q : Option CallRequest) : State :=
  s.onRouter fun b => { b with presets := put b.presets k q }

/-- The request a PRESETDEF line stores, checked as CALL checks it, with RANGE also for the preset number (R179). -/
def State.presetRequest (s : State) (k : Option PresetId) : Option CallArgs → Except ErrCode (Option CallRequest)
  | none => .ok none
  | some r => do
    let q ← requestOf r
    refuseIf k.isNone .range
    refuseIf (!decide q.targets.Nodup) .duplicate
    refuseIf (s.sourceMissing q) .noSuch
    return some q

/-- PRESETDEF (R179). -/
def definePreset (a : PresetDefArgs) (s : State) : Answer := do
  let q ← s.presetRequest (ofNum 16 a.preset) a.request
  let k ← need .range (ofNum 16 a.preset)
  (s.storePreset k q).replies fun s => s.presetLine k

def execPresetDef (tag : Tag) (a : Args PresetDefArgs) (s : State) : Outcome :=
  command (.presetDef tag a) tag a definePreset s

/-- PRESETDEF? (R179). -/
def readPreset (n : Nat) (s : State) : Answer := do
  let k ← need .range (ofNum 16 n)
  s.tells (s.presetLine k)

def execPresetDefQuery (tag : Tag) (a : Args Nat) (s : State) : Outcome :=
  command (.presetDefQuery tag a) tag a readPreset s

/-- PRESET (R180). -/
def firePreset (n : Nat) (s : State) : Answer := do
  let k ← need .range (ofNum 16 n)
  let q ← need .noSuch (s.router.presets.get k)
  let (id, t) ← s.submit q none
  t.replies fun t =>
    "call=" ++ natText id ++ " state=" ++ callStateText (t.callStateOf id) ++ " preset=" ++ natText (num k)

def execPreset (tag : Tag) (a : Args Nat) (s : State) : Outcome := command (.preset tag a) tag a firePreset s

end Sys2Proof.Machine
end

