-- ==== Sys2Proof/Machine/Cast.lean ====
section
/-! DEFINITION. The commands of the cast table: ROLE, PERF, PERF?, PAGE, PAGE?, TALKIN, TALKIN?, CAST and CAST? (R42, R47 to R53,
R59). -/

namespace Sys2Proof.Machine

open Sys2Proof

/-- ROLE (R42). -/
def setRole (a : RoleArgs) (s : State) : Answer := do
  refuseIf (!nameAllowed a.name) .syntaxErr
  refuseIf (Config.nameChars < a.name.length) .range
  let r ← need .range (ofNum 40 a.role)
  (s.onRole r fun x => { x with name := a.name }).replies fun _ => roleText r ++ " name=" ++ nameText a.name

def execRole (tag : Tag) (a : Args RoleArgs) (s : State) : Outcome := command (.role tag a) tag a setRole s

/-! ## PERF (R47 to R49) -/

/-- The reply of PERF? (R59). -/
def State.perfLine (s : State) (p : PerfId) : String :=
  let x := s.perf p
  perfText p ++ " name=" ++ nameText x.name ++ " main=" ++ optText inText x.main ++ " spares="
    ++ listText (x.spares.map inText) ++ " trim=" ++ levelText x.trim ++ " zone=" ++ optText zoneText x.zone
    ++ " revert=" ++ (if x.revertAuto then "auto" else "hold") ++ " mode=" ++ (if x.modeAuto then "auto" else "manual")
    ++ " active=" ++ optText inText x.active ++ " state=" ++ perfStateText x.state ++ " compromised="
    ++ yesNo x.compromised ++ " role=" ++ optText roleText x.role

/-- Whether the line carries an input field (R47). -/
def hasInputs (a : PerfArgs) : Bool := a.main.isSome || a.spares.isSome

/-- Whether the line carries any field (R47). -/
def hasField (a : PerfArgs) : Bool :=
  hasInputs a || a.name.isSome || a.trim.isSome || a.zone.isSome || a.revertAuto.isSome || a.modeAuto.isSome

/-- Whether the record that would result, `old` the one that stands, has spares and no main input (R47, check 1). For a performer
outside 1 to 48 there is no record to form it from, and only the fields given count. -/
def sparesAlone (a : PerfArgs) (old : Option Perf) : Bool :=
  let spares := match a.spares with
    | some l => !l.isEmpty
    | none => old.any fun x => !x.spares.isEmpty
  let main := match a.main with
    | some m => m.isSome
    | none => (old.map fun x => x.main.isSome).getD true
  spares && !main

/-- Whether an input's use keeps a performer from claiming it (R45, R47 check 5). -/
def State.usedElsewhere (s : State) (p : PerfId) (i : InputId) : Bool :=
  match s.use i with
  | .free => false
  | .claimed q _ => q ≠ p
  | .paging _ => true
  | .talkback => true

/-- An input enters a performer's inputs: it is claimed, its row silenced, its tracking begun (R46). -/
def State.claimInput (s : State) (p : PerfId) (e : InputId × Place) : State :=
  ((s.onCast fun b => { b with claims := put b.claims e.1 (some (p, e.2)) }).silenceRow e.1).track e.1 p

/-- An input leaves a performer's inputs: it becomes free, and its tracking stops (R46). -/
def State.releaseInput (s : State) (p : PerfId) (e : InputId × Place) : State :=
  (s.onCast fun b => { b with claims := put b.claims e.1 none }).untrack e.1 p

/-- An input that stays keeps its claim in its new place (R46, R48). -/
def State.placeInput (s : State) (p : PerfId) (e : InputId × Place) : State :=
  s.onCast fun b => { b with claims := put b.claims e.1 (some (p, e.2)) }

/-- A performer's inputs are set. The entering inputs are claimed in the order of their places (main, spare 1, spare 2), and then
the leaving ones released in the order of their old places, which is the order of their MIC reports (R48, R66; DESIGN CHOICE,
log 33). -/
def State.setInputs (s : State) (p : PerfId) (main : Option InputId) (spares : List InputId) : State :=
  let old := (s.perf p).inputs
  let s := s.onPerf p fun x =>
    { x with main := main, spares := spares, active := main, state := if x.modeAuto then .main else .manual,
             compromised := false }
  let new := (s.perf p).inputs
  let entering := new.filter fun e => old.all fun o => o.1 ≠ e.1
  let leaving := old.filter fun o => new.all fun e => e.1 ≠ o.1
  let s := entering.foldl (fun s e => s.claimInput p e) s
  let s := leaving.foldl (fun s e => s.releaseInput p e) s
  let s := new.foldl (fun s e => s.placeInput p e) s
  s.raisePerf p "inputs"

/-- `mode=manual`, and `mode=auto` as the AUTO command (R49, R79, R80). -/
def State.setMode (s : State) (p : PerfId) (auto : Bool) : State :=
  if auto then s.setAuto p
  else if (s.perf p).modeAuto then
    (s.onPerf p fun x => { x with modeAuto := false, state := .manual }).raisePerf p "manual"
  else s

/-- After new inputs, a performer in AUTO whose active input is already DOWN runs selection at once (R81). -/
def State.selectIfDown (s : State) (p : PerfId) : State :=
  if (s.perf p).modeAuto && (s.perf p).active.any s.isDown then
    let (s, event) := s.select p
    s.raisePerfIf p event
  else s

/-- The fields of a PERF whose checks have passed (R47). -/
structure PerfFields where
  main : Option InputId
  spares : List InputId
  zone : Option (Option ZoneId)

/-- An accepted PERF applies its fields: the name, the inputs, the trim, zone and revert mode, and last the mode (R47). -/
def State.applyPerf (s : State) (p : PerfId) (a : PerfArgs) (f : PerfFields) : State :=
  let s := s.onPerf p fun x => { x with name := a.name.getD x.name }
  let s := if hasInputs a then s.setInputs p f.main f.spares else s
  let s := s.onPerf p fun x =>
    { x with trim := (a.trim.map trimLevel).getD x.trim, zone := f.zone.getD x.zone,
             revertAuto := a.revertAuto.getD x.revertAuto }
  let s := match a.modeAuto with
    | none => s
    | some auto => s.setMode p auto
  if hasInputs a then s.selectIfDown p else s

/-- PERF (R47). -/
def setPerf (a : PerfArgs) (s : State) : Answer := do
  refuseIf (!hasField a) .syntaxErr
  refuseIf (!(a.name.all nameAllowed)) .syntaxErr
  refuseIf (a.spares.any fun l => 2 < l.length) .syntaxErr
  refuseIf (sparesAlone a ((ofNum 48 a.perf).map s.perf)) .syntaxErr
  refuseIf (a.name.any fun n => Config.nameChars < n.length) .range
  let p ← need .range (ofNum 48 a.perf)
  let x := s.perf p
  let main ← match a.main with
    | none => Except.ok x.main
    | some m => need .range (optNum 64 m)
  let spares ← match a.spares with
    | none => Except.ok x.spares
    | some l => need .range (nums 64 l)
  let zone ← match a.zone with
    | none => Except.ok none
    | some z => (need .range (optNum 24 z)).map some
  let inputs := main.toList ++ spares
  refuseIf (!decide inputs.Nodup) .duplicate
  refuseIf (hasInputs a && x.role.isSome) .inRole
  refuseIf (inputs.any (s.usedElsewhere p)) .claimed
  (s.applyPerf p a { main := main, spares := spares, zone := zone }).replies fun s => s.perfLine p

def execPerf (tag : Tag) (a : Args PerfArgs) (s : State) : Outcome := command (.perf tag a) tag a setPerf s

/-- PERF? (R59). -/
def readPerf (n : Nat) (s : State) : Answer := do
  let p ← need .range (ofNum 48 n)
  s.tells (s.perfLine p)

def execPerfQuery (tag : Tag) (a : Args Nat) (s : State) : Outcome := command (.perfQuery tag a) tag a readPerf s

/-! ## PAGE and TALKIN (R50, R51) -/

/-- Whether an input's use keeps it from being assigned as paging input `n` (R50). -/
def State.pageForbidden (s : State) (n : PageId) (i : InputId) : Bool :=
  match s.use i with
  | .free => false
  | .claimed _ _ => true
  | .paging m => m ≠ n
  | .talkback => true

/-- PAGE (R50). -/
def setPage (a : PageArgs) (s : State) : Answer := do
  let n ← need .range (ofNum 2 a.page)
  let i ← need .range (optNum 64 a.input)
  refuseIf (i.any (s.pageForbidden n)) .claimed
  (s.onCast fun b => { b with pages := put b.pages n i }).replies fun _ => pageText n ++ " in=" ++ optText inText i

def execPage (tag : Tag) (a : Args PageArgs) (s : State) : Outcome := command (.page tag a) tag a setPage s

/-- PAGE? (R59). -/
def readPages (_ : Unit) (s : State) : Answer :=
  s.tells ("page:1=" ++ optText inText (s.cast.pages.get 0) ++ " page:2=" ++ optText inText (s.cast.pages.get 1))

def execPageQuery (tag : Tag) (a : Args Unit) (s : State) : Outcome := command (.pageQuery tag a) tag a readPages s

/-- Whether an input's use keeps it from being assigned as the talkback input (R51). -/
def State.talkinForbidden (s : State) (i : InputId) : Bool :=
  match s.use i with
  | .free => false
  | .claimed _ _ => true
  | .paging _ => true
  | .talkback => false

/-- The reply of TALKIN and TALKIN? (R51, R59). -/
def State.talkinText (s : State) : String := "talkin=" ++ optText inText s.cast.talkin

/-- TALKIN (R51). -/
def setTalkin (n : Option Nat) (s : State) : Answer := do
  let i ← need .range (optNum 64 n)
  refuseIf (i.any s.talkinForbidden) .claimed
  (s.onCast fun b => { b with talkin := i }).replies State.talkinText

def execTalkin (tag : Tag) (a : Args (Option Nat)) (s : State) : Outcome := command (.talkin tag a) tag a setTalkin s

/-- TALKIN? (R59). -/
def readTalkin (_ : Unit) (s : State) : Answer := s.tells s.talkinText

def execTalkinQuery (tag : Tag) (a : Args Unit) (s : State) : Outcome :=
  command (.talkinQuery tag a) tag a readTalkin s

/-! ## CAST (R52, R53, R59) -/

/-- The frames a crossfade has still to run (R59). -/
def Crossfade.left (x : Crossfade) : Nat := Config.xfadeFrames - x.k

/-- The reply of CAST? for a role (R59). -/
def State.castLine (s : State) (r : RoleId) : String :=
  let x := s.role r
  roleText r ++ " name=" ++ nameText x.name ++ " perf=" ++ optText perfText x.holder ++ " in="
    ++ optText inText (x.holder.bind fun p => (s.perf p).active) ++ " xfade="
    ++ optText (fun x => natText x.left) x.xfade

/-- Whether a performer holds a role other than the one named (R52). -/
def State.heldElsewhere (s : State) (r : RoleId) (p : PerfId) : Bool := (s.perf p).role.any fun q => q ≠ r

/-- CAST (R52, R53). -/
def setCast (a : CastArgs) (s : State) : Answer := do
  let r ← need .range (ofNum 40 a.role)
  let p ← need .range (optNum 48 a.perf)
  refuseIf (p.any (s.heldElsewhere r)) .held
  (s.castRole r p).replies fun s => s.castLine r

def execCast (tag : Tag) (a : Args CastArgs) (s : State) : Outcome := command (.cast tag a) tag a setCast s

/-- The held roles in role order (R59). -/
def State.castsText (s : State) : String :=
  itemsText ((List.finRange 40).filterMap fun r => (s.role r).holder.map fun p => roleText r ++ "=" ++ perfText p)

/-- CAST? (R59). -/
def readCast (n : Option Nat) (s : State) : Answer :=
  match n with
  | none => s.tells s.castsText
  | some n => do
    let r ← need .range (ofNum 40 n)
    s.tells (s.castLine r)

def execCastQuery (tag : Tag) (a : Args (Option Nat)) (s : State) : Outcome :=
  command (.castQuery tag a) tag a readCast s

end Sys2Proof.Machine
end

