-- ==== Sys2Proof/Machine/Supervision.lean ====
section
/-! DEFINITION. The commands of radio microphone supervision: SUPV, SUPV?, TLM?, MIC?, SELECT and AUTO (R63, R64, R65, R73, R78,
R79). -/

namespace Sys2Proof.Machine

open Sys2Proof

/-! ## SUPV (R64, R65) -/

/-- Whether the line carries any field (R64). -/
def supvHasField (a : SupvArgs) : Bool :=
  a.floor.isSome || a.hyst.isSome || a.overThreshold.isSome || a.batt.isSome || a.dropout.isSome || a.restore.isSome
    || a.stale.isSome || a.ref.isSome || a.margin.isSome

/-- A setting with its field applied, clamped to its range (R64). -/
def setting (lo hi : Nat) (field : Option Int) (old : Nat) : Nat := (field.map (heldNumber lo hi)).getD old

/-- The settings with the fields of a line applied; `ref` is the reference channel that results (R64). -/
def applySupv (a : SupvArgs) (ref : Option InputId) (x : Supervision) : Supervision :=
  { floor := setting 0 100 a.floor x.floor
    hyst := setting 0 30 a.hyst x.hyst
    overThreshold := setting 0 100 a.overThreshold x.overThreshold
    batt := setting 0 100 a.batt x.batt
    dropout := setting 20 2000 a.dropout x.dropout
    restore := setting 100 10000 a.restore x.restore
    stale := setting 100 5000 a.stale x.stale
    ref := ref
    margin := setting 0 40 a.margin x.margin }

/-- A change of reference channel discards the reference record and stops its timer (R65). -/
def MicBlock.setRef (b : MicBlock) (ref : Option InputId) : MicBlock :=
  if ref = b.sup.ref then b else { b with refRf := none, refStaleAt := none }

def MicBlock.refStateText (b : MicBlock) : String :=
  if b.sup.ref.isNone then "none" else if b.refLive then "live" else "stale"

/-- The reply of SUPV? (R64). -/
def State.supvText (s : State) : String :=
  let x := s.mic.sup
  "floor=" ++ natText x.floor ++ " hyst=" ++ natText x.hyst ++ " over=" ++ natText x.overThreshold ++ " batt="
    ++ natText x.batt ++ " dropout=" ++ natText x.dropout ++ " restore=" ++ natText x.restore ++ " stale="
    ++ natText x.stale ++ " ref=" ++ optText inText x.ref ++ " margin=" ++ natText x.margin ++ " eff="
    ++ natText s.mic.effectiveFloor ++ " refstate=" ++ s.mic.refStateText ++ " refrf=" ++ optText natText s.mic.refRf

/-- SUPV (R64). -/
def setSupv (a : SupvArgs) (s : State) : Answer := do
  refuseIf (!supvHasField a) .syntaxErr
  let ref ← match a.ref with
    | none => Except.ok s.mic.sup.ref
    | some r => need .range (optNum 64 r)
  (s.onMic fun b => { b.setRef ref with sup := applySupv a ref b.sup }).replies State.supvText

def execSupv (tag : Tag) (a : Args SupvArgs) (s : State) : Outcome := command (.supv tag a) tag a setSupv s

/-- SUPV? (R64). -/
def readSupv (_ : Unit) (s : State) : Answer := s.tells s.supvText

def execSupvQuery (tag : Tag) (a : Args Unit) (s : State) : Outcome := command (.supvQuery tag a) tag a readSupv s

/-! ## TLM? and MIC? (R63, R73) -/

def portText : Framing → String
  | .hunt => "hunt"
  | .waitSync => "wait"
  | .collect _ => "collect"

/-- TLM? (R63). -/
def readTlm (_ : Unit) (s : State) : Answer :=
  s.tells ("port=" ++ portText s.mic.tlm.framing ++ " " ++ s.mic.tlm.countText)

def execTlmQuery (tag : Tag) (a : Args Unit) (s : State) : Outcome := command (.tlmQuery tag a) tag a readTlm s

/-- The age of a health record: whole milliseconds since its last valid record, a part of a millisecond dropped (R66; DESIGN
CHOICE, log 35). -/
def HealthRec.age (h : HealthRec) (now : Nat) : Option Nat :=
  h.last.map fun _ => (now - h.lastAt) / Config.framesPerMs

/-- The reply of MIC? for an input (R73). -/
def State.micText (s : State) (i : InputId) : String :=
  match s.health i, s.claim i with
  | some h, some (p, _) => healthFields i h p ++ " age=" ++ optText natText (h.age s.now)
  | _, _ => inText i ++ " untracked"

/-- The tracked inputs that are not GOOD, in input order (R73). -/
def State.micsText (s : State) : String :=
  itemsText ((List.finRange 64).filterMap fun i => (s.health i).bind fun h =>
    if h.state = .good then none else some (inText i ++ "=" ++ healthText h.state))

/-- MIC? (R73). -/
def readMic (n : Option Nat) (s : State) : Answer :=
  match n with
  | none => s.tells s.micsText
  | some n => do
    let i ← need .range (ofNum 64 n)
    s.tells (s.micText i)

def execMicQuery (tag : Tag) (a : Args (Option Nat)) (s : State) : Outcome :=
  command (.micQuery tag a) tag a readMic s

/-! ## SELECT and AUTO (R78, R79) -/

/-- An accepted SELECT (R78). -/
def State.forceInput (s : State) (p : PerfId) (i : InputId) : State :=
  ((s.changeover p i).onPerf p fun x => { x with modeAuto := false, state := .manual, compromised := false }).raisePerf p
    "select"

/-- SELECT (R78). -/
def setSelect (a : SelectArgs) (s : State) : Answer := do
  let p ← need .range (ofNum 48 a.perf)
  let i ← need .range (ofNum 64 a.input)
  refuseIf ((s.perf p).inputs.all fun e => e.1 ≠ i) .noSuch
  (s.forceInput p i).replies fun s => s.perfLine p

def execSelect (tag : Tag) (a : Args SelectArgs) (s : State) : Outcome := command (.select tag a) tag a setSelect s

/-- AUTO (R79). -/
def setAutoMode (n : Nat) (s : State) : Answer := do
  let p ← need .range (ofNum 48 n)
  (s.setAuto p).replies fun s => s.perfLine p

def execAuto (tag : Tag) (a : Args Nat) (s : State) : Outcome := command (.auto tag a) tag a setAutoMode s

end Sys2Proof.Machine
end

