-- ==== Sys2Proof/Machine/Dispatch.lean ====
section
/-! DEFINITION. The effect of each command and event, one arm for each row of spec/opcode_table.json. -/

namespace Sys2Proof.Machine

open Sys2Proof

def exec (i : Instr) (s : State) : Host.Outcome State Fault Refusal :=
  match i with
  | .level tag a => Sys2Proof.Machine.execLevel tag a s
  | .levelQuery tag a => Sys2Proof.Machine.execLevelQuery tag a s
  | .input tag a => Sys2Proof.Machine.execInput tag a s
  | .inputQuery tag a => Sys2Proof.Machine.execInputQuery tag a s
  | .clipQuery tag a => Sys2Proof.Machine.execClipQuery tag a s
  | .fadeQuery tag a => Sys2Proof.Machine.execFadeQuery tag a s
  | .role tag a => Sys2Proof.Machine.execRole tag a s
  | .perf tag a => Sys2Proof.Machine.execPerf tag a s
  | .perfQuery tag a => Sys2Proof.Machine.execPerfQuery tag a s
  | .page tag a => Sys2Proof.Machine.execPage tag a s
  | .pageQuery tag a => Sys2Proof.Machine.execPageQuery tag a s
  | .talkin tag a => Sys2Proof.Machine.execTalkin tag a s
  | .talkinQuery tag a => Sys2Proof.Machine.execTalkinQuery tag a s
  | .cast tag a => Sys2Proof.Machine.execCast tag a s
  | .castQuery tag a => Sys2Proof.Machine.execCastQuery tag a s
  | .supv tag a => Sys2Proof.Machine.execSupv tag a s
  | .supvQuery tag a => Sys2Proof.Machine.execSupvQuery tag a s
  | .tlmQuery tag a => Sys2Proof.Machine.execTlmQuery tag a s
  | .micQuery tag a => Sys2Proof.Machine.execMicQuery tag a s
  | .select tag a => Sys2Proof.Machine.execSelect tag a s
  | .auto tag a => Sys2Proof.Machine.execAuto tag a s
  | .cue tag a => Sys2Proof.Machine.execCue tag a s
  | .cueQuery tag a => Sys2Proof.Machine.execCueQuery tag a s
  | .act tag a => Sys2Proof.Machine.execAct tag a s
  | .actQuery tag a => Sys2Proof.Machine.execActQuery tag a s
  | .actDel tag a => Sys2Proof.Machine.execActDel tag a s
  | .cueDel tag a => Sys2Proof.Machine.execCueDel tag a s
  | .go tag a => Sys2Proof.Machine.execGo tag a s
  | .back tag a => Sys2Proof.Machine.execBack tag a s
  | .jump tag a => Sys2Proof.Machine.execJump tag a s
  | .halt tag a => Sys2Proof.Machine.execHalt tag a s
  | .resume tag a => Sys2Proof.Machine.execResume tag a s
  | .stopAll tag a => Sys2Proof.Machine.execStopAll tag a s
  | .engine tag a => Sys2Proof.Machine.execEngine tag a s
  | .engineQuery tag a => Sys2Proof.Machine.execEngineQuery tag a s
  | .instQuery tag a => Sys2Proof.Machine.execInstQuery tag a s
  | .sound tag a => Sys2Proof.Machine.execSound tag a s
  | .soundQuery tag a => Sys2Proof.Machine.execSoundQuery tag a s
  | .play tag a => Sys2Proof.Machine.execPlay tag a s
  | .stop tag a => Sys2Proof.Machine.execStop tag a s
  | .voiceQuery tag a => Sys2Proof.Machine.execVoiceQuery tag a s
  | .playerQuery tag a => Sys2Proof.Machine.execPlayerQuery tag a s
  | .fetch tag a => Sys2Proof.Machine.execFetch tag a s
  | .fetchQuery tag a => Sys2Proof.Machine.execFetchQuery tag a s
  | .fb tag a => Sys2Proof.Machine.execFb tag a s
  | .fbQuery tag a => Sys2Proof.Machine.execFbQuery tag a s
  | .talkback tag a => Sys2Proof.Machine.execTalkback tag a s
  | .talkbackQuery tag a => Sys2Proof.Machine.execTalkbackQuery tag a s
  | .talk tag a => Sys2Proof.Machine.execTalk tag a s
  | .zone tag a => Sys2Proof.Machine.execZone tag a s
  | .zoneQuery tag a => Sys2Proof.Machine.execZoneQuery tag a s
  | .groupQuery tag a => Sys2Proof.Machine.execGroupQuery tag a s
  | .call tag a => Sys2Proof.Machine.execCall tag a s
  | .callQuery tag a => Sys2Proof.Machine.execCallQuery tag a s
  | .callEnd tag a => Sys2Proof.Machine.execCallEnd tag a s
  | .callCancel tag a => Sys2Proof.Machine.execCallCancel tag a s
  | .presetDef tag a => Sys2Proof.Machine.execPresetDef tag a s
  | .presetDefQuery tag a => Sys2Proof.Machine.execPresetDefQuery tag a s
  | .preset tag a => Sys2Proof.Machine.execPreset tag a s
  | .lineset tag a => Sys2Proof.Machine.execLineset tag a s
  | .line tag a => Sys2Proof.Machine.execLine tag a s
  | .lineQuery tag a => Sys2Proof.Machine.execLineQuery tag a s
  | .report tag a => Sys2Proof.Machine.execReport tag a s
  | .reportQuery tag a => Sys2Proof.Machine.execReportQuery tag a s
  | .linkQuery tag a => Sys2Proof.Machine.execLinkQuery tag a s
  | .statusQuery tag a => Sys2Proof.Machine.execStatusQuery tag a s
  | .showReset tag a => Sys2Proof.Machine.execShowReset tag a s
  | .clockQuery tag a => Sys2Proof.Machine.execClockQuery tag a s
  | .unknown tag why => Sys2Proof.Machine.execUnknown tag why s
  | .lineReceived chars metFull => Sys2Proof.Machine.execLineReceived chars metFull s
  | .transmitLine => Sys2Proof.Machine.execTransmitLine s
  | .pause asserted => Sys2Proof.Machine.execPause asserted s
  | .fullReset => Sys2Proof.Machine.execFullReset s
  | .resetEnd baud1 baud0 => Sys2Proof.Machine.execResetEnd baud1 baud0 s
  | .showResetPriming => Sys2Proof.Machine.execShowResetPriming s
  | .frame slots pins => Sys2Proof.Machine.execFrame slots pins s
  | .clipClear bus => Sys2Proof.Machine.execClipClear bus s
  | .fadeComplete target => Sys2Proof.Machine.execFadeComplete target s
  | .crossfadeEnd role => Sys2Proof.Machine.execCrossfadeEnd role s
  | .telemetryByte byte framing => Sys2Proof.Machine.execTelemetryByte byte framing s
  | .validRecord => Sys2Proof.Machine.execValidRecord s
  | .dropoutExpiry input => Sys2Proof.Machine.execDropoutExpiry input s
  | .restoreExpiry input => Sys2Proof.Machine.execRestoreExpiry input s
  | .staleExpiry input => Sys2Proof.Machine.execStaleExpiry input s
  | .referenceStale => Sys2Proof.Machine.execReferenceStale s
  | .chainExpiry => Sys2Proof.Machine.execChainExpiry s
  | .fetchGrant => Sys2Proof.Machine.execFetchGrant s
  | .completionOk tag words => Sys2Proof.Machine.execCompletionOk tag words s
  | .completionError tag => Sys2Proof.Machine.execCompletionError tag s
  | .tagTimeout tag => Sys2Proof.Machine.execTagTimeout tag s
  | .guardWindowEnd => Sys2Proof.Machine.execGuardWindowEnd s
  | .expired id => Sys2Proof.Machine.execExpired id s
  | .debounce line => Sys2Proof.Machine.execDebounce line s
  | .clockLost => Sys2Proof.Machine.execClockLost s
  | .qualifyingTimeout => Sys2Proof.Machine.execQualifyingTimeout s
  | .clockRestored => Sys2Proof.Machine.execClockRestored s
  | .wclkRisingEdge periodPs => Sys2Proof.Machine.execWclkRisingEdge periodPs s

end Sys2Proof.Machine
end

