-- ==== Sys2Proof/Machine/Step.lean ====
section
/-! DEFINITION. The step of the block: the command or event at the front of the queue of those waiting, and the placing of a
command there. -/

namespace Sys2Proof.Machine

open Sys2Proof

/-- The oldest line the link holds, where the link would take it now: a line is taken while the received-line queue holds one and
the reply queue has a free place (R195). -/
def State.lineToTake (s : State) : Option Instr := if s.replyRoom then s.link.rxq.head? else none

/-- What happens of the part's own with nothing commanded: the expiry of a chain with a time of 0 (R111), the priming evaluation
a show reset left (R121), or the taking of the oldest received line (R195); none while a full reset is in force (R203). -/
def State.ownEvent (s : State) : Option Instr :=
  if s.inReset then none
  else if s.promptChain then some .chainExpiry
  else if s.engine.primeDue then some .showResetPriming
  else s.lineToTake

/-- One step: the front of the queue is taken and carried out on the state with the queue's rest. On an empty queue what the part
does of its own happens, and otherwise the block idles (DESIGN CHOICE, log 2). -/
def step (s : State) : Host.Outcome State Fault Refusal :=
  match s.pending with
  | c :: rest => exec c { s with pending := rest }
  | [] =>
    match s.ownEvent with
    | some c => exec c s
    | none => .next s

/-- The state with the command a table word spells at the front of its queue. -/
def State.withFetchWord (s : State) (nbits w : Nat) : State :=
  match decodeTableWord nbits w with
  | none => s
  | some c => { s with pending := c :: s.pending }

end Sys2Proof.Machine
end

