-- ==== Sys2Proof/WellFormed.lean ====
section
/-! DEFINITION. Which commands can reach the block: what a line can spell and what an event can carry, beyond what the types
of the operands already fix. A command that is not well formed is no sending of the outside's; `exec` is total on it. -/

namespace Sys2Proof

/-- A tag is a number from 1 to 9999 (R196). -/
def tagOk (tag : Tag) : Bool := tag.all fun n => 1 ≤ n && n ≤ 9999

/-- A text field is part of one word of a line: printable characters without a space (R193, R196). -/
def textOk (text : Name) : Bool := text.all fun c => 33 ≤ c.toNat && c.toNat ≤ 126

/-- A check of the arguments of a line that is not malformed. -/
def argsOk {α : Type} (p : α → Bool) : Args α → Bool
  | .malformed => true
  | .given a => p a

/-- A written member list names at least one bus (R154). -/
def membersOk : MembersField → Bool
  | .none => true
  | .all => true
  | .list l => !l.isEmpty

/-- A call request names at least one target (R165). -/
def callOk (a : CallArgs) : Bool := !a.targets.isEmpty

/-- No kind of report is named twice on a line (R200). -/
def kindsOk (a : ReportArgs) : Bool := decide (a.kinds.map (·.1)).Nodup

/-- A line holds no LF: LF ends it, unless it came with a framing error (R193). -/
def charOk (c : RxChar) : Bool := c.byte ≠ 10 || c.framing

/-- A call id is a number from 1 to 255 (R167). -/
def callIdOk (id : Nat) : Bool := 1 ≤ id && id ≤ 255

/-- Which commands and events are well formed. -/
def Instr.wellFormed : Instr → Bool
  | .level tag _ => tagOk tag
  | .levelQuery tag _ => tagOk tag
  | .input tag _ => tagOk tag
  | .inputQuery tag _ => tagOk tag
  | .clipQuery tag _ => tagOk tag
  | .fadeQuery tag _ => tagOk tag
  | .role tag a => tagOk tag && argsOk (fun x => textOk x.name) a
  | .perf tag a => tagOk tag && argsOk (fun x => x.name.all textOk) a
  | .perfQuery tag _ => tagOk tag
  | .page tag _ => tagOk tag
  | .pageQuery tag _ => tagOk tag
  | .talkin tag _ => tagOk tag
  | .talkinQuery tag _ => tagOk tag
  | .cast tag _ => tagOk tag
  | .castQuery tag _ => tagOk tag
  | .supv tag _ => tagOk tag
  | .supvQuery tag _ => tagOk tag
  | .tlmQuery tag _ => tagOk tag
  | .micQuery tag _ => tagOk tag
  | .select tag _ => tagOk tag
  | .auto tag _ => tagOk tag
  | .cue tag a => tagOk tag && argsOk (fun x => x.label.all textOk) a
  | .cueQuery tag _ => tagOk tag
  | .act tag _ => tagOk tag
  | .actQuery tag _ => tagOk tag
  | .actDel tag _ => tagOk tag
  | .cueDel tag _ => tagOk tag
  | .go tag _ => tagOk tag
  | .back tag _ => tagOk tag
  | .jump tag _ => tagOk tag
  | .halt tag _ => tagOk tag
  | .resume tag _ => tagOk tag
  | .stopAll tag _ => tagOk tag
  | .engine tag _ => tagOk tag
  | .engineQuery tag _ => tagOk tag
  | .instQuery tag _ => tagOk tag
  | .sound tag _ => tagOk tag
  | .soundQuery tag _ => tagOk tag
  | .play tag _ => tagOk tag
  | .stop tag _ => tagOk tag
  | .voiceQuery tag _ => tagOk tag
  | .playerQuery tag _ => tagOk tag
  | .fetch tag _ => tagOk tag
  | .fetchQuery tag _ => tagOk tag
  | .fb tag _ => tagOk tag
  | .fbQuery tag _ => tagOk tag
  | .talkback tag a => tagOk tag && argsOk (fun x => x.members.all membersOk) a
  | .talkbackQuery tag _ => tagOk tag
  | .talk tag _ => tagOk tag
  | .zone tag a => tagOk tag && argsOk (fun x => x.name.all textOk) a
  | .zoneQuery tag _ => tagOk tag
  | .groupQuery tag _ => tagOk tag
  | .call tag a => tagOk tag && argsOk callOk a
  | .callQuery tag _ => tagOk tag
  | .callEnd tag _ => tagOk tag
  | .callCancel tag _ => tagOk tag
  | .presetDef tag a => tagOk tag && argsOk (fun x => x.request.all callOk) a
  | .presetDefQuery tag _ => tagOk tag
  | .preset tag _ => tagOk tag
  | .lineset tag _ => tagOk tag
  | .line tag _ => tagOk tag
  | .lineQuery tag _ => tagOk tag
  | .report tag a => tagOk tag && argsOk kindsOk a
  | .reportQuery tag _ => tagOk tag
  | .linkQuery tag _ => tagOk tag
  | .statusQuery tag _ => tagOk tag
  | .showReset tag _ => tagOk tag
  | .clockQuery tag _ => tagOk tag
  | .unknown tag _ => tagOk tag
  | .lineReceived chars _ => chars.all charOk
  | .transmitLine => true
  | .pause _ => true
  | .fullReset => true
  | .resetEnd _ _ => true
  | .showResetPriming => true
  | .frame _ _ => true
  | .clipClear _ => true
  | .fadeComplete _ => true
  | .crossfadeEnd _ => true
  | .telemetryByte _ _ => true
  | .validRecord => true
  | .dropoutExpiry _ => true
  | .restoreExpiry _ => true
  | .staleExpiry _ => true
  | .referenceStale => true
  | .chainExpiry => true
  | .fetchGrant => true
  | .completionOk _ _ => true
  | .completionError _ => true
  | .tagTimeout _ => true
  | .guardWindowEnd => true
  | .expired id => callIdOk id
  | .debounce _ => true
  | .clockLost => true
  | .qualifyingTimeout => true
  | .clockRestored => true
  | .wclkRisingEdge _ => true

end Sys2Proof
end

