-- ==== Sys2Proof/Safety.lean ====
section
/-! DEFINITION. The terms in which statements about the block are made: which commands are lines of the control link and which
of them are queries, when a line is taken as it arrives, what an answered line leaves, and the invariants of the manual. -/

namespace Sys2Proof

/-- The tag of a command line (R196); an event carries none. -/
def Instr.tag : Instr → Tag
  | .level tag _ => tag
  | .levelQuery tag _ => tag
  | .input tag _ => tag
  | .inputQuery tag _ => tag
  | .clipQuery tag _ => tag
  | .fadeQuery tag _ => tag
  | .role tag _ => tag
  | .perf tag _ => tag
  | .perfQuery tag _ => tag
  | .page tag _ => tag
  | .pageQuery tag _ => tag
  | .talkin tag _ => tag
  | .talkinQuery tag _ => tag
  | .cast tag _ => tag
  | .castQuery tag _ => tag
  | .supv tag _ => tag
  | .supvQuery tag _ => tag
  | .tlmQuery tag _ => tag
  | .micQuery tag _ => tag
  | .select tag _ => tag
  | .auto tag _ => tag
  | .cue tag _ => tag
  | .cueQuery tag _ => tag
  | .act tag _ => tag
  | .actQuery tag _ => tag
  | .actDel tag _ => tag
  | .cueDel tag _ => tag
  | .go tag _ => tag
  | .back tag _ => tag
  | .jump tag _ => tag
  | .halt tag _ => tag
  | .resume tag _ => tag
  | .stopAll tag _ => tag
  | .engine tag _ => tag
  | .engineQuery tag _ => tag
  | .instQuery tag _ => tag
  | .sound tag _ => tag
  | .soundQuery tag _ => tag
  | .play tag _ => tag
  | .stop tag _ => tag
  | .voiceQuery tag _ => tag
  | .playerQuery tag _ => tag
  | .fetch tag _ => tag
  | .fetchQuery tag _ => tag
  | .fb tag _ => tag
  | .fbQuery tag _ => tag
  | .talkback tag _ => tag
  | .talkbackQuery tag _ => tag
  | .talk tag _ => tag
  | .zone tag _ => tag
  | .zoneQuery tag _ => tag
  | .groupQuery tag _ => tag
  | .call tag _ => tag
  | .callQuery tag _ => tag
  | .callEnd tag _ => tag
  | .callCancel tag _ => tag
  | .presetDef tag _ => tag
  | .presetDefQuery tag _ => tag
  | .preset tag _ => tag
  | .lineset tag _ => tag
  | .line tag _ => tag
  | .lineQuery tag _ => tag
  | .report tag _ => tag
  | .reportQuery tag _ => tag
  | .linkQuery tag _ => tag
  | .statusQuery tag _ => tag
  | .showReset tag _ => tag
  | .clockQuery tag _ => tag
  | .unknown tag _ => tag
  | .lineReceived _ _ => none
  | .transmitLine => none
  | .pause _ => none
  | .fullReset => none
  | .resetEnd _ _ => none
  | .showResetPriming => none
  | .frame _ _ => none
  | .clipClear _ => none
  | .fadeComplete _ => none
  | .crossfadeEnd _ => none
  | .telemetryByte _ _ => none
  | .validRecord => none
  | .dropoutExpiry _ => none
  | .restoreExpiry _ => none
  | .staleExpiry _ => none
  | .referenceStale => none
  | .chainExpiry => none
  | .fetchGrant => none
  | .completionOk _ _ => none
  | .completionError _ => none
  | .tagTimeout _ => none
  | .guardWindowEnd => none
  | .expired _ => none
  | .debounce _ => none
  | .clockLost => none
  | .qualifyingTimeout => none
  | .clockRestored => none
  | .wclkRisingEdge _ => none

/-- The lines of the control link: the commands, and the lines that fail at link level (R196). -/
def Instr.isLine : Instr → Bool
  | .level _ _ => true
  | .levelQuery _ _ => true
  | .input _ _ => true
  | .inputQuery _ _ => true
  | .clipQuery _ _ => true
  | .fadeQuery _ _ => true
  | .role _ _ => true
  | .perf _ _ => true
  | .perfQuery _ _ => true
  | .page _ _ => true
  | .pageQuery _ _ => true
  | .talkin _ _ => true
  | .talkinQuery _ _ => true
  | .cast _ _ => true
  | .castQuery _ _ => true
  | .supv _ _ => true
  | .supvQuery _ _ => true
  | .tlmQuery _ _ => true
  | .micQuery _ _ => true
  | .select _ _ => true
  | .auto _ _ => true
  | .cue _ _ => true
  | .cueQuery _ _ => true
  | .act _ _ => true
  | .actQuery _ _ => true
  | .actDel _ _ => true
  | .cueDel _ _ => true
  | .go _ _ => true
  | .back _ _ => true
  | .jump _ _ => true
  | .halt _ _ => true
  | .resume _ _ => true
  | .stopAll _ _ => true
  | .engine _ _ => true
  | .engineQuery _ _ => true
  | .instQuery _ _ => true
  | .sound _ _ => true
  | .soundQuery _ _ => true
  | .play _ _ => true
  | .stop _ _ => true
  | .voiceQuery _ _ => true
  | .playerQuery _ _ => true
  | .fetch _ _ => true
  | .fetchQuery _ _ => true
  | .fb _ _ => true
  | .fbQuery _ _ => true
  | .talkback _ _ => true
  | .talkbackQuery _ _ => true
  | .talk _ _ => true
  | .zone _ _ => true
  | .zoneQuery _ _ => true
  | .groupQuery _ _ => true
  | .call _ _ => true
  | .callQuery _ _ => true
  | .callEnd _ _ => true
  | .callCancel _ _ => true
  | .presetDef _ _ => true
  | .presetDefQuery _ _ => true
  | .preset _ _ => true
  | .lineset _ _ => true
  | .line _ _ => true
  | .lineQuery _ _ => true
  | .report _ _ => true
  | .reportQuery _ _ => true
  | .linkQuery _ _ => true
  | .statusQuery _ _ => true
  | .showReset _ _ => true
  | .clockQuery _ _ => true
  | .unknown _ _ => true
  | .lineReceived _ _ => false
  | .transmitLine => false
  | .pause _ => false
  | .fullReset => false
  | .resetEnd _ _ => false
  | .showResetPriming => false
  | .frame _ _ => false
  | .clipClear _ => false
  | .fadeComplete _ => false
  | .crossfadeEnd _ => false
  | .telemetryByte _ _ => false
  | .validRecord => false
  | .dropoutExpiry _ => false
  | .restoreExpiry _ => false
  | .staleExpiry _ => false
  | .referenceStale => false
  | .chainExpiry => false
  | .fetchGrant => false
  | .completionOk _ _ => false
  | .completionError _ => false
  | .tagTimeout _ => false
  | .guardWindowEnd => false
  | .expired _ => false
  | .debounce _ => false
  | .clockLost => false
  | .qualifyingTimeout => false
  | .clockRestored => false
  | .wclkRisingEdge _ => false

/-- The queries: the verbs that end with `?` (R196). -/
def Instr.isQuery : Instr → Bool
  | .level _ _ => false
  | .levelQuery _ _ => true
  | .input _ _ => false
  | .inputQuery _ _ => true
  | .clipQuery _ _ => true
  | .fadeQuery _ _ => true
  | .role _ _ => false
  | .perf _ _ => false
  | .perfQuery _ _ => true
  | .page _ _ => false
  | .pageQuery _ _ => true
  | .talkin _ _ => false
  | .talkinQuery _ _ => true
  | .cast _ _ => false
  | .castQuery _ _ => true
  | .supv _ _ => false
  | .supvQuery _ _ => true
  | .tlmQuery _ _ => true
  | .micQuery _ _ => true
  | .select _ _ => false
  | .auto _ _ => false
  | .cue _ _ => false
  | .cueQuery _ _ => true
  | .act _ _ => false
  | .actQuery _ _ => true
  | .actDel _ _ => false
  | .cueDel _ _ => false
  | .go _ _ => false
  | .back _ _ => false
  | .jump _ _ => false
  | .halt _ _ => false
  | .resume _ _ => false
  | .stopAll _ _ => false
  | .engine _ _ => false
  | .engineQuery _ _ => true
  | .instQuery _ _ => true
  | .sound _ _ => false
  | .soundQuery _ _ => true
  | .play _ _ => false
  | .stop _ _ => false
  | .voiceQuery _ _ => true
  | .playerQuery _ _ => true
  | .fetch _ _ => false
  | .fetchQuery _ _ => true
  | .fb _ _ => false
  | .fbQuery _ _ => true
  | .talkback _ _ => false
  | .talkbackQuery _ _ => true
  | .talk _ _ => false
  | .zone _ _ => false
  | .zoneQuery _ _ => true
  | .groupQuery _ _ => true
  | .call _ _ => false
  | .callQuery _ _ => true
  | .callEnd _ _ => false
  | .callCancel _ _ => false
  | .presetDef _ _ => false
  | .presetDefQuery _ _ => true
  | .preset _ _ => false
  | .lineset _ _ => false
  | .line _ _ => false
  | .lineQuery _ _ => true
  | .report _ _ => false
  | .reportQuery _ _ => true
  | .linkQuery _ _ => true
  | .statusQuery _ _ => true
  | .showReset _ _ => false
  | .clockQuery _ _ => true
  | .unknown _ _ => false
  | .lineReceived _ _ => false
  | .transmitLine => false
  | .pause _ => false
  | .fullReset => false
  | .resetEnd _ _ => false
  | .showResetPriming => false
  | .frame _ _ => false
  | .clipClear _ => false
  | .fadeComplete _ => false
  | .crossfadeEnd _ => false
  | .telemetryByte _ _ => false
  | .validRecord => false
  | .dropoutExpiry _ => false
  | .restoreExpiry _ => false
  | .staleExpiry _ => false
  | .referenceStale => false
  | .chainExpiry => false
  | .fetchGrant => false
  | .completionOk _ _ => false
  | .completionError _ => false
  | .tagTimeout _ => false
  | .guardWindowEnd => false
  | .expired _ => false
  | .debounce _ => false
  | .clockLost => false
  | .qualifyingTimeout => false
  | .clockRestored => false
  | .wclkRisingEdge _ => false

/-- A line whose words do not have the form its command's rule gives (R196). -/
def Instr.isMalformed : Instr → Bool
  | .level _ .malformed => true
  | .levelQuery _ .malformed => true
  | .input _ .malformed => true
  | .inputQuery _ .malformed => true
  | .clipQuery _ .malformed => true
  | .fadeQuery _ .malformed => true
  | .role _ .malformed => true
  | .perf _ .malformed => true
  | .perfQuery _ .malformed => true
  | .page _ .malformed => true
  | .pageQuery _ .malformed => true
  | .talkin _ .malformed => true
  | .talkinQuery _ .malformed => true
  | .cast _ .malformed => true
  | .castQuery _ .malformed => true
  | .supv _ .malformed => true
  | .supvQuery _ .malformed => true
  | .tlmQuery _ .malformed => true
  | .micQuery _ .malformed => true
  | .select _ .malformed => true
  | .auto _ .malformed => true
  | .cue _ .malformed => true
  | .cueQuery _ .malformed => true
  | .act _ .malformed => true
  | .actQuery _ .malformed => true
  | .actDel _ .malformed => true
  | .cueDel _ .malformed => true
  | .go _ .malformed => true
  | .back _ .malformed => true
  | .jump _ .malformed => true
  | .halt _ .malformed => true
  | .resume _ .malformed => true
  | .stopAll _ .malformed => true
  | .engine _ .malformed => true
  | .engineQuery _ .malformed => true
  | .instQuery _ .malformed => true
  | .sound _ .malformed => true
  | .soundQuery _ .malformed => true
  | .play _ .malformed => true
  | .stop _ .malformed => true
  | .voiceQuery _ .malformed => true
  | .playerQuery _ .malformed => true
  | .fetch _ .malformed => true
  | .fetchQuery _ .malformed => true
  | .fb _ .malformed => true
  | .fbQuery _ .malformed => true
  | .talkback _ .malformed => true
  | .talkbackQuery _ .malformed => true
  | .talk _ .malformed => true
  | .zone _ .malformed => true
  | .zoneQuery _ .malformed => true
  | .groupQuery _ .malformed => true
  | .call _ .malformed => true
  | .callQuery _ .malformed => true
  | .callEnd _ .malformed => true
  | .callCancel _ .malformed => true
  | .presetDef _ .malformed => true
  | .presetDefQuery _ .malformed => true
  | .preset _ .malformed => true
  | .lineset _ .malformed => true
  | .line _ .malformed => true
  | .lineQuery _ .malformed => true
  | .report _ .malformed => true
  | .reportQuery _ .malformed => true
  | .linkQuery _ .malformed => true
  | .statusQuery _ .malformed => true
  | .showReset _ .malformed => true
  | .clockQuery _ .malformed => true
  | _ => false

/-- The pin and power events that act while a full reset is in force (R198, R203). -/
def Instr.isPinEvent : Instr → Bool
  | .fullReset => true
  | .resetEnd _ _ => true
  | .pause _ => true
  | _ => false

namespace Machine

/-! ## When a line is taken as it arrives -/

/-- A line that arrives is taken at once: no full reset is in force, no line waits, a reply has a free place, no show reset has
left a priming evaluation to be taken first, and no chain with a time of 0 has yet to expire (R111, R121, R194, R195, R203). -/
def State.Takes (s : State) : Prop :=
  s.inReset = false ∧ s.link.rxq = [] ∧ s.link.replies.length < Config.replyLines ∧ s.engine.primeDue = false ∧
    s.promptChain = false

/-- Between operations: no evaluation is called for, no CUE report of an operation in progress is held, and STANDBY_READY is as
last reported (R117, R118). -/
def State.Settled (s : State) : Prop :=
  s.engine.evalDue = false ∧ s.engine.opEvent = none ∧ s.engine.readyShown = s.standbyReady

/-- Between operations, with no chain of a time of 0 whose expiry comes before any other event (R111). -/
def State.Calm (s : State) : Prop := s.Settled ∧ s.promptChain = false

/-- A state in which a line is taken as it arrives, and nothing else is in progress. -/
def State.Ready (s : State) : Prop := s.Takes ∧ s.Settled

/-- The state with one reply more, its tag in front, and nothing else changed (R195, R197). -/
def State.answered (s : State) (tag : Tag) (text : String) : State :=
  { s with link := { s.link with replies := s.link.replies ++ [tagText tag ++ text] } }

/-- A command is answered `OK` with these fields, and nothing else happens (R197). -/
def State.Tells (s : State) (c : Instr) (fields : String) : Prop :=
  exec c s = .next (s.answered c.tag ("OK " ++ fields))

/-- One reply more, its tag in front, and of the link nothing else changed but for the report set (R195, R199). -/
def State.Replied (s t : State) (tag : Tag) (text : String) : Prop :=
  t.link = { s.link with replies := s.link.replies ++ [tagText tag ++ text], reports := t.link.reports }

/-- Of the link nothing changed but for the report set (R199). -/
def State.SameLink (s t : State) : Prop := t.link = { s.link with reports := t.link.reports }

/-- An error reply (R197). -/
def State.refused (s : State) (tag : Tag) (e : ErrCode) : State := s.answered tag ("ERR " ++ e.text)

/-- A report of this key is pending in `t` whose line holds this part, where `s` does not disable its kind (R199, R200). -/
def State.Raised (s t : State) (key : ReportKey) (part : String) : Prop :=
  key.kind ∉ s.link.disabled →
    ∃ before after, ({ key := key, text := before ++ (part ++ after) } : Report) ∈ t.link.reports

/-- The key of a reader's report: VOICE of a voice and PLAYER of a call player (R144, R199). -/
def readerKey (r : ReaderId) : ReportKey :=
  match readerKind r with
  | .inl v => .voice v
  | .inr p => .player p

/-! ## Values the statements name -/

/-- A fade record just made: it has run no frame (R25, R29). -/
def newFade (target : Target) (start goal : LevelCode) (ms : Nat) (owner : Option InstSlot) (stopAtOff : Bool) : Fade :=
  { target := target, start := start, goal := goal, ms := ms, elapsed := 0, owner := owner, stopAtOff := stopAtOff }

/-- The value b of a bus: the row signals weighed by the gains of the column's crosspoints, summed exactly, divided by 16384 and
rounded to the nearest integer, ties upward (R16). -/
def State.busSum (s : State) (slots : Vector Word32 64) (bus : Bus) : Sample :=
  (((List.finRange 128).map fun p =>
    (s.rowSignals slots).getD p.val 0 * gain ((s.matrix.xpts.get p).get (colPos bus))).sum + 8192) / 16384

/-- The frame clock has a frame for FRAME to compute: the source is the internal reference, or an edge of WCLK has begun one (R206). -/
def State.HasFrame (s : State) : Prop := s.clock.monitor = .locked → 0 < s.clock.begun

/-- The threshold of a code in the table of the peak conversion (R151). -/
def threshold (c : Int) : Nat := thresholdTable.getD (c + 179).toNat 0

/-- A field of SUPV: absent it leaves its setting, and given it sets it, brought into its range (R64). -/
def clamped (lo hi : Int) (field : Option Int) (old new : Nat) : Prop :=
  (field = none → new = old) ∧ ∀ x, field = some x → (new : Int) = max lo (min hi x)

/-- A record that is restoring, and one that is bad, against an effective floor (R67). -/
def goodRecord (d : TlmRecord) (f hyst : Nat) : Prop := f + hyst ≤ d.rf ∧ d.pilot = true ∧ d.mute = false
def badRecord (d : TlmRecord) (f : Nat) : Prop := d.rf < f ∨ d.pilot = false ∨ d.mute = true

/-! ### Changeover -/

/-- A performer's active input becomes `i`, with a new state and the compromised flag of that input; where the input changes, a
crossfade begins on the role the performer holds, and every other role stands (R58, R75, R77). -/
def State.ChangesTo (s t : State) (p : PerfId) (i : InputId) (st : PerfState) : Prop :=
  t.perf p = { s.perf p with active := some i, state := st, compromised := s.lowBatt i } ∧
    (∀ r, (s.perf p).role = some r → (s.perf p).active ≠ some i →
      t.role r = { s.role r with xfade := some { old := s.rowSource r, k := 0 } }) ∧
    ∀ r, (s.perf p).role ≠ some r ∨ (s.perf p).active = some i → t.role r = s.role r

/-- Changeover selection for a performer, by the steps of R75: of the other inputs that are GOOD the winner is one without LOW_BATT
where there is one, of the highest RF level, in the earlier place between equals; with none the active input stands, and the state
is ALARM where that input is not GOOD. -/
def State.Selected (s t : State) (p : PerfId) : Prop :=
  ((s.perf p).active = none → t.perf p = s.perf p ∧ ∀ r, t.role r = s.role r) ∧
    ∀ i l, (s.perf p).active = some i →
      l = (s.perf p).inputs.filter (fun e => (s.health e.1).any (fun h => h.state = .good) && e.1 ≠ i) →
      (l = [] → (∀ r, t.role r = s.role r) ∧ t.perf p = { s.perf p with
        state := if (s.health i).any (fun h => h.state = .good) then
          (if (s.perf p).activePlace = some .spare1 ∨ (s.perf p).activePlace = some .spare2 then .spare else .main)
          else .alarm }) ∧
      (l ≠ [] → ∃ e before after, l = before ++ e :: after ∧
        (∀ d ∈ before ++ after, s.lowBatt d.1 = false → s.lowBatt e.1 = false) ∧
        (∀ d ∈ before, s.lowBatt d.1 = s.lowBatt e.1 → s.rfOf d.1 < s.rfOf e.1) ∧
        (∀ d ∈ after, s.lowBatt d.1 = s.lowBatt e.1 → s.rfOf d.1 ≤ s.rfOf e.1) ∧
        s.ChangesTo t p e.1 (if e.2 = .main then .main else .spare))

/-- Of the cast table nothing changed but the performer `p` and the roles. -/
def State.OnlyPerf (s t : State) (p : PerfId) : Prop :=
  t.cast = { s.cast with perfs := t.cast.perfs, roles := t.cast.roles } ∧ ∀ q, q ≠ p → t.perf q = s.perf q

/-- What a change of the health of one of a performer's inputs does to the performer, `s` having the new health record: in AUTO an
active input that enters DOWN, and any input that enters GOOD in ALARM, runs selection, and the main input that enters GOOD in
SPARE with revert AUTO is reverted to; otherwise, and in MANUAL, the cast table stands (R74, R77). -/
def State.PerfFollows (s t : State) (p : PerfId) (i : InputId) (before after : Health) : Prop :=
  s.OnlyPerf t p ∧
    (before ≠ after → (s.perf p).modeAuto = true →
      (after = .down → (s.perf p).active = some i → s.Selected t p) ∧
      (after = .good → (s.perf p).state = .alarm → s.Selected t p) ∧
      (after = .good → (s.perf p).state = .spare → (s.perf p).revertAuto = true → (s.perf p).main = some i →
        s.ChangesTo t p i .main)) ∧
    (before = after ∨ (s.perf p).modeAuto = false ∨
        ¬(after = .down ∧ (s.perf p).active = some i) ∧ ¬(after = .good ∧ (s.perf p).state = .alarm) ∧
          ¬(after = .good ∧ (s.perf p).state = .spare ∧ (s.perf p).revertAuto = true ∧ (s.perf p).main = some i) →
      t.cast = s.cast)

/-- The PERF report of a selection: raised where it changed the performer, with the event of R80 (R75, R80). -/
def State.SelectionRaised (s t : State) (p : PerfId) : Prop :=
  t.perf p ≠ s.perf p → s.Raised t (.perf p) ("!PERF " ++ perfText p ++ " state=" ++ perfStateText (t.perf p).state ++
    " active=" ++ optText inText (t.perf p).active ++ " compromised=" ++ yesNo (t.perf p).compromised ++ " role=" ++
    optText roleText (t.perf p).role ++ " event=" ++
    if (t.perf p).active ≠ (s.perf p).active then "changeover" else if (t.perf p).state = .alarm then "alarm" else "recovered")

/-- The reports of a change of the health of one of a performer's inputs: MIC with the event of the state change, or else of the
cause, or else of the bound flags, none where none of them changed; and PERF of the selection or the revert it calls for (R73,
R74, R77, R80). `s` has the new health record. -/
def State.HealthRaised (s t : State) (p : PerfId) (i : InputId) (before after : HealthRec) : Prop :=
  (before.state ≠ after.state → s.Raised t (.mic i) (" event=" ++
      if before.state = .fading ∧ after.state = .good then "restored" else healthText after.state)) ∧
    (before.state = after.state → before.cause ≠ after.cause → s.Raised t (.mic i) " event=cause") ∧
    (before.state = after.state → before.cause = after.cause →
      before.overFlag ≠ after.overFlag ∨ before.lowBatt ≠ after.lowBatt → s.Raised t (.mic i) " event=bound") ∧
    (before.state = after.state → before.cause = after.cause → before.overFlag = after.overFlag →
      before.lowBatt = after.lowBatt → t.link.reports = s.link.reports) ∧
    (before.state ≠ after.state → (s.perf p).modeAuto = true →
      (after.state = .down → (s.perf p).active = some i → s.SelectionRaised t p) ∧
      (after.state = .good → (s.perf p).state = .alarm → s.SelectionRaised t p) ∧
      (after.state = .good → (s.perf p).state = .spare → (s.perf p).revertAuto = true → (s.perf p).main = some i →
        s.Raised t (.perf p) " event=revert"))

/-! ### Readers -/

/-- The output sample of a reader in a frame: while it plays, and in the frame in which it ends a stall, the word of its FULL head slot
at its play position modulo 256, and 0 in every other case (R128, R129). -/
def Reader.Outputs (r : Reader) (v : Sample) : Prop :=
  (∀ j words, (r.state = .playing ∨ r.state = .stalled) → r.slot r.head = .full j words →
    v = words.get ⟨r.pos % 256, Nat.mod_lt _ (by decide)⟩) ∧
    ((r.state ≠ .playing ∧ r.state ≠ .stalled) ∨ (∀ j words, r.slot r.head ≠ .full j words) → v = 0)

/-- A reader may enter PLAYING: its head slot is FULL, and so is the next in ring order, or the head slot's block is the last of the
block sequence (R130). -/
def Reader.Startable (r : Reader) : Prop :=
  ∃ j words n d, r.slot r.head = .full j words ∧ r.sound = some (n, d) ∧
    ((∃ j' words', r.slot (r.head + 1) = .full j' words') ∨ d.loop = none ∧ j + 1 = (d.len + 255) / 256)

/-- A priming is complete: all 8 slots are FULL, or the sound has no data left and no slot is PENDING or retry-marked (R133). -/
def Reader.Primes (r : Reader) : Prop :=
  (∀ i, ∃ j words, r.slot i = .full j words) ∨
    ((∀ n d, r.sound = some (n, d) → d.loop = none ∧ (d.len + 255) / 256 ≤ r.cursor) ∧
      (∀ i k j, r.slot i ≠ .pending k j) ∧ r.retry = none)

/-- The class of a reader that needs a block (URGENT 0, PRIME 1, NORMAL 2) and its place in the order within the class, by the table
of R138, `refill` the watermark W. -/
def Reader.Ranked (refill : Nat) (r : Reader) (cls order : Nat) : Prop :=
  (cls = if r.retry ≠ none ∨ r.state = .starting ∨ r.state = .stalled ∨ r.state = .playing ∧
      (List.finRange 8).countP (fun i => (r.slot i).isFull) < refill then 0
    else if r.state = .priming then 1 else 2) ∧
    order = if cls = 1 then r.primeStamp
      else (List.finRange 8).countP fun i => (r.slot i).isFull || (r.slot i).isPending

/-! ### Cues and calls -/

/-- An edit of a cue: of the cue list only that cue changed, and where it is not the standby cue nothing but the list did (R96). -/
def State.CueEdit (s t : State) (n : Nat) : Prop :=
  t = { s with link := t.link, cues := t.cues, fades := t.fades, engine := t.engine, fetch := t.fetch } ∧
    (∀ m, m ≠ n → t.cueAt m = s.cueAt m) ∧
    (s.engine.standby ≠ some n →
      t.fades = s.fades ∧ t.engine = s.engine ∧ t.fetch = s.fetch ∧ t.link.reports = s.link.reports)

/-- A reader with nothing left of a sound: IDLE, its ring cleared, its sound none and its position 0 (R134). -/
def Reader.Idle (r : Reader) : Prop :=
  r.state = .idle ∧ r.ring = .replicate 8 .empty ∧ r.head = 0 ∧ r.tail = 0 ∧ r.retry = none ∧ r.sound = none ∧
    r.pos = 0 ∧ r.keptFadeIn = none ∧ r.owner = none

/-- A voice sent to IDLE at the level it had; where the standby cue plays on it, the evaluation that follows may have it PRIMING
again (R117, R134). -/
def State.Stopped (s t : State) (v : VoiceId) : Prop :=
  (t.voice v).level = (s.voice v).level ∧
    ((∀ e ∈ t.standbyPlays, e.1 ≠ v) → (t.voice v).Idle) ∧
    ((t.voice v).state = .idle ∨ (t.voice v).state = .priming)

/-- The VOICE report of a voice sent to IDLE, with the event of the cause; where an evaluation that follows has it PRIMING again, the
event is `priming` (R134, R144). -/
def State.StopRaised (s t : State) (v : VoiceId) (event : String) : Prop :=
  ((t.voice v).state = .idle → s.Raised t (.voice v) (" event=" ++ event)) ∧
    ((t.voice v).state = .priming → s.Raised t (.voice v) " event=priming")

/-- A fade-in of a voice that enters PLAYING, from OFF to 0.0 dB over a kept time: a new unowned record where a place is free in the
pool `pool` the entry finds, none for a time of 0, and with a full pool a snap to 0.0 dB, counted and reported (R27, R35, R40,
R130). -/
def State.FadesIn (s t : State) (v : VoiceId) (pool : List Fade) (ms : Nat) : Prop :=
  (ms = 0 → t.fades = { s.fades with pool := pool }) ∧
    (ms ≠ 0 → pool.length < 256 → (t.voice v).level = -180 ∧
      t.fades = { s.fades with pool := pool ++ [newFade (.voice v) (-180) 0 ms none false] }) ∧
    (ms ≠ 0 → 256 ≤ pool.length → (t.voice v).level = 0 ∧
      t.fades = { s.fades with pool := pool, snaps := min (s.fades.snaps + 1) 65535 } ∧
      s.Raised t .fade ("!FADE used=" ++ natText pool.length ++ " snaps=" ++ natText (min (s.fades.snaps + 1) 65535) ++
        " last=" ++ voiceText v ++ " level=0.0"))

/-- The slot a reader asks a block for: its retry-marked slot where it is EMPTY, and otherwise its tail slot where it is EMPTY and
data is left (R138). -/
def Reader.Asks (r : Reader) (i : RingSlot) (j : Nat) (isRetry : Bool) : Prop :=
  (isRetry = true ∧ r.retry = some (i, j) ∧ r.slot i = .empty) ∨
    (isRetry = false ∧ (∀ i' j', r.retry = some (i', j') → r.slot i' ≠ .empty) ∧ i = r.tail ∧ j = r.cursor ∧
      r.slot r.tail = .empty ∧ r.dataLeft = true)

/-- A reader that needs a block (R138). -/
def Reader.Needs (r : Reader) : Prop :=
  (r.state = .priming ∨ r.state = .starting ∨ r.state = .playing ∨ r.state = .stalled) ∧ ∃ i j b, r.Asks i j b

/-- The cue engine told that one item an instance owned has ended: its count falls by 1, and at 0 it leaves the table and its END
link sets a chain where its chain target is the standby cue (R108, R109). -/
def EngineBlock.told (b : EngineBlock) (owner : Option InstSlot) : EngineBlock :=
  match owner.bind fun slot => b.insts.find? fun i => i.slot = slot with
  | none => b
  | some i =>
    if 1 < i.count then
      { b with insts := b.insts.map fun j => if j.slot = i.slot then { j with count := i.count - 1 } else j }
    else
      { b with
        insts := b.insts.filter fun j => j.slot ≠ i.slot
        chain := match i.endLink, i.chainTarget with
          | some ms, some n =>
            if b.standby = some n then
              some { target := n, ms := ms, elapsed := 0, fromStart := false, setBy := i.cue }
            else b.chain
          | _, _ => b.chain }

/-- The fades and the voice starts an instance's slot owns (R24, R100, R126). -/
def State.owned (s : State) (slot : InstSlot) : Nat :=
  s.fades.pool.countP (fun f => f.owner = some slot) + s.fetch.readers.toList.countP (fun r => r.owner = some slot)

/-- The instances a firing finds once it has made room: all, or with eight of them all but the oldest (R103, R110). -/
def State.roomInsts (s : State) : List Inst :=
  if Config.maxInstances ≤ s.engine.insts.length then s.engine.insts.tail else s.engine.insts

/-- An owner once a firing has made room: what the retired instance owned has no owner (R38, R110). -/
def State.ownerLeft (s : State) (owner : Option InstSlot) : Option InstSlot :=
  if Config.maxInstances ≤ s.engine.insts.length ∧ owner = s.engine.insts.head?.map (·.slot) then none else owner

/-- Whether a cue's actions name the level a fade moves. -/
def Cue.Names (c : Cue) : Target → Prop
  | .xpt row bus => ∃ code ms, Action.level row bus code ms ∈ c.actions
  | .voice v => (∃ n ms, Action.play v n ms ∈ c.actions) ∨ ∃ ms, Action.stop v ms ∈ c.actions

/-- The preset a CALL action submits (R107). -/
def callOf : Action → Option PresetId
  | .call k => some k
  | _ => none

/-- Whether an action sets a level on a foldback bus (R88). -/
def onFoldbackBus (k : FbId) : Action → Bool
  | .level _ (.fb j) _ _ => j = k
  | _ => false

/-- Room for a fade on a target at a firing, whatever the actions before it add to the pool (R25). -/
def State.FadeRoom (s : State) (c : Cue) (target : Target) : Prop :=
  (s.fadeOf target).isSome ∨ s.fades.pool.length + c.actions.length ≤ Config.fadePool

/-- The record of a new instance of a cue (R100). -/
def State.newInst (s : State) (c : Cue) (slot : InstSlot) : Inst where
  slot := slot
  cue := c.number
  stamp := s.engine.nextStamp
  count := 0
  chainTarget := s.cueAfter c.number
  endLink := match c.link with
    | .finish ms => some ms
    | _ => none

/-- What a firing leaves of the instance table and the chain: the new instance in the lowest free slot with the next stamp, every
count the number of fades and starts its slot still owns, an instance with none left gone; a START link sets the chain, an END
link where the instance owns nothing, and otherwise, with no END link that could complete beside it, a chain to the cue fired
is cancelled and any other stands (R100, R103, R108 to R111, R113). -/
def State.TableFired (s t : State) (c : Cue) (slot : InstSlot) : Prop :=
  (∀ i ∈ s.roomInsts, i.slot ≠ slot) ∧ (∀ x, x < slot → ∃ i ∈ s.roomInsts, i.slot = x) ∧
    t.engine.nextStamp = s.engine.nextStamp + 1 ∧
    t.engine.insts = ((s.roomInsts ++ [s.newInst c slot]).map fun i => { i with count := t.owned i.slot }).filter
      (fun i => i.count ≠ 0) ∧
    (∀ ms n, c.link = .start ms → s.cueAfter c.number = some n →
      t.engine.chain = some { target := n, ms := ms, elapsed := 0, fromStart := true, setBy := c.number }) ∧
    (∀ ms n, c.link = .finish ms → s.cueAfter c.number = some n → t.owned slot = 0 →
      t.engine.chain = some { target := n, ms := ms, elapsed := 0, fromStart := false, setBy := c.number }) ∧
    ((∀ ms, c.link = .start ms → s.cueAfter c.number = none) →
      (∀ ms, c.link = .finish ms → s.cueAfter c.number = none ∨ t.owned slot ≠ 0) →
      (∀ i ∈ s.engine.insts, i.endLink = none) →
      t.engine.chain = if s.engine.chain.any (fun ch => ch.target = c.number) then none else s.engine.chain) ∧
    (∀ ch, t.engine.chain = some ch → s.engine.chain = some ch ∨ ch.setBy = c.number ∨
      ∃ i ∈ s.engine.insts, i.endLink = some ch.ms ∧ i.chainTarget = some ch.target ∧ ch.setBy = i.cue ∧
        ch.elapsed = 0 ∧ ch.fromStart = false)

/-- What the actions of a firing do to fades, voices, foldback skips and calls, each target of a cue being named once (R38, R93,
R104 to R107, R132, R149). -/
def State.ActionsFired (s t : State) (c : Cue) (slot : InstSlot) : Prop :=
  (∀ target, ¬c.Names target →
    t.fadeOf target = (s.fadeOf target).map fun f => { f with owner := s.ownerLeft f.owner }) ∧
  (∀ v : VoiceId, ¬c.Names (.voice v) → (s.voice v).state = .starting ∨ (s.voice v).state = .playing ∨
    (s.voice v).state = .stalled ∨ (s.voice v).state = .faulted →
    t.voice v = { s.voice v with owner := s.ownerLeft (s.voice v).owner }) ∧
  (∀ k, (t.bus k).skips =
    if (s.bus k).lock = true ∧ 0 < c.actions.countP (onFoldbackBus k) then
      min ((s.bus k).skips + c.actions.countP (onFoldbackBus k)) 65535 else (s.bus k).skips) ∧
  (∀ u, u = (c.actions.filterMap callOf).foldl (fun x k => (x.fireCall {} k).1) s →
    t.router = u.router ∧ ∀ p : PlayerId, t.reader (playerReader p) = u.reader (playerReader p)) ∧
  ((c.actions.map actionTarget).Nodup →
    (∀ row bus code ms, Action.level row bus code ms ∈ c.actions →
      ((∃ k, bus = .fb k ∧ (s.bus k).lock = true) ∨ (∃ i, row = .inp i ∧ s.claim i ≠ none) →
        t.xpt row bus = s.xpt row bus ∧ t.fadeOf (.xpt row bus) =
          (s.fadeOf (.xpt row bus)).map fun f => { f with owner := s.ownerLeft f.owner }) ∧
      ((∀ k, bus = .fb k → (s.bus k).lock = false) → (∀ i, row = .inp i → s.claim i = none) →
        (ms = 0 ∨ s.xpt row bus = code → t.xpt row bus = code ∧ t.fadeOf (.xpt row bus) = none) ∧
        (ms ≠ 0 → s.xpt row bus ≠ code → s.FadeRoom c (.xpt row bus) →
          t.xpt row bus = s.xpt row bus ∧
            t.fadeOf (.xpt row bus) = some (newFade (.xpt row bus) (s.xpt row bus) code ms (some slot) false)))) ∧
    (∀ v n ms d, Action.play v n ms ∈ c.actions → s.fetch.sounds.get n = some d →
      (t.voice v).sound = some (n, d) ∧ (t.voice v).playMoment = s.now ∧
      ((t.voice v).state = .starting →
        (t.voice v).owner = some slot ∧ (t.voice v).keptFadeIn = some ms ∧ t.fadeOf (.voice v) = none ∧
          (t.voice v).level = if ms = 0 then 0 else -180) ∧
      ((t.voice v).state = .playing →
        (t.voice v).owner = none ∧ (t.voice v).keptFadeIn = none ∧ (t.voice v).late = some 0 ∧
          (s.fades.pool.length + c.actions.length ≤ Config.fadePool →
            (t.voice v).level = (if ms = 0 then 0 else -180) ∧
            t.fadeOf (.voice v) = if ms = 0 then none else some (newFade (.voice v) (-180) 0 ms none false))) ∧
      ((s.voice v).state = .primed → (s.voice v).soundId = some n →
        (t.voice v).state = .playing ∧ (t.voice v).ring = (s.voice v).ring) ∧
      ((s.voice v).state = .priming → (s.voice v).soundId = some n →
        (({ s.voice v with sound := some (n, d) } : Reader).Startable → (t.voice v).state = .playing) ∧
        (¬({ s.voice v with sound := some (n, d) } : Reader).Startable → (t.voice v).state = .starting) ∧
        (t.voice v).ring = (s.voice v).ring) ∧
      (((s.voice v).state ≠ .priming ∧ (s.voice v).state ≠ .primed) ∨ (s.voice v).soundId ≠ some n →
        (t.voice v).state = .starting ∧ (t.voice v).ring = .replicate 8 .empty)) ∧
    (∀ v ms, Action.stop v ms ∈ c.actions →
      ((s.voice v).state ≠ .idle → (s.voice v).state ≠ .playing → (s.voice v).state ≠ .stalled → s.Stopped t v) ∧
      ((s.voice v).state = .playing ∨ (s.voice v).state = .stalled →
        (ms = 0 ∨ (s.voice v).level = -180 → s.Stopped t v ∧ t.fadeOf (.voice v) = none) ∧
        (ms ≠ 0 → (s.voice v).level ≠ -180 → s.FadeRoom c (.voice v) →
          t.voice v = s.voice v ∧
            t.fadeOf (.voice v) = some (newFade (.voice v) (s.voice v).level (-180) ms (some slot) true)))))

/-- A firing of a cue, by its marks and by what it cannot touch: it is the last fired, the next cue after it is the standby, and the
fired count has risen; of the crosspoints only those its LEVEL actions name can have changed, and with each target named
once an open one with no fade time has its level; of the lines only CUE_LINE values its LINE actions name, and of the
foldback buses only the skip counts (R88, R103, R104, R107, R149). -/
def State.Fired (s t : State) (c : Cue) : Prop :=
  t = { s with link := t.link, matrix := { s.matrix with xpts := t.matrix.xpts }, fades := t.fades, engine := t.engine,
                fetch := t.fetch, foldback := { s.foldback with buses := t.foldback.buses }, router := t.router,
                lines := { s.lines with recs := t.lines.recs } } ∧
    t.engine.lastFired = some c.number ∧ t.engine.standby = s.cueAfter c.number ∧
    t.engine.fired = min (s.engine.fired + 1) 65535 ∧ t.engine.halted = s.engine.halted ∧
    t.engine.stopAllMs = s.engine.stopAllMs ∧ t.router.presets = s.router.presets ∧ t.fetch.sounds = s.fetch.sounds ∧
    s.Raised t .cue "!CUE event=" ∧
    (∀ row bus, (∀ code ms, Action.level row bus code ms ∉ c.actions) → t.xpt row bus = s.xpt row bus) ∧
    (∀ k, t.bus k = { s.bus k with skips := (t.bus k).skips }) ∧
    (∀ n, t.line n = { s.line n with cueLine := (t.line n).cueLine }) ∧
    (∀ n, (∀ on, Action.line n on ∉ c.actions) → t.line n = s.line n) ∧
    ((c.actions.map actionTarget).Nodup →
      (∀ n on, Action.line n on ∈ c.actions → (t.line n).cueLine = on) ∧
      ∀ row bus code, Action.level row bus code 0 ∈ c.actions → (∀ k, bus = .fb k → (s.bus k).lock = false) →
        (∀ i, row = .inp i → s.claim i = none) → t.xpt row bus = code)

/-- A call admitted: an id, the next counter and stamp, the request with its zone set, and the state its reply gives; the walk
touches no more than the router, the call players and the tags (R167, R168, R170). -/
def State.Admitted (s t : State) (q : CallRequest) (line : Option LineId) (id : Nat) (st : CallState) : Prop :=
  t = { s with link := t.link, router := t.router, fetch := t.fetch } ∧ (∀ v : VoiceId, t.voice v = s.voice v) ∧
    1 ≤ id ∧ id ≤ 255 ∧ t.router.nextId = id % 255 + 1 ∧ t.router.admitStamp = s.router.admitStamp + 1 ∧
    t.router.presets = s.router.presets ∧
    s.Raised t (.call id) (" event=" ++ match st with
      | .waiting => "admitted"
      | .live => "granted"
      | .ended => "ended") ∧
    (st = .ended ∧ t.callAt id = none ∨
      ∃ c, t.callAt id = some c ∧ c.req = q ∧ c.zones = s.resolve q ∧ c.stamp = s.router.admitStamp ∧
        c.admittedAt = s.now ∧ c.line = line ∧ c.state = st)

/-- A request of which a record goes into a call table as a WAITING call, before the walk that follows (R167, R168). -/
def State.admitting (s : State) (q : CallRequest) (calls : List Call) (id : Nat) : State :=
  { s with router := { s.router with
      calls := insertCall
        { id := id, req := q, zones := s.resolve q, stamp := s.router.admitStamp, admittedAt := s.now, grant := none,
          line := none } calls
      nextId := id % 255 + 1
      admitStamp := s.router.admitStamp + 1 } }

/-- A call ended or removed: it is no longer in the table, and no zone of its set is held by it; where no other call is WAITING, its
zones are free with their duck ramps toward 0 and its player IDLE (R175). -/
def State.CallGone (s t : State) (c : Call) : Prop :=
  t = { s with link := t.link, router := t.router, fetch := t.fetch } ∧ (∀ v : VoiceId, t.voice v = s.voice v) ∧
    t.callAt c.id = none ∧ t.router.presets = s.router.presets ∧ t.router.nextId = s.router.nextId ∧
    s.Raised t (.call c.id) " event=ended" ∧
    ((∀ d ∈ s.router.calls, d.id ≠ c.id → d.grant ≠ none) →
      t.router.calls = s.router.calls.filter (fun d => d.id ≠ c.id) ∧
      (∀ z, c.grant ≠ none → z ∈ c.zones →
        t.zone z = { s.zone z with holding := none, ramp := beginRamp (s.zone z).duck 0 500 }) ∧
      (∀ z, c.grant = none ∨ z ∉ c.zones → t.zone z = s.zone z) ∧
      (∀ p, c.player = some p → (t.reader (playerReader p)).state = .idle ∧
        ((s.reader (playerReader p)).state ≠ .idle → s.Raised t (.player p) " event=stopped")) ∧
      (c.player = none → t.fetch = s.fetch))

/-- A zone a call may take in a walk: not reserved, and free or held by a call of lower priority (R170, R171). -/
def State.ZoneFor (s : State) (reserved : List ZoneId) (c : Call) (z : ZoneId) : Prop :=
  z ∉ reserved ∧ ∀ id d, (s.zone z).holding = some id → s.callAt id = some d → d.req.pri < c.req.pri

/-- The player a recorded call takes: the first free one, or with none free that of the LIVE call of the lowest priority, and of
the latest grant between equals, where that priority is below the call's own (R171). -/
def State.PlayerTaken (s : State) (c : Call) (p : PlayerId) : Prop :=
  (s.playerCall p = none ∧ ∀ q, q < p → s.playerCall q ≠ none) ∨
    ((∀ q, s.playerCall q ≠ none) ∧ ∃ d g, s.playerCall p = some d ∧ d.grant = some g ∧ d.req.pri < c.req.pri ∧
      ∀ q e x, q ≠ p → s.playerCall q = some e → e.grant = some x → e.req.pri < c.req.pri →
        d.req.pri < e.req.pri ∨ d.req.pri = e.req.pri ∧ x.stamp < g.stamp)

/-- The LIVE calls that a grant of a call ends: those that hold a zone of its set or the player it takes (R172). -/
def State.endedBy (s : State) (c : Call) (player : Option PlayerId) (d : Call) : Bool :=
  d.grant.isSome && (c.zones.any (fun z => (s.zone z).holding = some d.id) || (player.isSome && d.player = player))

/-- A call granted: the calls in its way end, it goes LIVE with the next grant stamp, its zones are held with their ramps toward its
depth, the other zones of the ended calls are free with theirs toward 0, and its player starts its sound (R172, R175). -/
def State.Granted (s t : State) (c : Call) (player : Option PlayerId) : Prop :=
  (t.router = { s.router with
      zones := t.router.zones
      calls := t.router.calls
      grantStamp := s.router.grantStamp + 1 }) ∧
    t.router.calls = (s.router.calls.filter fun d => !s.endedBy c player d).map (fun d =>
      if d.id = c.id then { c with grant := some { stamp := s.router.grantStamp, player := player } } else d) ∧
    (∀ z ∈ c.zones, t.zone z =
      { s.zone z with holding := some c.id, ramp := beginRamp (s.zone z).duck (-(c.req.duck : Int)) 100 }) ∧
    (∀ z, z ∉ c.zones → (∃ d ∈ s.router.calls, s.endedBy c player d = true ∧ z ∈ d.zones) →
      t.zone z = { s.zone z with holding := none, ramp := beginRamp (s.zone z).duck 0 500 }) ∧
    (∀ z, z ∉ c.zones → (∀ d ∈ s.router.calls, s.endedBy c player d = true → z ∉ d.zones) → t.zone z = s.zone z) ∧
    (∀ n p d, c.req.src = .sound n → player = some p → s.fetch.sounds.get n = some d →
      (t.reader (playerReader p)).state = .starting ∧ (t.reader (playerReader p)).sound = some (n, d) ∧
        s.Raised t (.player p) " event=starting") ∧
    (∀ d p, d ∈ s.router.calls → s.endedBy c player d = true → d.player = some p → player ≠ some p →
      (t.reader (playerReader p)).state = .idle ∧
        ((s.reader (playerReader p)).state ≠ .idle → s.Raised t (.player p) " event=stopped")) ∧
    s.Raised t (.call c.id) " event=granted" ∧
    ∀ d ∈ s.router.calls, s.endedBy c player d = true →
      s.Raised t (.call d.id) (" cause=preempted by=" ++ natText c.id ++ " event=ended")

/-! ## Invariants -/

/-- The queues of the link hold at most 8 lines and 8 replies (R194, R195). -/
def State.LinkBounded (s : State) : Prop :=
  s.link.rxq.length ≤ Config.rxLines ∧ s.link.replies.length ≤ Config.replyLines

/-- The report set holds at most one entry for each key, and none of a disabled kind (R199, R200). -/
def LinkBlock.ReportsKeyed (b : LinkBlock) : Prop :=
  (b.reports.map (·.key)).Nodup ∧ ∀ r ∈ b.reports, r.key.kind ∉ b.disabled

/-- At most 256 fade records are in use, and no two address the same target (R24). -/
def FadeBlock.PoolOk (b : FadeBlock) : Prop :=
  b.pool.length ≤ Config.fadePool ∧ (b.pool.map (·.target)).Nodup

/-- The cue list holds at most 512 cues in ascending order, each number in its range, at most 32 actions to a cue and 4096 in
all (R84, R85, R87, R92). -/
def State.CuesOk (s : State) : Prop :=
  (s.cues.map (·.number)).Pairwise (· < ·) ∧ s.cues.length ≤ Config.maxCues ∧
    (∀ c ∈ s.cues, cueInRange c.number = true ∧ c.actions.length ≤ Config.actionsPerCue) ∧
    s.poolUsed ≤ Config.actionPool

/-- The standby position is END or the number of a cue in the list (R99). -/
def State.StandbyListed (s : State) : Prop := ∀ n, s.engine.standby = some n → n ∈ s.cues.map (·.number)

/-- The accounting of instances: their slots are distinct and their stamps rise, each count is not 0 and is the number of fades and
starts its slot owns, every owner is an instance of the table, only a voice in STARTING has one, a voice level is faded only
while the voice sounds, and between operations no instance is firing (R24, R100, R108, R110, R126). -/
def State.OwnersOk (s : State) : Prop :=
  (s.engine.insts.map (·.slot)).Nodup ∧ (s.engine.insts.map (·.stamp)).Pairwise (· < ·) ∧
    (∀ i ∈ s.engine.insts, i.stamp < s.engine.nextStamp ∧ 0 < i.count ∧ i.count = s.owned i.slot) ∧
    (∀ f ∈ s.fades.pool, ∀ slot, f.owner = some slot → slot ∈ s.engine.insts.map (·.slot)) ∧
    (∀ r slot, (s.reader r).owner = some slot →
      slot ∈ s.engine.insts.map (·.slot) ∧ (s.reader r).state = .starting ∧ ∀ p, r ≠ playerReader p) ∧
    (∀ f ∈ s.fades.pool, ∀ v, f.target = .voice v → (s.voice v).state = .playing ∨ (s.voice v).state = .stalled) ∧
    s.engine.firing = none

/-- The call table: at most 16 calls with distinct ids from 1 to 255, in descending order of priority and within it in order of
admission, no two holding one player (R167, R168). -/
def State.CallsOk (s : State) : Prop :=
  s.router.calls.length ≤ Config.maxCalls ∧ (s.router.calls.map (·.id)).Nodup ∧
    (∀ c ∈ s.router.calls, 1 ≤ c.id ∧ c.id ≤ 255 ∧ c.stamp < s.router.admitStamp) ∧
    s.router.calls.Pairwise (fun c d => d.req.pri < c.req.pri ∨ c.req.pri = d.req.pri ∧ c.stamp < d.stamp) ∧
    (s.router.calls.filterMap Call.player).Nodup

/-- A performer holds a role exactly when the role's holding performer is that performer (R43). -/
def State.RolesAgree (s : State) : Prop := ∀ r p, (s.role r).holder = some p ↔ (s.perf p).role = some r

/-- Every output slot carries its sample in the upper 24 bits and 0 in the lower 8, and every sample on its way to the ports
lies within the signed 24-bit range (R20, R205). -/
def PortBlock.SlotsOk (b : PortBlock) : Prop :=
  (∀ i : Fin 48, (b.slots.get i).extractLsb' 0 8 = 0) ∧
    (∀ i : Fin 48, inRange24 (b.formed.get i) = true ∧ inRange24 (b.formedBefore.get i) = true)

/-- Input trims and performer trims lie within their range (R3, R10, R43). -/
def State.TrimsOk (s : State) : Prop :=
  (∀ i : InputId, -80 ≤ s.matrix.trims.get i ∧ s.matrix.trims.get i ≤ 20) ∧
    (∀ p : PerfId, -80 ≤ (s.perf p).trim ∧ (s.perf p).trim ≤ 20)

/-- A crosspoint's level, or the start or the end of a fade on one, is OFF or a code from -179 to +20 (R14, R24). -/
def crosspointCode (c : LevelCode) : Prop := -180 ≤ c ∧ c ≤ 20

/-- A voice level, or the start or the end of a fade on one, is OFF or a code from -179 to 0 (R13, R24). -/
def voiceCode (c : LevelCode) : Prop := -180 ≤ c ∧ c ≤ 0

/-- The range of a fade's target (R24). -/
def targetCode : Target → LevelCode → Prop
  | .xpt _ _ => crosspointCode
  | .voice _ => voiceCode

/-- The range of the level a cue action sets (R88). -/
def actionCode : Action → Prop
  | .level _ _ c _ => crosspointCode c
  | _ => True

/-- Every level that fades and cues move lies within its range (R1, R13, R14, R24, R88). -/
def State.LevelsOk (s : State) : Prop :=
  (∀ row bus, crosspointCode (s.xpt row bus)) ∧ (∀ v : VoiceId, voiceCode (s.voice v).level) ∧
    (∀ f ∈ s.fades.pool, targetCode f.target f.start ∧ targetCode f.target f.goal) ∧
    ∀ c ∈ s.cues, ∀ a ∈ c.actions, actionCode a

/-- Each foldback bus's reduction lies within -40.0 to 0.0 dB and is 0 while its guard is off, and its ceiling lies within
its range (R147). -/
def FoldbackBlock.GuardOk (b : FoldbackBlock) : Prop :=
  ∀ k : FbId, (-80 ≤ (b.buses.get k).red ∧ (b.buses.get k).red ≤ 0) ∧
    ((b.buses.get k).guard = .off → (b.buses.get k).red = 0) ∧
    (-80 ≤ (b.buses.get k).ceiling ∧ (b.buses.get k).ceiling ≤ 0)

end Machine

end Sys2Proof
end

