-- ==== Sys2Proof/Certificates/Slice0/Obligations.lean ====
section
/-! DEFINITION. The statements for the provers: what the commands and the events of the block do, by the numbered rules of the
manual, and the invariants that every step keeps. -/

open Sys2Proof Sys2Proof.Machine

/-! ## The step, reset, and the whole block -/

/-- One step carries out the command or event at the front of the queue, on the state with the queue's rest. -/
def Obligations.StepTakesFront : Prop :=
  ∀ (c : Instr) (rest : List Instr) (s : State), s.pending = c :: rest → step s = exec c { s with pending := rest }

/-- A line that cannot be taken waits in the received-line queue, in its order: with no place for a reply, or behind another line. On
an empty queue of commands the part carries out the expiry of a chain with a time of 0, then the priming evaluation a show reset
left, then takes the oldest received line while a reply has a free place, and otherwise idles, as it does while a full reset is
in force (R111, R121, R194, R195, R203). What a step does on an empty queue, what becomes of a command given directly, and the
place of those two events before the next line are the model's choices (log 2, log 3, log 13, log 22). -/
def Obligations.LinesWaitTheirTurn : Prop :=
  ∀ s : State,
    (∀ c : Instr, c.isLine = true → s.inReset = false → s.link.rxq.length < 8 →
      (s.link.rxq = [] ∧ 8 ≤ s.link.replies.length ∨ ∃ h rest, s.link.rxq = h :: rest ∧ h ≠ c) →
      exec c s = .next { s with link := { s.link with rxq := s.link.rxq ++ [c] } }) ∧
    (s.pending = [] →
      (s.inReset = true → step s = .next s) ∧
      (s.inReset = false →
        (s.promptChain = true → step s = exec .chainExpiry s) ∧
        (s.promptChain = false → s.engine.primeDue = true → step s = exec .showResetPriming s) ∧
        (s.promptChain = false → s.engine.primeDue = false →
          (∀ c rest, s.link.rxq = c :: rest → s.link.replies.length < 8 → step s = exec c s) ∧
          (s.link.rxq = [] ∨ 8 ≤ s.link.replies.length → step s = .next s))))

/-- The values after full reset that the chapters state, of every block's records and counts (R10, R19, R41, R43, R60, R62 to R64,
R82, R98, R99, R146, R150, R154, R159, R160, R182, R183, R191, R201, R206): each reader IDLE, its ring cleared, with no retry mark, no
start owner and no kept fade-in, and no TALK line held. The frame of the last telemetry byte, 0 here, and the count of frames begun by
WCLK are the model's own (log 9, log 10). -/
def Obligations.ResetState : Prop :=
  (∀ i, State.reset.matrix.trims.get i = 0) ∧ (∀ row bus, State.reset.xpt row bus = -180) ∧
  State.reset.fades.pool = [] ∧ State.reset.fades.snaps = 0 ∧
  (∀ bus, State.reset.clip bus = { clipped := false, count := 0, peak := 0, quiet := 0 }) ∧
  (∀ r, State.reset.role r = { name := [], holder := none, xfade := none }) ∧
  (∀ p, State.reset.perf p =
    { name := [], main := none, spares := [], trim := 0, zone := none, revertAuto := true, modeAuto := true,
      active := none, state := .main, compromised := false, role := none }) ∧
  (∀ i, State.reset.claim i = none ∧ State.reset.health i = none) ∧
  State.reset.cast.pages.get 0 = none ∧ State.reset.cast.pages.get 1 = none ∧ State.reset.cast.talkin = none ∧
  State.reset.mic.sup = { floor := 20, hyst := 6, overThreshold := 90, batt := 15, dropout := 150, restore := 2000,
                          stale := 1000, ref := none, margin := 10 } ∧
  State.reset.mic.refRf = none ∧ State.reset.mic.refStaleAt = none ∧ State.reset.mic.handed = [] ∧
  State.reset.mic.tlm = { framing := .hunt, lastByte := 0, good := 0, checksum := 0, channel := 0, sync := 0,
                          incomplete := 0, skipped := 0 } ∧
  State.reset.cues = [] ∧ State.reset.poolFree = 4096 ∧
  State.reset.engine.halted = false ∧ State.reset.engine.standby = none ∧ State.reset.engine.lastFired = none ∧
  State.reset.engine.insts = [] ∧ State.reset.engine.chain = none ∧ State.reset.engine.stopAllMs = 3000 ∧
  State.reset.engine.fired = 0 ∧
  (∀ r, (State.reset.reader r).Idle ∧ (State.reset.reader r).level = -180 ∧ (State.reset.reader r).underruns = 0 ∧
    (State.reset.reader r).retries = 0) ∧
  (∀ t, State.reset.fetch.tags.get t = .free) ∧ (∀ n, State.reset.fetch.sounds.get n = none) ∧
  State.reset.fetch.refill = 4 ∧ State.reset.fetch.timeouts = 0 ∧ State.reset.fetch.errors = 0 ∧
  State.reset.fetch.stray = 0 ∧
  (∀ k, State.reset.bus k = { ceiling := -12 }) ∧ State.reset.foldback.talkLevel = -180 ∧
  State.reset.foldback.talkDepth = 0 ∧ State.reset.foldback.talkCommand = false ∧
  (∀ n, State.reset.foldback.heldLines.get n = false) ∧ State.reset.foldback.window = 0 ∧
  (∀ z, State.reset.zone z =
    { name := [], relay := true, level := 0, trim := 0, quiet := false, groups := .replicate 8 false, holding := none,
      duck := 0, ramp := none }) ∧
  State.reset.router.calls = [] ∧ State.reset.router.nextId = 1 ∧ (∀ k, State.reset.router.presets.get k = none) ∧
  (∀ n, (State.reset.line n).fn = .none ∧ (State.reset.line n).activeHigh = true ∧
    (State.reset.line n).debounced = some false ∧ (State.reset.line n).refused = 0 ∧
    (State.reset.line n).count = 0 ∧ (State.reset.line n).cueLine = false ∧ (State.reset.line n).drive = none) ∧
  State.reset.link.rxq = [] ∧ State.reset.link.replies = [] ∧ State.reset.link.reports = [] ∧
  State.reset.link.disabled = [] ∧ State.reset.link.overflow = 0 ∧ State.reset.link.framing = 0 ∧
  State.reset.link.long = 0 ∧ State.reset.clock = { wclk := false, monitor := .absent, count := 0, losses := 0, begun := 0 }

/-- The state after full reset meets every invariant stated here. -/
def Obligations.ResetMeetsInvariants : Prop :=
  State.reset.Settled ∧ State.reset.LinkBounded ∧ State.reset.link.ReportsKeyed ∧ State.reset.fades.PoolOk ∧
    State.reset.CuesOk ∧ State.reset.StandbyListed ∧ State.reset.RolesAgree ∧ State.reset.ports.SlotsOk ∧
    State.reset.TrimsOk ∧ State.reset.LevelsOk ∧ State.reset.foldback.GuardOk ∧ State.reset.OwnersOk ∧
    State.reset.CallsOk

/-- FULL_RESET and RESET_END (R192, R203). While the reset is in force the output slots carry 0, no line pin is driven, nothing
is sent, HOLD is asserted and the store-bus reset is driven; at its end the part holds the state after full reset at the rate
of the straps. That the levels of the PAUSE and line pins, the outside's own, stand through the reset is the model's reading
(log 6), and so is that RESET_END with no full reset in force changes nothing (log 7). -/
def Obligations.FullReset : Prop :=
  ∀ s : State,
    (∃ t, exec .fullReset s = .next t ∧ t.inReset = true ∧ (∀ i, t.ports.slots.get i = 0) ∧
      (∀ n, (t.line n).drive = none) ∧ t.link.sending = none ∧ t.hold = true ∧ t.fetch.busReset = true) ∧
    (s.inReset = true → ∀ baud1 baud0 : Bool,
      exec (.resetEnd baud1 baud0) s = .next { State.reset with
        link := { State.reset.link with
          baud := if baud1 then (if baud0 then 921600 else 460800) else (if baud0 then 230400 else 115200)
          paused := s.link.paused }
        lines := { State.reset.lines with pins := s.lines.pins }
        pending := s.pending }) ∧
    (s.inReset = false → ∀ baud1 baud0, exec (.resetEnd baud1 baud0) s = .next s)

/-- While a full reset is in force every command and every event but the pin and power events leaves the part as it is: no
character is taken, no line is sent, no frame is computed (R203). That telemetry bytes, WCLK edges, completions and expiries
too leave the part as it is while RESETN is low is the model's reading (log 7). -/
def Obligations.ResetHoldsThePart : Prop :=
  ∀ (c : Instr) (s : State), s.inReset = true → c.isPinEvent = false → exec c s = .next s

/-- Each taken line receives exactly one reply, `OK` with its fields or `ERR` with a code, behind the replies that wait and
with the line's own tag; the line, the oldest the link holds, leaves the queue of received lines, and the ports, the clock
and the commands still waiting stand (R194, R195, R197). That a row equal to the oldest line that waits is the taking of that line
is the model's choice (log 3). -/
def Obligations.OneReplyPerLine : Prop :=
  ∀ (c : Instr) (rest : List Instr) (s : State), c.isLine = true → s.inReset = false → s.link.replies.length < 8 →
    (s.link.rxq = [] ∧ rest = [] ∨ s.link.rxq = c :: rest) →
    ∃ t text, exec c s = .next t ∧ t.link.rxq = rest ∧ t.link.replies = s.link.replies ++ [tagText c.tag ++ text] ∧
      ((∃ fields, text = "OK " ++ fields) ∨ ∃ e : ErrCode, text = "ERR " ++ e.text) ∧
      t.ports = s.ports ∧ t.clock = s.clock ∧ t.inReset = s.inReset ∧ t.now = s.now ∧ t.pending = s.pending

/-- A refused command changes nothing in any block: its error reply is placed and the state is otherwise as it was; and a line whose
words do not have its command's form is refused with SYNTAX. The one line apart is the long line, which is counted (R193,
R196). That a command row is its line received and taken in one step is the model's choice (log 3). -/
def Obligations.RefusedChangesNothing : Prop :=
  (∀ (c : Instr) (s t : State) (e : ErrCode), c.isLine = true → (∀ tag, c ≠ .unknown tag .long) → s.Takes →
    exec c s = .next t → t.link.replies = s.link.replies ++ [tagText c.tag ++ ("ERR " ++ e.text)] →
    t = s.refused c.tag e) ∧
  ∀ (c : Instr) (s : State), c.isMalformed = true → s.Takes → exec c s = .next (s.refused c.tag .syntaxErr)

/-- A query is answered and changes nothing: each answers `OK` with the fields of its rule, read from the state as it stands, where
its arguments name an object that is there; a number out of its range is refused with RANGE, and an object that is not there
with NOSUCH (R19, R22, R23, R40, R59, R63, R64, R73, R95, R120, R123, R144, R145, R148, R154, R162, R179, R181, R190, R200,
R201, R202, R207). The place of `owner=` in VOICE?, `state=` of an output line in LINE? by its condition as the query is taken, and an
empty name as nothing after `name=`, are the model's reading (log 19); how a part of a millisecond counts in `left=` and `exp=` (log 10)
and in `age=` (log 35), and the order of `members=` and `groups=` (log 42), are its choices. -/
def Obligations.QueriesChangeNothing : Prop :=
  (∀ (c : Instr) (s : State), c.isQuery = true → s.Ready → ∃ text, exec c s = .next (s.answered c.tag text)) ∧
  ∀ (s : State) (tag : Tag), s.Ready →
    (∀ (a : LevelQueryArgs) row, rowOf a.row = some row → a.bus = none →
      s.Tells (.levelQuery tag (.given a)) (s.rowLevelsText row)) ∧
    (∀ (a : LevelQueryArgs) row b bus, rowOf a.row = some row → a.bus = some b → busOf b = some bus →
      (s.fadeOf (.xpt row bus) = none → s.Tells (.levelQuery tag (.given a))
        (rowText row ++ " " ++ busText bus ++ " level=" ++ levelText (s.xpt row bus))) ∧
      (∀ f, s.fadeOf (.xpt row bus) = some f → s.Tells (.levelQuery tag (.given a))
        (rowText row ++ " " ++ busText bus ++ " level=" ++ levelText (s.xpt row bus) ++ " target=" ++ levelText f.goal ++
          " left=" ++ natText (f.ms - f.elapsed / 48)))) ∧
    (∀ n i, ofNum 64 n = some i → s.Tells (.inputQuery tag (.given n))
      (inText i ++ " trim=" ++ levelText (s.matrix.trims.get i) ++ " use=" ++ useText (s.use i))) ∧
    (∀ b bus, busOf b = some bus → s.Tells (.clipQuery tag (.given b))
      (busText bus ++ " state=" ++ (if (s.clip bus).clipped then "clipped" else "clear") ++ " frames=" ++
        natText (s.clip bus).count ++ " peak=" ++ natText (s.clip bus).peak)) ∧
    s.Tells (.fadeQuery tag (.given ())) s.fadesText ∧
    (∀ n p, ofNum 48 n = some p → s.Tells (.perfQuery tag (.given n)) (s.perfLine p)) ∧
    s.Tells (.pageQuery tag (.given ())) ("page:1=" ++ optText inText (s.cast.pages.get 0) ++ " page:2=" ++
      optText inText (s.cast.pages.get 1)) ∧
    s.Tells (.talkinQuery tag (.given ())) ("talkin=" ++ optText inText s.cast.talkin) ∧
    s.Tells (.castQuery tag (.given none)) s.castsText ∧
    (∀ n r, ofNum 40 n = some r → s.Tells (.castQuery tag (.given (some n))) (s.castLine r)) ∧
    s.Tells (.supvQuery tag (.given ())) s.supvText ∧
    s.Tells (.tlmQuery tag (.given ())) ("port=" ++ portText s.mic.tlm.framing ++ " " ++ s.mic.tlm.countText) ∧
    s.Tells (.micQuery tag (.given none)) s.micsText ∧
    (∀ n i, ofNum 64 n = some i → s.Tells (.micQuery tag (.given (some n))) (s.micText i)) ∧
    s.Tells (.cueQuery tag (.given none)) ("cues=" ++ natText s.cues.length ++ " actions=" ++ natText s.poolUsed ++
      " free=" ++ natText s.poolFree ++ " first=" ++ optText cueText s.firstCue ++ " last=" ++
      optText cueText s.lastCue) ∧
    (∀ n c, cueInRange n = true → s.cueAt n = some c → s.Tells (.cueQuery tag (.given (some n)))
      ("cue=" ++ cueText n ++ " label=" ++ nameText c.label ++ " link=" ++ linkText c.link ++ " actions=" ++
        natText c.actions.length ++ " prev=" ++ optText cueText (s.cueBefore n) ++ " next=" ++
        standbyText (s.cueAfter n))) ∧
    (∀ (a : ActIndexArgs) c act, cueInRange a.cue = true → 1 ≤ a.index → a.index ≤ 32 → s.cueAt a.cue = some c →
      c.actions[a.index - 1]? = some act → s.Tells (.actQuery tag (.given a))
        ("cue=" ++ cueText a.cue ++ " act=" ++ natText a.index ++ " " ++ actionText act)) ∧
    s.Tells (.engineQuery tag (.given ())) s.engineLine ∧
    s.Tells (.instQuery tag (.given ())) (itemsText (s.engine.insts.map fun i =>
      "slot:" ++ slotText i.slot ++ "=" ++ cueText i.cue ++ "/" ++ natText i.count)) ∧
    (∀ n i d, ofNum 1024 n = some i → s.fetch.sounds.get i = some d →
      s.Tells (.soundQuery tag (.given n)) (soundLine i d)) ∧
    s.Tells (.voiceQuery tag (.given none)) s.voicesText ∧
    (∀ n v, ofNum 24 n = some v → s.Tells (.voiceQuery tag (.given (some n))) (s.voiceLine v)) ∧
    (∀ n p, ofNum 2 n = some p → s.Tells (.playerQuery tag (.given n)) (playerText p ++ " " ++
      (s.reader (playerReader p)).stateFields ++ (s.reader (playerReader p)).ringFields ++
      (s.reader (playerReader p)).countFields)) ∧
    s.Tells (.fetchQuery tag (.given ())) ("refill=" ++ natText s.fetch.refill ++ " " ++ s.fetch.storeText) ∧
    s.Tells (.fbQuery tag (.given none)) (itemsText ((List.finRange 16).filterMap s.fbItem)) ∧
    (∀ n k, ofNum 16 n = some k → s.Tells (.fbQuery tag (.given (some n))) (s.fbLine k)) ∧
    s.Tells (.talkbackQuery tag (.given ())) s.talkbackText ∧
    (∀ n z, ofNum 24 n = some z → s.Tells (.zoneQuery tag (.given n)) (s.zoneLine z)) ∧
    (∀ n g, ofNum 8 n = some g → s.Tells (.groupQuery tag (.given n))
      (groupText g ++ " zones=" ++ listText ((s.groupZones g).map zoneText))) ∧
    s.Tells (.callQuery tag (.given none)) (itemsText (s.router.calls.map fun c =>
      "call:" ++ natText c.id ++ "=" ++ callStateText c.state)) ∧
    (∀ id c, s.callAt id = some c → s.Tells (.callQuery tag (.given (some id))) (s.callLine c)) ∧
    (∀ n k, ofNum 16 n = some k → s.Tells (.presetDefQuery tag (.given n)) (s.presetLine k)) ∧
    s.Tells (.lineQuery tag (.given none)) s.linesText ∧
    (∀ n l, ofNum 16 n = some l → s.Tells (.lineQuery tag (.given (some n))) (s.lineLine l)) ∧
    s.Tells (.reportQuery tag (.given ())) s.maskText ∧
    s.Tells (.linkQuery tag (.given ())) ("baud=" ++ natText s.link.baud ++ " queued=" ++ natText s.link.rxq.length ++
      " replies=" ++ natText s.link.replies.length ++ " hold=" ++ yesNo s.hold ++ " pause=" ++ yesNo s.link.paused ++
      " overflow=" ++ natText s.link.overflow ++ " framing=" ++ natText s.link.framing ++ " long=" ++
      natText s.link.long) ∧
    s.Tells (.statusQuery tag (.given ())) ("run=" ++ (if s.engine.halted then "halted" else "running") ++ " standby=" ++
      standbyText s.engine.standby ++ " instances=" ++ natText s.engine.insts.length ++ " fades=" ++
      natText s.fades.pool.length ++ " tags=" ++
      natText (s.fetch.tagCount StoreTag.isBusy + s.fetch.tagCount StoreTag.isOrphaned) ++ " lost=" ++
      natText (s.fetch.tagCount StoreTag.isLost) ++ " waiting=" ++
      natText (s.router.calls.countP fun c => c.grant.isNone) ++ " live=" ++
      natText (s.router.calls.countP fun c => c.grant.isSome) ++ " clock=" ++
      (if s.clock.wclk then "wclk" else "internal") ++ " reports=" ++ natText s.link.reports.length) ∧
    s.Tells (.clockQuery tag (.given ())) ("source=" ++ (if s.clock.wclk then "wclk" else "internal") ++ " state=" ++
      monitorText s.clock.monitor ++ " count=" ++ natText s.clock.count ++ " losses=" ++ natText s.clock.losses) ∧
    (∀ c : Instr,
      (∃ n, (c = .inputQuery tag (.given n) ∨ c = .micQuery tag (.given (some n))) ∧ ofNum 64 n = none) ∨
        (∃ n, c = .perfQuery tag (.given n) ∧ ofNum 48 n = none) ∨
        (∃ n, c = .castQuery tag (.given (some n)) ∧ ofNum 40 n = none) ∨
        (∃ n, (c = .voiceQuery tag (.given (some n)) ∨ c = .zoneQuery tag (.given n)) ∧ ofNum 24 n = none) ∨
        (∃ n, (c = .fbQuery tag (.given (some n)) ∨ c = .presetDefQuery tag (.given n) ∨
          c = .lineQuery tag (.given (some n))) ∧ ofNum 16 n = none) ∨
        (∃ n, c = .playerQuery tag (.given n) ∧ ofNum 2 n = none) ∨
        (∃ n, c = .groupQuery tag (.given n) ∧ ofNum 8 n = none) ∨
        (∃ n, c = .soundQuery tag (.given n) ∧ ofNum 1024 n = none) ∨
        (∃ n, c = .cueQuery tag (.given (some n)) ∧ cueInRange n = false) ∨
        (∃ a : LevelQueryArgs, c = .levelQuery tag (.given a) ∧
          (rowOf a.row = none ∨ ∃ b, a.bus = some b ∧ busOf b = none)) ∨
        (∃ b, c = .clipQuery tag (.given b) ∧ busOf b = none) ∨
        (∃ a : ActIndexArgs, c = .actQuery tag (.given a) ∧
          (cueInRange a.cue = false ∨ a.index = 0 ∨ 32 < a.index)) →
      exec c s = .next (s.refused tag .range)) ∧
    (∀ n, cueInRange n = true → s.cueAt n = none →
      exec (.cueQuery tag (.given (some n))) s = .next (s.refused tag .noSuch)) ∧
    (∀ n i, ofNum 1024 n = some i → s.fetch.sounds.get i = none →
      exec (.soundQuery tag (.given n)) s = .next (s.refused tag .noSuch)) ∧
    (∀ a : ActIndexArgs, cueInRange a.cue = true → 1 ≤ a.index → a.index ≤ 32 →
      (s.cueAt a.cue = none ∨ ∃ c, s.cueAt a.cue = some c ∧ c.actions.length < a.index) →
      exec (.actQuery tag (.given a)) s = .next (s.refused tag .noSuch)) ∧
    ∀ id, s.callAt id = none → exec (.callQuery tag (.given (some id))) s = .next (s.refused tag .noSuch)

/-! ## Invariants that every step keeps -/

/-- The received-line queue holds up to 8 lines and the reply queue up to 8 replies, and the report set at most one entry for each
key and none of a disabled kind, whatever the part does (R194, R195, R199, R200). -/
def Obligations.LinkInvariantsKept : Prop :=
  ∀ s t : State, s.LinkBounded → s.link.ReportsKeyed → step s = .next t → t.LinkBounded ∧ t.link.ReportsKeyed

/-- Between operations STANDBY_READY stands as last reported and no priming evaluation is owed (R117, R118). That the evaluation and
STANDBY_READY are settled at the end of each operation (log 13), and that a show reset leaves the value of STANDBY_READY known and
not reported (log 14), is the model's reading. -/
def Obligations.SettledKept : Prop :=
  ∀ s t : State, s.Settled → step s = .next t → t.Settled

/-- The cue list stays in ascending order and within its capacities, the standby position stays END or a listed cue, and a role's
holder and a performer's role name each other; the call table keeps distinct ids, its order and its capacity, and each player at
most one call (R43, R52, R84, R87, R92, R99, R167, R168). -/
def Obligations.TablesKept : Prop :=
  ∀ s t : State, step s = .next t →
    (s.CuesOk → s.StandbyListed → t.CuesOk ∧ t.StandbyListed) ∧ (s.RolesAgree → t.RolesAgree) ∧
    (s.CallsOk → t.CallsOk)

/-- At most 256 fade records are in use and no two address the same target; every sample on its way to the ports lies within 24 bits
and every output slot sends its lower 8 bits as 0; and the reduction of each foldback bus lies within -40.0 to 0.0 dB and
is 0 while its guard is off (R20, R24, R147, R150, R152, R205). -/
def Obligations.BlockBoundsKept : Prop :=
  ∀ s t : State, step s = .next t →
    (s.fades.PoolOk → t.fades.PoolOk) ∧ (s.ports.SlotsOk → t.ports.SlotsOk) ∧ (s.foldback.GuardOk → t.foldback.GuardOk)

/-- Every crosspoint level, voice level and trim, every end of a fade and every level of a cue action stays within its range
(R1, R3, R10, R13, R14, R24). -/
def Obligations.LevelsKept : Prop :=
  ∀ s t : State, s.TrimsOk → s.LevelsOk → step s = .next t → t.TrimsOk ∧ t.LevelsOk

/-- Loaded show data stands: trims, names, performers' inputs and fields, claims, paging and talkback inputs, supervision settings,
cues, sounds, the refill watermark, foldback and talkback settings, zone settings, presets, line functions, the STOP ALL time and
the report mask, and with them the output slots and the clock monitor, change by their own commands and events alone, and by the
end of a full reset (R10, R42, R47, R50, R51, R64, R98, R120, R122, R145, R147, R154, R161, R179, R184, R192, R200). -/
def Obligations.LoadedDataStands : Prop :=
  ∀ (c : Instr) (s t : State), exec c s = .next t → (∀ baud1 baud0, c ≠ .resetEnd baud1 baud0) →
    ((∀ tag a, c ≠ .input tag a) → t.matrix.trims = s.matrix.trims) ∧
    ((∀ tag a, c ≠ .role tag a) → ∀ r, (t.role r).name = (s.role r).name) ∧
    ((∀ tag a, c ≠ .perf tag a) → t.cast.claims = s.cast.claims ∧ ∀ p,
      (t.perf p).name = (s.perf p).name ∧ (t.perf p).main = (s.perf p).main ∧ (t.perf p).spares = (s.perf p).spares ∧
      (t.perf p).trim = (s.perf p).trim ∧ (t.perf p).zone = (s.perf p).zone ∧
      (t.perf p).revertAuto = (s.perf p).revertAuto) ∧
    ((∀ tag a, c ≠ .page tag a) → t.cast.pages = s.cast.pages) ∧
    ((∀ tag a, c ≠ .talkin tag a) → t.cast.talkin = s.cast.talkin) ∧
    ((∀ tag a, c ≠ .supv tag a) → t.mic.sup = s.mic.sup) ∧
    ((∀ tag a, c ≠ .cue tag a) → (∀ tag a, c ≠ .act tag a) → (∀ tag a, c ≠ .actDel tag a) →
      (∀ tag a, c ≠ .cueDel tag a) → t.cues = s.cues) ∧
    ((∀ tag a, c ≠ .sound tag a) → t.fetch.sounds = s.fetch.sounds) ∧
    ((∀ tag a, c ≠ .fetch tag a) → t.fetch.refill = s.fetch.refill) ∧
    ((∀ tag a, c ≠ .talkback tag a) →
      t.foldback.talkLevel = s.foldback.talkLevel ∧ t.foldback.talkDepth = s.foldback.talkDepth) ∧
    ((∀ tag a, c ≠ .talkback tag a) → ∀ k, (t.bus k).member = (s.bus k).member) ∧
    ((∀ tag a, c ≠ .fb tag a) → ∀ k, (t.bus k).lock = (s.bus k).lock ∧ (t.bus k).ceiling = (s.bus k).ceiling ∧
      ((t.bus k).guard = .off ↔ (s.bus k).guard = .off)) ∧
    ((∀ tag a, c ≠ .zone tag a) → ∀ z, (t.zone z).name = (s.zone z).name ∧ (t.zone z).relay = (s.zone z).relay ∧
      (t.zone z).level = (s.zone z).level ∧ (t.zone z).trim = (s.zone z).trim ∧ (t.zone z).quiet = (s.zone z).quiet ∧
      (t.zone z).groups = (s.zone z).groups) ∧
    ((∀ tag a, c ≠ .lineset tag a) → ∀ n, (t.line n).fn = (s.line n).fn ∧
      (t.line n).activeHigh = (s.line n).activeHigh) ∧
    ((∀ tag a, c ≠ .engine tag a) → t.engine.stopAllMs = s.engine.stopAllMs) ∧
    ((∀ tag a, c ≠ .presetDef tag a) → t.router.presets = s.router.presets) ∧
    ((∀ tag a, c ≠ .report tag a) → t.link.disabled = s.link.disabled) ∧
    t.link.baud = s.link.baud ∧
    ((∀ slots pins, c ≠ .frame slots pins) → c ≠ .fullReset → t.ports = s.ports) ∧
    (c ≠ .clockLost → c ≠ .qualifyingTimeout → c ≠ .clockRestored → (∀ n, c ≠ .wclkRisingEdge n) →
      t.clock = { s.clock with begun := t.clock.begun } ∧
        ((∀ slots pins, c ≠ .frame slots pins) → t.clock = s.clock))

/-! ## Levels and the mix matrix -/

/-- The gain table: each gain is 16384 × 10^(c/40) rounded half up, compared as integers to the 40th power; with the entries and
the properties R7 names. -/
def Obligations.GainTable : Prop :=
  gainTable.length = 200 ∧
    (∀ c : Int, -179 ≤ c → c ≤ 20 →
      (2 * gain c - 1) ^ 40 * 10 ^ 179 ≤ 32768 ^ 40 * 10 ^ (c + 179).toNat ∧
        32768 ^ 40 * 10 ^ (c + 179).toNat < (2 * gain c + 1) ^ 40 * 10 ^ 179 ∧ 1 ≤ gain c) ∧
    (∀ c : Int, -179 ≤ c → c < 20 → gain c ≤ gain (c + 1)) ∧
    (∀ c : Int, -179 ≤ c → c ≤ -162 → gain c = 1) ∧
    [20, 12, 4, 0, -2, -6, -12, -20, -40, -80, -120, -160, -161, -162, -179, -180].map gain =
      [51811, 32690, 20626, 16384, 14602, 11599, 8211, 5181, 1638, 164, 16, 2, 2, 1, 1, 0]

/-- Level addition, and the three places where the part adds levels (R5). -/
def Obligations.LevelAddition : Prop :=
  (∀ a b : LevelCode, a = -180 ∨ b = -180 → levelAdd a b = -180) ∧
    (∀ a b : LevelCode, a ≠ -180 → b ≠ -180 →
      (20 < a + b → levelAdd a b = 20) ∧ (a + b < -179 → levelAdd a b = -180) ∧
        (-179 ≤ a + b → a + b ≤ 20 → levelAdd a b = a + b)) ∧
    (∀ z : Zone, z.relay = true → z.relayCode = levelAdd z.level z.duck) ∧
    (∀ (s : State) (k : FbId) (b t : Sample), s.foldbackValue k b t =
      scale b (gain (levelAdd (s.bus k).red (s.bus k).duck)) + scale t (gain s.foldback.talkLevel)) ∧
    (∀ (s : State) (slots : Vector Word32 64) (relay : Sample) (z : ZoneId) (c : Call), s.holdingCall z = some c →
      s.zoneValue slots relay z = scale relay (gain (s.zone z).relayCode) +
        scale (s.callAudio slots c) (gain (levelAdd c.req.level (s.zone z).trim)))

/-- Level, depth and time fields as held: a number of thousandths of a dB goes to the nearest half-decibel, a halfway value to the
lower one, and is then brought into its field's range (R2, R3, R4). -/
def Obligations.LevelFieldsHeld : Prop :=
  (∀ x : Int, -250 < x - 500 * halfDecibels x ∧ x - 500 * halfDecibels x ≤ 250) ∧
    (∀ x : Int, crosspointLevel (.num x) = (if halfDecibels x ≤ -180 then -180 else min 20 (halfDecibels x)) ∧
      talkbackLevel (.num x) = crosspointLevel (.num x) ∧ relayLevel (.num x) = crosspointLevel (.num x) ∧
      callLevel (.num x) = crosspointLevel (.num x) ∧ trimLevel (.num x) = max (-80) (min 20 (halfDecibels x)) ∧
      ceilingLevel (.num x) = max (-80) (min 0 (halfDecibels x)) ∧
      callTrim (.num x) = max (-40) (min 20 (halfDecibels x)) ∧
      (talkbackDepth x : Int) = max 0 (min 80 (halfDecibels x)) ∧
      (callDepth x : Int) = max 0 (min 120 (halfDecibels x))) ∧
    crosspointLevel .off = -180 ∧ talkbackLevel .off = -180 ∧ relayLevel .off = -180 ∧ callLevel .off = -180 ∧
    trimLevel .off = -80 ∧ ceilingLevel .off = -80 ∧ callTrim .off = -40 ∧
    (∀ t : Int, (heldTime (some t) : Int) = max 0 (min 600000 t)) ∧ heldTime none = 0

/-- A METERING bus takes the magnitude of its b into its window peak in each frame. The conversion of a window peak: the largest
code whose threshold is at or below it, +40 at most, OFF below the first; and the threshold table, 8,388,607 × 10^(c/40)
rounded up, compared to the 40th power, with the entries R151 names. That the events due are taken before the frame is the
model's choice (log 5). -/
def Obligations.PeakConversion : Prop :=
  thresholdTable.length = 220 ∧
    (∀ c : Int, -179 ≤ c → c ≤ 40 →
      8388607 ^ 40 * 10 ^ (c + 179).toNat ≤ (threshold c) ^ 40 * 10 ^ 179 ∧
        (threshold c - 1) ^ 40 * 10 ^ 179 < 8388607 ^ 40 * 10 ^ (c + 179).toNat) ∧
    [40, 0, -12, -40, -80, -120, -179].map threshold = [83886070, 8388607, 4204263, 838861, 83887, 8389, 281] ∧
    (∀ peak : Nat,
      (peak < threshold (-179) → peakCode peak = -180) ∧ (threshold 40 ≤ peak → peakCode peak = 40) ∧
      (threshold (-179) ≤ peak →
        -179 ≤ peakCode peak ∧ peakCode peak ≤ 40 ∧ threshold (peakCode peak) ≤ peak ∧
          ∀ c, -179 ≤ c → c ≤ 40 → threshold c ≤ peak → c ≤ peakCode peak)) ∧
    (∀ (s t : State) (slots : Vector Word32 64) (pins : Vector Bool 16) (k : FbId), s.inReset = false → s.HasFrame →
      exec (.frame slots pins) s = .next t →
      (t.bus k).peak = if (s.takeDue.bus k).guard = .metering then
        max (s.takeDue.bus k).peak (s.takeDue.busSum slots (.fb k)).natAbs else (s.takeDue.bus k).peak)

/-- The row signals of a frame: free inputs at their trims, role rows at their holders' trims, or between their old and their new
source while a crossfade runs, and voices at their levels, the output sample of a voice being the word of its FULL head slot at its
play position modulo 256 while it plays, and 0 in every other case (R11, R12, R13, R55, R128, R129). -/
def Obligations.RowSignals : Prop :=
  ∀ (s : State) (slots : Vector Word32 64),
    (∀ i : InputId, (s.rowSignals slots).getD i.val 0 =
      if s.use i = .free then saturate (scale (sampleOf (slots.get i)) (gain (s.matrix.trims.get i))) else 0) ∧
    (∀ r : RoleId, (s.role r).xfade = none → (s.rowSignals slots).getD (64 + r.val) 0 =
      match (s.role r).holder with
      | none => 0
      | some p =>
        match (s.perf p).active with
        | none => 0
        | some i => saturate (scale (sampleOf (slots.get i)) (gain (s.perf p).trim))) ∧
    (∀ (r : RoleId) (x : Crossfade), (s.role r).xfade = some x → x.k < 240 →
      (s.rowSignals slots).getD (64 + r.val) 0 =
        ((sourceSignal slots x.old) * (240 - ((x.k : Int) + 1)) +
          (sourceSignal slots (s.rowSource r)) * ((x.k : Int) + 1)).tdiv 240) ∧
    (∀ v : VoiceId, (s.voice v).Outputs (s.voice v).output ∧ (s.rowSignals slots).getD (104 + v.val) 0 =
      saturate (scale (s.voice v).output (gain (s.voice v).level)))

/-- FRAME: what a frame computes leaves two frames later, and its 48 samples are the saturated house buses, foldback values and
zone values of the state the frame finds, each bus the exact sum of the row signals by the crosspoint gains (R16, R17, R20,
R158, R163, R205). Events due are taken before it, which is the model's choice (log 5). The talkback audio of a bus is the talkback
input's trimmed sample on a member bus while talk is active, and 0 otherwise (R157); the audio of a call is its player's output
sample, or the trimmed sample of the input assigned to its paging input, or 0 with none assigned (R173); a zone with no holding call
sends the relay alone, at its relay level and its duck, or nothing of it with its relay off (R163). -/
def Obligations.FrameOutputs : Prop :=
  (∀ (s : State) (slots : Vector Word32 64) (pins : Vector Bool 16), s.inReset = false → s.HasFrame →
    ∃ t, exec (.frame slots pins) s = .next t ∧ t.now = s.now + 1 ∧ t.lines.pins = pins ∧ t.inReset = false ∧
      t.link.replies = s.link.replies ∧ t.link.rxq = s.link.rxq ∧
      t.ports.slots = s.ports.formedBefore.map slotOf ∧ t.ports.formedBefore = s.ports.formed ∧
      (∀ h : HouseId, t.ports.formed.get ⟨h.val, by omega⟩ =
        saturate (s.takeDue.busSum slots (.house h))) ∧
      (∀ k : FbId, t.ports.formed.get ⟨8 + k.val, by omega⟩ =
        saturate (scale (s.takeDue.busSum slots (.fb k))
            (gain (levelAdd (s.takeDue.bus k).red (s.takeDue.bus k).duck)) +
          scale (s.takeDue.talkAudio slots k) (gain s.takeDue.foldback.talkLevel))) ∧
      (∀ z : ZoneId, t.ports.formed.get ⟨24 + z.val, by omega⟩ =
        saturate (s.takeDue.zoneValue slots (saturate (s.takeDue.busSum slots .relay)) z))) ∧
  ∀ (s : State) (slots : Vector Word32 64),
    (∀ k : FbId,
      (∀ i, s.foldback.talkCommand = true ∨ (∃ n, s.foldback.heldLines.get n = true) → (s.bus k).member = true →
        s.cast.talkin = some i →
        s.talkAudio slots k = saturate (scale (sampleOf (slots.get i)) (gain (s.matrix.trims.get i)))) ∧
      (s.foldback.talkCommand = false ∧ (∀ n, s.foldback.heldLines.get n = false) ∨ (s.bus k).member = false ∨
        s.cast.talkin = none → s.talkAudio slots k = 0)) ∧
    (∀ c : Call,
      (∀ n p, c.req.src = .sound n → c.player = some p →
        s.callAudio slots c = (s.reader (playerReader p)).output ∧
          (s.reader (playerReader p)).Outputs (s.callAudio slots c)) ∧
      (∀ n i, c.req.src = .page n → s.cast.pages.get n = some i →
        s.callAudio slots c = saturate (scale (sampleOf (slots.get i)) (gain (s.matrix.trims.get i)))) ∧
      (∀ n, c.req.src = .page n → s.cast.pages.get n = none → s.callAudio slots c = 0)) ∧
    (∀ (z : ZoneId) (relay : Sample),
      ((s.zone z).holding = none → s.zoneValue slots relay z =
        if (s.zone z).relay = true then scale relay (gain (levelAdd (s.zone z).level (s.zone z).duck)) else 0) ∧
      (∀ id c, (s.zone z).holding = some id → s.callAt id = some c → s.zoneValue slots relay z =
        (if (s.zone z).relay = true then scale relay (gain (levelAdd (s.zone z).level (s.zone z).duck)) else 0) +
          scale (s.callAudio slots c) (gain (levelAdd c.req.level (s.zone z).trim))))

/-- An accepted LEVEL snaps the crosspoint, or leaves it where it stands with one unowned fade on it from its level to the level as
held, or, with the pool full, snaps it and counts the snap; every other crosspoint, every trim and every other block stand.
The owner of a fade that was on the crosspoint is told, and of the cue engine nothing else changes. LEVEL is
refused with RANGE for a row or bus number outside its kind's range, and then with CLAIMED for the input row of a claimed input
(R21, R25, R33, R34, R35). That the line is taken as it arrives is the model's choice (log 3). -/
def Obligations.LevelSetsCrosspoint : Prop :=
  (∀ (s : State) (tag : Tag) (a : LevelArgs) (row : Row) (bus : Bus), s.Ready → rowOf a.row = some row →
    busOf a.bus = some bus → s.claimedRow row = false →
    ∃ t, exec (.level tag (.given a)) s = .next t ∧
      s.Replied t tag ("OK " ++ (rowText row ++ " " ++ busText bus ++ " level=" ++ levelText (crosspointLevel a.level))) ∧
      t = { s with link := t.link, matrix := t.matrix, fades := t.fades, engine := t.engine } ∧
      t.matrix.trims = s.matrix.trims ∧ t.matrix.clips = s.matrix.clips ∧
      (s.engine.firing = none → t.engine = s.engine.told ((s.fadeOf (.xpt row bus)).bind (·.owner))) ∧
      (∀ row' bus', ¬(row' = row ∧ bus' = bus) → t.xpt row' bus' = s.xpt row' bus') ∧
      (heldTime a.t = 0 ∨ s.xpt row bus = crosspointLevel a.level →
        t.xpt row bus = crosspointLevel a.level ∧ t.fades.snaps = s.fades.snaps ∧
          t.fades.pool = s.fades.pool.filter fun f => f.target ≠ .xpt row bus) ∧
      (heldTime a.t ≠ 0 → s.xpt row bus ≠ crosspointLevel a.level →
        ((s.fadeOf (.xpt row bus)).isSome →
          t.xpt row bus = s.xpt row bus ∧ t.fades.snaps = s.fades.snaps ∧
            t.fades.pool = s.fades.pool.map fun f => if f.target = .xpt row bus then
              newFade (.xpt row bus) (s.xpt row bus) (crosspointLevel a.level) (heldTime a.t) none false else f) ∧
        (s.fadeOf (.xpt row bus) = none → s.fades.pool.length < 256 →
          t.xpt row bus = s.xpt row bus ∧ t.fades.snaps = s.fades.snaps ∧
            t.fades.pool = s.fades.pool ++
              [newFade (.xpt row bus) (s.xpt row bus) (crosspointLevel a.level) (heldTime a.t) none false]) ∧
        (s.fadeOf (.xpt row bus) = none → 256 ≤ s.fades.pool.length →
          t.xpt row bus = crosspointLevel a.level ∧ t.fades.pool = s.fades.pool ∧
            t.fades.snaps = min (s.fades.snaps + 1) 65535 ∧
            s.Raised t .fade ("!FADE used=" ++ natText s.fades.pool.length ++ " snaps=" ++ natText t.fades.snaps ++ " last=" ++
              targetText (.xpt row bus) ++ " level=" ++ levelText (crosspointLevel a.level))))) ∧
  ∀ (s : State) (tag : Tag) (a : LevelArgs), s.Takes →
    (rowOf a.row = none ∨ busOf a.bus = none →
      exec (.level tag (.given a)) s = .next (s.refused tag .range)) ∧
    (∀ i bus, rowOf a.row = some (.inp i) → busOf a.bus = some bus → s.claim i ≠ none →
      exec (.level tag (.given a)) s = .next (s.refused tag .claimed))

/-- FADE_COMPLETE: a record that has run its duration and is not frozen leaves the pool, and its target has its end level; with
stop-at-off at OFF its voice stops playing. Every other record stands, and of the cue engine nothing changes but the owner's
instance and what its END link sets. A record that is not due is left as it is (R31, R39): that its row then changes nothing is the
model's reading (log 7). -/
def Obligations.FadeCompletes : Prop :=
  ∀ (s : State) (target : Target), s.inReset = false → s.Calm →
    (∀ f, s.fadeOf target = some f → 48 * f.ms ≤ f.elapsed → (f.owner = none ∨ s.engine.halted = false) →
      ∃ t, exec (.fadeComplete target) s = .next t ∧ t.levelOf target = f.goal ∧ t.fadeOf target = none ∧
        (∀ target', target' ≠ target → t.levelOf target' = s.levelOf target') ∧
        t.ports = s.ports ∧ t.cast = s.cast ∧ t.router = s.router ∧ t.lines = s.lines ∧ t.foldback = s.foldback ∧
        (∀ v, target = .voice v → f.stopAtOff = true → f.goal = -180 →
          (t.voice v).state = .idle ∨ (t.voice v).state = .priming) ∧
        (∀ v, target = .voice v → f.stopAtOff = true → f.goal = -180 → s.StopRaised t v "stopped") ∧
        t.fades.snaps = s.fades.snaps ∧
        (s.OwnersOk → t.fades.pool = s.fades.pool.filter (fun g => g.target ≠ target) ∧
          t.engine = s.engine.told f.owner ∧
          (∀ slot i, f.owner = some slot → s.instAt slot = some i → i.count = 1 → s.Raised t .cue "!CUE event="))) ∧
    ((∀ f, s.fadeOf target = some f → f.elapsed < 48 * f.ms ∨ (f.owner ≠ none ∧ s.engine.halted = true)) →
      exec (.fadeComplete target) s = .next s)

/-- CROSSFADE_END and CLIP_CLEAR: a crossfade whose 240 frames have been computed leaves its role; a clip record whose quiet run is
4800 frames returns to CLEAR with its count, peak and run 0; otherwise nothing changes (R19, R55), which is the model's reading of
an event that has not come (log 7). FRAME feeds each clip record with its column's pre-output value: outside 24 bits it opens or
extends the episode with its count and its peak, and inside it lengthens the quiet run of an open one (R18, R19), after the
events due, which is the model's choice (log 5). An episode that begins or ends raises CLIP, whose form is the model's choice
(log 16). -/
def Obligations.CrossfadeAndClipEnd : Prop :=
  (∀ (s t u : State) (slots : Vector Word32 64) (pins : Vector Bool 16) (bus : Bus) (v : Sample), s.inReset = false →
    s.HasFrame → u = s.takeDue → exec (.frame slots pins) s = .next t →
    ((∃ h, bus = .house h) ∨ bus = .relay → v = u.busSum slots bus) →
    (∀ k, bus = .fb k → v = u.foldbackValue k (u.busSum slots bus) (u.talkAudio slots k)) →
    (inRange24 v = true → (u.clip bus).clipped = false → t.clip bus = u.clip bus) ∧
    (inRange24 v = true → (u.clip bus).clipped = true →
      t.clip bus = { u.clip bus with quiet := min ((u.clip bus).quiet + 1) 4800 }) ∧
    (inRange24 v = false → (u.clip bus).clipped = false →
      t.clip bus = { clipped := true, count := 1, peak := v.natAbs, quiet := 0 } ∧
        s.Raised t (.clip bus) ("!CLIP " ++ busText bus ++ " state=clipped frames=1 peak=" ++ natText v.natAbs)) ∧
    (inRange24 v = false → (u.clip bus).clipped = true → t.clip bus =
      { clipped := true, count := min ((u.clip bus).count + 1) 65535, peak := max (u.clip bus).peak v.natAbs,
        quiet := 0 })) ∧
  (∀ (s : State) (r : RoleId), s.inReset = false → s.Calm →
    (∀ x, (s.role r).xfade = some x → 240 ≤ x.k →
      exec (.crossfadeEnd r) s = .next { s with
        cast := { s.cast with roles := put s.cast.roles r { s.role r with xfade := none } } }) ∧
    ((∀ x, (s.role r).xfade = some x → x.k < 240) → exec (.crossfadeEnd r) s = .next s)) ∧
  ∀ (s : State) (bus : Bus), s.inReset = false → s.Calm →
    ((s.clip bus).clipped = true → 4800 ≤ (s.clip bus).quiet →
      ∃ t, exec (.clipClear bus) s = .next t ∧ s.SameLink t ∧
        t = { s with link := t.link, matrix := { s.matrix with clips := put s.matrix.clips (colPos bus) {} } } ∧
        s.Raised t (.clip bus) ("!CLIP " ++ busText bus ++ " state=clear frames=" ++ natText (s.clip bus).count ++ " peak=" ++
          natText (s.clip bus).peak)) ∧
    ((s.clip bus).clipped = false ∨ (s.clip bus).quiet < 4800 → exec (.clipClear bus) s = .next s)

/-! ## The cast table -/

/-- ROLE, PAGE and TALKIN set a role's name, a paging input and the talkback input, and nothing else, where the input named has no
other use; with another use PAGE and TALKIN are refused with CLAIMED (R42, R45, R50, R51). An empty name in the reply as nothing after
`name=` is the model's reading (log 19). -/
def Obligations.RoleAndAssignments : Prop :=
  ∀ (s : State) (tag : Tag), s.Ready →
    (∀ (a : RoleArgs) (r : RoleId), ofNum 40 a.role = some r → a.name.all nameChar = true → a.name.length ≤ 12 →
      exec (.role tag (.given a)) s = .next (
        { s with cast := { s.cast with roles := put s.cast.roles r { s.role r with name := a.name } } }.answered tag
          ("OK " ++ (roleText r ++ " name=" ++ nameText a.name)))) ∧
    (∀ (a : PageArgs) (n : PageId) (i : Option InputId), ofNum 2 a.page = some n → optNum 64 a.input = some i →
      (∀ j, i = some j → s.use j = .free ∨ s.use j = .paging n) →
      exec (.page tag (.given a)) s = .next (
        { s with cast := { s.cast with pages := put s.cast.pages n i } }.answered tag
          ("OK " ++ (pageText n ++ " in=" ++ optText inText i)))) ∧
    (∀ (n : Option Nat) (i : Option InputId), optNum 64 n = some i →
      (∀ j, i = some j → s.use j = .free ∨ s.use j = .talkback) →
      exec (.talkin tag (.given n)) s = .next (
        { s with cast := { s.cast with talkin := i } }.answered tag ("OK " ++ ("talkin=" ++ optText inText i)))) ∧
    ∀ j : InputId,
      (∀ (a : PageArgs) (n : PageId), ofNum 2 a.page = some n → optNum 64 a.input = some (some j) → s.use j ≠ .free →
        s.use j ≠ .paging n → exec (.page tag (.given a)) s = .next (s.refused tag .claimed)) ∧
      (∀ n : Option Nat, optNum 64 n = some (some j) → s.use j ≠ .free → s.use j ≠ .talkback →
        exec (.talkin tag (.given n)) s = .next (s.refused tag .claimed))

/-- An accepted PERF sets the fields it carries and leaves the others, other performers and the holders of roles as they stand;
where it carries an input field each input of the new set is claimed in its place, each input that left is free, and every
other claim stands. The 25 crosspoints of each newly claimed input's row are OFF and every fade record on them is gone, each owner
told, the other crosspoints and records standing, as each claim does of its own row. An input that enters is tracked in NO_DATA,
one that leaves has no health record, and the others keep theirs. With an input field the active input is the new main, the state
MAIN or MANUAL by the mode, and the compromised flag is clear; after it, in AUTO, a new active input that is DOWN runs selection.
`mode=auto` has the effect of AUTO, and `mode=manual` of a change to MANUAL (R15, R36, R46 to R49, R66, R75, R79, R81). The order in
which several owners are told is the model's choice (logs 30 and 33). -/
def Obligations.PerfSetsRecord : Prop :=
  (∀ (s : State) (tag : Tag) (a : PerfArgs) (p : PerfId) (main : Option InputId) (spares : List InputId)
    (zone : Option ZoneId), s.Ready → hasField a = true → ofNum 48 a.perf = some p →
    (∀ n, a.name = some n → n.all nameChar = true ∧ n.length ≤ 12) →
    (a.main = none ∧ main = (s.perf p).main ∨ ∃ m, a.main = some m ∧ optNum 64 m = some main) →
    (a.spares = none ∧ spares = (s.perf p).spares ∨ ∃ l, a.spares = some l ∧ l.length ≤ 2 ∧ nums 64 l = some spares) →
    (a.zone = none ∧ zone = (s.perf p).zone ∨ ∃ z, a.zone = some z ∧ optNum 24 z = some zone) →
    (spares ≠ [] → main ≠ none) → (main.toList ++ spares).Nodup → (hasInputs a = true → (s.perf p).role = none) →
    (∀ i ∈ main.toList ++ spares, s.usedElsewhere p i = false) →
    ∃ t, exec (.perf tag (.given a)) s = .next t ∧ (∃ text, s.Replied t tag ("OK " ++ text)) ∧
      (t.perf p).name = a.name.getD (s.perf p).name ∧ (t.perf p).main = main ∧ (t.perf p).spares = spares ∧
      (t.perf p).trim = (a.trim.map trimLevel).getD (s.perf p).trim ∧ (t.perf p).zone = zone ∧
      (t.perf p).revertAuto = a.revertAuto.getD (s.perf p).revertAuto ∧
      (t.perf p).modeAuto = a.modeAuto.getD (s.perf p).modeAuto ∧ (t.perf p).role = (s.perf p).role ∧
      (∀ q, q ≠ p → t.perf q = s.perf q) ∧ (∀ r, (t.role r).holder = (s.role r).holder ∧ (t.role r).name = (s.role r).name) ∧
      t.matrix.trims = s.matrix.trims ∧ t.matrix.clips = s.matrix.clips ∧ t.fades.snaps = s.fades.snaps ∧
      t.fetch = s.fetch ∧
      (hasInputs a = false →
        t.cast.claims = s.cast.claims ∧ t.mic = s.mic ∧ t.matrix = s.matrix ∧ t.fades = s.fades ∧ t.engine = s.engine) ∧
      (hasInputs a = true →
        (∀ i place, (i, place) ∈ (t.perf p).inputs → t.claim i = some (p, place)) ∧
        (∀ i place, (i, place) ∈ (s.perf p).inputs → i ∉ main.toList ++ spares → t.claim i = none) ∧
        (∀ i, i ∉ main.toList ++ spares → (∀ place, (i, place) ∉ (s.perf p).inputs) → t.claim i = s.claim i) ∧
        (∀ i place bus, (i, place) ∈ (t.perf p).inputs → (∀ old, (i, old) ∉ (s.perf p).inputs) →
          t.xpt (.inp i) bus = -180) ∧
        (∀ row bus, (∀ i place, row = .inp i → (i, place) ∈ (t.perf p).inputs → ∃ old, (i, old) ∈ (s.perf p).inputs) →
          t.xpt row bus = s.xpt row bus) ∧
        (∀ f, f ∈ t.fades.pool ↔ f ∈ s.fades.pool ∧
          ∀ i bus place, f.target = .xpt (.inp i) bus → (i, place) ∈ (t.perf p).inputs →
            ∃ old, (i, old) ∈ (s.perf p).inputs) ∧
        (s.engine.firing = none → t.engine =
          (((t.perf p).inputs.filter fun e => (s.perf p).inputs.all fun o => o.1 ≠ e.1).flatMap fun e =>
            rowTargets e.1).foldl (fun b target => b.told ((s.fadeOf target).bind (·.owner)))
            s.engine) ∧
        t.mic = { s.mic with health := t.mic.health } ∧
        (∀ i place, (i, place) ∈ (t.perf p).inputs → (∀ old, (i, old) ∉ (s.perf p).inputs) →
          t.health i = some { staleAt := some (s.now + 48 * s.mic.sup.stale) } ∧
            s.Raised t (.mic i) (" perf=" ++ perfText p ++ " event=tracked")) ∧
        (∀ i old, (i, old) ∈ (s.perf p).inputs → (∀ place, (i, place) ∉ (t.perf p).inputs) → t.health i = none ∧
          s.Raised t (.mic i) (" perf=" ++ perfText p ++ " event=released")) ∧
        s.Raised t (.perf p) ("!PERF " ++ perfText p) ∧
        (∀ i, ((∃ place, (i, place) ∈ (t.perf p).inputs) ↔ ∃ old, (i, old) ∈ (s.perf p).inputs) →
          t.health i = s.health i)) ∧
      (∀ active compromised,
        active = (if hasInputs a = true then main else (s.perf p).active) →
        compromised = (if hasInputs a = true then false else (s.perf p).compromised) →
        ((t.perf p).modeAuto = false →
          (t.perf p).active = active ∧ (t.perf p).compromised = compromised ∧ (∀ r, t.role r = s.role r) ∧
          ((t.perf p).state =
            if hasInputs a = true ∨ (s.perf p).modeAuto = true then .manual else (s.perf p).state) ∧
          ((s.perf p).modeAuto = true → s.Raised t (.perf p) " event=manual")) ∧
        ((t.perf p).modeAuto = true → ∀ (st : PerfState) (u : State),
          (hasInputs a = true → st = .main) →
          (hasInputs a = false → a.modeAuto = some true →
            st = if (s.perf p).activePlace = some .spare1 ∨ (s.perf p).activePlace = some .spare2 then .spare else .main) →
          (hasInputs a = false → a.modeAuto = none → st = (s.perf p).state) →
          u = { s with mic := t.mic, cast := { s.cast with
            perfs := put s.cast.perfs p { t.perf p with active := active, state := st, compromised := compromised } } } →
          ((∃ i, active = some i ∧ (a.modeAuto = some true ∧ (∀ h, t.health i = some h → h.state ≠ .good) ∨
              hasInputs a = true ∧ ∃ h, t.health i = some h ∧ h.state = .down)) → u.Selected t p) ∧
          (¬(∃ i, active = some i ∧ (a.modeAuto = some true ∧ (∀ h, t.health i = some h → h.state ≠ .good) ∨
              hasInputs a = true ∧ ∃ h, t.health i = some h ∧ h.state = .down)) →
            t.perf p = u.perf p ∧ (∀ r, t.role r = s.role r) ∧
              (a.modeAuto = some true → s.Raised t (.perf p) " event=auto") ∧
              (a.modeAuto = none → hasInputs a = true → s.Raised t (.perf p) " event=inputs")))) ∧
      t.router = s.router ∧ t.lines = s.lines ∧ t.foldback = s.foldback ∧ t.ports = s.ports ∧ t.cues = s.cues) ∧
  ∀ (s : State) (i : InputId),
    (∀ bus, (s.silenceRow i).xpt (.inp i) bus = -180) ∧
      (∀ row bus, row ≠ .inp i → (s.silenceRow i).xpt row bus = s.xpt row bus) ∧
      (s.silenceRow i).fades.pool = s.fades.pool.filter (fun f => f.target ∉ rowTargets i) ∧
      (s.silenceRow i).matrix.trims = s.matrix.trims

/-- An accepted CAST: where the holder does not change nothing does; otherwise the role's holder and the two performers' roles
change, and a crossfade begins on the row from the source it had; every other role and performer and every other block stand
(R52, R53, R56). An empty name in the reply as nothing after
`name=` is the model's reading (log 19). -/
def Obligations.CastChangesHolder : Prop :=
  ∀ (s : State) (tag : Tag) (a : CastArgs) (r : RoleId) (p : Option PerfId), s.Ready → ofNum 40 a.role = some r →
    optNum 48 a.perf = some p →
    ((∃ q r', p = some q ∧ (s.perf q).role = some r' ∧ r' ≠ r) →
      exec (.cast tag (.given a)) s = .next (s.refused tag .held)) ∧
    ((∀ q, p = some q → (s.perf q).role = none ∨ (s.perf q).role = some r) →
      ∃ t, exec (.cast tag (.given a)) s = .next t ∧
        s.Replied t tag ("OK " ++ t.castLine r) ∧ t = { s with link := t.link, cast := t.cast } ∧
        t.cast.claims = s.cast.claims ∧ t.cast.pages = s.cast.pages ∧ t.cast.talkin = s.cast.talkin ∧
        ((s.role r).holder = p → t.cast = s.cast ∧ t.link.reports = s.link.reports) ∧
        ((s.role r).holder ≠ p →
          t.role r = { s.role r with holder := p, xfade := some { old := s.rowSource r, k := 0 } } ∧
          (∀ r', r' ≠ r → t.role r' = s.role r') ∧
          (∀ q, p = some q → t.perf q = { s.perf q with role := some r } ∧
            s.Raised t (.perf q) (" role=" ++ roleText r ++ " event=cast")) ∧
          (∀ q, p ≠ some q → (s.role r).holder = some q → t.perf q = { s.perf q with role := none } ∧
            s.Raised t (.perf q) " role=none event=cast") ∧
          (∀ q, p ≠ some q → (s.role r).holder ≠ some q → t.perf q = s.perf q)))

/-! ## Radio microphone supervision -/

/-- SUPV sets the fields it carries, each clamped to its range, and leaves the others; a change of reference channel discards the
reference record (R64, R65). -/
def Obligations.SupvSettings : Prop :=
  ∀ (s : State) (tag : Tag) (a : SupvArgs) (ref : Option InputId), s.Ready → supvHasField a = true →
    (a.ref = none ∧ ref = s.mic.sup.ref ∨ ∃ n, a.ref = some n ∧ optNum 64 n = some ref) →
    ∃ t, exec (.supv tag (.given a)) s = .next t ∧ s.Replied t tag ("OK " ++ t.supvText) ∧
      t = { s with link := t.link, mic := t.mic } ∧ t.link.reports = s.link.reports ∧
      t.mic = { s.mic with sup := t.mic.sup, refRf := t.mic.refRf, refStaleAt := t.mic.refStaleAt } ∧
      t.mic.sup.ref = ref ∧
      (ref ≠ s.mic.sup.ref → t.mic.refRf = none ∧ t.mic.refStaleAt = none) ∧
      (ref = s.mic.sup.ref → t.mic.refRf = s.mic.refRf ∧ t.mic.refStaleAt = s.mic.refStaleAt) ∧
      clamped 0 100 a.floor s.mic.sup.floor t.mic.sup.floor ∧ clamped 0 30 a.hyst s.mic.sup.hyst t.mic.sup.hyst ∧
      clamped 0 100 a.overThreshold s.mic.sup.overThreshold t.mic.sup.overThreshold ∧
      clamped 0 100 a.batt s.mic.sup.batt t.mic.sup.batt ∧
      clamped 20 2000 a.dropout s.mic.sup.dropout t.mic.sup.dropout ∧
      clamped 100 10000 a.restore s.mic.sup.restore t.mic.sup.restore ∧
      clamped 100 5000 a.stale s.mic.sup.stale t.mic.sup.stale ∧ clamped 0 40 a.margin s.mic.sup.margin t.mic.sup.margin

/-- SELECT forces one of the performer's own inputs to be active, whatever its health, and puts the performer in MANUAL; a change of
input begins a crossfade on the role the performer holds. An input that is not the performer's is refused (R58, R78).
An empty name in the reply as nothing after `name=` is the model's reading (log 19). -/
def Obligations.SelectForces : Prop :=
  ∀ (s : State) (tag : Tag) (a : SelectArgs) (p : PerfId) (i : InputId), s.Ready → ofNum 48 a.perf = some p →
    ofNum 64 a.input = some i →
    ((∀ e ∈ (s.perf p).inputs, e.1 ≠ i) → exec (.select tag (.given a)) s = .next (s.refused tag .noSuch)) ∧
    ((∃ e ∈ (s.perf p).inputs, e.1 = i) →
      ∃ t, exec (.select tag (.given a)) s = .next t ∧ s.Replied t tag ("OK " ++ t.perfLine p) ∧
        t = { s with link := t.link, cast := t.cast } ∧ t.cast.claims = s.cast.claims ∧
        t.perf p = { s.perf p with active := some i, modeAuto := false, state := .manual, compromised := false } ∧
        s.Raised t (.perf p) ("!PERF " ++ perfText p ++ " state=manual active=" ++ inText i ++ " compromised=no role=" ++
          optText roleText (s.perf p).role ++ " event=select") ∧
        (∀ q, q ≠ p → t.perf q = s.perf q) ∧
        (∀ r, (s.perf p).role = some r → (s.perf p).active ≠ some i →
          t.role r = { s.role r with xfade := some { old := s.rowSource r, k := 0 } }) ∧
        (∀ r, (s.perf p).role ≠ some r ∨ (s.perf p).active = some i → t.role r = s.role r))

/-- AUTO returns a performer to automatic changeover: on a GOOD active input it stays there in MAIN or SPARE by its place; on any
other it takes, of its GOOD inputs, one without LOW_BATT if there is one, of the highest RF level, the earlier place between
equals, and with none it is left in ALARM (R75, R79).
An empty name in the reply as nothing after `name=` is the model's reading (log 19). -/
def Obligations.AutoReturns : Prop :=
  ∀ (s : State) (tag : Tag) (n : Nat) (p : PerfId), s.Ready → ofNum 48 n = some p →
    ∃ t, exec (.auto tag (.given n)) s = .next t ∧ s.Replied t tag ("OK " ++ t.perfLine p) ∧
      t = { s with link := t.link, cast := t.cast } ∧ t.cast.claims = s.cast.claims ∧
      (∀ q, q ≠ p → t.perf q = s.perf q) ∧ (t.perf p).modeAuto = true ∧ (t.perf p).role = (s.perf p).role ∧
      (t.perf p).main = (s.perf p).main ∧ (t.perf p).spares = (s.perf p).spares ∧ (t.perf p).trim = (s.perf p).trim ∧
      s.Raised t (.perf p) ("!PERF " ++ perfText p ++ " state=" ++ perfStateText (t.perf p).state ++ " active=" ++
        optText inText (t.perf p).active ++ " compromised=" ++ yesNo (t.perf p).compromised ++ " role=" ++
        optText roleText (t.perf p).role ++ " event=auto") ∧
      ((s.perf p).active = none → (t.perf p).active = none ∧ (t.perf p).state = .main) ∧
      (∀ i, (s.perf p).active = some i → s.isGood i = true →
        (t.perf p).active = some i ∧ (t.perf p).state = placeState (s.perf p).activePlace ∧
          (t.perf p).compromised = (s.perf p).compromised) ∧
      (∀ i, (s.perf p).active = some i → s.isGood i = false → s.candidates (s.perf p) = [] →
        (t.perf p).active = some i ∧ (t.perf p).state = .alarm ∧ (t.perf p).compromised = (s.perf p).compromised) ∧
      (∀ i, (s.perf p).active = some i → s.isGood i = false → s.candidates (s.perf p) ≠ [] →
        ∃ e before after, s.candidates (s.perf p) = before ++ e :: after ∧
          (∀ d ∈ before ++ after, s.lowBatt d.1 = false → s.lowBatt e.1 = false) ∧
          (∀ d ∈ before, s.lowBatt d.1 = s.lowBatt e.1 → s.rfOf d.1 < s.rfOf e.1) ∧
          (∀ d ∈ after, s.lowBatt d.1 = s.lowBatt e.1 → s.rfOf d.1 ≤ s.rfOf e.1) ∧
          (t.perf p).active = some e.1 ∧ (t.perf p).state = placeState (some e.2) ∧
          (t.perf p).compromised = s.lowBatt e.1)

/-- A received telemetry byte by the framing state: hunting, waiting for a sync, and collecting, with the gap of 96 frames and the
framing error; each discard raises TLM with the counts and its cause, the letters of which are the model's choice (R62, R63; log 34). -/
def Obligations.TelemetryByte : Prop :=
  ∀ (s : State) (byte : Byte) (framing : Bool), s.inReset = false → s.Calm →
    ∃ t, exec (.telemetryByte byte framing) s = .next t ∧ t = { s with link := t.link, mic := t.mic } ∧ s.SameLink t ∧
      t.mic = { s.mic with tlm := t.mic.tlm, handed := t.mic.handed } ∧
      ((∀ l, s.mic.tlm.framing = .collect l → l.length ≠ 5) → t.mic.handed = s.mic.handed) ∧
      (byte = 0xA5 → framing = false → (s.mic.tlm.framing = .hunt ∨ s.mic.tlm.framing = .waitSync) →
        t.mic.tlm = { s.mic.tlm with framing := .collect [byte], lastByte := s.now } ∧ t.link = s.link) ∧
      (byte ≠ 0xA5 ∨ framing = true → s.mic.tlm.framing = .hunt →
        t.mic.tlm = { s.mic.tlm with skipped := min (s.mic.tlm.skipped + 1) 65535 } ∧ t.link = s.link) ∧
      (byte ≠ 0xA5 ∨ framing = true → s.mic.tlm.framing = .waitSync →
        t.mic.tlm = { s.mic.tlm with framing := .hunt, sync := min (s.mic.tlm.sync + 1) 65535 } ∧
          s.Raised t .tlm (t.mic.tlm.countText ++ " last=sync")) ∧
      (∀ l, s.mic.tlm.framing = .collect l → s.now - s.mic.tlm.lastByte ≤ 96 → framing = true →
        t.mic.tlm = { s.mic.tlm with framing := .hunt, incomplete := min (s.mic.tlm.incomplete + 1) 65535 } ∧
          s.Raised t .tlm (t.mic.tlm.countText ++ " last=partial")) ∧
      (∀ l, s.mic.tlm.framing = .collect l → 96 < s.now - s.mic.tlm.lastByte →
        t.mic.tlm.incomplete = min (s.mic.tlm.incomplete + 1) 65535 ∧ s.Raised t .tlm " last=partial" ∧
          (t.mic.tlm.framing = if byte = 0xA5 ∧ framing = false then .collect [byte] else .hunt)) ∧
      (∀ l, s.mic.tlm.framing = .collect l → s.now - s.mic.tlm.lastByte ≤ 96 → framing = false → l.length ≠ 5 →
        t.mic.tlm = { s.mic.tlm with framing := .collect (l ++ [byte]), lastByte := s.now } ∧ t.link = s.link) ∧
      (∀ b0 ch rf batt flags, s.mic.tlm.framing = .collect [b0, ch, rf, batt, flags] →
        s.now - s.mic.tlm.lastByte ≤ 96 → framing = false →
        (ch + rf + batt + flags ≠ byte →
          t.mic.tlm.framing = .hunt ∧ t.mic.tlm.checksum = min (s.mic.tlm.checksum + 1) 65535 ∧
            t.mic.handed = s.mic.handed ∧ s.Raised t .tlm (t.mic.tlm.countText ++ " last=checksum")) ∧
        (ch + rf + batt + flags = byte → ofNum 64 ch.toNat = none →
          t.mic.tlm.framing = .hunt ∧ t.mic.tlm.channel = min (s.mic.tlm.channel + 1) 65535 ∧
            t.mic.handed = s.mic.handed ∧ s.Raised t .tlm (t.mic.tlm.countText ++ " last=channel")) ∧
        (∀ i, ch + rf + batt + flags = byte → ofNum 64 ch.toNat = some i →
          t.mic.tlm.framing = .waitSync ∧ t.mic.tlm.good = min (s.mic.tlm.good + 1) 65535 ∧
            t.mic.handed = s.mic.handed ++ [recordOf i rf batt flags]))

/-- The state table of a valid record on a claimed input, against the effective floor, with the timers it starts and stops, after
the stale timer, the last values and the bound flags are set (R67, R68, R72). -/
def Obligations.HealthTable : Prop :=
  ∀ (h : HealthRec) (d : TlmRecord) (f : Nat) (sup : Supervision) (now : Nat),
    (h.take d f sup now).last = some d ∧ (h.take d f sup now).lastAt = now ∧
      (h.take d f sup now).staleAt = some (now + 48 * sup.stale) ∧
      ((h.take d f sup now).overFlag = true ↔ sup.overThreshold ≤ d.rf) ∧
      ((h.take d f sup now).lowBatt = true ↔ ∃ n, d.batt = some n ∧ n < sup.batt) ∧
      (h.state = .noData → goodRecord d f sup.hyst → (h.take d f sup now).state = .good) ∧
      (h.state = .noData → ¬goodRecord d f sup.hyst →
        (h.take d f sup now).state = .down ∧ (h.take d f sup now).cause = some d.downCause) ∧
      (h.state = .good → badRecord d f → (h.take d f sup now).state = .fading ∧
        (h.take d f sup now).dropoutAt = some (now + 48 * sup.dropout) ∧ (h.take d f sup now).fadeStart = some now) ∧
      (h.state = .good → ¬badRecord d f → (h.take d f sup now).state = .good) ∧
      (h.state = .fading → badRecord d f →
        (h.take d f sup now).state = .fading ∧ (h.take d f sup now).dropoutAt = h.dropoutAt) ∧
      (∀ start, h.state = .fading → ¬badRecord d f → h.fadeStart = some start →
        (h.take d f sup now).state = .good ∧ (h.take d f sup now).dropoutAt = none ∧
          (h.take d f sup now).cause = none ∧ (h.take d f sup now).lastFade = some ((now - start) / 48)) ∧
      (h.state = .down → goodRecord d f sup.hyst → (h.take d f sup now).state = .recovering ∧
        (h.take d f sup now).cause = h.cause ∧ (h.take d f sup now).restoreAt = some (now + 48 * sup.restore)) ∧
      (h.state = .down → ¬goodRecord d f sup.hyst →
        (h.take d f sup now).state = .down ∧ (h.take d f sup now).cause = some d.downCause) ∧
      (h.state = .recovering → goodRecord d f sup.hyst →
        (h.take d f sup now).state = .recovering ∧ (h.take d f sup now).restoreAt = h.restoreAt) ∧
      (h.state = .recovering → ¬goodRecord d f sup.hyst → (h.take d f sup now).state = .down ∧
        (h.take d f sup now).cause = some d.downCause ∧ (h.take d f sup now).restoreAt = none)

/-- VALID_RECORD: the oldest record handed over is taken; one on the reference channel renews the reference record, one on a claimed
input moves its health record against the floor that record has itself just set, and then, in AUTO, the performer by what that
changed: an active input that enters DOWN, or any input that enters GOOD in ALARM, runs selection, and the main input that enters GOOD
in SPARE with revert AUTO is reverted to. In MANUAL, and in every other case, the performer stands; a record on any other input has no
effect. The MIC and PERF reports of these changes are raised (R65, R68, R73, R74, R75, R77, R80, R81). -/
def Obligations.ValidRecord : Prop :=
  ∀ (s : State) (d : TlmRecord) (rest : List TlmRecord), s.inReset = false → s.Calm → s.mic.handed = d :: rest →
    ∃ t, exec .validRecord s = .next t ∧ t = { s with link := t.link, mic := t.mic, cast := t.cast } ∧ s.SameLink t ∧
      t.mic.handed = rest ∧ t.mic.tlm = s.mic.tlm ∧ t.mic.sup = s.mic.sup ∧
      (s.mic.sup.ref = some d.channel →
        t.mic.refRf = some d.rf ∧ t.mic.refStaleAt = some (s.now + 48 * s.mic.sup.stale)) ∧
      (s.mic.sup.ref ≠ some d.channel → t.mic.refRf = s.mic.refRf ∧ t.mic.refStaleAt = s.mic.refStaleAt) ∧
      (∀ j, j ≠ d.channel → t.health j = s.health j) ∧
      (∀ h c, s.health d.channel = some h → s.claim d.channel = some c →
        t.health d.channel = some (h.take d t.mic.effectiveFloor s.mic.sup s.now) ∧
          ({ s with mic := t.mic } : State).PerfFollows t c.1 d.channel h.state
            (h.take d t.mic.effectiveFloor s.mic.sup s.now).state ∧
          ({ s with mic := t.mic } : State).HealthRaised t c.1 d.channel h (h.take d t.mic.effectiveFloor s.mic.sup s.now)) ∧
      (t.mic.sup.ref ≠ none → t.mic.refStaleAt ≠ none → ∀ rf, t.mic.refRf = some rf →
        t.mic.effectiveFloor = min 100 (max s.mic.sup.floor (rf + s.mic.sup.margin))) ∧
      (t.mic.sup.ref = none ∨ t.mic.refStaleAt = none ∨ t.mic.refRf = none → t.mic.effectiveFloor = s.mic.sup.floor) ∧
      (s.claim d.channel = none → t.health d.channel = s.health d.channel ∧ t.cast = s.cast ∧ t.link = s.link) ∧
      (∀ q, (∀ place, s.claim d.channel ≠ some (q, place)) → t.perf q = s.perf q)

/-- The expiries of the dropout, restore and stale timers on a claimed input, and of the reference's stale timer, whatever inputs are
claimed; in AUTO an active input that so enters DOWN runs selection, and so does an input that enters GOOD in ALARM, and the main input
that enters GOOD in SPARE with revert AUTO is reverted to; in MANUAL, and in every other case, the performer stands (R65, R69, R70, R71,
R73, R74, R75, R77, R80), with the MIC and PERF reports of it. An expiry that is not due, or of an input that is not tracked, changes
nothing, which is the model's reading of an event that has not come (log 7). -/
def Obligations.HealthTimers : Prop :=
  ∀ s : State, s.inReset = false → s.Calm →
    (∀ n, s.mic.refStaleAt = some n → n ≤ s.now →
      exec .referenceStale s = .next { s with mic := { s.mic with refStaleAt := none } }) ∧
    ((∀ n, s.mic.refStaleAt = some n → s.now < n) → exec .referenceStale s = .next s) ∧
    (∀ i, s.health i = none → exec (.dropoutExpiry i) s = .next s ∧ exec (.restoreExpiry i) s = .next s ∧
      exec (.staleExpiry i) s = .next s) ∧
    ∀ (i : InputId) (h : HealthRec) (p : PerfId) (place : Place), s.health i = some h → s.claim i = some (p, place) →
    (∀ n, h.state = .fading → h.dropoutAt = some n → n ≤ s.now →
      ∃ t, exec (.dropoutExpiry i) s = .next t ∧ (t = { s with link := t.link, mic := t.mic, cast := t.cast } ∧ s.SameLink t ∧
          ∀ q, q ≠ p → t.perf q = s.perf q) ∧ t.mic = { s.mic with health := put s.mic.health i (some
        { h with state := .down, cause := some ((h.last.map TlmRecord.downCause).getD .rf), dropoutAt := none,
                 fadeStart := none }) } ∧ ({ s with mic := t.mic } : State).PerfFollows t p i h.state .down ∧
          ({ s with mic := t.mic } : State).HealthRaised t p i h
            { h with
              state := .down, cause := some ((h.last.map TlmRecord.downCause).getD .rf), dropoutAt := none
              fadeStart := none }) ∧
    (∀ n, h.state = .recovering → h.restoreAt = some n → n ≤ s.now →
      ∃ t, exec (.restoreExpiry i) s = .next t ∧ (t = { s with link := t.link, mic := t.mic, cast := t.cast } ∧ s.SameLink t ∧
          ∀ q, q ≠ p → t.perf q = s.perf q) ∧ t.mic = { s.mic with health := put s.mic.health i (some
        { h with state := .good, cause := none, restoreAt := none }) } ∧
          ({ s with mic := t.mic } : State).PerfFollows t p i h.state .good ∧
          ({ s with mic := t.mic } : State).HealthRaised t p i h { h with state := .good, cause := none, restoreAt := none }) ∧
    (∀ n, h.staleAt = some n → n ≤ s.now →
      ∃ t, exec (.staleExpiry i) s = .next t ∧ (t = { s with link := t.link, mic := t.mic, cast := t.cast } ∧ s.SameLink t ∧
          ∀ q, q ≠ p → t.perf q = s.perf q) ∧ t.mic = { s.mic with health := put s.mic.health i (some
        { h with state := .down, cause := some .stale, staleAt := none, dropoutAt := none, restoreAt := none,
                 fadeStart := none }) } ∧ ({ s with mic := t.mic } : State).PerfFollows t p i h.state .down ∧
          ({ s with mic := t.mic } : State).HealthRaised t p i h
            { h with
              state := .down, cause := some .stale, staleAt := none, dropoutAt := none, restoreAt := none
              fadeStart := none }) ∧
    (h.state ≠ .fading ∨ (∀ n, h.dropoutAt = some n → s.now < n) → exec (.dropoutExpiry i) s = .next s) ∧
    (h.state ≠ .recovering ∨ (∀ n, h.restoreAt = some n → s.now < n) → exec (.restoreExpiry i) s = .next s) ∧
    ((∀ n, h.staleAt = some n → s.now < n) → exec (.staleExpiry i) s = .next s)

/-! ## The cue list -/

/-- CUE makes a cue with no actions or replaces the header of one, and CUEDEL removes one, a standby position on it moving to the
cue after it; every other cue stands, and an edit of another cue than the standby one changes nothing else (R86, R94, R96). -/
def Obligations.CueHeaders : Prop :=
  ∀ (s : State) (tag : Tag), s.Ready → s.CuesOk →
    (∀ a : CueArgs, cueInRange a.cue = true → (∀ l, a.label = some l → l.all nameChar = true ∧ l.length ≤ 16) →
      (s.cueAt a.cue = none → s.cues.length < 512) →
      ∃ t, exec (.cue tag (.given a)) s = .next t ∧ s.Replied t tag ("OK " ++ t.cueLine a.cue) ∧ s.CueEdit t a.cue ∧
        t.cueAt a.cue = some
          { number := a.cue, label := a.label.getD [], link := linkOf a.link,
            actions := ((s.cueAt a.cue).map (·.actions)).getD [] } ∧
        t.engine.standby = s.engine.standby ∧ t.poolFree = s.poolFree) ∧
    (∀ a : CueArgs, cueInRange a.cue = true → (∀ l, a.label = some l → l.all nameChar = true ∧ l.length ≤ 16) →
      s.cueAt a.cue = none → s.cues.length = 512 → exec (.cue tag (.given a)) s = .next (s.refused tag .full)) ∧
    (∀ (n : Nat) (c : Cue), cueInRange n = true → s.cueAt n = some c →
      ∃ t, exec (.cueDel tag (.given n)) s = .next t ∧
        s.Replied t tag ("OK " ++ ("cue=" ++ cueText n ++ " deleted free=" ++ natText t.poolFree ++ " standby=" ++
          standbyText t.engine.standby)) ∧
        s.CueEdit t n ∧ t.cueAt n = none ∧ t.poolFree = s.poolFree + c.actions.length ∧
        (t.engine.standby = if s.engine.standby = some n then s.cueAfter n else s.engine.standby) ∧
        (s.engine.standby = some n → s.Raised t .cue "!CUE event=standby"))

/-- ACT appends an action to a cue that exists, with one pool entry, and ACTDEL removes one, the later ones moving up; a target
already in the cue, and a full cue or pool, are refused (R92, R93, R96). -/
def Obligations.CueActions : Prop :=
  ∀ (s : State) (tag : Tag), s.Ready → s.CuesOk →
    (∀ (a : ActArgs) (act : Action) (c : Cue), cueInRange a.cue = true → actionOf a.action = some act →
      s.cueAt a.cue = some c → (∀ v n ms, act = .play v n ms → s.fetch.sounds.get n ≠ none) →
      ((∃ b ∈ c.actions, actionTarget b = actionTarget act) →
        exec (.act tag (.given a)) s = .next (s.refused tag .duplicate)) ∧
      ((∀ b ∈ c.actions, actionTarget b ≠ actionTarget act) →
        ((∃ i bus code ms, act = .level (.inp i) bus code ms ∧ s.claim i ≠ none) →
          exec (.act tag (.given a)) s = .next (s.refused tag .claimed)) ∧
        ((∀ i bus code ms, act = .level (.inp i) bus code ms → s.claim i = none) →
          (c.actions.length = 32 ∨ s.poolFree = 0 → exec (.act tag (.given a)) s = .next (s.refused tag .full)) ∧
          (c.actions.length < 32 → 0 < s.poolFree →
            ∃ t, exec (.act tag (.given a)) s = .next t ∧
              s.Replied t tag ("OK " ++ ("cue=" ++ cueText a.cue ++ " act=" ++ natText (c.actions.length + 1) ++
                " free=" ++ natText t.poolFree)) ∧
              s.CueEdit t a.cue ∧ t.cueAt a.cue = some { c with actions := c.actions ++ [act] } ∧
              t.engine.standby = s.engine.standby ∧ t.poolFree + 1 = s.poolFree)))) ∧
    (∀ (a : ActIndexArgs) (act : Action) (c : Cue), cueInRange a.cue = true → 1 ≤ a.index →
      s.cueAt a.cue = some c → c.actions[a.index - 1]? = some act →
      ∃ t, exec (.actDel tag (.given a)) s = .next t ∧
        s.Replied t tag ("OK " ++ ("cue=" ++ cueText a.cue ++ " actions=" ++ natText (c.actions.length - 1) ++
          " free=" ++ natText t.poolFree)) ∧
        s.CueEdit t a.cue ∧ t.cueAt a.cue = some { c with actions := c.actions.eraseIdx (a.index - 1) } ∧
        t.engine.standby = s.engine.standby ∧ t.poolFree = s.poolFree + 1)

/-! ## The cue engine -/

/-- GO fires a cue: it becomes the last fired, the next cue after it the standby, the fired count rises, a new instance is in the
lowest free slot, the oldest of eight retired, with as many items outstanding as the reply says, its links set their chains, and its
actions are applied; GO is refused with HALTED, then NOSUCH for a cue not in the list, and END at END. A chain whose time has run
out fires its target where that is standby, and is void otherwise (R100, R102 to R113). A chain with a time of 0 expires before any
later line or event (R111): that it is before each of them is the model's reading (log 22), and so are that an expiry of a chain still
running or HALTED changes nothing (log 7) and that a chain is removed before its expiry fires (log 44). -/
def Obligations.GoFires : Prop :=
  ∀ s : State,
    (∀ (tag : Tag) (n : Option Nat) (c : Cue), s.Ready → (∀ m, n = some m → cueInRange m = true) →
      s.engine.halted = false → (n = none ∧ s.standbyCue = some c ∨ ∃ m, n = some m ∧ s.cueAt m = some c) →
      ∃ t slot count, exec (.go tag (.given n)) s = .next t ∧
        s.Replied t tag ("OK " ++ ("go=" ++ cueText c.number ++ " slot=" ++ slotText slot ++ " standby=" ++
          standbyText (s.cueAfter c.number) ++ " outstanding=" ++ natText count)) ∧
        s.Fired t c ∧
        (s.OwnersOk → s.fades.PoolOk →
          count = t.owned slot ∧ s.TableFired t c slot ∧ s.ActionsFired t c slot)) ∧
    (∀ (tag : Tag) (n : Option Nat), s.Takes → (∀ m, n = some m → cueInRange m = true) →
      (s.engine.halted = true → exec (.go tag (.given n)) s = .next (s.refused tag .halted)) ∧
      (∀ m, s.engine.halted = false → n = some m → s.cueAt m = none →
        exec (.go tag (.given n)) s = .next (s.refused tag .noSuch)) ∧
      (s.engine.halted = false → n = none → s.engine.standby = none →
        exec (.go tag (.given n)) s = .next (s.refused tag .atEnd))) ∧
    (∀ ch : Chain, s.inReset = false → s.Settled → s.engine.chain = some ch →
      (s.engine.halted = true ∨ ch.elapsed < 48 * ch.ms → exec .chainExpiry s = .next s) ∧
      (s.engine.halted = false → 48 * ch.ms ≤ ch.elapsed →
        (∀ c, s.engine.standby = some ch.target → s.cueAt ch.target = some c →
          ∃ t, exec .chainExpiry s = .next t ∧ s.SameLink t ∧ s.Fired t c ∧
            (s.OwnersOk → s.fades.PoolOk → ∃ u slot, u = { s with engine := { s.engine with chain := none } } ∧
              u.TableFired t c slot ∧ u.ActionsFired t c slot)) ∧
        (s.engine.standby ≠ some ch.target →
          ∃ t, exec .chainExpiry s = .next t ∧ s.SameLink t ∧
            t = { s with link := t.link, engine := { s.engine with chain := none } } ∧
            s.Raised t .cue ("!CUE event=chainvoid cue=" ++ cueText ch.target)))) ∧
    (∀ (ch : Chain) (t : State), s.inReset = false → s.engine.primeDue = false → s.engine.halted = false →
      s.engine.chain = some ch → ch.ms = 0 → exec .chainExpiry s = .next t → t.promptChain = false →
      ∀ c : Instr, c ≠ .chainExpiry → c.isPinEvent = false →
        (c.isLine = true → s.link.rxq = [] ∧ s.link.replies.length < 8) → exec c s = exec c t)

/-- A LEVEL action at a firing, by the first case that holds: a locked foldback bus and a claimed input's row leave the level as
it stands, a time of 0 or a level already there snaps, and anything else is a fade the instance owns (R104, R149). -/
def Obligations.FiringLevelAction : Prop :=
  ∀ (s : State) (n : FireCounts) (slot : InstSlot) (row : Row) (bus : Bus) (code : LevelCode) (ms : Nat),
    (∀ k, bus = .fb k → (s.bus k).lock = true →
      (s.fireLevel n slot row bus code ms).1 =
        { s with foldback := { s.foldback with
            buses := put s.foldback.buses k { s.bus k with skips := min ((s.bus k).skips + 1) 65535 } } } ∧
      (s.fireLevel n slot row bus code ms).2 = { n with locked := n.locked + 1 }) ∧
    ((∀ k, bus = .fb k → (s.bus k).lock = false) →
      (∀ i, row = .inp i → s.claim i ≠ none →
        s.fireLevel n slot row bus code ms = (s, { n with claimed := n.claimed + 1 })) ∧
      ((∀ i, row = .inp i → s.claim i = none) →
        (s.fireLevel n slot row bus code ms).2 = n ∧
        (∀ row' bus', ¬(row' = row ∧ bus' = bus) →
          (s.fireLevel n slot row bus code ms).1.xpt row' bus' = s.xpt row' bus') ∧
        (ms = 0 ∨ s.xpt row bus = code →
          (s.fireLevel n slot row bus code ms).1.xpt row bus = code ∧
            (s.fireLevel n slot row bus code ms).1.fadeOf (.xpt row bus) = none) ∧
        (ms ≠ 0 → s.xpt row bus ≠ code → (s.fadeOf (.xpt row bus)).isSome ∨ s.fades.pool.length < 256 →
          (s.fireLevel n slot row bus code ms).1.xpt row bus = s.xpt row bus ∧
            (s.fireLevel n slot row bus code ms).1.fadeOf (.xpt row bus) =
              some (newFade (.xpt row bus) (s.xpt row bus) code ms (some slot) false)) ∧
        (ms ≠ 0 → s.xpt row bus ≠ code → s.fadeOf (.xpt row bus) = none → 256 ≤ s.fades.pool.length →
          (s.fireLevel n slot row bus code ms).1.xpt row bus = code ∧
            (s.fireLevel n slot row bus code ms).1.fades.pool = s.fades.pool ∧
            s.Raised (s.fireLevel n slot row bus code ms).1 .fade (" last=" ++ targetText (.xpt row bus) ++ " level=" ++
              levelText code))))

/-- An evaluation of priming: afterwards every PRIMING or PRIMED voice is wanted with its sound by a PLAY action of the standby cue,
no voice such an action names stays IDLE where its sound has a record, a voice already priming what is wanted stands, and so
does every voice in another state that is not IDLE; a voice released or asked to prime raises VOICE (R117, R144). -/
def Obligations.PrimingEvaluation : Prop :=
  ∀ s : State,
    (∀ v : VoiceId, (s.evaluatePriming.voice v).state = .priming ∨ (s.evaluatePriming.voice v).state = .primed →
      ∃ n d, (s.evaluatePriming.voice v).sound = some (n, d) ∧ (v, n) ∈ s.standbyPlays) ∧
    (∀ v n, (v, n) ∈ s.standbyPlays → s.fetch.sounds.get n ≠ none → (s.evaluatePriming.voice v).state ≠ .idle) ∧
    (∀ (v : VoiceId) n d, (s.voice v).state = .priming ∨ (s.voice v).state = .primed →
      (s.voice v).sound = some (n, d) → (v, n) ∈ s.standbyPlays → s.evaluatePriming.voice v = s.voice v) ∧
    (∀ v : VoiceId, (s.voice v).state ≠ .idle → (s.voice v).state ≠ .priming → (s.voice v).state ≠ .primed →
      s.evaluatePriming.voice v = s.voice v) ∧
    (∀ v : VoiceId, (s.evaluatePriming.voice v).state ≠ (s.voice v).state ∨
        (s.evaluatePriming.voice v).soundId ≠ (s.voice v).soundId →
      s.Raised s.evaluatePriming (.voice v) (" event=" ++
        if (s.evaluatePriming.voice v).state = .idle then "released" else "priming")) ∧
    s.evaluatePriming.engine.standby = s.engine.standby ∧ s.evaluatePriming.engine.evalDue = false

/-- A CUE report raised is the one entry under its key, with the line of R119 for its event. The place of the extra fields and the field
of the cue's label (R85) are the model's choice (logs 15 and 37). BACK and JUMP move the standby position; a move that does not change
it changes nothing, and one that does leaves the last fired cue, the run state, the fired count and every block but the readers and what
they feed as they stand. HALT and RESUME set the run state, a change being reported, and change nothing else (R101, R114, R119). -/
def Obligations.EngineCommands : Prop :=
  (∀ (s : State) (e : CueEvent), ReportKind.cue ∉ s.link.disabled →
    (∃ r ∈ (s.raiseCue e).link.reports, r.key = .cue) ∧
    ∀ r ∈ (s.raiseCue e).link.reports, r.key = .cue → r.text =
      "!CUE event=" ++ e.name ++ " cue=" ++ optText cueText e.cue ++ " slot=" ++ optText slotText e.slot ++ " run=" ++
        (if s.engine.halted then "halted" else "running") ++ " standby=" ++ standbyText s.engine.standby ++ " last=" ++
        optText cueText s.engine.lastFired ++ " instances=" ++ natText s.engine.insts.length ++ " chain=" ++
        chainText s.engine.chain ++ " ready=" ++ (if s.standbyReady then "yes" else "no") ++ " fired=" ++
        natText s.engine.fired ++ e.extra ++
        match e.cue.bind s.cueAt with
        | none => ""
        | some c => if c.label = [] then "" else " label=" ++ nameText c.label) ∧
  (∀ (s : State) (tag : Tag) (c : Instr) (pos : Option Nat), s.Ready →
    (c = .back tag (.given ()) ∧
        (s.engine.standby = none ∧ pos = s.lastCue ∨
          ∃ n, s.engine.standby = some n ∧ (s.cueBefore n = none ∧ pos = some n ∨
            ∃ m, s.cueBefore n = some m ∧ pos = some m)) ∨
      ∃ n, c = .jump tag (.given n) ∧ cueInRange n = true ∧ s.cueAt n ≠ none ∧ pos = some n) →
    ∃ t, exec c s = .next t ∧
      s.Replied t tag ("OK " ++ ("standby=" ++ standbyText pos ++ " ready=" ++ yesNo t.standbyReady)) ∧
      t = { s with link := t.link, fades := t.fades, engine := t.engine, fetch := t.fetch } ∧
      t.engine.standby = pos ∧ t.engine.lastFired = s.engine.lastFired ∧ t.engine.halted = s.engine.halted ∧
      t.engine.fired = s.engine.fired ∧
      (s.engine.standby = pos → t.engine = s.engine ∧ t.fades = s.fades ∧ t.fetch = s.fetch ∧
        t.link.reports = s.link.reports) ∧
      (s.engine.standby ≠ pos → s.Raised t .cue ("!CUE event=standby cue=" ++ optText cueText pos))) ∧
  ∀ (s : State) (tag : Tag) (halted : Bool), s.Ready →
    ∃ t, exec (if halted then .halt tag (.given ()) else .resume tag (.given ())) s = .next t ∧
      s.Replied t tag (if halted then "OK run=halted" else "OK run=running") ∧
      t = { s with link := t.link, engine := { s.engine with halted := halted } } ∧
      (s.engine.halted = halted → t.link.reports = s.link.reports) ∧
      (s.engine.halted ≠ halted → s.Raised t .cue ("!CUE event=" ++ if halted then "halted" else "resumed"))

/-- STOP ALL ends playback and clears the engine: no instance and no chain is left, the engine runs, no fade has an owner, voices
in STARTING are sent to IDLE, and sounding voices fade over the time or stop at once; crosspoint levels, unowned fades, calls,
players, foldback and the cast table stand (R37, R115). That a sounding voice at OFF stops at once whatever the time, one with a fade
record too, is the model's choice (log 46). -/
def Obligations.StopAllEnds : Prop :=
  ∀ (s : State) (tag : Tag) (a : Option Int) (ms : Nat), s.Ready →
    (a = none ∧ ms = s.engine.stopAllMs ∨ ∃ x, a = some x ∧ (ms : Int) = max 0 (min 600000 x)) →
    ∃ t voices, exec (.stopAll tag (.given a)) s = .next t ∧
      s.Replied t tag ("OK " ++ ("stopall t=" ++ natText ms ++ " voices=" ++ natText voices ++ " retired=" ++
        natText s.engine.insts.length)) ∧
      t = { s with link := t.link, fades := t.fades, engine := t.engine, fetch := t.fetch } ∧
      t.engine.insts = [] ∧ t.engine.chain = none ∧ t.engine.halted = false ∧
      t.engine.standby = s.engine.standby ∧ t.engine.lastFired = s.engine.lastFired ∧
      t.engine.fired = s.engine.fired ∧ t.engine.stopAllMs = s.engine.stopAllMs ∧
      (∀ f ∈ t.fades.pool, f.owner = none) ∧
      (∀ f row bus, f.target = .xpt row bus → (f ∈ t.fades.pool ↔ f ∈ s.fades.pool ∧ f.owner = none)) ∧
      (∀ p : PlayerId, t.reader (playerReader p) = s.reader (playerReader p)) ∧
      (∀ v : VoiceId, (s.voice v).state = .faulted → t.voice v = s.voice v) ∧
      s.Raised t .cue "!CUE event=stopall" ∧
      (∀ v : VoiceId, (s.voice v).state = .starting → s.Stopped t v ∧ s.StopRaised t v "stopped") ∧
      (∀ v : VoiceId, (s.voice v).state = .playing ∨ (s.voice v).state = .stalled →
        (ms = 0 ∨ (s.voice v).level = -180 → s.Stopped t v ∧ s.StopRaised t v "stopped") ∧
        (ms ≠ 0 → (s.voice v).level ≠ -180 → (s.fadeOf (.voice v)).isSome ∨ s.fades.pool.length + 24 ≤ 256 →
          t.voice v = s.voice v ∧ newFade (.voice v) (s.voice v).level (-180) ms none true ∈ t.fades.pool))

/-- A frame of the fade engine: a record that is not frozen counts a frame, and at each whole millisecond short of its duration its
target takes the interpolated level, rounded toward the start; a frozen record and its target stand still, as does the
target of a record whose duration is reached, which FADE_COMPLETE ends; and a duck ramp ends by itself. FRAME takes this step on
every crosspoint and on every voice that still plays after it (R29, R30, R39), after the events due and before the sample steps,
which are the model's choices (log 5, log 39). -/
def Obligations.FadeFrame : Prop :=
  (∀ (s : State) (f : Fade), s.fades.PoolOk → f ∈ s.fades.pool →
    (f.owner ≠ none ∧ s.engine.halted = true →
      f ∈ s.fadeFrame.fades.pool ∧ s.fadeFrame.levelOf f.target = s.levelOf f.target) ∧
    (f.owner = none ∨ s.engine.halted = false → f.elapsed < 48 * f.ms →
      { f with elapsed := f.elapsed + 1 } ∈ s.fadeFrame.fades.pool ∧
      ((f.elapsed + 1) % 48 = 0 → f.elapsed + 1 < 48 * f.ms →
        s.fadeFrame.levelOf f.target =
          f.start + ((f.goal - f.start) * (((f.elapsed + 1) / 48 : Nat) : Int)).tdiv f.ms) ∧
      ((f.elapsed + 1) % 48 ≠ 0 ∨ f.elapsed + 1 = 48 * f.ms → s.fadeFrame.levelOf f.target = s.levelOf f.target))) ∧
    (∀ (s : State) (target : Target), s.fadeOf target = none → s.fadeFrame.levelOf target = s.levelOf target) ∧
    (∀ r : Ramp,
      (48 * r.ms ≤ r.elapsed + 1 → r.advance = (r.goal, none)) ∧
      (r.elapsed + 1 < 48 * r.ms → r.advance =
        (r.start + ((r.goal - r.start) * (((r.elapsed + 1) / 48 : Nat) : Int)).tdiv r.ms,
          some { r with elapsed := r.elapsed + 1 }))) ∧
    ∀ (s t u : State) (slots : Vector Word32 64) (pins : Vector Bool 16), s.inReset = false → s.HasFrame → u = s.takeDue →
      exec (.frame slots pins) s = .next t →
      (∀ row bus, t.xpt row bus = u.fadeFrame.xpt row bus ∧
        t.fadeOf (.xpt row bus) = u.fadeFrame.fadeOf (.xpt row bus)) ∧
      (∀ v : VoiceId, (t.voice v).state = .playing ∨ (t.voice v).state = .stalled →
        (t.voice v).level = u.fadeFrame.levelOf (.voice v) ∧
          t.fadeOf (.voice v) = u.fadeFrame.fadeOf (.voice v)) ∧
      (∀ z, (∀ c ∈ u.router.calls, z ∉ c.zones) →
        ((t.zone z).duck, (t.zone z).ramp) = rampFrame (u.zone z).duck (u.zone z).ramp) ∧
      (∀ k, ((t.bus k).duck, (t.bus k).ramp) = rampFrame (u.bus k).duck (u.bus k).ramp)

/-! ## Playback and the sample store -/

/-- PLAY by the voice's state: one PRIMED with the sound is PLAYING at once; one PRIMING it keeps its ring and is PLAYING at once where
its head slot is FULL and so is the next, or the head's block is the last, and STARTING otherwise; and any other begins again with an
empty ring; level, fade-in, play moment, owner and the copy of the sound's record are set in each, and every other reader stands. The
voice's own record leaves the pool; a voice that is PLAYING then fades in, or with no free record snaps to 0.0 dB, and the VOICE
report tells the state entered (R27, R35, R36, R40, R130, R132, R136, R144). -/
def Obligations.PlayTakesVoice : Prop :=
  ∀ (s : State) (tag : Tag) (a : PlayArgs) (v : VoiceId) (n : SoundId) (d : Sound), s.Ready →
    ofNum 24 a.voice = some v → ofNum 1024 a.sound = some n → s.fetch.sounds.get n = some d →
    ∃ t, exec (.play tag (.given a)) s = .next t ∧
      s.Replied t tag ("OK " ++ (voiceText v ++ " state=" ++ readerStateText (t.voice v).state ++ " " ++ soundText n)) ∧
      t = { s with link := t.link, fades := t.fades, engine := t.engine, fetch := t.fetch } ∧
      (∀ r, r ≠ voiceReader v → t.reader r = s.reader r) ∧
      (t.voice v).sound = some (n, d) ∧
      (t.voice v).owner = none ∧ (t.voice v).playMoment = s.now ∧
      ((t.voice v).state = .starting →
        (t.voice v).keptFadeIn = some (heldTime a.fadeIn) ∧ ((t.voice v).level = if heldTime a.fadeIn = 0 then 0 else -180) ∧
          t.fades = { s.fades with pool := s.fades.pool.filter fun f => f.target ≠ .voice v } ∧
          s.Raised t (.voice v) " event=starting") ∧
      ((t.voice v).state = .playing → (t.voice v).keptFadeIn = none ∧ (t.voice v).late = some 0 ∧
        (heldTime a.fadeIn = 0 → (t.voice v).level = 0) ∧
        s.FadesIn t v (s.fades.pool.filter fun f => f.target ≠ .voice v) (heldTime a.fadeIn) ∧
        s.Raised t (.voice v) " event=playing late=0") ∧
      ((s.voice v).state = .primed → (s.voice v).soundId = some n →
        (t.voice v).state = .playing ∧ (t.voice v).ring = (s.voice v).ring ∧ (t.voice v).pos = (s.voice v).pos ∧
          t.fetch.tags = s.fetch.tags) ∧
      ((s.voice v).state = .priming → (s.voice v).soundId = some n →
        (({ s.voice v with sound := some (n, d) } : Reader).Startable → (t.voice v).state = .playing) ∧
          (¬({ s.voice v with sound := some (n, d) } : Reader).Startable → (t.voice v).state = .starting) ∧
          (t.voice v).ring = (s.voice v).ring ∧ (t.voice v).cursor = (s.voice v).cursor ∧ (t.voice v).retry = (s.voice v).retry ∧
          t.fetch.tags = s.fetch.tags) ∧
      (((s.voice v).state ≠ .priming ∧ (s.voice v).state ≠ .primed) ∨ (s.voice v).soundId ≠ some n →
        (t.voice v).state = .starting ∧ (t.voice v).ring = .replicate 8 .empty ∧ (t.voice v).pos = 0 ∧
          (t.voice v).cursor = 0 ∧ (t.voice v).retry = none ∧
          ∀ k, t.fetch.tags.get k = match s.fetch.tags.get k with
            | .busy r slot addr expires =>
              if r = voiceReader v then .orphaned addr expires else .busy r slot addr expires
            | x => x)

/-- STOP by the voice's state: IDLE changes nothing; PRIMING, PRIMED, STARTING and FAULTED go to IDLE, and PLAYING and STALLED do so
with a time of 0 or at OFF; with a time they fade out, unowned, or with a full pool snap to OFF and stop, with FADE and VOICE (R28, R35,
R40, R135, R144). -/
def Obligations.StopVoice : Prop :=
  ∀ (s : State) (tag : Tag) (a : StopArgs) (v : VoiceId), s.Ready → ofNum 24 a.voice = some v →
    ∃ t, exec (.stop tag (.given a)) s = .next t ∧
      s.Replied t tag ("OK " ++ (voiceText v ++ " state=" ++ readerStateText (t.voice v).state)) ∧
      t = { s with link := t.link, fades := t.fades, engine := t.engine, fetch := t.fetch } ∧
      ((∀ e ∈ s.standbyPlays, e.1 ≠ v) → ∀ r, r ≠ voiceReader v → t.reader r = s.reader r) ∧
      ((s.voice v).state = .idle →
        t.fetch = s.fetch ∧ t.fades = s.fades ∧ t.engine = s.engine ∧ t.link.reports = s.link.reports) ∧
      ((s.voice v).state = .priming ∨ (s.voice v).state = .primed ∨ (s.voice v).state = .starting ∨
        (s.voice v).state = .faulted → s.Stopped t v ∧ t.fadeOf (.voice v) = none) ∧
      ((s.voice v).state = .priming ∨ (s.voice v).state = .primed → s.StopRaised t v "released") ∧
      ((s.voice v).state = .starting ∨ (s.voice v).state = .faulted → s.StopRaised t v "stopped") ∧
      ((s.voice v).state = .playing ∨ (s.voice v).state = .stalled →
        (heldTime a.t = 0 ∨ (s.voice v).level = -180 →
          s.Stopped t v ∧ t.fadeOf (.voice v) = none ∧ s.StopRaised t v "stopped") ∧
        (heldTime a.t ≠ 0 → (s.voice v).level ≠ -180 →
          ((s.fadeOf (.voice v)).isSome ∨ s.fades.pool.length < 256 →
            t.voice v = s.voice v ∧
              t.fadeOf (.voice v) = some (newFade (.voice v) (s.voice v).level (-180) (heldTime a.t) none true)) ∧
          (s.fadeOf (.voice v) = none → 256 ≤ s.fades.pool.length →
            (t.voice v).level = -180 ∧ ((t.voice v).state = .idle ∨ (t.voice v).state = .priming) ∧
              t.fades.snaps = min (s.fades.snaps + 1) 65535 ∧ s.StopRaised t v "stopped" ∧
              s.Raised t .fade ("!FADE used=" ++ natText s.fades.pool.length ++ " snaps=" ++ natText t.fades.snaps ++ " last=" ++
                voiceText v ++ " level=off"))))

/-- FETCH_GRANT: with no tag FREE or no reader in need nothing happens; otherwise the lowest FREE tag goes to the first reader of the
first class, for the slot it asks for, with a timer of 2400 frames. URGENT are the readers with a retry mark, those in STARTING or
STALLED, and those in PLAYING with fewer slots FULL than the watermark; PRIME the others in PRIMING, by their stamps; NORMAL the others
in PLAYING; but for PRIME the fewest slots FULL or PENDING come first, and then the lower reader number (R125, R138). That the first
grant ends the driving of the store-bus reset (log 20), and that the row changes nothing where there is nothing to grant (log 7), is the
model's reading. -/
def Obligations.FetchGrant : Prop :=
  ∀ s : State, s.inReset = false → s.Calm →
    ((∀ k, s.fetch.tags.get k ≠ .free) ∨ (∀ r, ¬(s.reader r).Needs) → exec .fetchGrant s = .next s) ∧
    (∀ (k : TagId) (r : ReaderId) (i : RingSlot) (j : Nat) (isRetry : Bool) (n : SoundId) (d : Sound),
      s.fetch.tags.get k = .free → (∀ k', k' < k → s.fetch.tags.get k' ≠ .free) →
      (s.reader r).Needs → (s.reader r).Asks i j isRetry → (s.reader r).sound = some (n, d) →
      (∀ q, q ≠ r → (s.reader q).Needs →
        ∀ a x b y, (s.reader r).Ranked s.fetch.refill a x → (s.reader q).Ranked s.fetch.refill b y →
        a < b ∨ a = b ∧ (x < y ∨ x = y ∧ r < q)) →
      exec .fetchGrant s = .next { s with fetch := { s.fetch with
        readers := put s.fetch.readers r { s.reader r with
          ring := put (s.reader r).ring i (.pending k j)
          tail := if isRetry then (s.reader r).tail else (s.reader r).tail + 1
          cursor := if isRetry then (s.reader r).cursor else d.next (s.reader r).cursor }
        tags := put s.fetch.tags k (.busy r i (d.first + j) (s.now + 2400))
        busReset := false } })

/-- COMPLETION_OK: on a tag BUSY for a slot the slot is FULL with the samples, the tag FREE and a retry mark on the slot gone; a PRIMING
reader is then PRIMED where all 8 slots are FULL, or no data is left and no slot is PENDING or retry-marked, and a STARTING one PLAYING
where its head slot is FULL and so is the next, or the head's block is the last. A voice that so begins late fades in over its kept
time, or with no free record snaps to 0.0 dB, and its start owner is told. On a FREE tag the completion is a stray, counted, and on an
orphaned or LOST tag it is discarded and frees the tag. The VOICE, PLAYER and STORE reports tell of each (R27, R35, R108, R124, R125,
R130, R133, R139, R144, R145). -/
def Obligations.CompletionOk : Prop :=
  ∀ (s : State) (k : TagId) (words : Vector Word32 256), s.inReset = false → s.Calm →
    ∃ t, exec (.completionOk k words) s = .next t ∧ s.SameLink t ∧
      t = { s with link := t.link, fades := t.fades, engine := t.engine, fetch := t.fetch } ∧
      t.fetch.tags = put s.fetch.tags k .free ∧
      (∀ r slot addr expires k' j (full : Reader), s.fetch.tags.get k = .busy r slot addr expires →
        (s.reader r).slot slot = .pending k' j →
        full = { s.reader r with
          ring := put (s.reader r).ring slot (.full j (words.map fun w => w.toInt / 256))
          retry := if (s.reader r).retry.map (·.1) = some slot then none else (s.reader r).retry } →
        (∀ q, q ≠ r → t.reader q = s.reader q) ∧
        ((s.reader r).state ≠ .priming → (s.reader r).state ≠ .starting → t.reader r = full) ∧
        ((s.reader r).state = .priming →
          (full.Primes → t.reader r = { full with state := .primed } ∧ s.Raised t (readerKey r) " event=primed") ∧
          (¬full.Primes → t.reader r = full)) ∧
        ((s.reader r).state = .starting →
          (¬full.Startable → t.reader r = full) ∧
          (full.Startable → (t.reader r).state = .playing ∧ (t.reader r).ring = full.ring ∧
            (t.reader r).late = some ((s.now - (s.reader r).playMoment) / 48) ∧ (t.reader r).owner = none ∧
            (t.reader r).keptFadeIn = none ∧
            s.Raised t (readerKey r) (" event=playing late=" ++ natText ((s.now - (s.reader r).playMoment) / 48)) ∧
            (∀ v, r = voiceReader v →
              (s.engine.firing = none → s.fadeOf (.voice v) = none → t.engine = s.engine.told (s.reader r).owner) ∧
              ((s.reader r).keptFadeIn = none → t.fades = s.fades ∧ (t.voice v).level = (s.voice v).level) ∧
              (∀ ms, (s.reader r).keptFadeIn = some ms → s.fadeOf (.voice v) = none →
                (s.voice v).level = (if ms = 0 then 0 else -180) →
                (ms = 0 → (t.voice v).level = 0) ∧ s.FadesIn t v s.fades.pool ms)) ∧
            (∀ p, r = playerReader p → t.fades = s.fades ∧ t.engine = s.engine)))) ∧
      ((∀ r slot addr expires, s.fetch.tags.get k ≠ .busy r slot addr expires) →
        t.fetch.readers = s.fetch.readers ∧ t.fades = s.fades ∧ t.engine = s.engine ∧
        (t.fetch.stray = if s.fetch.tags.get k = .free then min (s.fetch.stray + 1) 65535 else s.fetch.stray) ∧
        (s.fetch.tags.get k = .free → s.Raised t .store ("!STORE event=stray tag=" ++ natText k.val)) ∧
        (s.fetch.tags.get k = .lost → s.Raised t .store ("!STORE event=late tag=" ++ natText k.val)))

/-- COMPLETION_ERROR and TAG_TIMEOUT fail the slot a tag is BUSY for: a first failure leaves it EMPTY and retry-marked, and a failure
while a mark stands faults the reader, its ring cleared; a faulted call player loses its call. The tag is FREE after an ERROR
and LOST after a timeout, which is taken only when the tag's timer has run out. VOICE or PLAYER tells of the retry or the fault, CALL of
the call lost, and STORE of the error or the timeout (R124, R125, R140 to R145, R181). That an ERROR on a tag that is not BUSY counts
as an error too, and on a FREE tag also as a stray, and that STORE shows the counts after the event, is the model's reading (log 20).
That a TAG_TIMEOUT of a tag that is not due, FREE or LOST changes nothing is the model's reading (log 7). -/
def Obligations.SlotFailures : Prop :=
  ∀ (s : State) (k : TagId) (r : ReaderId) (slot : RingSlot) (addr expires : Nat), s.inReset = false → s.Calm →
    (s.fetch.tags.get k = .busy r slot addr expires → (s.reader r).state ≠ .faulted →
      ∀ k' j, (s.reader r).slot slot = .pending k' j → ∀ (c : Instr) (after : StoreTag),
        (c = .completionError k ∧ after = .free ∨ c = .tagTimeout k ∧ after = .lost ∧ expires ≤ s.now) →
        ∃ t, exec c s = .next t ∧ s.SameLink t ∧
          t = { s with link := t.link, fades := t.fades, engine := t.engine, fetch := t.fetch, router := t.router } ∧
          t.fetch.errors = (if after = .free then min (s.fetch.errors + 1) 65535 else s.fetch.errors) ∧
          t.fetch.timeouts = (if after = .free then s.fetch.timeouts else min (s.fetch.timeouts + 1) 65535) ∧
          s.Raised t .store ("!STORE event=" ++ (if after = .free then "error" else "timeout") ++ " tag=" ++ natText k.val ++ " " ++
            t.fetch.storeText) ∧
          ((s.reader r).retry = none → s.Raised t (readerKey r) " event=retry") ∧
          ((s.reader r).retry = none →
            t.fetch.tags = put s.fetch.tags k after ∧ t.router = s.router ∧ t.fades = s.fades ∧ t.engine = s.engine ∧
            t.fetch.readers = put s.fetch.readers r { s.reader r with
              ring := put (s.reader r).ring slot .empty, retry := some (slot, j),
              retries := min ((s.reader r).retries + 1) 65535 }) ∧
          ((s.reader r).retry ≠ none → t.fetch.tags.get k = after ∧
            (∀ v, r = voiceReader v → (t.reader r).state = .faulted ∧ (t.reader r).ring = .replicate 8 .empty ∧
              (t.reader r).retry = none ∧ (t.reader r).owner = none ∧ (t.reader r).keptFadeIn = none ∧
              t.fadeOf (.voice v) = none ∧ (t.reader r).pos = (s.reader r).pos ∧
              (t.reader r).sound = (s.reader r).sound ∧ (∀ q, q ≠ r → t.reader q = s.reader q) ∧
              t.router = s.router ∧ s.Raised t (.voice v) " event=fault") ∧
            (∀ p c, r = playerReader p → s.playerCall p = some c → t.callAt c.id = none ∧
              s.Raised t (.call c.id) " cause=fault by=none event=ended" ∧ s.Raised t (.player p) ("!PLAYER " ++ playerText p)) ∧
            (∀ p, r = playerReader p → s.playerCall p = none → s.Raised t (.player p) " event=fault"))) ∧
    (s.fetch.tags.get k = .busy r slot addr expires → s.now < expires → exec (.tagTimeout k) s = .next s) ∧
    (s.fetch.tags.get k = .free ∨ s.fetch.tags.get k = .lost → exec (.tagTimeout k) s = .next s) ∧
    (s.fetch.tags.get k = .orphaned addr expires →
      (s.now < expires → exec (.tagTimeout k) s = .next s) ∧
      (expires ≤ s.now → ∃ t, exec (.tagTimeout k) s = .next t ∧ s.SameLink t ∧ t = { s with
        link := t.link
        fetch := { s.fetch with tags := put s.fetch.tags k .lost, timeouts := min (s.fetch.timeouts + 1) 65535 } } ∧
        s.Raised t .store ("!STORE event=timeout tag=" ++ natText k.val ++ " " ++ t.fetch.storeText))) ∧
    ((∀ r slot addr expires, s.fetch.tags.get k ≠ .busy r slot addr expires) →
      ∃ t, exec (.completionError k) s = .next t ∧ s.SameLink t ∧ t = { s with
        link := t.link
        fetch := { s.fetch with
          tags := put s.fetch.tags k .free
          errors := min (s.fetch.errors + 1) 65535
          stray := if s.fetch.tags.get k = .free then min (s.fetch.stray + 1) 65535 else s.fetch.stray } } ∧
        s.Raised t .store ("!STORE event=" ++ (if s.fetch.tags.get k = .free then "stray" else
          if s.fetch.tags.get k = .lost then "late" else "error") ++ " tag=" ++ natText k.val ++ " " ++ t.fetch.storeText))

/-! ## Show reset -/

/-- SHOWRESET clears what is running in every block together and keeps what was loaded; the priming evaluation that follows it is
an event of its own, taken once (R10, R41, R60, R82, R98, R121, R146, R159, R182, R191, R204). That the router's stamps begin again
at 0 is the model's choice (log 12), and that SHOW_RESET_PRIMING with no evaluation owed changes nothing is its reading (log 7). -/
def Obligations.ShowReset : Prop :=
  (∀ (s : State) (tag : Tag), s.Ready →
    ∃ t, exec (.showReset tag (.given ())) s = .next t ∧
      s.Replied t tag ("OK " ++ ("showreset standby=" ++ standbyText s.firstCue)) ∧ t.link.reports = [] ∧
      t.ports = s.ports ∧ t.clock = s.clock ∧ t.mic = s.mic ∧ t.cues = s.cues ∧ t.lines.pins = s.lines.pins ∧
      t.inReset = s.inReset ∧ t.now = s.now ∧ t.pending = s.pending ∧
      t.matrix.trims = s.matrix.trims ∧ (∀ row bus, t.xpt row bus = -180) ∧ (∀ bus, t.clip bus = {}) ∧
      t.fades.pool = [] ∧ t.fades.snaps = 0 ∧
      t.cast = { s.cast with roles := t.cast.roles } ∧ (∀ r, t.role r = { s.role r with xfade := none }) ∧
      t.engine.halted = false ∧ t.engine.standby = s.firstCue ∧ t.engine.lastFired = none ∧ t.engine.insts = [] ∧
      t.engine.chain = none ∧ t.engine.fired = 0 ∧ t.engine.stopAllMs = s.engine.stopAllMs ∧
      t.engine.primeDue = true ∧
      t.fetch = { s.fetch with readers := t.fetch.readers, tags := t.fetch.tags, busReset := true } ∧
      (∀ r, (t.reader r).Idle ∧ (t.reader r).level = -180 ∧ (t.reader r).underruns = 0 ∧ (t.reader r).retries = 0) ∧
      (∀ k, t.fetch.tags.get k = .free) ∧
      t.foldback = { s.foldback with buses := t.foldback.buses, talkCommand := false } ∧
      (∀ k, t.bus k = { s.bus k with
        guard := if (s.bus k).guard = .metering then .armed else (s.bus k).guard
        red := 0, peak := 0, lastP := none, episode := none, duck := 0, skips := 0
        ramp := if (∃ n, s.foldback.heldLines.get n = true) ∧ (s.bus k).member = true ∧ s.foldback.talkDepth ≠ 0
          then some { start := 0, goal := -(s.foldback.talkDepth : Int), ms := 50, elapsed := 0 } else none }) ∧
      t.router = { s.router with zones := t.router.zones, calls := [], nextId := 1, admitStamp := 0, grantStamp := 0 } ∧
      (∀ z, t.zone z = { s.zone z with holding := none, duck := 0, ramp := none }) ∧
      (∀ n, t.line n = { s.line n with cueLine := false })) ∧
  ∀ s : State, s.inReset = false → s.Calm →
    (s.engine.primeDue = false → exec .showResetPriming s = .next s) ∧
    (s.engine.primeDue = true → ∃ t, exec .showResetPriming s = .next t ∧ s.SameLink t ∧
      t = { s with link := t.link, fades := t.fades, engine := t.engine, fetch := t.fetch } ∧
      t.engine.primeDue = false ∧ t.engine.standby = s.engine.standby ∧
      (∀ v n, (v, n) ∈ s.standbyPlays → s.fetch.sounds.get n ≠ none → (t.voice v).state ≠ .idle))

/-! ## Foldback -/

/-- FB sets the fields it carries of one bus: the ceiling, the lock, and the guard, which goes from OFF to ARMED when turned on and
drops its reduction when turned off; every other field and bus stands. GUARD_WINDOW_END, once 480 frames have run: an ARMED bus
meters from the window that begins, and a METERING one updates its reduction from the window's peak, its ceiling and its
reduction as it stands, and its episode, the deepest reduction and the windows reduced, GUARD telling of an episode that begins or ends
(R148, R150, R152, R153); before that nothing
changes, which is the model's reading of an event that has not come (log 7). -/
def Obligations.FoldbackAndGuard : Prop :=
  (∀ (s : State) (tag : Tag) (a : FbArgs) (k : FbId), s.Ready → ofNum 16 a.fb = some k →
    (a.lock ≠ none ∨ a.guard ≠ none ∨ a.ceiling ≠ none) →
    ∃ t, exec (.fb tag (.given a)) s = .next t ∧ s.Replied t tag ("OK " ++ t.fbLine k) ∧
      t = { s with link := t.link, foldback := { s.foldback with buses := put s.foldback.buses k (t.bus k) } } ∧
      (t.bus k).ceiling = (a.ceiling.map ceilingLevel).getD (s.bus k).ceiling ∧
      (t.bus k).lock = a.lock.getD (s.bus k).lock ∧
      (a.guard = none → t.bus k = { s.bus k with lock := (t.bus k).lock, ceiling := (t.bus k).ceiling }) ∧
      (a.guard = some true → t.bus k = { s.bus k with
        lock := (t.bus k).lock, ceiling := (t.bus k).ceiling,
        guard := if (s.bus k).guard = .off then .armed else (s.bus k).guard }) ∧
      (a.guard = some false → t.bus k = { s.bus k with
        lock := (t.bus k).lock, ceiling := (t.bus k).ceiling, guard := .off, red := 0, peak := 0, lastP := none,
        episode := none } ∧ ((s.bus k).red < 0 → s.Raised t (.guard k) ("!GUARD " ++ fbText k ++ " state=clear red=0.0 deepest=" ++
          levelText ((s.bus k).episode.getD (0, 0)).1 ++ " windows=" ++ natText ((s.bus k).episode.getD (0, 0)).2)) ∧
        ((s.bus k).red < 0 → s.Raised t (.guard k) " event=off"))) ∧
  ∀ s : State, s.inReset = false → s.Calm →
    (s.foldback.window < 480 → exec .guardWindowEnd s = .next s) ∧
    (480 ≤ s.foldback.window → ∃ t, exec .guardWindowEnd s = .next t ∧ s.SameLink t ∧
      t = { s with link := t.link, foldback := { s.foldback with buses := t.foldback.buses, window := 0 } } ∧
      ∀ k, ((s.bus k).guard = .off → t.bus k = s.bus k) ∧
        ((s.bus k).guard = .armed → t.bus k = { s.bus k with guard := .metering, peak := 0 }) ∧
        ((s.bus k).guard = .metering →
          ∃ red : LevelCode,
            red = (if (s.bus k).ceiling < peakCode (s.bus k).peak + (s.bus k).red then
                max (-80) ((s.bus k).ceiling - peakCode (s.bus k).peak)
              else if (s.bus k).red < 0 ∧ peakCode (s.bus k).peak + (s.bus k).red + 1 ≤ (s.bus k).ceiling then
                (s.bus k).red + 1
              else (s.bus k).red) ∧
            t.bus k = { s.bus k with
              red := red, peak := 0, lastP := some (peakCode (s.bus k).peak)
              episode := if red < 0 then
                (match (s.bus k).episode with
                  | none => some (red, 1)
                  | some (deepest, windows) => some (min deepest red, min (windows + 1) 65535))
                else none } ∧
            ((s.bus k).red = 0 → red < 0 → s.Raised t (.guard k) ("!GUARD " ++ fbText k ++ " state=reducing red=" ++ levelText red)) ∧
            ((s.bus k).red = 0 → red < 0 → s.Raised t (.guard k) (" peak=" ++ levelText (peakCode (s.bus k).peak) ++
              " event=reduce")) ∧
            ((s.bus k).red < 0 → red = 0 → s.Raised t (.guard k) ("!GUARD " ++ fbText k ++ " state=clear red=0.0")) ∧
            ((s.bus k).red < 0 → red = 0 → s.Raised t (.guard k) (" peak=" ++ levelText (peakCode (s.bus k).peak) ++
              " event=clear"))))

/-- TALK and TALKBACK set the talk command, the level, the depth and the member set, and begin the duck ramps of R156; no other
field of a bus and no other block changes (R154, R155, R156). The order of `members=` in the reply is the model's choice (log 42). -/
def Obligations.TalkAndTalkback : Prop :=
  ∀ (s : State) (tag : Tag), s.Ready →
    (∀ on : Bool, ∃ t, exec (.talk tag (.given on)) s = .next t ∧ s.Replied t tag ("OK " ++ t.talkText) ∧
      t = { s with link := t.link, foldback := { s.foldback with buses := t.foldback.buses, talkCommand := on } } ∧
      t.link.reports = s.link.reports ∧
      ∀ k, t.bus k =
        if t.foldback.talkActive = s.foldback.talkActive ∨ (s.bus k).member = false then s.bus k
        else { s.bus k with ramp :=
          if on then beginRamp (s.bus k).duck (-(s.foldback.talkDepth : Int)) 50 else beginRamp (s.bus k).duck 0 300 }) ∧
    (∀ (a : TalkbackArgs) (members : FbId → Bool), (a.level ≠ none ∨ a.depth ≠ none ∨ a.members ≠ none) →
      (a.members = none ∧ (∀ k, members k = (s.bus k).member) ∨
        ∃ m l, a.members = some m ∧ membersOf m = some l ∧ l.Nodup ∧ ∀ k, members k = decide (k ∈ l)) →
      ∃ t, exec (.talkback tag (.given a)) s = .next t ∧ s.Replied t tag ("OK " ++ t.talkbackText) ∧
        t = { s with link := t.link, foldback := { s.foldback with
          buses := t.foldback.buses
          talkLevel := (a.level.map talkbackLevel).getD s.foldback.talkLevel
          talkDepth := (a.depth.map talkbackDepth).getD s.foldback.talkDepth } } ∧
        t.link.reports = s.link.reports ∧
        ∀ k, t.bus k = { s.bus k with
          member := members k
          ramp :=
            if (s.bus k).member = true ∧ members k = false then beginRamp (s.bus k).duck 0 300
            else if s.foldback.talkActive = true ∧ members k = true ∧
                ((s.bus k).member = false ∨ t.foldback.talkDepth ≠ s.foldback.talkDepth) then
              beginRamp (s.bus k).duck (-(t.foldback.talkDepth : Int)) 50
            else (s.bus k).ramp })

/-! ## The relay and call router -/

/-- ZONE sets the fields it carries of one zone, as snaps, and leaves the others and every other zone's; the walk that follows
touches no more than the calls, the zones' holding calls and ramps, and the call players, and with no call WAITING nothing
(R161, R170). In the reply the order of `groups=` is the model's choice (log 42), and an empty name as
nothing after `name=` its reading (log 19). -/
def Obligations.ZoneFields : Prop :=
  ∀ (s : State) (tag : Tag) (a : ZoneArgs) (z : ZoneId) (groups : GroupId → Bool), s.Ready → zoneHasField a = true →
    (∀ n, a.name = some n → n.all nameChar = true ∧ n.length ≤ 12) → ofNum 24 a.zone = some z →
    (a.groups = none ∧ (∀ g, groups g = (s.zone z).groups.get g) ∨
      ∃ l gs, a.groups = some l ∧ nums 8 l = some gs ∧ gs.Nodup ∧ ∀ g, groups g = decide (g ∈ gs)) →
    ∃ t, exec (.zone tag (.given a)) s = .next t ∧ s.Replied t tag ("OK " ++ t.zoneLine z) ∧
      t = { s with link := t.link, router := t.router, fetch := t.fetch } ∧ (∀ v : VoiceId, t.voice v = s.voice v) ∧
      t.zone z = { s.zone z with
        name := a.name.getD (s.zone z).name
        relay := a.relay.getD (s.zone z).relay
        level := (a.level.map relayLevel).getD (s.zone z).level
        trim := (a.trim.map callTrim).getD (s.zone z).trim
        quiet := a.quiet.getD (s.zone z).quiet
        groups := .ofFn groups
        holding := (t.zone z).holding, ramp := (t.zone z).ramp } ∧
      (∀ z', z' ≠ z →
        t.zone z' = { s.zone z' with holding := (t.zone z').holding, ramp := (t.zone z').ramp }) ∧
      t.router.presets = s.router.presets ∧ t.router.nextId = s.router.nextId ∧
      ((∀ c ∈ s.router.calls, c.grant ≠ none) →
        t.router = { s.router with zones := put s.router.zones z (t.zone z) } ∧ t.fetch = s.fetch ∧
          (t.zone z).holding = (s.zone z).holding ∧ (t.zone z).ramp = (s.zone z).ramp ∧
          t.link.reports = s.link.reports)

/-- CALL and PRESET submit a request: refused with NOZONES where its targets resolve to no zone, and with QUEUEFULL where the table
is full and no WAITING call has a lower priority; otherwise admitted with the first id from the counter that no call holds,
in place of the WAITING call of lowest priority and latest admission where the table is full, and then a grant walk runs. A walk
visits the calls that were WAITING when it began in the table's order: one whose zones and whose player or paging input it may take
is granted, the calls in its way ending, and any other reserves its zones; a walk that grants is followed by another, until one
grants nothing (R165, R168 to R172, R175, R180). -/
def Obligations.CallAdmission : Prop :=
  (∀ (w : Walk) (c : Call), w.state.CallsOk → w.state.callAt c.id = some c → c.grant = none →
    ((∃ z ∈ c.zones, ¬w.state.ZoneFor w.reserved c z) ∨
        (∃ n, c.req.src = .sound n ∧ ∀ p, ∃ d, w.state.playerCall p = some d ∧ c.req.pri ≤ d.req.pri) ∨
        (∃ n, c.req.src = .page n ∧ ∃ d ∈ w.state.router.calls, d.grant ≠ none ∧ d.req.src = .page n) →
      w.visit c.id = { w with reserved := w.reserved ++ c.zones }) ∧
    (∀ player, (∀ z ∈ c.zones, w.state.ZoneFor w.reserved c z) →
      ((∃ n p, c.req.src = .sound n ∧ player = some p ∧ w.state.PlayerTaken c p) ∨
        (∃ n, c.req.src = .page n ∧ player = none ∧
          ∀ d ∈ w.state.router.calls, d.grant ≠ none → d.req.src ≠ .page n)) →
      (w.visit c.id).granted = true ∧ (w.visit c.id).reserved = w.reserved ∧
        w.state.Granted (w.visit c.id).state c player)) ∧
  (∀ (w : Walk) (id : Nat), (∀ c, w.state.callAt id = some c → c.grant ≠ none) → w.visit id = w) ∧
  (∀ s : State,
    s.walkOnce = ((s.router.calls.filter fun c => c.grant.isNone).map (·.id)).foldl Walk.visit { state := s } ∧
    (s.walkOnce.granted = false → s.walk = s) ∧ (s.walkOnce.granted = true → s.walk = s.walkOnce.state.walk) ∧
    s.walk.walkOnce.granted = false) ∧
  ∀ (s : State) (tag : Tag) (c : Instr) (q : CallRequest) (note : String), s.Ready →
    ((∃ a, c = .call tag (.given a) ∧ s.checkRequest a = .ok q ∧ note = "") ∨
      ∃ n k, c = .preset tag (.given n) ∧ ofNum 16 n = some k ∧ s.router.presets.get k = some q ∧
        note = " preset=" ++ natText n) →
    (s.resolve q = [] → exec c s = .next (s.refused tag .noZones)) ∧
    (s.resolve q ≠ [] → s.router.calls.length = 16 → (∀ d ∈ s.router.calls, d.grant = none → q.pri ≤ d.req.pri) →
      exec c s = .next (s.refused tag .queueFull)) ∧
    (s.resolve q ≠ [] → s.router.calls.length < 16 →
      ∃ t id st, exec c s = .next t ∧
        s.Replied t tag ("OK " ++ ("call=" ++ natText id ++ " state=" ++ callStateText st ++ note)) ∧
        s.Admitted t q none id st ∧ (∀ d ∈ s.router.calls, d.id ≠ id) ∧
        t.router = (s.admitting q s.router.calls id).walk.router ∧
        ∃ j, j < 255 ∧ id = (s.router.nextId - 1 + j) % 255 + 1 ∧
          ∀ i < j, ∃ d ∈ s.router.calls, d.id = (s.router.nextId - 1 + i) % 255 + 1) ∧
    (∀ out, s.resolve q ≠ [] → s.router.calls.length = 16 → out ∈ s.router.calls → out.grant = none →
      out.req.pri < q.pri →
      (∀ d ∈ s.router.calls, d ≠ out → d.grant = none →
        d.id ≠ out.id ∧ (out.req.pri < d.req.pri ∨ out.req.pri = d.req.pri ∧ d.stamp < out.stamp)) →
      ∃ t id st, exec c s = .next t ∧
        s.Replied t tag ("OK " ++ ("call=" ++ natText id ++ " state=" ++ callStateText st ++ note)) ∧
        s.Admitted t q none id st ∧ (∀ d ∈ t.router.calls, d.id = out.id → out.id = id) ∧
        (out.id ≠ id → s.Raised t (.call out.id) (" cause=displaced by=" ++ natText id ++ " event=ended")) ∧
        t.router = (s.admitting q (s.router.calls.filter fun d => d.id ≠ out.id) id).walk.router ∧
        (∀ d ∈ s.router.calls, d.id = id → d.id = out.id) ∧
        ∃ j, j < 255 ∧ id = (s.router.nextId - 1 + j) % 255 + 1 ∧
          ∀ i < j, ∃ d ∈ s.router.calls, d.id ≠ out.id ∧ d.id = (s.router.nextId - 1 + i) % 255 + 1)

/-- CALLEND, CALLCANCEL and EXPIRED take a call out of the table, freeing its zones and its player; an id no call has is refused with
NOSUCH, one outside 1 to 255 with RANGE, and an expiry that is not due changes nothing (R175, R176, R177), which is the model's reading
of an event that has not come (log 7). -/
def Obligations.CallEnds : Prop :=
  (∀ (s : State) (tag : Tag) (id : Nat) (cancel : Bool), s.Ready →
    (∀ c, 1 ≤ id → id ≤ 255 → s.callAt id = some c →
      ∃ t, exec (if cancel then .callCancel tag (.given id) else .callEnd tag (.given id)) s = .next t ∧
        s.Replied t tag ("OK " ++ ("call=" ++ natText id ++ " state=ended cause=" ++
          (if cancel then "cancelled" else "ended"))) ∧ s.CallGone t c ∧
        s.Raised t (.call id) (" cause=" ++ (if cancel then "cancelled" else "ended") ++ " by=none event=ended")) ∧
    (1 ≤ id → id ≤ 255 → s.callAt id = none →
      exec (if cancel then .callCancel tag (.given id) else .callEnd tag (.given id)) s =
        .next (s.refused tag .noSuch)) ∧
    (id = 0 ∨ 255 < id →
      exec (if cancel then .callCancel tag (.given id) else .callEnd tag (.given id)) s =
        .next (s.refused tag .range))) ∧
  ∀ (s : State) (id : Nat) (c : Call), s.inReset = false → s.Calm → s.callAt id = some c →
    (c.grant = none → 0 < c.req.expiry → c.admittedAt + 48 * c.req.expiry ≤ s.now →
      ∃ t, exec (.expired id) s = .next t ∧ s.SameLink t ∧ s.CallGone t c ∧
        s.Raised t (.call id) " cause=expired by=none event=ended") ∧
    (c.grant ≠ none ∨ c.req.expiry = 0 ∨ s.now < c.admittedAt + 48 * c.req.expiry →
      exec (.expired id) s = .next s)

/-! ## Settings stored, logic lines, the link and the clock -/

/-- INPUT, ENGINE, FETCH, SOUND, PRESETDEF and LINE each store their value, as held, and change nothing else (R23, R120, R123,
R145, R179, R189). -/
def Obligations.SettingsStored : Prop :=
  ∀ (s : State) (tag : Tag), s.Ready →
    (∀ (a : InputArgs) i, ofNum 64 a.input = some i →
      exec (.input tag (.given a)) s = .next (
        { s with matrix := { s.matrix with trims := put s.matrix.trims i (trimLevel a.trim) } }.answered tag
          ("OK " ++ (inText i ++ " trim=" ++ levelText (trimLevel a.trim) ++ " use=" ++ useText (s.use i))))) ∧
    (∀ x : Int, ∃ t, exec (.engine tag (.given x)) s = .next (t.answered tag ("OK " ++ t.engineLine)) ∧
      t = { s with engine := { s.engine with stopAllMs := (max 0 (min 600000 x)).toNat } }) ∧
    (∀ x : Int, ∃ t, exec (.fetch tag (.given x)) s = .next (t.answered tag ("OK " ++ t.fetchLine)) ∧
      t = { s with fetch := { s.fetch with refill := (max 1 (min 7 x)).toNat } }) ∧
    (∀ (a : SoundArgs) (n : SoundId), ofNum 1024 a.sound = some n → a.block ≤ 16777215 → 1 ≤ a.len →
      a.len ≤ 2147483647 → (∀ b e, a.loop = some (b, e) → b < e ∧ e ≤ a.len ∧ 256 ∣ b ∧ 256 ∣ e) →
      a.block + (((a.loop.map (·.2)).getD a.len) + 255) / 256 ≤ 16777216 →
      (a.replace = false → s.fetch.sounds.get n = none) →
      (a.replace = true → ∀ r, (s.reader r).state ≠ .idle → (s.reader r).soundId ≠ some n) →
      exec (.sound tag (.given a)) s = .next ({ s with fetch := { s.fetch with
        sounds := put s.fetch.sounds n (some { first := a.block, len := a.len, loop := a.loop }) } }.answered tag
          ("OK " ++ soundLine n { first := a.block, len := a.len, loop := a.loop }))) ∧
    (∀ (a : PresetDefArgs) (k : PresetId) (q : Option CallRequest), ofNum 16 a.preset = some k →
      (a.request = none ∧ q = none ∨ ∃ r x, a.request = some r ∧ s.checkRequest r = .ok x ∧ q = some x) →
      ∃ t, exec (.presetDef tag (.given a)) s = .next (t.answered tag ("OK " ++ t.presetLine k)) ∧
        t = { s with router := { s.router with presets := put s.router.presets k q } }) ∧
    (∀ (a : LineArgs) (n : LineId), ofNum 16 a.line = some n →
      exec (.line tag (.given a)) s = .next ({ s with lines := { s.lines with
        recs := put s.lines.recs n { s.line n with cueLine := a.on } } }.answered tag
          ("OK " ++ (lineText n ++ " cue=" ++ onOff a.on ++ " fn=" ++ fnText (s.line n).fn))))

/-- LINESET: with neither function nor polarity changed nothing changes; otherwise the line takes them, an input line its pin's level as
debounced state, and its old role ends: a held TALK line leaves the held set, and a call a PRESET line holds ends (R184). That the drive
of a line that becomes an input ends with the LINESET, and that an output line has no debounced state and a count of 0, is the model's
reading (log 25), as is `state=` of an output line in the reply by its condition as it then stands (log 19). FRAME drives the pin of
every output line by its condition as the frame finds it and drives no other (R188), after the events due, which is the model's choice
(log 5). -/
def Obligations.LineConfigured : Prop :=
  ∀ (s : State) (tag : Tag) (a : LinesetArgs) (n : LineId) (fn : LineFn) (high : Bool), s.Ready →
    (a.fn ≠ none ∨ a.polHigh ≠ none) → ofNum 16 a.line = some n →
    (a.fn = none ∧ fn = (s.line n).fn ∨ ∃ f, a.fn = some f ∧ lineFnOf f = some fn) →
    high = a.polHigh.getD (s.line n).activeHigh →
    ∃ t, exec (.lineset tag (.given a)) s = .next t ∧ s.Replied t tag ("OK " ++ t.lineLine n) ∧
      t = { s with link := t.link, lines := t.lines, foldback := t.foldback, router := t.router, fetch := t.fetch } ∧
      t.lines.pins = s.lines.pins ∧ (∀ m, m ≠ n → t.line m = s.line m) ∧ (∀ v : VoiceId, t.voice v = s.voice v) ∧
      (fn = (s.line n).fn ∧ high = (s.line n).activeHigh →
        t.line n = s.line n ∧ t.foldback = s.foldback ∧ t.router = s.router ∧ t.fetch = s.fetch) ∧
      (¬(fn = (s.line n).fn ∧ high = (s.line n).activeHigh) →
        (fn.isOutput = false → t.line n = { s.line n with
          fn := fn, activeHigh := high, debounced := some (decide (s.lines.pins.get n = high)), count := 0,
          drive := none }) ∧
        (fn.isOutput = true → t.line n = { s.line n with
          fn := fn, activeHigh := high, debounced := none, count := 0 }) ∧
        ((s.line n).fn ≠ .talk → t.foldback = s.foldback) ∧
        ((s.line n).fn = .talk → t.foldback.heldLines = put s.foldback.heldLines n false ∧
          t.foldback.talkCommand = s.foldback.talkCommand) ∧
        ((∀ k, (s.line n).fn ≠ .preset k) → t.router = s.router ∧ t.fetch = s.fetch) ∧
        (∀ k c, (s.line n).fn = .preset k → s.router.calls.find? (fun c => c.line = some n) = some c →
          t.callAt c.id = none ∧ s.Raised t (.call c.id) " cause=released by=none event=ended") ∧
        (∀ k, (s.line n).fn = .preset k → (∀ c ∈ s.router.calls, c.line ≠ some n) →
          t.router = s.router ∧ t.fetch = s.fetch)) ∧
  ∀ (s t u : State) (slots : Vector Word32 64) (pins : Vector Bool 16) (n : LineId), s.inReset = false →
    s.HasFrame → u = s.takeDue → exec (.frame slots pins) s = .next t →
    ((u.line n).fn.isOutput = false → (t.line n).drive = none) ∧
    (∀ on : Prop,
      ((u.line n).fn = .cueActive ∧ (on ↔ u.engine.insts ≠ []) ∨
        (u.line n).fn = .standbyReady ∧ (on ↔ u.standbyReady = true) ∨
        (u.line n).fn = .halted ∧ (on ↔ u.engine.halted = true) ∨
        (u.line n).fn = .micAlert ∧ (on ↔ ∃ p, (u.perf p).state = .alarm ∨ (u.perf p).state = .spare) ∨
        (∃ z, (u.line n).fn = .callLive z ∧ (on ↔ (u.zone z).holding ≠ none)) ∨
        (u.line n).fn = .callWaiting ∧ (on ↔ ∃ c ∈ u.router.calls, c.grant = none) ∨
        (u.line n).fn = .voiceFault ∧ (on ↔ ∃ r, (u.reader r).state = .faulted) ∨
        (u.line n).fn = .cueLine ∧ (on ↔ (u.line n).cueLine = true)) →
      ∃ level, (t.line n).drive = some level ∧ (level = (u.line n).activeHigh ↔ on)) ∧
    t.line n = { u.line n with count := (t.line n).count, drive := (t.line n).drive }

/-- DEBOUNCE: an input line whose changed level has held 480 frames turns, its count back to 0, and its event goes where its function
names: none, HALT, RESUME, STOP_ALL, TALK, GO, which is refused and counted while HALTED or at END, and PRESET, refused and
counted with an empty preset, with no zones or with no place in the table, whose call a release ends (R178, R185, R186, R187); a
line that is not due changes nothing, which is the model's reading of an event that has not come (log 7). FRAME counts a frame on an
input line whose pin differs from its debounced state and sets the count to 0 on one whose pin agrees (R185), after the events
due, which is the model's choice (log 5). -/
def Obligations.LineEvents : Prop :=
  (∀ (s t u : State) (slots : Vector Word32 64) (pins : Vector Bool 16) (n : LineId), s.inReset = false →
    s.HasFrame → u = s.takeDue → exec (.frame slots pins) s = .next t →
    ((u.line n).debounced = none → (t.line n).count = (u.line n).count) ∧
    (∀ active, (u.line n).debounced = some active →
      (t.line n).count = if (pins.get n = (u.line n).activeHigh ↔ active = true) then 0 else (u.line n).count + 1)) ∧
  ∀ (s : State) (n : LineId) (was : Bool), s.inReset = false → s.Calm → (s.line n).debounced = some was →
    ((s.line n).count < 480 → exec (.debounce n) s = .next s) ∧
    (480 ≤ (s.line n).count →
      ∃ t turned, exec (.debounce n) s = .next t ∧ s.SameLink t ∧
        turned = { s.lines with
          recs := put s.lines.recs n { s.line n with debounced := some (!was), count := 0 } } ∧
        ((s.line n).fn = .none → t = { s with lines := turned }) ∧
        ((s.line n).fn = .talk → t = { s with lines := turned, foldback := t.foldback } ∧
          t.foldback.heldLines = put s.foldback.heldLines n (!was)) ∧
        (was = true → (s.line n).fn = .go ∨ (s.line n).fn = .halt ∨ (s.line n).fn = .resume ∨
          (s.line n).fn = .stopAll → t = { s with lines := turned }) ∧
        (was = false →
          ((s.line n).fn = .halt → t = { s with
            link := t.link, lines := turned, engine := { s.engine with halted := true } } ∧
            (s.engine.halted = false → s.Raised t .cue "!CUE event=halted")) ∧
          ((s.line n).fn = .resume → t = { s with
            link := t.link, lines := turned, engine := { s.engine with halted := false } } ∧
            (s.engine.halted = true → s.Raised t .cue "!CUE event=resumed")) ∧
          ((s.line n).fn = .stopAll → t.lines = turned ∧ t.engine.insts = [] ∧ t.engine.chain = none ∧
            t.engine.halted = false ∧ t.engine.standby = s.engine.standby ∧ s.Raised t .cue "!CUE event=stopall") ∧
          (∀ c, (s.line n).fn = .go → s.engine.halted = false → s.standbyCue = some c →
            ({ s with lines := turned } : State).Fired t c ∧
            (s.OwnersOk → s.fades.PoolOk → ∃ slot, ({ s with lines := turned } : State).TableFired t c slot ∧
              ({ s with lines := turned } : State).ActionsFired t c slot)) ∧
          ((s.line n).fn = .go → s.engine.halted = true ∨ s.engine.standby = none →
            t = { s with link := t.link, lines := { s.lines with recs := put s.lines.recs n { s.line n with
              debounced := some true, count := 0, refused := min ((s.line n).refused + 1) 65535 } } } ∧
              s.Raised t (.line n) (" event=refused why=" ++ (if s.engine.halted then "halted" else "end") ++
                " refused=" ++ natText (t.line n).refused) ∧
              s.Raised t .cue "!CUE event=ignored") ∧
          (∀ k, (s.line n).fn = .preset k → s.router.presets.get k = none →
            t = { s with link := t.link, lines := { s.lines with recs := put s.lines.recs n { s.line n with
              debounced := some true, count := 0, refused := min ((s.line n).refused + 1) 65535 } } } ∧
              s.Raised t (.line n) (" event=refused why=empty refused=" ++ natText (t.line n).refused)) ∧
          (∀ k q, (s.line n).fn = .preset k → s.router.presets.get k = some q →
            s.resolve q = [] ∨ s.router.calls.length = 16 ∧ (∀ d ∈ s.router.calls, d.grant = none → q.pri ≤ d.req.pri) →
            t = { s with link := t.link, lines := { s.lines with recs := put s.lines.recs n { s.line n with
              debounced := some true, count := 0, refused := min ((s.line n).refused + 1) 65535 } } } ∧
              s.Raised t (.line n) (" event=refused why=" ++ (if s.resolve q = [] then "nozones" else "queuefull") ++
                " refused=" ++ natText (t.line n).refused)) ∧
          (∀ k q, (s.line n).fn = .preset k → s.router.presets.get k = some q → s.resolve q ≠ [] →
            s.router.calls.length < 16 →
            ∃ id st, ({ s with lines := turned } : State).Admitted t q (startLine q n) id st)) ∧
        (∀ k, was = true → (s.line n).fn = .preset k →
          ((∀ c ∈ s.router.calls, c.line ≠ some n) → t = { s with lines := turned }) ∧
          ∀ c, s.router.calls.find? (fun c => c.line = some n) = some c →
            ({ s with lines := turned } : State).CallGone t c ∧
              s.Raised t (.call c.id) " cause=released by=none event=ended"))

/-- The link: a line that fails at link level is answered with its error, a long one counted; a received line waits in the queue, one
that meets 8 waiting lines is discarded and counted, one with a framing error counted, and one of spaces ignored; a free
transmitter begins the oldest reply, and with none the oldest report, with the LF that ends it, unless PAUSE is asserted. REPORT
sets the mask, `all=` first and the named kinds after it, and removes the pending reports of the kinds it disables (R193 to R200).
That a framing error is counted at the LF of its line, once for a line (log 4), what a line with a badly framed character spells
(log 17), and that TRANSMIT_LINE is a transmitter free to begin a line (log 8), are the model's choices. -/
def Obligations.LinkEvents : Prop :=
  (∀ s : State,
    (∀ tag, s.Takes →
      exec (.unknown tag .long) s = .next
        ({ s with link := { s.link with long := min (s.link.long + 1) 65535 } }.refused tag .long) ∧
      exec (.unknown tag .form) s = .next (s.refused tag .syntaxErr) ∧
      exec (.unknown tag .verb) s = .next (s.refused tag .unknown)) ∧
    (∀ (chars : List RxChar) (metFull : Bool), s.inReset = false → s.Calm →
      (Text.emptyLine (Text.keptChars chars) = true → exec (.lineReceived chars metFull) s = .next s) ∧
      (Text.emptyLine (Text.keptChars chars) = false →
        (metFull = true ∨ 8 ≤ s.link.rxq.length →
          ∃ t, exec (.lineReceived chars metFull) s = .next t ∧ t = { s with link := { s.link with
            overflow := min (s.link.overflow + 1) 65535
            framing := if ∃ c ∈ Text.keptChars chars, c.framing = true then min (s.link.framing + 1) 65535
              else s.link.framing
            reports := t.link.reports } } ∧
            s.Raised t .link ("!LINK event=overflow overflow=" ++ natText t.link.overflow ++ " framing=" ++
              natText t.link.framing ++ " long=" ++ natText s.link.long)) ∧
        (metFull = false → s.link.rxq.length < 8 →
          ((∀ c ∈ Text.keptChars chars, c.framing = false) →
            exec (.lineReceived chars metFull) s = .next { s with link := { s.link with
              rxq := s.link.rxq ++ [Text.parseLine (Text.lineChars (Text.keptChars chars))] } }) ∧
          ((∃ c ∈ Text.keptChars chars, c.framing = true) →
            ∃ t, exec (.lineReceived chars metFull) s = .next t ∧ t = { s with link := { s.link with
              rxq := s.link.rxq ++ [Text.parseLine (Text.lineChars (Text.keptChars chars))]
              framing := min (s.link.framing + 1) 65535, reports := t.link.reports } } ∧
              s.Raised t .link ("!LINK event=framing overflow=" ++ natText s.link.overflow ++ " framing=" ++
                natText t.link.framing ++ " long=" ++ natText s.link.long))))) ∧
    (s.inReset = false → s.Calm →
      (s.link.paused = true → exec .transmitLine s = .next s) ∧
      (s.link.paused = false →
        (∀ r rest, s.link.replies = r :: rest → exec .transmitLine s = .next { s with link := { s.link with
          replies := rest, sending := some (r ++ "\n") } }) ∧
        (∀ r rest, s.link.replies = [] → s.link.reports = r :: rest → exec .transmitLine s = .next { s with
          link := { s.link with reports := rest, sending := some (r.text ++ "\n") } }) ∧
        (s.link.replies = [] → s.link.reports = [] → exec .transmitLine s = .next s))) ∧
    ∀ asserted, exec (.pause asserted) s = .next { s with link := { s.link with paused := asserted } }) ∧
  ∀ (s : State) (tag : Tag) (a : ReportArgs), s.Ready → (a.all ≠ none ∨ a.kinds ≠ []) → (a.kinds.map (·.1)).Nodup →
    ∃ t, exec (.report tag (.given a)) s = .next t ∧
      s.Replied { t with link := { t.link with disabled := s.link.disabled } } tag ("OK " ++ t.maskText) ∧
      t = { s with link := t.link } ∧
      (∀ kind on, (kind, on) ∈ a.kinds → (kind ∈ t.link.disabled ↔ on = false)) ∧
      (∀ kind, (∀ on, (kind, on) ∉ a.kinds) → (kind ∈ t.link.disabled ↔
        a.all = some false ∨ a.all = none ∧ kind ∈ s.link.disabled)) ∧
      t.link.reports = s.link.reports.filter fun r => decide (r.key.kind ∉ t.link.disabled)

/-- The clock monitor by its states and events, with the CLOCK reports, and the frames it gives: while LOCKED each edge of WCLK begins
one, the edge that locks the first, and FRAME computes one that has begun; with none begun, as in the 2 ms before a loss, FRAME
computes nothing and every frame count stands; on the internal reference each FRAME is a frame (R206, R207). That FRAME follows the
edge as an event of its own, that a loss leaves no frame begun, and that CLOCK_RESTORED at 4799 periods in tolerance is the 4800th, are
the model's choices (log 9), and that an event of another state changes nothing is its reading (log 7). -/
def Obligations.ClockMonitor : Prop :=
  ∀ s : State, s.inReset = false → s.Calm →
    (s.clock.monitor = .locked → ∃ t, exec .clockLost s = .next t ∧ s.SameLink t ∧ t = { s with
      link := t.link
      clock :=
        { wclk := false, monitor := .absent, count := 0, losses := min (s.clock.losses + 1) 65535, begun := 0 } } ∧
      s.Raised t .clock ("!CLOCK source=internal state=absent event=lost losses=" ++ natText (min (s.clock.losses + 1) 65535))) ∧
    (s.clock.monitor ≠ .locked → exec .clockLost s = .next s) ∧
    (s.clock.monitor = .qualifying → exec .qualifyingTimeout s = .next { s with
      clock := { s.clock with monitor := .absent, count := 0 } }) ∧
    (s.clock.monitor ≠ .qualifying → exec .qualifyingTimeout s = .next s) ∧
    (∀ ps : Nat,
      (s.clock.monitor = .absent → exec (.wclkRisingEdge ps) s = .next { s with
        clock := { s.clock with monitor := .qualifying, count := 0 } }) ∧
      (s.clock.monitor = .qualifying → 49000 * ps < 10 ^ 12 ∨ 10 ^ 12 < 47000 * ps →
        exec (.wclkRisingEdge ps) s = .next { s with clock := { s.clock with count := 0 } }) ∧
      (s.clock.monitor = .qualifying → 10 ^ 12 ≤ 49000 * ps → 47000 * ps ≤ 10 ^ 12 → s.clock.count < 4799 →
        exec (.wclkRisingEdge ps) s = .next { s with clock := { s.clock with count := s.clock.count + 1 } }) ∧
      (s.clock.monitor = .locked → exec (.wclkRisingEdge ps) s = .next { s with
        clock := { s.clock with begun := s.clock.begun + 1 } })) ∧
    (∀ (slots : Vector Word32 64) (pins : Vector Bool 16),
      (s.clock.monitor = .locked → s.clock.begun = 0 → exec (.frame slots pins) s = .next s) ∧
      (s.clock.monitor ≠ .locked ∨ 0 < s.clock.begun →
        ∃ t, exec (.frame slots pins) s = .next t ∧ t.now = s.now + 1 ∧
          t.clock = { s.clock with begun := s.clock.begun - 1 })) ∧
    (∀ c : Instr, s.clock.monitor = .qualifying → s.clock.count = 4799 →
      (c = .clockRestored ∨ ∃ ps, c = .wclkRisingEdge ps ∧ 10 ^ 12 ≤ 49000 * ps ∧ 47000 * ps ≤ 10 ^ 12) →
      ∃ t, exec c s = .next t ∧ s.SameLink t ∧ t = { s with
        link := t.link
        clock := { wclk := true, monitor := .locked, count := 4800, losses := s.clock.losses, begun := 1 } } ∧
      s.Raised t .clock ("!CLOCK source=wclk state=locked event=restored losses=" ++ natText s.clock.losses)) ∧
    (s.clock.monitor ≠ .qualifying ∨ s.clock.count ≠ 4799 → exec .clockRestored s = .next s)

/-- A sample step of a reader: PLAYING with its head slot FULL it moves on one sample, wraps at a loop end, ends at the length of an
unlooped sound, and consumes the head slot after its last sample, which are the steps of the frame that outputs the word at its
position modulo 256, its output being 0 in every other case; with the head slot not FULL it stalls, its position held;
STALLED it plays again where the head slot is FULL, the stall counted; any other reader stands. FRAME takes this step on every
voice, and what it leaves of one that plays, stalls, starts or is faulted stands (R128, R129, R131, R144), after the events due and the
fade step, which are the model's choices (log 5, log 39), as it is that a stall in progress leaves `stall=` as it was (log 47). -/
def Obligations.SampleStep : Prop :=
  (∀ (s t u : State) (slots : Vector Word32 64) (pins : Vector Bool 16) (v : VoiceId), s.inReset = false →
    s.HasFrame → u = s.takeDue.fadeFrame.sampleStep (voiceReader v) → exec (.frame slots pins) s = .next t →
    ((s.takeDue.voice v).state = .playing → (u.voice v).state = .stalled →
      s.Raised t (.voice v) ("!VOICE " ++ voiceText v ++ " state=stalled")) ∧
    ((s.takeDue.voice v).state = .stalled → (u.voice v).state = .playing → s.Raised t (.voice v) " event=underrun") ∧
    ((u.voice v).state = .playing ∨ (u.voice v).state = .stalled ∨ (u.voice v).state = .starting ∨
        (u.voice v).state = .faulted ∨ ((u.voice v).state = .idle ∧ ∀ e ∈ s.takeDue.standbyPlays, e.1 ≠ v) →
      t.voice v = u.voice v)) ∧
  ∀ (s : State) (r : ReaderId) (n : SoundId) (d : Sound), (s.reader r).sound = some (n, d) →
    (s.reader r).Outputs (s.reader r).output ∧
    ((s.reader r).state ≠ .playing → (s.reader r).state ≠ .stalled → s.sampleStep r = s) ∧
    (((s.reader r).slot (s.reader r).head).isFull = false →
      ((s.reader r).state = .playing → (s.sampleStep r).reader r =
        { s.reader r with state := .stalled, stalledFor := 1 } ∧
          s.Raised (s.sampleStep r) (readerKey r) " event=stalled") ∧
      ((s.reader r).state = .stalled → (s.sampleStep r).reader r =
        { s.reader r with stalledFor := (s.reader r).stalledFor + 1 })) ∧
    (((s.reader r).slot (s.reader r).head).isFull = true →
      (s.reader r).state = .playing ∨ (s.reader r).state = .stalled →
      (d.loop = none → d.len ≤ (s.reader r).pos + 1 → ((s.sampleStep r).reader r).Idle ∧
        s.Raised (s.sampleStep r) (readerKey r) " event=end") ∧
      (d.loop ≠ none ∨ (s.reader r).pos + 1 < d.len →
        ((s.sampleStep r).reader r).state = .playing ∧
        ((s.sampleStep r).reader r).sound = some (n, d) ∧
        (∀ b e, d.loop = some (b, e) →
          ((s.sampleStep r).reader r).pos = if (s.reader r).pos + 1 = e then b else (s.reader r).pos + 1) ∧
        (d.loop = none → ((s.sampleStep r).reader r).pos = (s.reader r).pos + 1) ∧
        ((s.reader r).pos % 256 = 255 →
          ((s.sampleStep r).reader r).ring = put (s.reader r).ring (s.reader r).head .empty ∧
            ((s.sampleStep r).reader r).head = (s.reader r).head + 1) ∧
        ((s.reader r).pos % 256 ≠ 255 → ((s.sampleStep r).reader r).ring = (s.reader r).ring ∧
          ((s.sampleStep r).reader r).head = (s.reader r).head) ∧
        ((s.reader r).state = .playing → ((s.sampleStep r).reader r).underruns = (s.reader r).underruns) ∧
        ((s.reader r).state = .stalled →
          ((s.sampleStep r).reader r).stall = some ((s.reader r).stalledFor / 48) ∧
          ((s.sampleStep r).reader r).underruns = min ((s.reader r).underruns + 1) 65535 ∧
          s.Raised (s.sampleStep r) (readerKey r) " event=underrun"))) ∧
    (∀ q, q ≠ r → (s.sampleStep r).reader q = s.reader q)

/-- The counts of the instances stay those of the fades and starts they own, every owner is an instance of the table, and nothing
fires between operations, under every step (R24, R100, R108, R109, R110, R126). -/
def Obligations.OwnersKept : Prop :=
  ∀ s t : State, s.fades.PoolOk → s.OwnersOk → step s = .next t → t.OwnersOk
end

