-- ==== Sys2Proof/Laws/State.lean ====
section
/-! SUPPORT. One lemma for each field under each update of the state: what a changed block becomes, and that every other
block stands. All hold by `rfl`. -/

namespace Sys2Proof.Machine

open Sys2Proof

/-! ### `State.onLink` -/

section
variable (s : State) (f : LinkBlock → LinkBlock)

@[simp] theorem State.onLink_link : (s.onLink f).link = f s.link := rfl
@[simp] theorem State.onLink_ports : (s.onLink f).ports = s.ports := rfl
@[simp] theorem State.onLink_clock : (s.onLink f).clock = s.clock := rfl
@[simp] theorem State.onLink_matrix : (s.onLink f).matrix = s.matrix := rfl
@[simp] theorem State.onLink_fades : (s.onLink f).fades = s.fades := rfl
@[simp] theorem State.onLink_cast : (s.onLink f).cast = s.cast := rfl
@[simp] theorem State.onLink_mic : (s.onLink f).mic = s.mic := rfl
@[simp] theorem State.onLink_cues : (s.onLink f).cues = s.cues := rfl
@[simp] theorem State.onLink_engine : (s.onLink f).engine = s.engine := rfl
@[simp] theorem State.onLink_fetch : (s.onLink f).fetch = s.fetch := rfl
@[simp] theorem State.onLink_foldback : (s.onLink f).foldback = s.foldback := rfl
@[simp] theorem State.onLink_router : (s.onLink f).router = s.router := rfl
@[simp] theorem State.onLink_lines : (s.onLink f).lines = s.lines := rfl
@[simp] theorem State.onLink_inReset : (s.onLink f).inReset = s.inReset := rfl
@[simp] theorem State.onLink_now : (s.onLink f).now = s.now := rfl
@[simp] theorem State.onLink_pending : (s.onLink f).pending = s.pending := rfl

end

/-! ### `State.onPorts` -/

section
variable (s : State) (f : PortBlock → PortBlock)

@[simp] theorem State.onPorts_link : (s.onPorts f).link = s.link := rfl
@[simp] theorem State.onPorts_ports : (s.onPorts f).ports = f s.ports := rfl
@[simp] theorem State.onPorts_clock : (s.onPorts f).clock = s.clock := rfl
@[simp] theorem State.onPorts_matrix : (s.onPorts f).matrix = s.matrix := rfl
@[simp] theorem State.onPorts_fades : (s.onPorts f).fades = s.fades := rfl
@[simp] theorem State.onPorts_cast : (s.onPorts f).cast = s.cast := rfl
@[simp] theorem State.onPorts_mic : (s.onPorts f).mic = s.mic := rfl
@[simp] theorem State.onPorts_cues : (s.onPorts f).cues = s.cues := rfl
@[simp] theorem State.onPorts_engine : (s.onPorts f).engine = s.engine := rfl
@[simp] theorem State.onPorts_fetch : (s.onPorts f).fetch = s.fetch := rfl
@[simp] theorem State.onPorts_foldback : (s.onPorts f).foldback = s.foldback := rfl
@[simp] theorem State.onPorts_router : (s.onPorts f).router = s.router := rfl
@[simp] theorem State.onPorts_lines : (s.onPorts f).lines = s.lines := rfl
@[simp] theorem State.onPorts_inReset : (s.onPorts f).inReset = s.inReset := rfl
@[simp] theorem State.onPorts_now : (s.onPorts f).now = s.now := rfl
@[simp] theorem State.onPorts_pending : (s.onPorts f).pending = s.pending := rfl

end

/-! ### `State.onClock` -/

section
variable (s : State) (f : ClockBlock → ClockBlock)

@[simp] theorem State.onClock_link : (s.onClock f).link = s.link := rfl
@[simp] theorem State.onClock_ports : (s.onClock f).ports = s.ports := rfl
@[simp] theorem State.onClock_clock : (s.onClock f).clock = f s.clock := rfl
@[simp] theorem State.onClock_matrix : (s.onClock f).matrix = s.matrix := rfl
@[simp] theorem State.onClock_fades : (s.onClock f).fades = s.fades := rfl
@[simp] theorem State.onClock_cast : (s.onClock f).cast = s.cast := rfl
@[simp] theorem State.onClock_mic : (s.onClock f).mic = s.mic := rfl
@[simp] theorem State.onClock_cues : (s.onClock f).cues = s.cues := rfl
@[simp] theorem State.onClock_engine : (s.onClock f).engine = s.engine := rfl
@[simp] theorem State.onClock_fetch : (s.onClock f).fetch = s.fetch := rfl
@[simp] theorem State.onClock_foldback : (s.onClock f).foldback = s.foldback := rfl
@[simp] theorem State.onClock_router : (s.onClock f).router = s.router := rfl
@[simp] theorem State.onClock_lines : (s.onClock f).lines = s.lines := rfl
@[simp] theorem State.onClock_inReset : (s.onClock f).inReset = s.inReset := rfl
@[simp] theorem State.onClock_now : (s.onClock f).now = s.now := rfl
@[simp] theorem State.onClock_pending : (s.onClock f).pending = s.pending := rfl

end

/-! ### `State.onMatrix` -/

section
variable (s : State) (f : MatrixBlock → MatrixBlock)

@[simp] theorem State.onMatrix_link : (s.onMatrix f).link = s.link := rfl
@[simp] theorem State.onMatrix_ports : (s.onMatrix f).ports = s.ports := rfl
@[simp] theorem State.onMatrix_clock : (s.onMatrix f).clock = s.clock := rfl
@[simp] theorem State.onMatrix_matrix : (s.onMatrix f).matrix = f s.matrix := rfl
@[simp] theorem State.onMatrix_fades : (s.onMatrix f).fades = s.fades := rfl
@[simp] theorem State.onMatrix_cast : (s.onMatrix f).cast = s.cast := rfl
@[simp] theorem State.onMatrix_mic : (s.onMatrix f).mic = s.mic := rfl
@[simp] theorem State.onMatrix_cues : (s.onMatrix f).cues = s.cues := rfl
@[simp] theorem State.onMatrix_engine : (s.onMatrix f).engine = s.engine := rfl
@[simp] theorem State.onMatrix_fetch : (s.onMatrix f).fetch = s.fetch := rfl
@[simp] theorem State.onMatrix_foldback : (s.onMatrix f).foldback = s.foldback := rfl
@[simp] theorem State.onMatrix_router : (s.onMatrix f).router = s.router := rfl
@[simp] theorem State.onMatrix_lines : (s.onMatrix f).lines = s.lines := rfl
@[simp] theorem State.onMatrix_inReset : (s.onMatrix f).inReset = s.inReset := rfl
@[simp] theorem State.onMatrix_now : (s.onMatrix f).now = s.now := rfl
@[simp] theorem State.onMatrix_pending : (s.onMatrix f).pending = s.pending := rfl

end

/-! ### `State.onFades` -/

section
variable (s : State) (f : FadeBlock → FadeBlock)

@[simp] theorem State.onFades_link : (s.onFades f).link = s.link := rfl
@[simp] theorem State.onFades_ports : (s.onFades f).ports = s.ports := rfl
@[simp] theorem State.onFades_clock : (s.onFades f).clock = s.clock := rfl
@[simp] theorem State.onFades_matrix : (s.onFades f).matrix = s.matrix := rfl
@[simp] theorem State.onFades_fades : (s.onFades f).fades = f s.fades := rfl
@[simp] theorem State.onFades_cast : (s.onFades f).cast = s.cast := rfl
@[simp] theorem State.onFades_mic : (s.onFades f).mic = s.mic := rfl
@[simp] theorem State.onFades_cues : (s.onFades f).cues = s.cues := rfl
@[simp] theorem State.onFades_engine : (s.onFades f).engine = s.engine := rfl
@[simp] theorem State.onFades_fetch : (s.onFades f).fetch = s.fetch := rfl
@[simp] theorem State.onFades_foldback : (s.onFades f).foldback = s.foldback := rfl
@[simp] theorem State.onFades_router : (s.onFades f).router = s.router := rfl
@[simp] theorem State.onFades_lines : (s.onFades f).lines = s.lines := rfl
@[simp] theorem State.onFades_inReset : (s.onFades f).inReset = s.inReset := rfl
@[simp] theorem State.onFades_now : (s.onFades f).now = s.now := rfl
@[simp] theorem State.onFades_pending : (s.onFades f).pending = s.pending := rfl

end

/-! ### `State.onCast` -/

section
variable (s : State) (f : CastBlock → CastBlock)

@[simp] theorem State.onCast_link : (s.onCast f).link = s.link := rfl
@[simp] theorem State.onCast_ports : (s.onCast f).ports = s.ports := rfl
@[simp] theorem State.onCast_clock : (s.onCast f).clock = s.clock := rfl
@[simp] theorem State.onCast_matrix : (s.onCast f).matrix = s.matrix := rfl
@[simp] theorem State.onCast_fades : (s.onCast f).fades = s.fades := rfl
@[simp] theorem State.onCast_cast : (s.onCast f).cast = f s.cast := rfl
@[simp] theorem State.onCast_mic : (s.onCast f).mic = s.mic := rfl
@[simp] theorem State.onCast_cues : (s.onCast f).cues = s.cues := rfl
@[simp] theorem State.onCast_engine : (s.onCast f).engine = s.engine := rfl
@[simp] theorem State.onCast_fetch : (s.onCast f).fetch = s.fetch := rfl
@[simp] theorem State.onCast_foldback : (s.onCast f).foldback = s.foldback := rfl
@[simp] theorem State.onCast_router : (s.onCast f).router = s.router := rfl
@[simp] theorem State.onCast_lines : (s.onCast f).lines = s.lines := rfl
@[simp] theorem State.onCast_inReset : (s.onCast f).inReset = s.inReset := rfl
@[simp] theorem State.onCast_now : (s.onCast f).now = s.now := rfl
@[simp] theorem State.onCast_pending : (s.onCast f).pending = s.pending := rfl

end

/-! ### `State.onMic` -/

section
variable (s : State) (f : MicBlock → MicBlock)

@[simp] theorem State.onMic_link : (s.onMic f).link = s.link := rfl
@[simp] theorem State.onMic_ports : (s.onMic f).ports = s.ports := rfl
@[simp] theorem State.onMic_clock : (s.onMic f).clock = s.clock := rfl
@[simp] theorem State.onMic_matrix : (s.onMic f).matrix = s.matrix := rfl
@[simp] theorem State.onMic_fades : (s.onMic f).fades = s.fades := rfl
@[simp] theorem State.onMic_cast : (s.onMic f).cast = s.cast := rfl
@[simp] theorem State.onMic_mic : (s.onMic f).mic = f s.mic := rfl
@[simp] theorem State.onMic_cues : (s.onMic f).cues = s.cues := rfl
@[simp] theorem State.onMic_engine : (s.onMic f).engine = s.engine := rfl
@[simp] theorem State.onMic_fetch : (s.onMic f).fetch = s.fetch := rfl
@[simp] theorem State.onMic_foldback : (s.onMic f).foldback = s.foldback := rfl
@[simp] theorem State.onMic_router : (s.onMic f).router = s.router := rfl
@[simp] theorem State.onMic_lines : (s.onMic f).lines = s.lines := rfl
@[simp] theorem State.onMic_inReset : (s.onMic f).inReset = s.inReset := rfl
@[simp] theorem State.onMic_now : (s.onMic f).now = s.now := rfl
@[simp] theorem State.onMic_pending : (s.onMic f).pending = s.pending := rfl

end

/-! ### `State.onCues` -/

section
variable (s : State) (f : List Cue → List Cue)

@[simp] theorem State.onCues_link : (s.onCues f).link = s.link := rfl
@[simp] theorem State.onCues_ports : (s.onCues f).ports = s.ports := rfl
@[simp] theorem State.onCues_clock : (s.onCues f).clock = s.clock := rfl
@[simp] theorem State.onCues_matrix : (s.onCues f).matrix = s.matrix := rfl
@[simp] theorem State.onCues_fades : (s.onCues f).fades = s.fades := rfl
@[simp] theorem State.onCues_cast : (s.onCues f).cast = s.cast := rfl
@[simp] theorem State.onCues_mic : (s.onCues f).mic = s.mic := rfl
@[simp] theorem State.onCues_cues : (s.onCues f).cues = f s.cues := rfl
@[simp] theorem State.onCues_engine : (s.onCues f).engine = s.engine := rfl
@[simp] theorem State.onCues_fetch : (s.onCues f).fetch = s.fetch := rfl
@[simp] theorem State.onCues_foldback : (s.onCues f).foldback = s.foldback := rfl
@[simp] theorem State.onCues_router : (s.onCues f).router = s.router := rfl
@[simp] theorem State.onCues_lines : (s.onCues f).lines = s.lines := rfl
@[simp] theorem State.onCues_inReset : (s.onCues f).inReset = s.inReset := rfl
@[simp] theorem State.onCues_now : (s.onCues f).now = s.now := rfl
@[simp] theorem State.onCues_pending : (s.onCues f).pending = s.pending := rfl

end

/-! ### `State.onEngine` -/

section
variable (s : State) (f : EngineBlock → EngineBlock)

@[simp] theorem State.onEngine_link : (s.onEngine f).link = s.link := rfl
@[simp] theorem State.onEngine_ports : (s.onEngine f).ports = s.ports := rfl
@[simp] theorem State.onEngine_clock : (s.onEngine f).clock = s.clock := rfl
@[simp] theorem State.onEngine_matrix : (s.onEngine f).matrix = s.matrix := rfl
@[simp] theorem State.onEngine_fades : (s.onEngine f).fades = s.fades := rfl
@[simp] theorem State.onEngine_cast : (s.onEngine f).cast = s.cast := rfl
@[simp] theorem State.onEngine_mic : (s.onEngine f).mic = s.mic := rfl
@[simp] theorem State.onEngine_cues : (s.onEngine f).cues = s.cues := rfl
@[simp] theorem State.onEngine_engine : (s.onEngine f).engine = f s.engine := rfl
@[simp] theorem State.onEngine_fetch : (s.onEngine f).fetch = s.fetch := rfl
@[simp] theorem State.onEngine_foldback : (s.onEngine f).foldback = s.foldback := rfl
@[simp] theorem State.onEngine_router : (s.onEngine f).router = s.router := rfl
@[simp] theorem State.onEngine_lines : (s.onEngine f).lines = s.lines := rfl
@[simp] theorem State.onEngine_inReset : (s.onEngine f).inReset = s.inReset := rfl
@[simp] theorem State.onEngine_now : (s.onEngine f).now = s.now := rfl
@[simp] theorem State.onEngine_pending : (s.onEngine f).pending = s.pending := rfl

end

/-! ### `State.onFetch` -/

section
variable (s : State) (f : FetchBlock → FetchBlock)

@[simp] theorem State.onFetch_link : (s.onFetch f).link = s.link := rfl
@[simp] theorem State.onFetch_ports : (s.onFetch f).ports = s.ports := rfl
@[simp] theorem State.onFetch_clock : (s.onFetch f).clock = s.clock := rfl
@[simp] theorem State.onFetch_matrix : (s.onFetch f).matrix = s.matrix := rfl
@[simp] theorem State.onFetch_fades : (s.onFetch f).fades = s.fades := rfl
@[simp] theorem State.onFetch_cast : (s.onFetch f).cast = s.cast := rfl
@[simp] theorem State.onFetch_mic : (s.onFetch f).mic = s.mic := rfl
@[simp] theorem State.onFetch_cues : (s.onFetch f).cues = s.cues := rfl
@[simp] theorem State.onFetch_engine : (s.onFetch f).engine = s.engine := rfl
@[simp] theorem State.onFetch_fetch : (s.onFetch f).fetch = f s.fetch := rfl
@[simp] theorem State.onFetch_foldback : (s.onFetch f).foldback = s.foldback := rfl
@[simp] theorem State.onFetch_router : (s.onFetch f).router = s.router := rfl
@[simp] theorem State.onFetch_lines : (s.onFetch f).lines = s.lines := rfl
@[simp] theorem State.onFetch_inReset : (s.onFetch f).inReset = s.inReset := rfl
@[simp] theorem State.onFetch_now : (s.onFetch f).now = s.now := rfl
@[simp] theorem State.onFetch_pending : (s.onFetch f).pending = s.pending := rfl

end

/-! ### `State.onFoldback` -/

section
variable (s : State) (f : FoldbackBlock → FoldbackBlock)

@[simp] theorem State.onFoldback_link : (s.onFoldback f).link = s.link := rfl
@[simp] theorem State.onFoldback_ports : (s.onFoldback f).ports = s.ports := rfl
@[simp] theorem State.onFoldback_clock : (s.onFoldback f).clock = s.clock := rfl
@[simp] theorem State.onFoldback_matrix : (s.onFoldback f).matrix = s.matrix := rfl
@[simp] theorem State.onFoldback_fades : (s.onFoldback f).fades = s.fades := rfl
@[simp] theorem State.onFoldback_cast : (s.onFoldback f).cast = s.cast := rfl
@[simp] theorem State.onFoldback_mic : (s.onFoldback f).mic = s.mic := rfl
@[simp] theorem State.onFoldback_cues : (s.onFoldback f).cues = s.cues := rfl
@[simp] theorem State.onFoldback_engine : (s.onFoldback f).engine = s.engine := rfl
@[simp] theorem State.onFoldback_fetch : (s.onFoldback f).fetch = s.fetch := rfl
@[simp] theorem State.onFoldback_foldback : (s.onFoldback f).foldback = f s.foldback := rfl
@[simp] theorem State.onFoldback_router : (s.onFoldback f).router = s.router := rfl
@[simp] theorem State.onFoldback_lines : (s.onFoldback f).lines = s.lines := rfl
@[simp] theorem State.onFoldback_inReset : (s.onFoldback f).inReset = s.inReset := rfl
@[simp] theorem State.onFoldback_now : (s.onFoldback f).now = s.now := rfl
@[simp] theorem State.onFoldback_pending : (s.onFoldback f).pending = s.pending := rfl

end

/-! ### `State.onRouter` -/

section
variable (s : State) (f : RouterBlock → RouterBlock)

@[simp] theorem State.onRouter_link : (s.onRouter f).link = s.link := rfl
@[simp] theorem State.onRouter_ports : (s.onRouter f).ports = s.ports := rfl
@[simp] theorem State.onRouter_clock : (s.onRouter f).clock = s.clock := rfl
@[simp] theorem State.onRouter_matrix : (s.onRouter f).matrix = s.matrix := rfl
@[simp] theorem State.onRouter_fades : (s.onRouter f).fades = s.fades := rfl
@[simp] theorem State.onRouter_cast : (s.onRouter f).cast = s.cast := rfl
@[simp] theorem State.onRouter_mic : (s.onRouter f).mic = s.mic := rfl
@[simp] theorem State.onRouter_cues : (s.onRouter f).cues = s.cues := rfl
@[simp] theorem State.onRouter_engine : (s.onRouter f).engine = s.engine := rfl
@[simp] theorem State.onRouter_fetch : (s.onRouter f).fetch = s.fetch := rfl
@[simp] theorem State.onRouter_foldback : (s.onRouter f).foldback = s.foldback := rfl
@[simp] theorem State.onRouter_router : (s.onRouter f).router = f s.router := rfl
@[simp] theorem State.onRouter_lines : (s.onRouter f).lines = s.lines := rfl
@[simp] theorem State.onRouter_inReset : (s.onRouter f).inReset = s.inReset := rfl
@[simp] theorem State.onRouter_now : (s.onRouter f).now = s.now := rfl
@[simp] theorem State.onRouter_pending : (s.onRouter f).pending = s.pending := rfl

end

/-! ### `State.onLines` -/

section
variable (s : State) (f : LineBlock → LineBlock)

@[simp] theorem State.onLines_link : (s.onLines f).link = s.link := rfl
@[simp] theorem State.onLines_ports : (s.onLines f).ports = s.ports := rfl
@[simp] theorem State.onLines_clock : (s.onLines f).clock = s.clock := rfl
@[simp] theorem State.onLines_matrix : (s.onLines f).matrix = s.matrix := rfl
@[simp] theorem State.onLines_fades : (s.onLines f).fades = s.fades := rfl
@[simp] theorem State.onLines_cast : (s.onLines f).cast = s.cast := rfl
@[simp] theorem State.onLines_mic : (s.onLines f).mic = s.mic := rfl
@[simp] theorem State.onLines_cues : (s.onLines f).cues = s.cues := rfl
@[simp] theorem State.onLines_engine : (s.onLines f).engine = s.engine := rfl
@[simp] theorem State.onLines_fetch : (s.onLines f).fetch = s.fetch := rfl
@[simp] theorem State.onLines_foldback : (s.onLines f).foldback = s.foldback := rfl
@[simp] theorem State.onLines_router : (s.onLines f).router = s.router := rfl
@[simp] theorem State.onLines_lines : (s.onLines f).lines = f s.lines := rfl
@[simp] theorem State.onLines_inReset : (s.onLines f).inReset = s.inReset := rfl
@[simp] theorem State.onLines_now : (s.onLines f).now = s.now := rfl
@[simp] theorem State.onLines_pending : (s.onLines f).pending = s.pending := rfl

end

/-! ### `State.onReader` -/

section
variable (s : State) (r : ReaderId) (f : Reader → Reader)

@[simp] theorem State.onReader_link : (s.onReader r f).link = s.link := rfl
@[simp] theorem State.onReader_ports : (s.onReader r f).ports = s.ports := rfl
@[simp] theorem State.onReader_clock : (s.onReader r f).clock = s.clock := rfl
@[simp] theorem State.onReader_matrix : (s.onReader r f).matrix = s.matrix := rfl
@[simp] theorem State.onReader_fades : (s.onReader r f).fades = s.fades := rfl
@[simp] theorem State.onReader_cast : (s.onReader r f).cast = s.cast := rfl
@[simp] theorem State.onReader_mic : (s.onReader r f).mic = s.mic := rfl
@[simp] theorem State.onReader_cues : (s.onReader r f).cues = s.cues := rfl
@[simp] theorem State.onReader_engine : (s.onReader r f).engine = s.engine := rfl
@[simp] theorem State.onReader_foldback : (s.onReader r f).foldback = s.foldback := rfl
@[simp] theorem State.onReader_router : (s.onReader r f).router = s.router := rfl
@[simp] theorem State.onReader_lines : (s.onReader r f).lines = s.lines := rfl
@[simp] theorem State.onReader_inReset : (s.onReader r f).inReset = s.inReset := rfl
@[simp] theorem State.onReader_now : (s.onReader r f).now = s.now := rfl
@[simp] theorem State.onReader_pending : (s.onReader r f).pending = s.pending := rfl

end

/-! ### `State.onVoice` -/

section
variable (s : State) (v : VoiceId) (f : Reader → Reader)

@[simp] theorem State.onVoice_link : (s.onVoice v f).link = s.link := rfl
@[simp] theorem State.onVoice_ports : (s.onVoice v f).ports = s.ports := rfl
@[simp] theorem State.onVoice_clock : (s.onVoice v f).clock = s.clock := rfl
@[simp] theorem State.onVoice_matrix : (s.onVoice v f).matrix = s.matrix := rfl
@[simp] theorem State.onVoice_fades : (s.onVoice v f).fades = s.fades := rfl
@[simp] theorem State.onVoice_cast : (s.onVoice v f).cast = s.cast := rfl
@[simp] theorem State.onVoice_mic : (s.onVoice v f).mic = s.mic := rfl
@[simp] theorem State.onVoice_cues : (s.onVoice v f).cues = s.cues := rfl
@[simp] theorem State.onVoice_engine : (s.onVoice v f).engine = s.engine := rfl
@[simp] theorem State.onVoice_foldback : (s.onVoice v f).foldback = s.foldback := rfl
@[simp] theorem State.onVoice_router : (s.onVoice v f).router = s.router := rfl
@[simp] theorem State.onVoice_lines : (s.onVoice v f).lines = s.lines := rfl
@[simp] theorem State.onVoice_inReset : (s.onVoice v f).inReset = s.inReset := rfl
@[simp] theorem State.onVoice_now : (s.onVoice v f).now = s.now := rfl
@[simp] theorem State.onVoice_pending : (s.onVoice v f).pending = s.pending := rfl

end

/-! ### `State.onRole` -/

section
variable (s : State) (r : RoleId) (f : Role → Role)

@[simp] theorem State.onRole_link : (s.onRole r f).link = s.link := rfl
@[simp] theorem State.onRole_ports : (s.onRole r f).ports = s.ports := rfl
@[simp] theorem State.onRole_clock : (s.onRole r f).clock = s.clock := rfl
@[simp] theorem State.onRole_matrix : (s.onRole r f).matrix = s.matrix := rfl
@[simp] theorem State.onRole_fades : (s.onRole r f).fades = s.fades := rfl
@[simp] theorem State.onRole_mic : (s.onRole r f).mic = s.mic := rfl
@[simp] theorem State.onRole_cues : (s.onRole r f).cues = s.cues := rfl
@[simp] theorem State.onRole_engine : (s.onRole r f).engine = s.engine := rfl
@[simp] theorem State.onRole_fetch : (s.onRole r f).fetch = s.fetch := rfl
@[simp] theorem State.onRole_foldback : (s.onRole r f).foldback = s.foldback := rfl
@[simp] theorem State.onRole_router : (s.onRole r f).router = s.router := rfl
@[simp] theorem State.onRole_lines : (s.onRole r f).lines = s.lines := rfl
@[simp] theorem State.onRole_inReset : (s.onRole r f).inReset = s.inReset := rfl
@[simp] theorem State.onRole_now : (s.onRole r f).now = s.now := rfl
@[simp] theorem State.onRole_pending : (s.onRole r f).pending = s.pending := rfl

end

/-! ### `State.onPerf` -/

section
variable (s : State) (p : PerfId) (f : Perf → Perf)

@[simp] theorem State.onPerf_link : (s.onPerf p f).link = s.link := rfl
@[simp] theorem State.onPerf_ports : (s.onPerf p f).ports = s.ports := rfl
@[simp] theorem State.onPerf_clock : (s.onPerf p f).clock = s.clock := rfl
@[simp] theorem State.onPerf_matrix : (s.onPerf p f).matrix = s.matrix := rfl
@[simp] theorem State.onPerf_fades : (s.onPerf p f).fades = s.fades := rfl
@[simp] theorem State.onPerf_mic : (s.onPerf p f).mic = s.mic := rfl
@[simp] theorem State.onPerf_cues : (s.onPerf p f).cues = s.cues := rfl
@[simp] theorem State.onPerf_engine : (s.onPerf p f).engine = s.engine := rfl
@[simp] theorem State.onPerf_fetch : (s.onPerf p f).fetch = s.fetch := rfl
@[simp] theorem State.onPerf_foldback : (s.onPerf p f).foldback = s.foldback := rfl
@[simp] theorem State.onPerf_router : (s.onPerf p f).router = s.router := rfl
@[simp] theorem State.onPerf_lines : (s.onPerf p f).lines = s.lines := rfl
@[simp] theorem State.onPerf_inReset : (s.onPerf p f).inReset = s.inReset := rfl
@[simp] theorem State.onPerf_now : (s.onPerf p f).now = s.now := rfl
@[simp] theorem State.onPerf_pending : (s.onPerf p f).pending = s.pending := rfl

end

/-! ### `State.setHealth` -/

section
variable (s : State) (i : InputId) (h : Option HealthRec)

@[simp] theorem State.setHealth_link : (s.setHealth i h).link = s.link := rfl
@[simp] theorem State.setHealth_ports : (s.setHealth i h).ports = s.ports := rfl
@[simp] theorem State.setHealth_clock : (s.setHealth i h).clock = s.clock := rfl
@[simp] theorem State.setHealth_matrix : (s.setHealth i h).matrix = s.matrix := rfl
@[simp] theorem State.setHealth_fades : (s.setHealth i h).fades = s.fades := rfl
@[simp] theorem State.setHealth_cast : (s.setHealth i h).cast = s.cast := rfl
@[simp] theorem State.setHealth_cues : (s.setHealth i h).cues = s.cues := rfl
@[simp] theorem State.setHealth_engine : (s.setHealth i h).engine = s.engine := rfl
@[simp] theorem State.setHealth_fetch : (s.setHealth i h).fetch = s.fetch := rfl
@[simp] theorem State.setHealth_foldback : (s.setHealth i h).foldback = s.foldback := rfl
@[simp] theorem State.setHealth_router : (s.setHealth i h).router = s.router := rfl
@[simp] theorem State.setHealth_lines : (s.setHealth i h).lines = s.lines := rfl
@[simp] theorem State.setHealth_inReset : (s.setHealth i h).inReset = s.inReset := rfl
@[simp] theorem State.setHealth_now : (s.setHealth i h).now = s.now := rfl
@[simp] theorem State.setHealth_pending : (s.setHealth i h).pending = s.pending := rfl

end

/-! ### `State.onTlm` -/

section
variable (s : State) (f : Telemetry → Telemetry)

@[simp] theorem State.onTlm_link : (s.onTlm f).link = s.link := rfl
@[simp] theorem State.onTlm_ports : (s.onTlm f).ports = s.ports := rfl
@[simp] theorem State.onTlm_clock : (s.onTlm f).clock = s.clock := rfl
@[simp] theorem State.onTlm_matrix : (s.onTlm f).matrix = s.matrix := rfl
@[simp] theorem State.onTlm_fades : (s.onTlm f).fades = s.fades := rfl
@[simp] theorem State.onTlm_cast : (s.onTlm f).cast = s.cast := rfl
@[simp] theorem State.onTlm_cues : (s.onTlm f).cues = s.cues := rfl
@[simp] theorem State.onTlm_engine : (s.onTlm f).engine = s.engine := rfl
@[simp] theorem State.onTlm_fetch : (s.onTlm f).fetch = s.fetch := rfl
@[simp] theorem State.onTlm_foldback : (s.onTlm f).foldback = s.foldback := rfl
@[simp] theorem State.onTlm_router : (s.onTlm f).router = s.router := rfl
@[simp] theorem State.onTlm_lines : (s.onTlm f).lines = s.lines := rfl
@[simp] theorem State.onTlm_inReset : (s.onTlm f).inReset = s.inReset := rfl
@[simp] theorem State.onTlm_now : (s.onTlm f).now = s.now := rfl
@[simp] theorem State.onTlm_pending : (s.onTlm f).pending = s.pending := rfl

end

/-! ### `State.onBus` -/

section
variable (s : State) (k : FbId) (f : FbBus → FbBus)

@[simp] theorem State.onBus_link : (s.onBus k f).link = s.link := rfl
@[simp] theorem State.onBus_ports : (s.onBus k f).ports = s.ports := rfl
@[simp] theorem State.onBus_clock : (s.onBus k f).clock = s.clock := rfl
@[simp] theorem State.onBus_matrix : (s.onBus k f).matrix = s.matrix := rfl
@[simp] theorem State.onBus_fades : (s.onBus k f).fades = s.fades := rfl
@[simp] theorem State.onBus_cast : (s.onBus k f).cast = s.cast := rfl
@[simp] theorem State.onBus_mic : (s.onBus k f).mic = s.mic := rfl
@[simp] theorem State.onBus_cues : (s.onBus k f).cues = s.cues := rfl
@[simp] theorem State.onBus_engine : (s.onBus k f).engine = s.engine := rfl
@[simp] theorem State.onBus_fetch : (s.onBus k f).fetch = s.fetch := rfl
@[simp] theorem State.onBus_router : (s.onBus k f).router = s.router := rfl
@[simp] theorem State.onBus_lines : (s.onBus k f).lines = s.lines := rfl
@[simp] theorem State.onBus_inReset : (s.onBus k f).inReset = s.inReset := rfl
@[simp] theorem State.onBus_now : (s.onBus k f).now = s.now := rfl
@[simp] theorem State.onBus_pending : (s.onBus k f).pending = s.pending := rfl

end

/-! ### `State.onZone` -/

section
variable (s : State) (z : ZoneId) (f : Zone → Zone)

@[simp] theorem State.onZone_link : (s.onZone z f).link = s.link := rfl
@[simp] theorem State.onZone_ports : (s.onZone z f).ports = s.ports := rfl
@[simp] theorem State.onZone_clock : (s.onZone z f).clock = s.clock := rfl
@[simp] theorem State.onZone_matrix : (s.onZone z f).matrix = s.matrix := rfl
@[simp] theorem State.onZone_fades : (s.onZone z f).fades = s.fades := rfl
@[simp] theorem State.onZone_cast : (s.onZone z f).cast = s.cast := rfl
@[simp] theorem State.onZone_mic : (s.onZone z f).mic = s.mic := rfl
@[simp] theorem State.onZone_cues : (s.onZone z f).cues = s.cues := rfl
@[simp] theorem State.onZone_engine : (s.onZone z f).engine = s.engine := rfl
@[simp] theorem State.onZone_fetch : (s.onZone z f).fetch = s.fetch := rfl
@[simp] theorem State.onZone_foldback : (s.onZone z f).foldback = s.foldback := rfl
@[simp] theorem State.onZone_lines : (s.onZone z f).lines = s.lines := rfl
@[simp] theorem State.onZone_inReset : (s.onZone z f).inReset = s.inReset := rfl
@[simp] theorem State.onZone_now : (s.onZone z f).now = s.now := rfl
@[simp] theorem State.onZone_pending : (s.onZone z f).pending = s.pending := rfl

end

/-! ### `State.onLine` -/

section
variable (s : State) (n : LineId) (f : LineRec → LineRec)

@[simp] theorem State.onLine_link : (s.onLine n f).link = s.link := rfl
@[simp] theorem State.onLine_ports : (s.onLine n f).ports = s.ports := rfl
@[simp] theorem State.onLine_clock : (s.onLine n f).clock = s.clock := rfl
@[simp] theorem State.onLine_matrix : (s.onLine n f).matrix = s.matrix := rfl
@[simp] theorem State.onLine_fades : (s.onLine n f).fades = s.fades := rfl
@[simp] theorem State.onLine_cast : (s.onLine n f).cast = s.cast := rfl
@[simp] theorem State.onLine_mic : (s.onLine n f).mic = s.mic := rfl
@[simp] theorem State.onLine_cues : (s.onLine n f).cues = s.cues := rfl
@[simp] theorem State.onLine_engine : (s.onLine n f).engine = s.engine := rfl
@[simp] theorem State.onLine_fetch : (s.onLine n f).fetch = s.fetch := rfl
@[simp] theorem State.onLine_foldback : (s.onLine n f).foldback = s.foldback := rfl
@[simp] theorem State.onLine_router : (s.onLine n f).router = s.router := rfl
@[simp] theorem State.onLine_inReset : (s.onLine n f).inReset = s.inReset := rfl
@[simp] theorem State.onLine_now : (s.onLine n f).now = s.now := rfl
@[simp] theorem State.onLine_pending : (s.onLine n f).pending = s.pending := rfl

end

/-! ### `State.setXpt` -/

section
variable (s : State) (row : Row) (bus : Bus) (c : LevelCode)

@[simp] theorem State.setXpt_link : (s.setXpt row bus c).link = s.link := rfl
@[simp] theorem State.setXpt_ports : (s.setXpt row bus c).ports = s.ports := rfl
@[simp] theorem State.setXpt_clock : (s.setXpt row bus c).clock = s.clock := rfl
@[simp] theorem State.setXpt_fades : (s.setXpt row bus c).fades = s.fades := rfl
@[simp] theorem State.setXpt_cast : (s.setXpt row bus c).cast = s.cast := rfl
@[simp] theorem State.setXpt_mic : (s.setXpt row bus c).mic = s.mic := rfl
@[simp] theorem State.setXpt_cues : (s.setXpt row bus c).cues = s.cues := rfl
@[simp] theorem State.setXpt_engine : (s.setXpt row bus c).engine = s.engine := rfl
@[simp] theorem State.setXpt_fetch : (s.setXpt row bus c).fetch = s.fetch := rfl
@[simp] theorem State.setXpt_foldback : (s.setXpt row bus c).foldback = s.foldback := rfl
@[simp] theorem State.setXpt_router : (s.setXpt row bus c).router = s.router := rfl
@[simp] theorem State.setXpt_lines : (s.setXpt row bus c).lines = s.lines := rfl
@[simp] theorem State.setXpt_inReset : (s.setXpt row bus c).inReset = s.inReset := rfl
@[simp] theorem State.setXpt_now : (s.setXpt row bus c).now = s.now := rfl
@[simp] theorem State.setXpt_pending : (s.setXpt row bus c).pending = s.pending := rfl

end

/-! ### `State.setClip` -/

section
variable (s : State) (bus : Bus) (c : Clip)

@[simp] theorem State.setClip_link : (s.setClip bus c).link = s.link := rfl
@[simp] theorem State.setClip_ports : (s.setClip bus c).ports = s.ports := rfl
@[simp] theorem State.setClip_clock : (s.setClip bus c).clock = s.clock := rfl
@[simp] theorem State.setClip_fades : (s.setClip bus c).fades = s.fades := rfl
@[simp] theorem State.setClip_cast : (s.setClip bus c).cast = s.cast := rfl
@[simp] theorem State.setClip_mic : (s.setClip bus c).mic = s.mic := rfl
@[simp] theorem State.setClip_cues : (s.setClip bus c).cues = s.cues := rfl
@[simp] theorem State.setClip_engine : (s.setClip bus c).engine = s.engine := rfl
@[simp] theorem State.setClip_fetch : (s.setClip bus c).fetch = s.fetch := rfl
@[simp] theorem State.setClip_foldback : (s.setClip bus c).foldback = s.foldback := rfl
@[simp] theorem State.setClip_router : (s.setClip bus c).router = s.router := rfl
@[simp] theorem State.setClip_lines : (s.setClip bus c).lines = s.lines := rfl
@[simp] theorem State.setClip_inReset : (s.setClip bus c).inReset = s.inReset := rfl
@[simp] theorem State.setClip_now : (s.setClip bus c).now = s.now := rfl
@[simp] theorem State.setClip_pending : (s.setClip bus c).pending = s.pending := rfl

end

/-! ### `State.setTag` -/

section
variable (s : State) (t : TagId) (x : StoreTag)

@[simp] theorem State.setTag_link : (s.setTag t x).link = s.link := rfl
@[simp] theorem State.setTag_ports : (s.setTag t x).ports = s.ports := rfl
@[simp] theorem State.setTag_clock : (s.setTag t x).clock = s.clock := rfl
@[simp] theorem State.setTag_matrix : (s.setTag t x).matrix = s.matrix := rfl
@[simp] theorem State.setTag_fades : (s.setTag t x).fades = s.fades := rfl
@[simp] theorem State.setTag_cast : (s.setTag t x).cast = s.cast := rfl
@[simp] theorem State.setTag_mic : (s.setTag t x).mic = s.mic := rfl
@[simp] theorem State.setTag_cues : (s.setTag t x).cues = s.cues := rfl
@[simp] theorem State.setTag_engine : (s.setTag t x).engine = s.engine := rfl
@[simp] theorem State.setTag_foldback : (s.setTag t x).foldback = s.foldback := rfl
@[simp] theorem State.setTag_router : (s.setTag t x).router = s.router := rfl
@[simp] theorem State.setTag_lines : (s.setTag t x).lines = s.lines := rfl
@[simp] theorem State.setTag_inReset : (s.setTag t x).inReset = s.inReset := rfl
@[simp] theorem State.setTag_now : (s.setTag t x).now = s.now := rfl
@[simp] theorem State.setTag_pending : (s.setTag t x).pending = s.pending := rfl

end

/-! ### `State.placeReply` -/

section
variable (s : State) (tag : Tag) (text : String)

@[simp] theorem State.placeReply_ports : (s.placeReply tag text).ports = s.ports := rfl
@[simp] theorem State.placeReply_clock : (s.placeReply tag text).clock = s.clock := rfl
@[simp] theorem State.placeReply_matrix : (s.placeReply tag text).matrix = s.matrix := rfl
@[simp] theorem State.placeReply_fades : (s.placeReply tag text).fades = s.fades := rfl
@[simp] theorem State.placeReply_cast : (s.placeReply tag text).cast = s.cast := rfl
@[simp] theorem State.placeReply_mic : (s.placeReply tag text).mic = s.mic := rfl
@[simp] theorem State.placeReply_cues : (s.placeReply tag text).cues = s.cues := rfl
@[simp] theorem State.placeReply_engine : (s.placeReply tag text).engine = s.engine := rfl
@[simp] theorem State.placeReply_fetch : (s.placeReply tag text).fetch = s.fetch := rfl
@[simp] theorem State.placeReply_foldback : (s.placeReply tag text).foldback = s.foldback := rfl
@[simp] theorem State.placeReply_router : (s.placeReply tag text).router = s.router := rfl
@[simp] theorem State.placeReply_lines : (s.placeReply tag text).lines = s.lines := rfl
@[simp] theorem State.placeReply_inReset : (s.placeReply tag text).inReset = s.inReset := rfl
@[simp] theorem State.placeReply_now : (s.placeReply tag text).now = s.now := rfl
@[simp] theorem State.placeReply_pending : (s.placeReply tag text).pending = s.pending := rfl

end

end Sys2Proof.Machine
end

