-- ==== Sys2Proof/Laws/Ops.lean ====
section
/-! SUPPORT. What the shared operations over tables, records and the report set do: read after write, and the blocks a raised
report leaves as they stand. -/

namespace Sys2Proof.Machine

open Sys2Proof

/-! ## Tables -/

section
variable {n : Nat} {α : Type} (v : Vector α n) (i j : Fin n) (a : α) (f : α → α)

@[simp] theorem get_put_same : (put v i a).get i = a := by simp [put, Vector.get_eq_getElem]

theorem get_put_ne (h : i ≠ j) : (put v i a).get j = v.get j := by
  have : i.val ≠ j.val := fun e => h (Fin.ext e)
  simp only [put, Vector.get_eq_getElem]
  exact Vector.getElem_set_ne _ _ this

theorem get_put : (put v i a).get j = if i = j then a else v.get j := by
  by_cases h : i = j
  · subst h; simp
  · simp [h, get_put_ne v i j a h]

theorem update_eq_put : update v i f = put v i (f (v.get i)) := rfl

@[simp] theorem get_update_same : (update v i f).get i = f (v.get i) := by rw [update_eq_put]; simp

theorem get_update_ne (h : i ≠ j) : (update v i f).get j = v.get j := by
  rw [update_eq_put]; exact get_put_ne _ _ _ _ h

theorem get_update : (update v i f).get j = if i = j then f (v.get i) else v.get j := by
  rw [update_eq_put]; exact get_put _ _ _ _

theorem get_map {β : Type} (g : α → β) : (v.map g).get i = g (v.get i) := by simp [Vector.get_eq_getElem]

end

/-! ## Records -/

section
variable (s : State)

theorem reader_onReader (r q : ReaderId) (f : Reader → Reader) :
    (s.onReader r f).reader q = if r = q then f (s.reader r) else s.reader q := get_update _ _ _ _

theorem role_onRole (r q : RoleId) (f : Role → Role) :
    (s.onRole r f).role q = if r = q then f (s.role r) else s.role q := get_update _ _ _ _

theorem perf_onPerf (p q : PerfId) (f : Perf → Perf) :
    (s.onPerf p f).perf q = if p = q then f (s.perf p) else s.perf q := get_update _ _ _ _

theorem bus_onBus (k q : FbId) (f : FbBus → FbBus) :
    (s.onBus k f).bus q = if k = q then f (s.bus k) else s.bus q := get_update _ _ _ _

theorem zone_onZone (z q : ZoneId) (f : Zone → Zone) :
    (s.onZone z f).zone q = if z = q then f (s.zone z) else s.zone q := get_update _ _ _ _

theorem line_onLine (n q : LineId) (f : LineRec → LineRec) :
    (s.onLine n f).line q = if n = q then f (s.line n) else s.line q := get_update _ _ _ _

theorem health_setHealth (i j : InputId) (h : Option HealthRec) :
    (s.setHealth i h).health j = if i = j then h else s.health j := get_put _ _ _ _

/-- Rows and columns have positions of their own (R9). -/
theorem rowPos_injective : Function.Injective rowPos := by
  intro a b h
  have h' := congrArg Fin.val h
  cases a <;> cases b <;> simp only [rowPos] at h' <;> first | omega | (congr 1; apply Fin.ext; omega)

theorem colPos_injective : Function.Injective colPos := by
  intro a b h
  have h' := congrArg Fin.val h
  cases a <;> cases b <;> simp only [colPos] at h' <;>
    first | rfl | omega | (simp at h'; omega) | (congr 1; apply Fin.ext; omega)

/-- A crosspoint read after one is written (R14). -/
theorem xpt_setXpt (row row' : Row) (bus bus' : Bus) (c : LevelCode) :
    (s.setXpt row bus c).xpt row' bus' = if row = row' ∧ bus = bus' then c else s.xpt row' bus' := by
  unfold State.xpt State.setXpt
  simp only [State.onMatrix_matrix, get_update, rowPos_injective.eq_iff]
  by_cases h : row = row'
  · subst h; simp only [if_true, true_and, get_put, colPos_injective.eq_iff]
  · simp [h]

end

/-! ## Raising a report (R199, R200) -/

section
variable (s : State) (k : ReportKey) (t : String)

@[simp] theorem State.raise_ports : (s.raise k t).ports = s.ports := by unfold State.raise; split <;> rfl
@[simp] theorem State.raise_clock : (s.raise k t).clock = s.clock := by unfold State.raise; split <;> rfl
@[simp] theorem State.raise_matrix : (s.raise k t).matrix = s.matrix := by unfold State.raise; split <;> rfl
@[simp] theorem State.raise_fades : (s.raise k t).fades = s.fades := by unfold State.raise; split <;> rfl
@[simp] theorem State.raise_cast : (s.raise k t).cast = s.cast := by unfold State.raise; split <;> rfl
@[simp] theorem State.raise_mic : (s.raise k t).mic = s.mic := by unfold State.raise; split <;> rfl
@[simp] theorem State.raise_cues : (s.raise k t).cues = s.cues := by unfold State.raise; split <;> rfl
@[simp] theorem State.raise_engine : (s.raise k t).engine = s.engine := by unfold State.raise; split <;> rfl
@[simp] theorem State.raise_fetch : (s.raise k t).fetch = s.fetch := by unfold State.raise; split <;> rfl
@[simp] theorem State.raise_foldback : (s.raise k t).foldback = s.foldback := by unfold State.raise; split <;> rfl
@[simp] theorem State.raise_router : (s.raise k t).router = s.router := by unfold State.raise; split <;> rfl
@[simp] theorem State.raise_lines : (s.raise k t).lines = s.lines := by unfold State.raise; split <;> rfl
@[simp] theorem State.raise_inReset : (s.raise k t).inReset = s.inReset := by unfold State.raise; split <;> rfl
@[simp] theorem State.raise_now : (s.raise k t).now = s.now := by unfold State.raise; split <;> rfl
@[simp] theorem State.raise_pending : (s.raise k t).pending = s.pending := by unfold State.raise; split <;> rfl

/-- A raised report changes the report set alone. -/
theorem State.raise_link : (s.raise k t).link = { s.link with reports := (s.raise k t).link.reports } := by
  unfold State.raise; split <;> rfl

end

/-- The keys of the report set after a raising: those before, and the new key at the end if it had no entry (R199). -/
theorem upsert_keys (l : List Report) (key : ReportKey) (text : String) :
    (upsert l key text).map (·.key) =
      if key ∈ l.map (·.key) then l.map (·.key) else l.map (·.key) ++ [key] := by
  unfold upsert
  by_cases h : l.any (fun r => r.key = key) = true
  · have hm : key ∈ l.map (·.key) := by
      obtain ⟨r, hr, he⟩ := List.any_eq_true.mp h
      exact List.mem_map.mpr ⟨r, hr, of_decide_eq_true he⟩
    rw [if_pos h, if_pos hm, List.map_map]
    refine List.map_congr_left fun r _ => ?_
    by_cases hk : r.key = key <;> simp [hk]
  · have hm : key ∉ l.map (·.key) := fun hm => h (by
      obtain ⟨r, hr, he⟩ := List.mem_map.mp hm
      exact List.any_eq_true.mpr ⟨r, hr, decide_eq_true he⟩)
    rw [if_neg h, if_neg hm]; simp

end Sys2Proof.Machine
end

