-- ==== Sys2Proof/Laws/Changeover.lean ====
section
/-! SUPPORT. What changeover selection, revert and a change of an input's health do to a performer (R58, R74, R75, R77). -/

namespace Sys2Proof.Machine

open Sys2Proof

/-- The winner stands before every input of a lower level and before none of a higher one (R75 step 3). -/
theorem State.winner_spec (s : State) (l : List (InputId × Place)) (h : l ≠ []) :
    ∃ e before after, s.winner l = some e ∧ l = before ++ e :: after ∧
      (∀ d ∈ before, s.rfOf d.1 < s.rfOf e.1) ∧ ∀ d ∈ after, s.rfOf d.1 ≤ s.rfOf e.1 := by
  induction l using List.reverseRecOn with
  | nil => exact absurd rfl h
  | append_singleton l x ih =>
    simp only [State.winner, List.foldl_append, List.foldl_cons, List.foldl_nil]
    by_cases hl : l = []
    · subst hl; exact ⟨x, [], [], by simp⟩
    · obtain ⟨e, before, after, hw, rfl, hb, ha⟩ := ih hl
      simp only [State.winner] at hw
      rw [hw]
      by_cases hx : s.rfOf e.1 < s.rfOf x.1
      · refine ⟨x, before ++ e :: after, [], by simp [hx], by simp, fun d hd => ?_, by simp⟩
        simp only [List.mem_append, List.mem_cons] at hd
        rcases hd with hd | rfl | hd
        · exact (hb d hd).trans hx
        · exact hx
        · exact (ha d hd).trans_lt hx
      · refine ⟨e, before, after ++ [x], by simp [hx], by simp, hb, fun d hd => ?_⟩
        simp only [List.mem_append, List.mem_singleton] at hd
        rcases hd with hd | rfl
        · exact ha d hd
        · omega

/-- The winner among the candidates, LOW_BATT set aside where another is left (R75 steps 2 and 3). -/
theorem State.winner_shortlist (s : State) (l : List (InputId × Place)) (h : l ≠ []) :
    ∃ e before after, s.winner (s.shortlist l) = some e ∧ l = before ++ e :: after ∧
      (∀ d ∈ before ++ after, s.lowBatt d.1 = false → s.lowBatt e.1 = false) ∧
      (∀ d ∈ before, s.lowBatt d.1 = s.lowBatt e.1 → s.rfOf d.1 < s.rfOf e.1) ∧
      ∀ d ∈ after, s.lowBatt d.1 = s.lowBatt e.1 → s.rfOf d.1 ≤ s.rfOf e.1 := by
  unfold State.shortlist
  by_cases hk : (l.filter fun e => !s.lowBatt e.1) = []
  · obtain ⟨e, before, after, hw, rfl, hb, ha⟩ := s.winner_spec l h
    have all : ∀ d ∈ before ++ e :: after, s.lowBatt d.1 = true :=
      fun d hd => by simpa using List.filter_eq_nil_iff.mp hk d hd
    refine ⟨e, before, after, by simpa [hk] using hw, rfl, fun d hd h' => ?_, fun d hd _ => hb d hd, fun d hd _ => ha d hd⟩
    have := all d (by simp at hd ⊢; tauto)
    simp [h'] at this
  · have hn : (l.filter fun e => !s.lowBatt e.1).isEmpty = false := by simpa [List.isEmpty_iff] using hk
    simp only [hn, Bool.false_eq_true, if_false]
    obtain ⟨e, b, a, hw, hl, hb, ha⟩ := s.winner_spec _ hk
    obtain ⟨before, rest, rfl, rfl, hr⟩ := List.filter_eq_append_iff.mp hl
    obtain ⟨skip, after, rfl, hs, he, rfl⟩ := List.filter_eq_cons_iff.mp hr
    have he' : s.lowBatt e.1 = false := by simpa using he
    refine ⟨e, before ++ skip, after, hw, by simp, fun _ _ _ => he', fun d hd h' => ?_, fun d hd h' => ?_⟩
    · rw [he'] at h'
      rcases List.mem_append.mp hd with hd | hd
      · exact hb d (List.mem_filter.mpr ⟨hd, by simp [h']⟩)
      · exact absurd h' (by simpa using hs d hd)
    · exact ha d (List.mem_filter.mpr ⟨hd, by simp [h', he']⟩)

section
variable (s : State) (p : PerfId) (r : RoleId) (f : Perf → Perf) (g : Role → Role)

@[simp] theorem State.perf_onPerf_same : (s.onPerf p f).perf p = f (s.perf p) := get_update_same _ _ _
@[simp] theorem State.role_onPerf : (s.onPerf p f).role r = s.role r := rfl
@[simp] theorem State.perf_onRole : (s.onRole r g).perf p = s.perf p := rfl
@[simp] theorem State.health_onPerf (i : InputId) : (s.onPerf p f).health i = s.health i := rfl

end

/-- A changeover with the state and the flag that go with it (R58). -/
theorem State.changeover_changesTo (s : State) (p : PerfId) (i : InputId) (st : PerfState) :
    s.ChangesTo ((s.changeover p i).onPerf p fun y => { y with state := st, compromised := s.lowBatt i }) p i st := by
  unfold State.ChangesTo State.changeover
  by_cases ha : (s.perf p).active = some i
  · simp only [ha, if_true, perf_onPerf_same, role_onPerf]
    simp [← ha]
  · simp only [ha, if_false]
    cases hr : (s.perf p).role with
    | none => simp [hr]
    | some r =>
      simp only [State.beginCrossfade, perf_onPerf_same, perf_onRole, role_onPerf, role_onRole, hr]
      refine ⟨trivial, fun k hk _ => ?_, fun k hk => ?_⟩
      · cases hk; simp
      · rw [if_neg]; rintro rfl; simp at hk

/-- Step 5 of a selection: the state is set where it differs (R75). -/
theorem State.settleState_spec (s : State) (p : PerfId) (st : PerfState) (event : Option String) :
    (∀ r, (if (s.perf p).state = st then ((s, none) : State × Option String)
        else (s.onPerf p fun y => { y with state := st }, event)).1.role r = s.role r) ∧
      (if (s.perf p).state = st then ((s, none) : State × Option String)
        else (s.onPerf p fun y => { y with state := st }, event)).1.perf p = { s.perf p with state := st } := by
  by_cases h : (s.perf p).state = st
  · simp [← h]
  · simp [h]

/-- Selection is that of R75. -/
theorem State.select_selected (s : State) (p : PerfId) : s.Selected (s.select p).1 p := by
  unfold State.Selected
  refine ⟨fun h => by simp [State.select, h], fun i l hi hl => ?_⟩
  have hc : s.candidates (s.perf p) = l := by
    subst hl
    refine List.filter_congr fun e _ => ?_
    by_cases h : e.1 = i
    · subst h; simp [hi]
    · have := Ne.symm h; simp [State.isGood, hi, h, this]
  refine ⟨fun he => ?_, fun he => ?_⟩
  · have hp : placeState (s.perf p).activePlace =
        if (s.perf p).activePlace = some .spare1 ∨ (s.perf p).activePlace = some .spare2 then .spare else .main := by
      cases (s.perf p).activePlace with
      | none => rfl
      | some x => cases x <;> rfl
    simp only [State.select, hi, hc, he, State.winner, State.shortlist, List.filter_nil, List.isEmpty_nil, if_true,
      List.foldl_nil, hp, State.isGood]
    simpa only [hi] using s.settleState_spec p _ _
  · obtain ⟨e, before, after, hw, hl', hf, hb, ha⟩ := s.winner_shortlist l he
    refine ⟨e, before, after, hl', hf, hb, ha, ?_⟩
    have := s.changeover_changesTo p e.1 (if e.2 = .main then .main else .spare)
    simp only [State.select, hi, hc, hw]
    have hp : placeState (some e.2) = if e.2 = .main then .main else .spare := by cases e.2 <;> rfl
    simpa [hp] using this

theorem State.changeover_onlyPerf (s : State) (p : PerfId) (i : InputId) (f : Perf → Perf) :
    s.OnlyPerf ((s.changeover p i).onPerf p f) p := by
  unfold State.changeover
  split
  · exact ⟨rfl, fun q hq => by simp [perf_onPerf, Ne.symm hq]⟩
  · dsimp only; split <;> exact ⟨rfl, fun q hq => by simp [State.beginCrossfade, perf_onPerf, Ne.symm hq]⟩

theorem State.select_onlyPerf (s : State) (p : PerfId) : s.OnlyPerf (s.select p).1 p := by
  unfold State.select
  dsimp only
  split
  · exact ⟨rfl, fun _ _ => rfl⟩
  · split
    · exact s.changeover_onlyPerf p _ _
    · repeat' split
      all_goals exact ⟨rfl, fun q hq => by first | rfl | simp [perf_onPerf, Ne.symm hq]⟩

/-- What a change of an input's health calls for is what R74 and R77 say. -/
theorem State.afterHealth_follows (s : State) (p : PerfId) (i : InputId) (before after : Health) :
    s.PerfFollows (s.afterHealth p i before after).1 p i before after := by
  unfold State.PerfFollows State.afterHealth State.revert
  dsimp only
  split
  · rename_i h
    exact ⟨⟨rfl, fun _ _ => rfl⟩, fun h1 h2 => absurd h (by simp [h1, h2]), fun _ => rfl⟩
  · rename_i h
    have h : (s.perf p).modeAuto = true ∧ before ≠ after := by simpa using h
    split
    · rename_i hd
      refine ⟨s.select_onlyPerf p, fun _ _ => ⟨fun _ _ => s.select_selected p, ?_, ?_⟩, ?_⟩
      · simp [hd]
      · simp [hd]
      · rintro (e | e | e) <;> simp_all
    · split
      · rename_i hd hg
        refine ⟨s.select_onlyPerf p, fun _ _ => ⟨fun _ _ => s.select_selected p, fun _ _ => s.select_selected p, ?_⟩, ?_⟩
        · simp [hg]
        · rintro (e | e | e) <;> simp_all
      · split
        · rename_i hd hg hr
          refine ⟨s.changeover_onlyPerf p i _, fun _ _ => ⟨?_, ?_, fun _ _ _ _ => s.changeover_changesTo p i .main⟩, ?_⟩
          · simp [hr]
          · simp [hr]
          · rintro (e | e | e) <;> simp_all
        · rename_i hd hg hr
          refine ⟨⟨rfl, fun _ _ => rfl⟩, fun _ _ => ⟨?_, ?_, ?_⟩, fun _ => rfl⟩
          all_goals intros; simp_all

end Sys2Proof.Machine
end

