-- ==== Sys2Proof/Laws/Frames.lean ====
section
/-! SUPPORT. The frames of the shared operations. `State.kept` is the part of the state that no operation of the blocks
changes by itself: what the link holds but for the report set, the ports, the clock, and the show data that only the commands of
its own chapter set. One lemma for each operation says that it keeps that part and which blocks it leaves as they stand. -/

namespace Sys2Proof.Machine

open Sys2Proof

/-- What the shared operations of the blocks never change. -/
structure Kept where
  link : LinkBlock
  ports : PortBlock
  clock : ClockBlock
  trims : Vector LevelCode 64
  pages : Vector (Option InputId) 2
  talkin : Option InputId
  sup : Supervision
  cues : List Cue
  sounds : Vector (Option Sound) 1024
  refill : Nat
  talkLevel : LevelCode
  talkDepth : Nat
  talkCommand : Bool
  presets : Vector (Option CallRequest) 16
  pins : Vector Bool 16
  inReset : Bool
  now : Nat
  pending : List Instr

def State.kept (s : State) : Kept :=
  { link := { s.link with reports := [] }, ports := s.ports, clock := s.clock, trims := s.matrix.trims,
    pages := s.cast.pages, talkin := s.cast.talkin, sup := s.mic.sup, cues := s.cues, sounds := s.fetch.sounds,
    refill := s.fetch.refill, talkLevel := s.foldback.talkLevel, talkDepth := s.foldback.talkDepth,
    talkCommand := s.foldback.talkCommand, presets := s.router.presets, pins := s.lines.pins, inReset := s.inReset,
    now := s.now, pending := s.pending }

/-! ## What a kept part gives -/

section
variable {s t : State} (h : t.kept = s.kept)
include h

theorem kept_link : t.link = { s.link with reports := t.link.reports } := by
  have e := congrArg Kept.link h
  have : { t.link with reports := [] } = { s.link with reports := [] } := e
  generalize t.link = a at this ⊢
  generalize s.link = b at this ⊢
  cases a; cases b; simp_all

theorem kept_replies : t.link.replies = s.link.replies := by rw [kept_link h]
theorem kept_rxq : t.link.rxq = s.link.rxq := by rw [kept_link h]
theorem kept_disabled : t.link.disabled = s.link.disabled := by rw [kept_link h]
theorem kept_ports : t.ports = s.ports := congrArg Kept.ports h
theorem kept_clock : t.clock = s.clock := congrArg Kept.clock h
theorem kept_trims : t.matrix.trims = s.matrix.trims := congrArg Kept.trims h
theorem kept_pages : t.cast.pages = s.cast.pages := congrArg Kept.pages h
theorem kept_talkin : t.cast.talkin = s.cast.talkin := congrArg Kept.talkin h
theorem kept_sup : t.mic.sup = s.mic.sup := congrArg Kept.sup h
theorem kept_cues : t.cues = s.cues := congrArg Kept.cues h
theorem kept_sounds : t.fetch.sounds = s.fetch.sounds := congrArg Kept.sounds h
theorem kept_refill : t.fetch.refill = s.fetch.refill := congrArg Kept.refill h
theorem kept_presets : t.router.presets = s.router.presets := congrArg Kept.presets h
theorem kept_pins : t.lines.pins = s.lines.pins := congrArg Kept.pins h
theorem kept_inReset : t.inReset = s.inReset := congrArg Kept.inReset h
theorem kept_now : t.now = s.now := congrArg Kept.now h
theorem kept_pending : t.pending = s.pending := congrArg Kept.pending h

end

/-! ## One block changed -/

section
variable (s : State)

@[simp] theorem State.kept_raise (k : ReportKey) (x : String) : (s.raise k x).kept = s.kept := by
  unfold State.raise; split <;> rfl

@[simp] theorem State.kept_onFades (f : FadeBlock → FadeBlock) : (s.onFades f).kept = s.kept := rfl
@[simp] theorem State.kept_onEngine (f : EngineBlock → EngineBlock) : (s.onEngine f).kept = s.kept := rfl

theorem State.kept_onMatrix (f : MatrixBlock → MatrixBlock) (h : (f s.matrix).trims = s.matrix.trims) :
    (s.onMatrix f).kept = s.kept := by simp [State.kept, h]

theorem State.kept_onCast (f : CastBlock → CastBlock) (h : (f s.cast).pages = s.cast.pages)
    (h' : (f s.cast).talkin = s.cast.talkin) : (s.onCast f).kept = s.kept := by simp [State.kept, h, h']

theorem State.kept_onMic (f : MicBlock → MicBlock) (h : (f s.mic).sup = s.mic.sup) :
    (s.onMic f).kept = s.kept := by simp [State.kept, h]

theorem State.kept_onFetch (f : FetchBlock → FetchBlock) (h : (f s.fetch).sounds = s.fetch.sounds)
    (h' : (f s.fetch).refill = s.fetch.refill) : (s.onFetch f).kept = s.kept := by simp [State.kept, h, h']

theorem State.kept_onFoldback (f : FoldbackBlock → FoldbackBlock)
    (h : (f s.foldback).talkLevel = s.foldback.talkLevel) (h' : (f s.foldback).talkDepth = s.foldback.talkDepth)
    (h'' : (f s.foldback).talkCommand = s.foldback.talkCommand) :
    (s.onFoldback f).kept = s.kept := by simp [State.kept, h, h', h'']

theorem State.kept_onRouter (f : RouterBlock → RouterBlock) (h : (f s.router).presets = s.router.presets) :
    (s.onRouter f).kept = s.kept := by simp [State.kept, h]

theorem State.kept_onLines (f : LineBlock → LineBlock) (h : (f s.lines).pins = s.lines.pins) :
    (s.onLines f).kept = s.kept := by simp [State.kept, h]

@[simp] theorem State.kept_onReader (r : ReaderId) (f : Reader → Reader) : (s.onReader r f).kept = s.kept := rfl
@[simp] theorem State.kept_onVoice (v : VoiceId) (f : Reader → Reader) : (s.onVoice v f).kept = s.kept := rfl
@[simp] theorem State.kept_onRole (r : RoleId) (f : Role → Role) : (s.onRole r f).kept = s.kept := rfl
@[simp] theorem State.kept_onPerf (p : PerfId) (f : Perf → Perf) : (s.onPerf p f).kept = s.kept := rfl
@[simp] theorem State.kept_setHealth (i : InputId) (h : Option HealthRec) : (s.setHealth i h).kept = s.kept := rfl
@[simp] theorem State.kept_onTlm (f : Telemetry → Telemetry) : (s.onTlm f).kept = s.kept := rfl
@[simp] theorem State.kept_onBus (k : FbId) (f : FbBus → FbBus) : (s.onBus k f).kept = s.kept := rfl
@[simp] theorem State.kept_onZone (z : ZoneId) (f : Zone → Zone) : (s.onZone z f).kept = s.kept := rfl
@[simp] theorem State.kept_onLine (n : LineId) (f : LineRec → LineRec) : (s.onLine n f).kept = s.kept := rfl
@[simp] theorem State.kept_setXpt (row : Row) (bus : Bus) (c : LevelCode) : (s.setXpt row bus c).kept = s.kept := rfl
@[simp] theorem State.kept_setClip (bus : Bus) (c : Clip) : (s.setClip bus c).kept = s.kept := rfl
@[simp] theorem State.kept_setTag (t : TagId) (x : StoreTag) : (s.setTag t x).kept = s.kept := rfl

end

/-- A list of operations keeps what each of them keeps. -/
theorem foldl_keeps {α β : Type} (p : State → β) (f : State → α → State) (h : ∀ s a, p (f s a) = p s) (l : List α)
    (s : State) : p (l.foldl f s) = p s := by
  induction l generalizing s with
  | nil => rfl
  | cons a l ih => rw [List.foldl_cons, ih, h]

section
variable (s : State)

/-! ## The accounting of instances -/

@[simp] theorem State.raiseCue_frame (e : CueEvent) :
    (s.raiseCue e).kept = s.kept ∧ (s.raiseCue e).matrix = s.matrix ∧ (s.raiseCue e).fades = s.fades ∧
      (s.raiseCue e).cast = s.cast ∧ (s.raiseCue e).mic = s.mic ∧ (s.raiseCue e).fetch = s.fetch ∧
      (s.raiseCue e).foldback = s.foldback ∧ (s.raiseCue e).router = s.router ∧ (s.raiseCue e).lines = s.lines := by
  simp [State.raiseCue]

@[simp] theorem State.setChain_frame (c : Chain) :
    (s.setChain c).kept = s.kept ∧ (s.setChain c).matrix = s.matrix ∧ (s.setChain c).fades = s.fades ∧
      (s.setChain c).cast = s.cast ∧ (s.setChain c).mic = s.mic ∧ (s.setChain c).fetch = s.fetch ∧
      (s.setChain c).foldback = s.foldback ∧ (s.setChain c).router = s.router ∧ (s.setChain c).lines = s.lines := by
  unfold State.setChain; split <;> simp

@[simp] theorem State.endLink_frame (i : Inst) :
    (s.endLink i).kept = s.kept ∧ (s.endLink i).matrix = s.matrix ∧ (s.endLink i).fades = s.fades ∧
      (s.endLink i).cast = s.cast ∧ (s.endLink i).mic = s.mic ∧ (s.endLink i).fetch = s.fetch ∧
      (s.endLink i).foldback = s.foldback ∧ (s.endLink i).router = s.router ∧ (s.endLink i).lines = s.lines := by
  unfold State.endLink; (repeat' split) <;> simp

@[simp] theorem State.removeInst_frame (slot : InstSlot) :
    (s.removeInst slot).kept = s.kept ∧ (s.removeInst slot).matrix = s.matrix ∧ (s.removeInst slot).fades = s.fades ∧
      (s.removeInst slot).cast = s.cast ∧ (s.removeInst slot).mic = s.mic ∧ (s.removeInst slot).fetch = s.fetch ∧
      (s.removeInst slot).foldback = s.foldback ∧ (s.removeInst slot).router = s.router ∧
      (s.removeInst slot).lines = s.lines := by
  simp [State.removeInst]

@[simp] theorem State.setCount_frame (slot : InstSlot) (n : Nat) :
    (s.setCount slot n).kept = s.kept ∧ (s.setCount slot n).matrix = s.matrix ∧ (s.setCount slot n).fades = s.fades ∧
      (s.setCount slot n).cast = s.cast ∧ (s.setCount slot n).mic = s.mic ∧ (s.setCount slot n).fetch = s.fetch ∧
      (s.setCount slot n).foldback = s.foldback ∧ (s.setCount slot n).router = s.router ∧
      (s.setCount slot n).lines = s.lines := by
  simp [State.setCount]

@[simp] theorem State.completeInst_frame (i : Inst) (b : Bool) :
    (s.completeInst i b).kept = s.kept ∧ (s.completeInst i b).matrix = s.matrix ∧
      (s.completeInst i b).fades = s.fades ∧ (s.completeInst i b).cast = s.cast ∧ (s.completeInst i b).mic = s.mic ∧
      (s.completeInst i b).fetch = s.fetch ∧ (s.completeInst i b).foldback = s.foldback ∧
      (s.completeInst i b).router = s.router ∧ (s.completeInst i b).lines = s.lines := by
  unfold State.completeInst; split <;> simp

@[simp] theorem State.instDone_frame (slot : InstSlot) :
    (s.instDone slot).kept = s.kept ∧ (s.instDone slot).matrix = s.matrix ∧ (s.instDone slot).fades = s.fades ∧
      (s.instDone slot).cast = s.cast ∧ (s.instDone slot).mic = s.mic ∧ (s.instDone slot).fetch = s.fetch ∧
      (s.instDone slot).foldback = s.foldback ∧ (s.instDone slot).router = s.router ∧
      (s.instDone slot).lines = s.lines := by
  unfold State.instDone; dsimp only; (repeat' split) <;> simp

@[simp] theorem State.ownerDone_frame (o : Option InstSlot) :
    (s.ownerDone o).kept = s.kept ∧ (s.ownerDone o).matrix = s.matrix ∧ (s.ownerDone o).fades = s.fades ∧
      (s.ownerDone o).cast = s.cast ∧ (s.ownerDone o).mic = s.mic ∧ (s.ownerDone o).fetch = s.fetch ∧
      (s.ownerDone o).foldback = s.foldback ∧ (s.ownerDone o).router = s.router ∧ (s.ownerDone o).lines = s.lines := by
  cases o <;> simp [State.ownerDone]

@[simp] theorem State.ownerAdd_frame (o : Option InstSlot) :
    (s.ownerAdd o).kept = s.kept ∧ (s.ownerAdd o).matrix = s.matrix ∧ (s.ownerAdd o).fades = s.fades ∧
      (s.ownerAdd o).cast = s.cast ∧ (s.ownerAdd o).mic = s.mic ∧ (s.ownerAdd o).fetch = s.fetch ∧
      (s.ownerAdd o).foldback = s.foldback ∧ (s.ownerAdd o).router = s.router ∧ (s.ownerAdd o).lines = s.lines := by
  cases o <;> simp [State.ownerAdd]

/-! ## Fades -/

@[simp] theorem State.setLevelOf_frame (t : Target) (c : LevelCode) :
    (s.setLevelOf t c).kept = s.kept ∧ (s.setLevelOf t c).fades = s.fades ∧ (s.setLevelOf t c).cast = s.cast ∧
      (s.setLevelOf t c).mic = s.mic ∧ (s.setLevelOf t c).engine = s.engine ∧
      (s.setLevelOf t c).foldback = s.foldback ∧ (s.setLevelOf t c).router = s.router ∧
      (s.setLevelOf t c).lines = s.lines := by
  cases t <;> simp [State.setLevelOf]

@[simp] theorem State.setLevelOf_voice_matrix (v : VoiceId) (c : LevelCode) :
    (s.setLevelOf (.voice v) c).matrix = s.matrix := rfl

@[simp] theorem State.setLevelOf_xpt_fetch (row : Row) (bus : Bus) (c : LevelCode) :
    (s.setLevelOf (.xpt row bus) c).fetch = s.fetch := rfl

@[simp] theorem State.dropFade_frame (t : Target) :
    (s.dropFade t).kept = s.kept ∧ (s.dropFade t).matrix = s.matrix ∧ (s.dropFade t).cast = s.cast ∧
      (s.dropFade t).mic = s.mic ∧ (s.dropFade t).engine = s.engine ∧ (s.dropFade t).fetch = s.fetch ∧
      (s.dropFade t).foldback = s.foldback ∧ (s.dropFade t).router = s.router ∧ (s.dropFade t).lines = s.lines := by
  simp [State.dropFade]

@[simp] theorem State.removeFade_frame (t : Target) :
    (s.removeFade t).kept = s.kept ∧ (s.removeFade t).matrix = s.matrix ∧ (s.removeFade t).cast = s.cast ∧
      (s.removeFade t).mic = s.mic ∧ (s.removeFade t).fetch = s.fetch ∧ (s.removeFade t).foldback = s.foldback ∧
      (s.removeFade t).router = s.router ∧ (s.removeFade t).lines = s.lines := by
  unfold State.removeFade; split <;> simp

@[simp] theorem State.snapLevel_frame (t : Target) (c : LevelCode) :
    (s.snapLevel t c).kept = s.kept ∧ (s.snapLevel t c).cast = s.cast ∧ (s.snapLevel t c).mic = s.mic ∧
      (s.snapLevel t c).foldback = s.foldback ∧ (s.snapLevel t c).router = s.router ∧
      (s.snapLevel t c).lines = s.lines := by
  simp [State.snapLevel]

@[simp] theorem State.snapLevel_xpt_fetch (row : Row) (bus : Bus) (c : LevelCode) :
    (s.snapLevel (.xpt row bus) c).fetch = s.fetch := by simp [State.snapLevel]

@[simp] theorem State.poolFullSnap_frame (t : Target) (c : LevelCode) :
    (s.poolFullSnap t c).kept = s.kept ∧ (s.poolFullSnap t c).cast = s.cast ∧ (s.poolFullSnap t c).mic = s.mic ∧
      (s.poolFullSnap t c).engine = s.engine ∧ (s.poolFullSnap t c).foldback = s.foldback ∧
      (s.poolFullSnap t c).router = s.router ∧ (s.poolFullSnap t c).lines = s.lines := by
  simp [State.poolFullSnap]

@[simp] theorem State.poolFullSnap_voice_matrix (v : VoiceId) (c : LevelCode) :
    (s.poolFullSnap (.voice v) c).matrix = s.matrix := by simp [State.poolFullSnap]

@[simp] theorem State.poolFullSnap_xpt_fetch (row : Row) (bus : Bus) (c : LevelCode) :
    (s.poolFullSnap (.xpt row bus) c).fetch = s.fetch := by simp [State.poolFullSnap]

@[simp] theorem State.requestFade_frame (t : Target) (g : LevelCode) (ms : Nat) (o : Option InstSlot) (b : Bool) :
    (s.requestFade t g ms o b).kept = s.kept ∧ (s.requestFade t g ms o b).cast = s.cast ∧
      (s.requestFade t g ms o b).mic = s.mic ∧ (s.requestFade t g ms o b).foldback = s.foldback ∧
      (s.requestFade t g ms o b).router = s.router ∧ (s.requestFade t g ms o b).lines = s.lines := by
  unfold State.requestFade; split <;> simp

@[simp] theorem State.requestFade_voice_matrix (v : VoiceId) (g : LevelCode) (ms : Nat) (o : Option InstSlot) (b : Bool) :
    (s.requestFade (.voice v) g ms o b).matrix = s.matrix := by
  unfold State.requestFade; split <;> simp

@[simp] theorem State.requestFade_xpt_fetch (row : Row) (bus : Bus) (g : LevelCode) (ms : Nat) (o : Option InstSlot)
    (b : Bool) : (s.requestFade (.xpt row bus) g ms o b).fetch = s.fetch := by
  unfold State.requestFade; split <;> simp

@[simp] theorem State.fadeStep_frame (f : Fade) :
    (s.fadeStep f).kept = s.kept ∧ (s.fadeStep f).fades = s.fades ∧ (s.fadeStep f).cast = s.cast ∧
      (s.fadeStep f).mic = s.mic ∧ (s.fadeStep f).engine = s.engine ∧ (s.fadeStep f).foldback = s.foldback ∧
      (s.fadeStep f).router = s.router ∧ (s.fadeStep f).lines = s.lines := by
  unfold State.fadeStep; split <;> simp

@[simp] theorem State.disownFades_frame (slot : InstSlot) :
    (s.disownFades slot).kept = s.kept ∧ (s.disownFades slot).matrix = s.matrix ∧
      (s.disownFades slot).cast = s.cast ∧ (s.disownFades slot).mic = s.mic ∧
      (s.disownFades slot).engine = s.engine ∧ (s.disownFades slot).fetch = s.fetch ∧
      (s.disownFades slot).foldback = s.foldback ∧ (s.disownFades slot).router = s.router ∧
      (s.disownFades slot).lines = s.lines := by
  simp [State.disownFades]

/-! ## Readers -/

@[simp] theorem readerKind_voiceReader (v : VoiceId) : readerKind (voiceReader v) = .inl v := by
  simp [readerKind, voiceReader]

@[simp] theorem readerKind_playerReader (p : PlayerId) : readerKind (playerReader p) = .inr p := by
  simp [readerKind, playerReader]

@[simp] theorem State.raiseReader_frame (r : ReaderId) (e : String) :
    (s.raiseReader r e).kept = s.kept ∧ (s.raiseReader r e).matrix = s.matrix ∧ (s.raiseReader r e).fades = s.fades ∧
      (s.raiseReader r e).cast = s.cast ∧ (s.raiseReader r e).mic = s.mic ∧ (s.raiseReader r e).engine = s.engine ∧
      (s.raiseReader r e).fetch = s.fetch ∧ (s.raiseReader r e).foldback = s.foldback ∧
      (s.raiseReader r e).router = s.router ∧ (s.raiseReader r e).lines = s.lines := by
  unfold State.raiseReader; split <;> simp

@[simp] theorem State.raiseStore_frame (e : String) (t : TagId) :
    (s.raiseStore e t).kept = s.kept ∧ (s.raiseStore e t).matrix = s.matrix ∧ (s.raiseStore e t).fades = s.fades ∧
      (s.raiseStore e t).cast = s.cast ∧ (s.raiseStore e t).mic = s.mic ∧ (s.raiseStore e t).engine = s.engine ∧
      (s.raiseStore e t).fetch = s.fetch ∧ (s.raiseStore e t).foldback = s.foldback ∧
      (s.raiseStore e t).router = s.router ∧ (s.raiseStore e t).lines = s.lines := by
  simp [State.raiseStore]

@[simp] theorem State.clearRing_frame (r : ReaderId) :
    (s.clearRing r).kept = s.kept ∧ (s.clearRing r).matrix = s.matrix ∧ (s.clearRing r).fades = s.fades ∧
      (s.clearRing r).cast = s.cast ∧ (s.clearRing r).mic = s.mic ∧ (s.clearRing r).engine = s.engine ∧
      (s.clearRing r).foldback = s.foldback ∧ (s.clearRing r).router = s.router ∧ (s.clearRing r).lines = s.lines := by
  simp [State.clearRing, State.kept_onFetch]

@[simp] theorem State.callEvaluation_frame (v : VoiceId) :
    (s.callEvaluation v).kept = s.kept ∧ (s.callEvaluation v).matrix = s.matrix ∧
      (s.callEvaluation v).fades = s.fades ∧ (s.callEvaluation v).cast = s.cast ∧ (s.callEvaluation v).mic = s.mic ∧
      (s.callEvaluation v).fetch = s.fetch ∧ (s.callEvaluation v).foldback = s.foldback ∧
      (s.callEvaluation v).router = s.router ∧ (s.callEvaluation v).lines = s.lines := by
  unfold State.callEvaluation; split <;> simp

@[simp] theorem State.enterIdle_frame (r : ReaderId) (e : String) :
    (s.enterIdle r e).kept = s.kept ∧ (s.enterIdle r e).matrix = s.matrix ∧ (s.enterIdle r e).cast = s.cast ∧
      (s.enterIdle r e).mic = s.mic ∧ (s.enterIdle r e).foldback = s.foldback ∧ (s.enterIdle r e).router = s.router ∧
      (s.enterIdle r e).lines = s.lines := by
  unfold State.enterIdle; split <;> simp

theorem State.enterIdle_player_frame (p : PlayerId) (e : String) :
    (s.enterIdle (playerReader p) e).fades = s.fades ∧ (s.enterIdle (playerReader p) e).engine = s.engine := by
  simp [State.enterIdle]

@[simp] theorem State.fadeIn_frame (v : VoiceId) (o : Option Nat) :
    (s.fadeIn v o).kept = s.kept ∧ (s.fadeIn v o).matrix = s.matrix ∧ (s.fadeIn v o).cast = s.cast ∧
      (s.fadeIn v o).mic = s.mic ∧ (s.fadeIn v o).foldback = s.foldback ∧ (s.fadeIn v o).router = s.router ∧
      (s.fadeIn v o).lines = s.lines := by
  unfold State.fadeIn; split <;> simp

@[simp] theorem State.enterPlaying_frame (r : ReaderId) (n : Nat) :
    (s.enterPlaying r n).kept = s.kept ∧ (s.enterPlaying r n).matrix = s.matrix ∧
      (s.enterPlaying r n).cast = s.cast ∧ (s.enterPlaying r n).mic = s.mic ∧
      (s.enterPlaying r n).foldback = s.foldback ∧ (s.enterPlaying r n).router = s.router ∧
      (s.enterPlaying r n).lines = s.lines := by
  unfold State.enterPlaying; split <;> simp

@[simp] theorem State.testStart_frame (r : ReaderId) :
    (s.testStart r).kept = s.kept ∧ (s.testStart r).matrix = s.matrix ∧ (s.testStart r).cast = s.cast ∧
      (s.testStart r).mic = s.mic ∧ (s.testStart r).foldback = s.foldback ∧ (s.testStart r).router = s.router ∧
      (s.testStart r).lines = s.lines := by
  unfold State.testStart; dsimp only; split <;> simp

@[simp] theorem State.play_frame (v : VoiceId) (n : SoundId) (d : Sound) (ms : Nat) (o : Option InstSlot) :
    (s.play v n d ms o).kept = s.kept ∧ (s.play v n d ms o).matrix = s.matrix ∧ (s.play v n d ms o).cast = s.cast ∧
      (s.play v n d ms o).mic = s.mic ∧ (s.play v n d ms o).foldback = s.foldback ∧
      (s.play v n d ms o).router = s.router ∧ (s.play v n d ms o).lines = s.lines := by
  unfold State.play; dsimp only; (repeat' split) <;> simp

@[simp] theorem State.stopVoice_frame (v : VoiceId) (ms : Nat) (o : Option InstSlot) :
    (s.stopVoice v ms o).kept = s.kept ∧ (s.stopVoice v ms o).matrix = s.matrix ∧
      (s.stopVoice v ms o).cast = s.cast ∧ (s.stopVoice v ms o).mic = s.mic ∧
      (s.stopVoice v ms o).foldback = s.foldback ∧ (s.stopVoice v ms o).router = s.router ∧
      (s.stopVoice v ms o).lines = s.lines := by
  unfold State.stopVoice; dsimp only; (repeat' split) <;> simp

@[simp] theorem State.prime_frame (v : VoiceId) (n : SoundId) :
    (s.prime v n).kept = s.kept ∧ (s.prime v n).matrix = s.matrix ∧ (s.prime v n).fades = s.fades ∧
      (s.prime v n).cast = s.cast ∧ (s.prime v n).mic = s.mic ∧ (s.prime v n).engine = s.engine ∧
      (s.prime v n).foldback = s.foldback ∧ (s.prime v n).router = s.router ∧ (s.prime v n).lines = s.lines := by
  unfold State.prime; split <;> simp [State.kept_onFetch]

@[simp] theorem State.testPrimed_frame (r : ReaderId) :
    (s.testPrimed r).kept = s.kept ∧ (s.testPrimed r).matrix = s.matrix ∧ (s.testPrimed r).fades = s.fades ∧
      (s.testPrimed r).cast = s.cast ∧ (s.testPrimed r).mic = s.mic ∧ (s.testPrimed r).engine = s.engine ∧
      (s.testPrimed r).foldback = s.foldback ∧ (s.testPrimed r).router = s.router ∧ (s.testPrimed r).lines = s.lines := by
  unfold State.testPrimed; dsimp only; split <;> simp

@[simp] theorem State.startPlayer_frame (p : PlayerId) (n : SoundId) :
    (s.startPlayer p n).kept = s.kept ∧ (s.startPlayer p n).matrix = s.matrix ∧ (s.startPlayer p n).fades = s.fades ∧
      (s.startPlayer p n).cast = s.cast ∧ (s.startPlayer p n).mic = s.mic ∧ (s.startPlayer p n).engine = s.engine ∧
      (s.startPlayer p n).foldback = s.foldback ∧ (s.startPlayer p n).router = s.router ∧
      (s.startPlayer p n).lines = s.lines := by
  unfold State.startPlayer; split <;> simp

@[simp] theorem State.stopPlayer_frame (p : PlayerId) :
    (s.stopPlayer p).kept = s.kept ∧ (s.stopPlayer p).matrix = s.matrix ∧ (s.stopPlayer p).fades = s.fades ∧
      (s.stopPlayer p).cast = s.cast ∧ (s.stopPlayer p).mic = s.mic ∧ (s.stopPlayer p).engine = s.engine ∧
      (s.stopPlayer p).foldback = s.foldback ∧ (s.stopPlayer p).router = s.router ∧ (s.stopPlayer p).lines = s.lines := by
  unfold State.stopPlayer; split <;> simp [State.enterIdle_player_frame]

@[simp] theorem State.enterFaulted_frame (r : ReaderId) :
    (s.enterFaulted r).kept = s.kept ∧ (s.enterFaulted r).matrix = s.matrix ∧ (s.enterFaulted r).cast = s.cast ∧
      (s.enterFaulted r).mic = s.mic ∧ (s.enterFaulted r).foldback = s.foldback ∧
      (s.enterFaulted r).router = s.router ∧ (s.enterFaulted r).lines = s.lines := by
  unfold State.enterFaulted; split <;> simp

@[simp] theorem State.failSlot_frame (r : ReaderId) (i : RingSlot) :
    (s.failSlot r i).kept = s.kept ∧ (s.failSlot r i).matrix = s.matrix ∧ (s.failSlot r i).cast = s.cast ∧
      (s.failSlot r i).mic = s.mic ∧ (s.failSlot r i).foldback = s.foldback ∧ (s.failSlot r i).router = s.router ∧
      (s.failSlot r i).lines = s.lines := by
  unfold State.failSlot; dsimp only; split <;> simp

@[simp] theorem State.grantTag_frame :
    (s.grantTag).kept = s.kept ∧ (s.grantTag).matrix = s.matrix ∧ (s.grantTag).fades = s.fades ∧
      (s.grantTag).cast = s.cast ∧ (s.grantTag).mic = s.mic ∧ (s.grantTag).engine = s.engine ∧
      (s.grantTag).foldback = s.foldback ∧ (s.grantTag).router = s.router ∧ (s.grantTag).lines = s.lines := by
  unfold State.grantTag; (repeat' split) <;> simp [State.kept_onFetch]

@[simp] theorem State.sampleStep_frame (r : ReaderId) :
    (s.sampleStep r).kept = s.kept ∧ (s.sampleStep r).matrix = s.matrix ∧ (s.sampleStep r).cast = s.cast ∧
      (s.sampleStep r).mic = s.mic ∧ (s.sampleStep r).foldback = s.foldback ∧ (s.sampleStep r).router = s.router ∧
      (s.sampleStep r).lines = s.lines := by
  unfold State.sampleStep; dsimp only; (repeat' split) <;> simp

end

end Sys2Proof.Machine
end

