-- ==== Sys2Proof/Laws/FramesShow.lean ====
section
/-! SUPPORT. The frames of the shared operations of the router, the cue engine, the cast table, the mic supervisor, the
foldback section and the logic lines, in the form of Laws/Frames.lean. -/

namespace Sys2Proof.Machine

open Sys2Proof

section
variable (s : State)

/-! ## The router -/

@[simp] theorem State.raiseCall_frame (c : Call) (st : CallState) (p : Option PlayerId) (k : Option CallCause) (b : Option Nat) (e : String) :
    (s.raiseCall c st p k b e).kept = s.kept ∧ (s.raiseCall c st p k b e).matrix = s.matrix ∧
      (s.raiseCall c st p k b e).fades = s.fades ∧ (s.raiseCall c st p k b e).cast = s.cast ∧
      (s.raiseCall c st p k b e).mic = s.mic ∧ (s.raiseCall c st p k b e).engine = s.engine ∧
      (s.raiseCall c st p k b e).fetch = s.fetch ∧ (s.raiseCall c st p k b e).foldback = s.foldback ∧
      (s.raiseCall c st p k b e).router = s.router ∧ (s.raiseCall c st p k b e).lines = s.lines := by
  simp [State.raiseCall]

@[simp] theorem State.dropCall_frame (id : Nat) :
    (s.dropCall id).kept = s.kept ∧ (s.dropCall id).matrix = s.matrix ∧ (s.dropCall id).fades = s.fades ∧
      (s.dropCall id).cast = s.cast ∧ (s.dropCall id).mic = s.mic ∧ (s.dropCall id).engine = s.engine ∧
      (s.dropCall id).fetch = s.fetch ∧ (s.dropCall id).foldback = s.foldback ∧ (s.dropCall id).lines = s.lines := by
  simp [State.dropCall, State.kept_onRouter]

/-- Zones changed one after another leave every other block as it stands. -/
@[simp] theorem zones_blocks (f : ZoneId → Zone → Zone) (l : List ZoneId) :
    (l.foldl (fun s z => s.onZone z (f z)) s).kept = s.kept ∧
      (l.foldl (fun s z => s.onZone z (f z)) s).matrix = s.matrix ∧
      (l.foldl (fun s z => s.onZone z (f z)) s).fades = s.fades ∧
      (l.foldl (fun s z => s.onZone z (f z)) s).cast = s.cast ∧
      (l.foldl (fun s z => s.onZone z (f z)) s).mic = s.mic ∧
      (l.foldl (fun s z => s.onZone z (f z)) s).engine = s.engine ∧
      (l.foldl (fun s z => s.onZone z (f z)) s).fetch = s.fetch ∧
      (l.foldl (fun s z => s.onZone z (f z)) s).foldback = s.foldback ∧
      (l.foldl (fun s z => s.onZone z (f z)) s).lines = s.lines := by
  refine ⟨foldl_keeps State.kept _ (by simp) l s, foldl_keeps State.matrix _ (by simp) l s, foldl_keeps State.fades _ (by simp) l s, foldl_keeps State.cast _ (by simp) l s, foldl_keeps State.mic _ (by simp) l s, foldl_keeps State.engine _ (by simp) l s, foldl_keeps State.fetch _ (by simp) l s, foldl_keeps State.foldback _ (by simp) l s, foldl_keeps State.lines _ (by simp) l s⟩

@[simp] theorem State.closeCall_frame (c : Call) (k : CallCause) (b : Option Nat) :
    (s.closeCall c k b).kept = s.kept ∧ (s.closeCall c k b).matrix = s.matrix ∧ (s.closeCall c k b).fades = s.fades ∧
      (s.closeCall c k b).cast = s.cast ∧ (s.closeCall c k b).mic = s.mic ∧ (s.closeCall c k b).engine = s.engine ∧
      (s.closeCall c k b).foldback = s.foldback ∧ (s.closeCall c k b).lines = s.lines := by
  have hz := fun s => zones_blocks s (fun _ => Zone.release)
  unfold State.closeCall; dsimp only; (repeat' split) <;> simp [hz]

/-- Operations one after another leave what each leaves. -/
@[simp] theorem calls_blocks {α : Type} (f : State → α → State) (hk : ∀ s a, (f s a).kept = s.kept)
    (h0 : ∀ s a, (f s a).matrix = s.matrix)
    (h1 : ∀ s a, (f s a).fades = s.fades)
    (h2 : ∀ s a, (f s a).cast = s.cast)
    (h3 : ∀ s a, (f s a).mic = s.mic)
    (h4 : ∀ s a, (f s a).engine = s.engine)
    (h5 : ∀ s a, (f s a).foldback = s.foldback)
    (h6 : ∀ s a, (f s a).lines = s.lines) (l : List α) :
    (l.foldl f s).kept = s.kept ∧
      (l.foldl f s).matrix = s.matrix ∧
      (l.foldl f s).fades = s.fades ∧
      (l.foldl f s).cast = s.cast ∧
      (l.foldl f s).mic = s.mic ∧
      (l.foldl f s).engine = s.engine ∧
      (l.foldl f s).foldback = s.foldback ∧
      (l.foldl f s).lines = s.lines :=
  ⟨foldl_keeps State.kept f hk l s, foldl_keeps State.matrix f h0 l s, foldl_keeps State.fades f h1 l s, foldl_keeps State.cast f h2 l s, foldl_keeps State.mic f h3 l s, foldl_keeps State.engine f h4 l s, foldl_keeps State.foldback f h5 l s, foldl_keeps State.lines f h6 l s⟩

@[simp] theorem State.grantCall_frame (c : Call) (p : Option PlayerId) :
    (s.grantCall c p).kept = s.kept ∧ (s.grantCall c p).matrix = s.matrix ∧ (s.grantCall c p).fades = s.fades ∧
      (s.grantCall c p).cast = s.cast ∧ (s.grantCall c p).mic = s.mic ∧ (s.grantCall c p).engine = s.engine ∧
      (s.grantCall c p).foldback = s.foldback ∧ (s.grantCall c p).lines = s.lines := by
  have hz := fun s => zones_blocks s (fun _ => Zone.take c.id c.req.duck)
  have hc := fun s => calls_blocks s (fun (s : State) (d : Call) => s.closeCall d .preempted (some c.id))
    (by simp) (by simp) (by simp) (by simp) (by simp) (by simp) (by simp) (by simp)
  unfold State.grantCall; dsimp only; split <;> simp [hz, hc, State.kept_onRouter]

@[simp] theorem Walk.visit_frame (w : Walk) (id : Nat) :
    (w.visit id).state.kept = w.state.kept ∧
      (w.visit id).state.matrix = w.state.matrix ∧
      (w.visit id).state.fades = w.state.fades ∧
      (w.visit id).state.cast = w.state.cast ∧
      (w.visit id).state.mic = w.state.mic ∧
      (w.visit id).state.engine = w.state.engine ∧
      (w.visit id).state.foldback = w.state.foldback ∧
      (w.visit id).state.lines = w.state.lines := by
  unfold Walk.visit; (repeat' split) <;> simp

theorem Walk.visits_frame (l : List Nat) (w : Walk) :
    (l.foldl Walk.visit w).state.kept = w.state.kept ∧
      (l.foldl Walk.visit w).state.matrix = w.state.matrix ∧
      (l.foldl Walk.visit w).state.fades = w.state.fades ∧
      (l.foldl Walk.visit w).state.cast = w.state.cast ∧
      (l.foldl Walk.visit w).state.mic = w.state.mic ∧
      (l.foldl Walk.visit w).state.engine = w.state.engine ∧
      (l.foldl Walk.visit w).state.foldback = w.state.foldback ∧
      (l.foldl Walk.visit w).state.lines = w.state.lines := by
  induction l generalizing w with
  | nil => simp
  | cons a l ih => rw [List.foldl_cons]; simpa using ih (w.visit a)

@[simp] theorem State.walkOnce_frame :
    (s.walkOnce).state.kept = s.kept ∧ (s.walkOnce).state.matrix = s.matrix ∧ (s.walkOnce).state.fades = s.fades ∧
      (s.walkOnce).state.cast = s.cast ∧ (s.walkOnce).state.mic = s.mic ∧ (s.walkOnce).state.engine = s.engine ∧
      (s.walkOnce).state.foldback = s.foldback ∧ (s.walkOnce).state.lines = s.lines := by
  unfold State.walkOnce; exact Walk.visits_frame _ _

theorem State.walkUpTo_frame (n : Nat) :
    (s.walkUpTo n).kept = s.kept ∧
      (s.walkUpTo n).matrix = s.matrix ∧
      (s.walkUpTo n).fades = s.fades ∧
      (s.walkUpTo n).cast = s.cast ∧
      (s.walkUpTo n).mic = s.mic ∧
      (s.walkUpTo n).engine = s.engine ∧
      (s.walkUpTo n).foldback = s.foldback ∧
      (s.walkUpTo n).lines = s.lines := by
  induction n generalizing s with
  | zero => simp [State.walkUpTo]
  | succ n ih => unfold State.walkUpTo; dsimp only; split <;> simp [ih]

@[simp] theorem State.walk_frame :
    (s.walk).kept = s.kept ∧ (s.walk).matrix = s.matrix ∧ (s.walk).fades = s.fades ∧ (s.walk).cast = s.cast ∧
      (s.walk).mic = s.mic ∧ (s.walk).engine = s.engine ∧ (s.walk).foldback = s.foldback ∧ (s.walk).lines = s.lines := by
  simpa [State.walk] using s.walkUpTo_frame _

@[simp] theorem State.endCall_frame (c : Call) (k : CallCause) :
    (s.endCall c k).kept = s.kept ∧ (s.endCall c k).matrix = s.matrix ∧ (s.endCall c k).fades = s.fades ∧
      (s.endCall c k).cast = s.cast ∧ (s.endCall c k).mic = s.mic ∧ (s.endCall c k).engine = s.engine ∧
      (s.endCall c k).foldback = s.foldback ∧ (s.endCall c k).lines = s.lines := by
  simp [State.endCall]

@[simp] theorem State.playerReports_frame (p : PlayerId) (k : CallCause) :
    (s.playerReports p k).kept = s.kept ∧ (s.playerReports p k).matrix = s.matrix ∧
      (s.playerReports p k).fades = s.fades ∧ (s.playerReports p k).cast = s.cast ∧
      (s.playerReports p k).mic = s.mic ∧ (s.playerReports p k).engine = s.engine ∧
      (s.playerReports p k).foldback = s.foldback ∧ (s.playerReports p k).lines = s.lines := by
  unfold State.playerReports; split <;> simp

@[simp] theorem State.enterCall_frame (q : CallRequest) (z : List ZoneId) (l : Option LineId) :
    (s.enterCall q z l).kept = s.kept ∧ (s.enterCall q z l).matrix = s.matrix ∧ (s.enterCall q z l).fades = s.fades ∧
      (s.enterCall q z l).cast = s.cast ∧ (s.enterCall q z l).mic = s.mic ∧ (s.enterCall q z l).engine = s.engine ∧
      (s.enterCall q z l).fetch = s.fetch ∧ (s.enterCall q z l).foldback = s.foldback ∧
      (s.enterCall q z l).lines = s.lines := by
  simp [State.enterCall, State.kept_onRouter]

theorem State.submit_frame {q : CallRequest} {l : Option LineId} {id : Nat} {t : State}
    (h : s.submit q l = .ok (id, t)) :
    t.kept = s.kept ∧
      t.matrix = s.matrix ∧
      t.fades = s.fades ∧
      t.cast = s.cast ∧
      t.mic = s.mic ∧
      t.engine = s.engine ∧
      t.foldback = s.foldback ∧
      t.lines = s.lines := by
  unfold State.submit at h; dsimp only at h
  (repeat' split at h) <;> first | (injection h with h; injection h with _ h; subst h; simp) | (simp at h)

@[simp] theorem State.releaseLine_frame (n : LineId) :
    (s.releaseLine n).kept = s.kept ∧ (s.releaseLine n).matrix = s.matrix ∧ (s.releaseLine n).fades = s.fades ∧
      (s.releaseLine n).cast = s.cast ∧ (s.releaseLine n).mic = s.mic ∧ (s.releaseLine n).engine = s.engine ∧
      (s.releaseLine n).foldback = s.foldback ∧ (s.releaseLine n).lines = s.lines := by
  unfold State.releaseLine; split <;> simp

@[simp] theorem State.readerFrame_frame (r : ReaderId) :
    (s.readerFrame r).kept = s.kept ∧ (s.readerFrame r).matrix = s.matrix ∧ (s.readerFrame r).cast = s.cast ∧
      (s.readerFrame r).mic = s.mic ∧ (s.readerFrame r).foldback = s.foldback ∧ (s.readerFrame r).lines = s.lines := by
  unfold State.readerFrame; dsimp only; (repeat' split) <;> simp

@[simp] theorem State.slotFailed_frame (r : ReaderId) (i : RingSlot) :
    (s.slotFailed r i).kept = s.kept ∧ (s.slotFailed r i).matrix = s.matrix ∧ (s.slotFailed r i).cast = s.cast ∧
      (s.slotFailed r i).mic = s.mic ∧ (s.slotFailed r i).foldback = s.foldback ∧ (s.slotFailed r i).lines = s.lines := by
  unfold State.slotFailed; dsimp only; (repeat' split) <;> simp

/-! ## The cue engine -/

@[simp] theorem State.releaseUnwanted_frame (v : VoiceId) :
    (s.releaseUnwanted v).kept = s.kept ∧ (s.releaseUnwanted v).matrix = s.matrix ∧
      (s.releaseUnwanted v).cast = s.cast ∧ (s.releaseUnwanted v).mic = s.mic ∧
      (s.releaseUnwanted v).foldback = s.foldback ∧ (s.releaseUnwanted v).router = s.router ∧
      (s.releaseUnwanted v).lines = s.lines := by
  unfold State.releaseUnwanted; split <;> simp

@[simp] theorem State.primeWanted_frame (e : VoiceId × SoundId) :
    (s.primeWanted e).kept = s.kept ∧ (s.primeWanted e).matrix = s.matrix ∧ (s.primeWanted e).fades = s.fades ∧
      (s.primeWanted e).cast = s.cast ∧ (s.primeWanted e).mic = s.mic ∧ (s.primeWanted e).engine = s.engine ∧
      (s.primeWanted e).foldback = s.foldback ∧ (s.primeWanted e).router = s.router ∧
      (s.primeWanted e).lines = s.lines := by
  unfold State.primeWanted; split <;> simp

theorem readers_blocks {α : Type} (f : State → α → State) (hk : ∀ s a, (f s a).kept = s.kept)
    (h0 : ∀ s a, (f s a).matrix = s.matrix)
    (h1 : ∀ s a, (f s a).cast = s.cast)
    (h2 : ∀ s a, (f s a).mic = s.mic)
    (h3 : ∀ s a, (f s a).foldback = s.foldback)
    (h4 : ∀ s a, (f s a).router = s.router)
    (h5 : ∀ s a, (f s a).lines = s.lines) (l : List α) :
    (l.foldl f s).kept = s.kept ∧
      (l.foldl f s).matrix = s.matrix ∧
      (l.foldl f s).cast = s.cast ∧
      (l.foldl f s).mic = s.mic ∧
      (l.foldl f s).foldback = s.foldback ∧
      (l.foldl f s).router = s.router ∧
      (l.foldl f s).lines = s.lines :=
  ⟨foldl_keeps State.kept f hk l s, foldl_keeps State.matrix f h0 l s, foldl_keeps State.cast f h1 l s, foldl_keeps State.mic f h2 l s, foldl_keeps State.foldback f h3 l s, foldl_keeps State.router f h4 l s, foldl_keeps State.lines f h5 l s⟩

@[simp] theorem State.evaluatePriming_frame :
    (s.evaluatePriming).kept = s.kept ∧ (s.evaluatePriming).matrix = s.matrix ∧ (s.evaluatePriming).cast = s.cast ∧
      (s.evaluatePriming).mic = s.mic ∧ (s.evaluatePriming).foldback = s.foldback ∧
      (s.evaluatePriming).router = s.router ∧ (s.evaluatePriming).lines = s.lines := by
  have h1 := fun s => readers_blocks s State.releaseUnwanted (by simp) (by simp) (by simp) (by simp) (by simp) (by simp) (by simp)
  have h2 := fun s => readers_blocks s State.primeWanted (by simp) (by simp) (by simp) (by simp) (by simp) (by simp) (by simp)
  simp [State.evaluatePriming, h1, h2]

@[simp] theorem State.settleReady_frame :
    (s.settleReady).kept = s.kept ∧ (s.settleReady).matrix = s.matrix ∧ (s.settleReady).fades = s.fades ∧
      (s.settleReady).cast = s.cast ∧ (s.settleReady).mic = s.mic ∧ (s.settleReady).fetch = s.fetch ∧
      (s.settleReady).foldback = s.foldback ∧ (s.settleReady).router = s.router ∧ (s.settleReady).lines = s.lines := by
  unfold State.settleReady; dsimp only; (repeat' split) <;> simp

@[simp] theorem State.finish_frame :
    (s.finish).kept = s.kept ∧ (s.finish).matrix = s.matrix ∧ (s.finish).cast = s.cast ∧ (s.finish).mic = s.mic ∧
      (s.finish).foldback = s.foldback ∧ (s.finish).router = s.router ∧ (s.finish).lines = s.lines := by
  unfold State.finish; split <;> simp

@[simp] theorem State.moveStandby_frame (n : Option Nat) :
    (s.moveStandby n).kept = s.kept ∧ (s.moveStandby n).matrix = s.matrix ∧ (s.moveStandby n).cast = s.cast ∧
      (s.moveStandby n).mic = s.mic ∧ (s.moveStandby n).foldback = s.foldback ∧ (s.moveStandby n).router = s.router ∧
      (s.moveStandby n).lines = s.lines := by
  unfold State.moveStandby; split <;> simp

@[simp] theorem State.countSkip_frame (b : Bus) :
    (s.countSkip b).kept = s.kept ∧ (s.countSkip b).matrix = s.matrix ∧ (s.countSkip b).fades = s.fades ∧
      (s.countSkip b).cast = s.cast ∧ (s.countSkip b).mic = s.mic ∧ (s.countSkip b).engine = s.engine ∧
      (s.countSkip b).fetch = s.fetch ∧ (s.countSkip b).router = s.router ∧ (s.countSkip b).lines = s.lines := by
  unfold State.countSkip; split <;> simp

@[simp] theorem State.fireLevel_frame (n : FireCounts) (i : InstSlot) (row : Row) (bus : Bus) (c : LevelCode) (ms : Nat) :
    (s.fireLevel n i row bus c ms).1.kept = s.kept ∧ (s.fireLevel n i row bus c ms).1.cast = s.cast ∧
      (s.fireLevel n i row bus c ms).1.mic = s.mic ∧ (s.fireLevel n i row bus c ms).1.fetch = s.fetch ∧
      (s.fireLevel n i row bus c ms).1.router = s.router ∧ (s.fireLevel n i row bus c ms).1.lines = s.lines := by
  unfold State.fireLevel; (repeat' split) <;> simp

theorem State.fireCall_frame (n : FireCounts) (k : PresetId) :
    (s.fireCall n k).1.kept = s.kept ∧
      (s.fireCall n k).1.matrix = s.matrix ∧
      (s.fireCall n k).1.fades = s.fades ∧
      (s.fireCall n k).1.cast = s.cast ∧
      (s.fireCall n k).1.mic = s.mic ∧
      (s.fireCall n k).1.engine = s.engine ∧
      (s.fireCall n k).1.foldback = s.foldback ∧
      (s.fireCall n k).1.lines = s.lines := by
  unfold State.fireCall
  split
  · simp
  · split
    · simp
    · rename_i h; exact s.submit_frame h

theorem State.fireAction_frame (i : InstSlot) (acc : State × FireCounts) (a : Action) :
    (State.fireAction i acc a).1.kept = acc.1.kept ∧ (State.fireAction i acc a).1.cast = acc.1.cast ∧
      (State.fireAction i acc a).1.mic = acc.1.mic := by
  obtain ⟨s, n⟩ := acc
  unfold State.fireAction; dsimp only
  split
  · simp
  · split <;> simp
  · simp
  · have h := s.fireCall_frame n; simp [h]
  · simp

theorem State.fireActions_frame (i : InstSlot) (l : List Action) (acc : State × FireCounts) :
    (l.foldl (State.fireAction i) acc).1.kept = acc.1.kept ∧ (l.foldl (State.fireAction i) acc).1.cast = acc.1.cast ∧
      (l.foldl (State.fireAction i) acc).1.mic = acc.1.mic := by
  induction l generalizing acc with
  | nil => simp
  | cons a l ih =>
    have h := State.fireAction_frame i acc a
    have g := ih (State.fireAction i acc a)
    rw [List.foldl_cons]
    exact ⟨g.1.trans h.1, g.2.1.trans h.2.1, g.2.2.trans h.2.2⟩

@[simp] theorem State.disownStarts_frame (i : InstSlot) :
    (s.disownStarts i).kept = s.kept ∧ (s.disownStarts i).matrix = s.matrix ∧ (s.disownStarts i).fades = s.fades ∧
      (s.disownStarts i).cast = s.cast ∧ (s.disownStarts i).mic = s.mic ∧ (s.disownStarts i).engine = s.engine ∧
      (s.disownStarts i).foldback = s.foldback ∧ (s.disownStarts i).router = s.router ∧
      (s.disownStarts i).lines = s.lines := by
  simp [State.disownStarts, State.kept_onFetch]

@[simp] theorem State.retire_frame (i : Inst) :
    (s.retire i).kept = s.kept ∧ (s.retire i).matrix = s.matrix ∧ (s.retire i).cast = s.cast ∧
      (s.retire i).mic = s.mic ∧ (s.retire i).foldback = s.foldback ∧ (s.retire i).router = s.router ∧
      (s.retire i).lines = s.lines := by
  simp [State.retire]

@[simp] theorem State.makeRoom_frame :
    (s.makeRoom).kept = s.kept ∧ (s.makeRoom).matrix = s.matrix ∧ (s.makeRoom).cast = s.cast ∧
      (s.makeRoom).mic = s.mic ∧ (s.makeRoom).foldback = s.foldback ∧ (s.makeRoom).router = s.router ∧
      (s.makeRoom).lines = s.lines := by
  unfold State.makeRoom; (repeat' split) <;> simp

@[simp] theorem State.cancelChain_frame (n : Nat) :
    (s.cancelChain n).kept = s.kept ∧ (s.cancelChain n).matrix = s.matrix ∧ (s.cancelChain n).fades = s.fades ∧
      (s.cancelChain n).cast = s.cast ∧ (s.cancelChain n).mic = s.mic ∧ (s.cancelChain n).fetch = s.fetch ∧
      (s.cancelChain n).foldback = s.foldback ∧ (s.cancelChain n).router = s.router ∧
      (s.cancelChain n).lines = s.lines := by
  unfold State.cancelChain; (repeat' split) <;> simp

@[simp] theorem State.openInst_frame (c : Cue) :
    (s.openInst c).kept = s.kept ∧ (s.openInst c).matrix = s.matrix ∧ (s.openInst c).fades = s.fades ∧
      (s.openInst c).cast = s.cast ∧ (s.openInst c).mic = s.mic ∧ (s.openInst c).fetch = s.fetch ∧
      (s.openInst c).foldback = s.foldback ∧ (s.openInst c).router = s.router ∧ (s.openInst c).lines = s.lines := by
  simp [State.openInst]

@[simp] theorem State.startLink_frame (c : Cue) :
    (s.startLink c).kept = s.kept ∧ (s.startLink c).matrix = s.matrix ∧ (s.startLink c).fades = s.fades ∧
      (s.startLink c).cast = s.cast ∧ (s.startLink c).mic = s.mic ∧ (s.startLink c).fetch = s.fetch ∧
      (s.startLink c).foldback = s.foldback ∧ (s.startLink c).router = s.router ∧ (s.startLink c).lines = s.lines := by
  unfold State.startLink; split <;> simp

@[simp] theorem State.closeFiring_frame (c : Cue) (i : InstSlot) (n : FireCounts) :
    (s.closeFiring c i n).1.kept = s.kept ∧ (s.closeFiring c i n).1.matrix = s.matrix ∧
      (s.closeFiring c i n).1.fades = s.fades ∧ (s.closeFiring c i n).1.cast = s.cast ∧
      (s.closeFiring c i n).1.mic = s.mic ∧ (s.closeFiring c i n).1.fetch = s.fetch ∧
      (s.closeFiring c i n).1.foldback = s.foldback ∧ (s.closeFiring c i n).1.router = s.router ∧
      (s.closeFiring c i n).1.lines = s.lines := by
  unfold State.closeFiring; dsimp only; (repeat' split) <;> simp

@[simp] theorem State.fire_frame (c : Cue) :
    (s.fire c).1.kept = s.kept ∧ (s.fire c).1.cast = s.cast ∧ (s.fire c).1.mic = s.mic := by
  have h := State.fireActions_frame
  simp [State.fire, h]

@[simp] theorem State.expireChain_frame :
    (s.expireChain).kept = s.kept ∧ (s.expireChain).cast = s.cast ∧ (s.expireChain).mic = s.mic := by
  unfold State.expireChain; dsimp only; (repeat' split) <;> simp

@[simp] theorem State.chainFrame_frame :
    (s.chainFrame).kept = s.kept ∧ (s.chainFrame).matrix = s.matrix ∧ (s.chainFrame).fades = s.fades ∧
      (s.chainFrame).cast = s.cast ∧ (s.chainFrame).mic = s.mic ∧ (s.chainFrame).fetch = s.fetch ∧
      (s.chainFrame).foldback = s.foldback ∧ (s.chainFrame).router = s.router ∧ (s.chainFrame).lines = s.lines := by
  simp [State.chainFrame]

@[simp] theorem State.setRun_frame (b : Bool) :
    (s.setRun b).kept = s.kept ∧ (s.setRun b).matrix = s.matrix ∧ (s.setRun b).fades = s.fades ∧
      (s.setRun b).cast = s.cast ∧ (s.setRun b).mic = s.mic ∧ (s.setRun b).fetch = s.fetch ∧
      (s.setRun b).foldback = s.foldback ∧ (s.setRun b).router = s.router ∧ (s.setRun b).lines = s.lines := by
  unfold State.setRun; split <;> simp

@[simp] theorem State.stopAll_frame (ms : Nat) :
    (s.stopAll ms).kept = s.kept ∧ (s.stopAll ms).matrix = s.matrix ∧ (s.stopAll ms).cast = s.cast ∧
      (s.stopAll ms).mic = s.mic ∧ (s.stopAll ms).foldback = s.foldback ∧ (s.stopAll ms).router = s.router ∧
      (s.stopAll ms).lines = s.lines := by
  have h1 := fun s => readers_blocks s (fun (s : State) v => s.enterIdle (voiceReader v) "stopped") (by simp) (by simp) (by simp) (by simp) (by simp) (by simp) (by simp)
  have h2 := fun s => readers_blocks s (fun (s : State) v => s.stopVoice v ms none) (by simp) (by simp) (by simp) (by simp) (by simp) (by simp) (by simp)
  simp [State.stopAll, h1, h2]

/-! ## The cast table and the mic supervisor -/

@[simp] theorem State.beginCrossfade_frame (r : RoleId) (o : Option (InputId × LevelCode)) :
    (s.beginCrossfade r o).kept = s.kept ∧ (s.beginCrossfade r o).matrix = s.matrix ∧
      (s.beginCrossfade r o).fades = s.fades ∧ (s.beginCrossfade r o).mic = s.mic ∧
      (s.beginCrossfade r o).engine = s.engine ∧ (s.beginCrossfade r o).fetch = s.fetch ∧
      (s.beginCrossfade r o).foldback = s.foldback ∧ (s.beginCrossfade r o).router = s.router ∧
      (s.beginCrossfade r o).lines = s.lines := by
  simp [State.beginCrossfade]

@[simp] theorem State.changeover_frame (p : PerfId) (i : InputId) :
    (s.changeover p i).kept = s.kept ∧ (s.changeover p i).matrix = s.matrix ∧ (s.changeover p i).fades = s.fades ∧
      (s.changeover p i).mic = s.mic ∧ (s.changeover p i).engine = s.engine ∧ (s.changeover p i).fetch = s.fetch ∧
      (s.changeover p i).foldback = s.foldback ∧ (s.changeover p i).router = s.router ∧
      (s.changeover p i).lines = s.lines := by
  unfold State.changeover; (repeat' split) <;> simp

@[simp] theorem State.raisePerf_frame (p : PerfId) (e : String) :
    (s.raisePerf p e).kept = s.kept ∧ (s.raisePerf p e).matrix = s.matrix ∧ (s.raisePerf p e).fades = s.fades ∧
      (s.raisePerf p e).cast = s.cast ∧ (s.raisePerf p e).mic = s.mic ∧ (s.raisePerf p e).engine = s.engine ∧
      (s.raisePerf p e).fetch = s.fetch ∧ (s.raisePerf p e).foldback = s.foldback ∧
      (s.raisePerf p e).router = s.router ∧ (s.raisePerf p e).lines = s.lines := by
  simp [State.raisePerf]

@[simp] theorem State.castRole_frame (r : RoleId) (p : Option PerfId) :
    (s.castRole r p).kept = s.kept ∧ (s.castRole r p).matrix = s.matrix ∧ (s.castRole r p).fades = s.fades ∧
      (s.castRole r p).mic = s.mic ∧ (s.castRole r p).engine = s.engine ∧ (s.castRole r p).fetch = s.fetch ∧
      (s.castRole r p).foldback = s.foldback ∧ (s.castRole r p).router = s.router ∧ (s.castRole r p).lines = s.lines := by
  unfold State.castRole; dsimp only; (repeat' split) <;> simp

@[simp] theorem State.silenceRow_frame (i : InputId) :
    (s.silenceRow i).kept = s.kept ∧ (s.silenceRow i).cast = s.cast ∧ (s.silenceRow i).mic = s.mic ∧
      (s.silenceRow i).foldback = s.foldback ∧ (s.silenceRow i).router = s.router ∧ (s.silenceRow i).lines = s.lines := by
  have h := fun s => foldl_keeps State.kept (fun (s : State) t => s.snapLevel t offCode) (by simp) (rowTargets i) s
  have hcast := foldl_keeps State.cast (fun (s : State) t => s.snapLevel t offCode) (by simp) (rowTargets i) s
  have hmic := foldl_keeps State.mic (fun (s : State) t => s.snapLevel t offCode) (by simp) (rowTargets i) s
  have hfoldback := foldl_keeps State.foldback (fun (s : State) t => s.snapLevel t offCode) (by simp) (rowTargets i) s
  have hrouter := foldl_keeps State.router (fun (s : State) t => s.snapLevel t offCode) (by simp) (rowTargets i) s
  have hlines := foldl_keeps State.lines (fun (s : State) t => s.snapLevel t offCode) (by simp) (rowTargets i) s
  exact ⟨h s, hcast, hmic, hfoldback, hrouter, hlines⟩

@[simp] theorem State.discard_frame (c : Discard) :
    (s.discard c).kept = s.kept ∧ (s.discard c).matrix = s.matrix ∧ (s.discard c).fades = s.fades ∧
      (s.discard c).cast = s.cast ∧ (s.discard c).engine = s.engine ∧ (s.discard c).fetch = s.fetch ∧
      (s.discard c).foldback = s.foldback ∧ (s.discard c).router = s.router ∧ (s.discard c).lines = s.lines := by
  cases c <;> simp [State.discard]

@[simp] theorem State.checkRecord_frame (l : List Byte) :
    (s.checkRecord l).kept = s.kept ∧ (s.checkRecord l).matrix = s.matrix ∧ (s.checkRecord l).fades = s.fades ∧
      (s.checkRecord l).cast = s.cast ∧ (s.checkRecord l).engine = s.engine ∧ (s.checkRecord l).fetch = s.fetch ∧
      (s.checkRecord l).foldback = s.foldback ∧ (s.checkRecord l).router = s.router ∧
      (s.checkRecord l).lines = s.lines := by
  unfold State.checkRecord; (repeat' split) <;> simp [State.kept_onMic]

@[simp] theorem State.huntByte_frame (b : Byte) (f : Bool) :
    (s.huntByte b f).kept = s.kept ∧ (s.huntByte b f).matrix = s.matrix ∧ (s.huntByte b f).fades = s.fades ∧
      (s.huntByte b f).cast = s.cast ∧ (s.huntByte b f).engine = s.engine ∧ (s.huntByte b f).fetch = s.fetch ∧
      (s.huntByte b f).foldback = s.foldback ∧ (s.huntByte b f).router = s.router ∧ (s.huntByte b f).lines = s.lines := by
  unfold State.huntByte; split <;> simp

@[simp] theorem State.takeByte_frame (b : Byte) (f : Bool) :
    (s.takeByte b f).kept = s.kept ∧ (s.takeByte b f).matrix = s.matrix ∧ (s.takeByte b f).fades = s.fades ∧
      (s.takeByte b f).cast = s.cast ∧ (s.takeByte b f).engine = s.engine ∧ (s.takeByte b f).fetch = s.fetch ∧
      (s.takeByte b f).foldback = s.foldback ∧ (s.takeByte b f).router = s.router ∧ (s.takeByte b f).lines = s.lines := by
  unfold State.takeByte; (repeat' split) <;> simp

@[simp] theorem State.takeReference_frame (d : TlmRecord) :
    (s.takeReference d).kept = s.kept ∧ (s.takeReference d).matrix = s.matrix ∧ (s.takeReference d).fades = s.fades ∧
      (s.takeReference d).cast = s.cast ∧ (s.takeReference d).engine = s.engine ∧
      (s.takeReference d).fetch = s.fetch ∧ (s.takeReference d).foldback = s.foldback ∧
      (s.takeReference d).router = s.router ∧ (s.takeReference d).lines = s.lines := by
  unfold State.takeReference; split <;> simp [State.kept_onMic]

@[simp] theorem State.raiseMic_frame (i : InputId) (h : HealthRec) (p : PerfId) (e : String) :
    (s.raiseMic i h p e).kept = s.kept ∧ (s.raiseMic i h p e).matrix = s.matrix ∧
      (s.raiseMic i h p e).fades = s.fades ∧ (s.raiseMic i h p e).cast = s.cast ∧ (s.raiseMic i h p e).mic = s.mic ∧
      (s.raiseMic i h p e).engine = s.engine ∧ (s.raiseMic i h p e).fetch = s.fetch ∧
      (s.raiseMic i h p e).foldback = s.foldback ∧ (s.raiseMic i h p e).router = s.router ∧
      (s.raiseMic i h p e).lines = s.lines := by
  simp [State.raiseMic]

@[simp] theorem State.track_frame (i : InputId) (p : PerfId) :
    (s.track i p).kept = s.kept ∧ (s.track i p).matrix = s.matrix ∧ (s.track i p).fades = s.fades ∧
      (s.track i p).cast = s.cast ∧ (s.track i p).engine = s.engine ∧ (s.track i p).fetch = s.fetch ∧
      (s.track i p).foldback = s.foldback ∧ (s.track i p).router = s.router ∧ (s.track i p).lines = s.lines := by
  simp [State.track]

@[simp] theorem State.untrack_frame (i : InputId) (p : PerfId) :
    (s.untrack i p).kept = s.kept ∧ (s.untrack i p).matrix = s.matrix ∧ (s.untrack i p).fades = s.fades ∧
      (s.untrack i p).cast = s.cast ∧ (s.untrack i p).engine = s.engine ∧ (s.untrack i p).fetch = s.fetch ∧
      (s.untrack i p).foldback = s.foldback ∧ (s.untrack i p).router = s.router ∧ (s.untrack i p).lines = s.lines := by
  simp [State.untrack]

@[simp] theorem State.select_frame (p : PerfId) :
    (s.select p).1.kept = s.kept ∧ (s.select p).1.matrix = s.matrix ∧ (s.select p).1.fades = s.fades ∧
      (s.select p).1.mic = s.mic ∧ (s.select p).1.engine = s.engine ∧ (s.select p).1.fetch = s.fetch ∧
      (s.select p).1.foldback = s.foldback ∧ (s.select p).1.router = s.router ∧ (s.select p).1.lines = s.lines := by
  unfold State.select; dsimp only; (repeat' split) <;> simp

@[simp] theorem State.revert_frame (p : PerfId) (i : InputId) :
    (s.revert p i).1.kept = s.kept ∧ (s.revert p i).1.matrix = s.matrix ∧ (s.revert p i).1.fades = s.fades ∧
      (s.revert p i).1.mic = s.mic ∧ (s.revert p i).1.engine = s.engine ∧ (s.revert p i).1.fetch = s.fetch ∧
      (s.revert p i).1.foldback = s.foldback ∧ (s.revert p i).1.router = s.router ∧ (s.revert p i).1.lines = s.lines := by
  simp [State.revert]

@[simp] theorem State.afterHealth_frame (p : PerfId) (i : InputId) (a b : Health) :
    (s.afterHealth p i a b).1.kept = s.kept ∧ (s.afterHealth p i a b).1.matrix = s.matrix ∧
      (s.afterHealth p i a b).1.fades = s.fades ∧ (s.afterHealth p i a b).1.mic = s.mic ∧
      (s.afterHealth p i a b).1.engine = s.engine ∧ (s.afterHealth p i a b).1.fetch = s.fetch ∧
      (s.afterHealth p i a b).1.foldback = s.foldback ∧ (s.afterHealth p i a b).1.router = s.router ∧
      (s.afterHealth p i a b).1.lines = s.lines := by
  unfold State.afterHealth; dsimp only; (repeat' split) <;> simp

@[simp] theorem State.raisePerfIf_frame (p : PerfId) (e : Option String) :
    (s.raisePerfIf p e).kept = s.kept ∧ (s.raisePerfIf p e).matrix = s.matrix ∧ (s.raisePerfIf p e).fades = s.fades ∧
      (s.raisePerfIf p e).cast = s.cast ∧ (s.raisePerfIf p e).mic = s.mic ∧ (s.raisePerfIf p e).engine = s.engine ∧
      (s.raisePerfIf p e).fetch = s.fetch ∧ (s.raisePerfIf p e).foldback = s.foldback ∧
      (s.raisePerfIf p e).router = s.router ∧ (s.raisePerfIf p e).lines = s.lines := by
  cases e <;> simp [State.raisePerfIf]

@[simp] theorem State.changeHealth_frame (i : InputId) (f : HealthRec → HealthRec) :
    (s.changeHealth i f).kept = s.kept ∧ (s.changeHealth i f).matrix = s.matrix ∧
      (s.changeHealth i f).fades = s.fades ∧ (s.changeHealth i f).engine = s.engine ∧
      (s.changeHealth i f).fetch = s.fetch ∧ (s.changeHealth i f).foldback = s.foldback ∧
      (s.changeHealth i f).router = s.router ∧ (s.changeHealth i f).lines = s.lines := by
  unfold State.changeHealth; dsimp only; (repeat' split) <;> simp

@[simp] theorem State.takeRecord_frame (d : TlmRecord) :
    (s.takeRecord d).kept = s.kept ∧ (s.takeRecord d).matrix = s.matrix ∧ (s.takeRecord d).fades = s.fades ∧
      (s.takeRecord d).engine = s.engine ∧ (s.takeRecord d).fetch = s.fetch ∧
      (s.takeRecord d).foldback = s.foldback ∧ (s.takeRecord d).router = s.router ∧ (s.takeRecord d).lines = s.lines := by
  simp [State.takeRecord]

@[simp] theorem State.setAuto_frame (p : PerfId) :
    (s.setAuto p).kept = s.kept ∧ (s.setAuto p).matrix = s.matrix ∧ (s.setAuto p).fades = s.fades ∧
      (s.setAuto p).mic = s.mic ∧ (s.setAuto p).engine = s.engine ∧ (s.setAuto p).fetch = s.fetch ∧
      (s.setAuto p).foldback = s.foldback ∧ (s.setAuto p).router = s.router ∧ (s.setAuto p).lines = s.lines := by
  unfold State.setAuto; dsimp only; (repeat' split) <;> simp

/-! ## The foldback section and the logic lines -/

@[simp] theorem State.raiseGuard_frame (k : FbId) (e : String) (x : LevelCode × Nat) (q : Option LevelCode) :
    (s.raiseGuard k e x q).kept = s.kept ∧ (s.raiseGuard k e x q).matrix = s.matrix ∧
      (s.raiseGuard k e x q).fades = s.fades ∧ (s.raiseGuard k e x q).cast = s.cast ∧
      (s.raiseGuard k e x q).mic = s.mic ∧ (s.raiseGuard k e x q).engine = s.engine ∧
      (s.raiseGuard k e x q).fetch = s.fetch ∧ (s.raiseGuard k e x q).foldback = s.foldback ∧
      (s.raiseGuard k e x q).router = s.router ∧ (s.raiseGuard k e x q).lines = s.lines := by
  simp [State.raiseGuard]

@[simp] theorem State.endWindow_frame (k : FbId) :
    (s.endWindow k).kept = s.kept ∧ (s.endWindow k).matrix = s.matrix ∧ (s.endWindow k).fades = s.fades ∧
      (s.endWindow k).cast = s.cast ∧ (s.endWindow k).mic = s.mic ∧ (s.endWindow k).engine = s.engine ∧
      (s.endWindow k).fetch = s.fetch ∧ (s.endWindow k).router = s.router ∧ (s.endWindow k).lines = s.lines := by
  unfold State.endWindow; dsimp only; (repeat' split) <;> simp

@[simp] theorem State.endWindows_frame :
    (s.endWindows).kept = s.kept ∧ (s.endWindows).matrix = s.matrix ∧ (s.endWindows).fades = s.fades ∧
      (s.endWindows).cast = s.cast ∧ (s.endWindows).mic = s.mic ∧ (s.endWindows).engine = s.engine ∧
      (s.endWindows).fetch = s.fetch ∧ (s.endWindows).router = s.router ∧ (s.endWindows).lines = s.lines := by
  have h := fun s => foldl_keeps State.kept State.endWindow (by simp) (List.finRange 16) s
  have hmatrix := fun s => foldl_keeps State.matrix State.endWindow (by simp) (List.finRange 16) s
  have hfades := fun s => foldl_keeps State.fades State.endWindow (by simp) (List.finRange 16) s
  have hcast := fun s => foldl_keeps State.cast State.endWindow (by simp) (List.finRange 16) s
  have hmic := fun s => foldl_keeps State.mic State.endWindow (by simp) (List.finRange 16) s
  have hengine := fun s => foldl_keeps State.engine State.endWindow (by simp) (List.finRange 16) s
  have hfetch := fun s => foldl_keeps State.fetch State.endWindow (by simp) (List.finRange 16) s
  have hrouter := fun s => foldl_keeps State.router State.endWindow (by simp) (List.finRange 16) s
  have hlines := fun s => foldl_keeps State.lines State.endWindow (by simp) (List.finRange 16) s
  simp [State.endWindows, State.kept_onFoldback, h, hmatrix, hfades, hcast, hmic, hengine, hfetch, hrouter, hlines]

@[simp] theorem State.setGuard_frame (k : FbId) (b : Bool) :
    (s.setGuard k b).kept = s.kept ∧ (s.setGuard k b).matrix = s.matrix ∧ (s.setGuard k b).fades = s.fades ∧
      (s.setGuard k b).cast = s.cast ∧ (s.setGuard k b).mic = s.mic ∧ (s.setGuard k b).engine = s.engine ∧
      (s.setGuard k b).fetch = s.fetch ∧ (s.setGuard k b).router = s.router ∧ (s.setGuard k b).lines = s.lines := by
  unfold State.setGuard; dsimp only; (repeat' split) <;> simp

@[simp] theorem FoldbackBlock.rampMembers_keeps (b : FoldbackBlock) (g : LevelCode) (ms : Nat) :
    (b.rampMembers g ms).talkLevel = b.talkLevel ∧ (b.rampMembers g ms).talkDepth = b.talkDepth ∧
      (b.rampMembers g ms).talkCommand = b.talkCommand ∧ (b.rampMembers g ms).heldLines = b.heldLines ∧
      (b.rampMembers g ms).window = b.window := by simp [FoldbackBlock.rampMembers]

@[simp] theorem FoldbackBlock.holdLine_keeps (b : FoldbackBlock) (n : LineId) (h : Bool) :
    (b.holdLine n h).talkLevel = b.talkLevel ∧ (b.holdLine n h).talkDepth = b.talkDepth ∧
      (b.holdLine n h).talkCommand = b.talkCommand ∧ (b.holdLine n h).heldLines = put b.heldLines n h ∧
      (b.holdLine n h).window = b.window := by
  unfold FoldbackBlock.holdLine FoldbackBlock.afterTalk; (repeat' split) <;> simp

@[simp] theorem State.refusePress_frame (n : LineId) (w : String) :
    (s.refusePress n w).kept = s.kept ∧ (s.refusePress n w).matrix = s.matrix ∧ (s.refusePress n w).fades = s.fades ∧
      (s.refusePress n w).cast = s.cast ∧ (s.refusePress n w).mic = s.mic ∧ (s.refusePress n w).engine = s.engine ∧
      (s.refusePress n w).fetch = s.fetch ∧ (s.refusePress n w).foldback = s.foldback ∧
      (s.refusePress n w).router = s.router := by
  simp [State.refusePress]

@[simp] theorem State.pressGo_frame (n : LineId) :
    (s.pressGo n).kept = s.kept ∧ (s.pressGo n).cast = s.cast ∧ (s.pressGo n).mic = s.mic := by
  unfold State.pressGo; split <;> simp

@[simp] theorem State.pressPreset_frame (n : LineId) (k : PresetId) :
    (s.pressPreset n k).kept = s.kept ∧ (s.pressPreset n k).matrix = s.matrix ∧ (s.pressPreset n k).fades = s.fades ∧
      (s.pressPreset n k).cast = s.cast ∧ (s.pressPreset n k).mic = s.mic ∧ (s.pressPreset n k).engine = s.engine ∧
      (s.pressPreset n k).foldback = s.foldback := by
  unfold State.pressPreset; split
  · simp
  · split
    · rename_i h; simp [s.submit_frame h]
    · simp

@[simp] theorem State.press_frame (n : LineId) :
    (s.press n).kept = s.kept ∧ (s.press n).cast = s.cast ∧ (s.press n).mic = s.mic := by
  unfold State.press; split <;> simp [State.kept_onFoldback]

@[simp] theorem State.release_frame (n : LineId) :
    (s.release n).kept = s.kept ∧ (s.release n).matrix = s.matrix ∧ (s.release n).fades = s.fades ∧
      (s.release n).cast = s.cast ∧ (s.release n).mic = s.mic ∧ (s.release n).engine = s.engine ∧
      (s.release n).lines = s.lines := by
  unfold State.release; split <;> simp [State.kept_onFoldback]

@[simp] theorem State.debounced_frame (n : LineId) :
    (s.debounced n).kept = s.kept ∧ (s.debounced n).cast = s.cast ∧ (s.debounced n).mic = s.mic := by
  unfold State.debounced; dsimp only; split <;> simp

@[simp] theorem State.endRole_frame (n : LineId) :
    (s.endRole n).kept = s.kept ∧ (s.endRole n).matrix = s.matrix ∧ (s.endRole n).fades = s.fades ∧
      (s.endRole n).cast = s.cast ∧ (s.endRole n).mic = s.mic ∧ (s.endRole n).engine = s.engine ∧
      (s.endRole n).lines = s.lines := by
  simp [State.endRole]

@[simp] theorem State.setLine_frame (n : LineId) (f : LineFn) (b : Bool) :
    (s.setLine n f b).kept = s.kept ∧ (s.setLine n f b).matrix = s.matrix ∧ (s.setLine n f b).fades = s.fades ∧
      (s.setLine n f b).cast = s.cast ∧ (s.setLine n f b).mic = s.mic ∧ (s.setLine n f b).engine = s.engine := by
  unfold State.setLine; dsimp only; split <;> simp

/-! ## The events of the timers and of the store -/

@[simp] theorem State.showResetPriming_frame :
    (s.showResetPriming).kept = s.kept ∧ (s.showResetPriming).matrix = s.matrix ∧
      (s.showResetPriming).cast = s.cast ∧ (s.showResetPriming).mic = s.mic ∧
      (s.showResetPriming).foldback = s.foldback ∧ (s.showResetPriming).router = s.router ∧
      (s.showResetPriming).lines = s.lines := by
  unfold State.showResetPriming; split <;> simp

@[simp] theorem State.raiseClip_frame (b : Bus) (c : Clip) :
    (s.raiseClip b c).kept = s.kept ∧ (s.raiseClip b c).matrix = s.matrix ∧ (s.raiseClip b c).fades = s.fades ∧
      (s.raiseClip b c).cast = s.cast ∧ (s.raiseClip b c).mic = s.mic ∧ (s.raiseClip b c).engine = s.engine ∧
      (s.raiseClip b c).fetch = s.fetch ∧ (s.raiseClip b c).foldback = s.foldback ∧
      (s.raiseClip b c).router = s.router ∧ (s.raiseClip b c).lines = s.lines := by
  simp [State.raiseClip]

@[simp] theorem State.feedClip_frame (e : Bus × Sample) :
    (s.feedClip e).kept = s.kept ∧ (s.feedClip e).fades = s.fades ∧ (s.feedClip e).cast = s.cast ∧
      (s.feedClip e).mic = s.mic ∧ (s.feedClip e).engine = s.engine ∧ (s.feedClip e).fetch = s.fetch ∧
      (s.feedClip e).foldback = s.foldback ∧ (s.feedClip e).router = s.router ∧ (s.feedClip e).lines = s.lines := by
  unfold State.feedClip; dsimp only; split <;> simp

@[simp] theorem State.clearClip_frame (b : Bus) :
    (s.clearClip b).kept = s.kept ∧ (s.clearClip b).fades = s.fades ∧ (s.clearClip b).cast = s.cast ∧
      (s.clearClip b).mic = s.mic ∧ (s.clearClip b).engine = s.engine ∧ (s.clearClip b).fetch = s.fetch ∧
      (s.clearClip b).foldback = s.foldback ∧ (s.clearClip b).router = s.router ∧ (s.clearClip b).lines = s.lines := by
  unfold State.clearClip; dsimp only; split <;> simp

@[simp] theorem State.completeFade_frame (f : Fade) :
    (s.completeFade f).kept = s.kept ∧ (s.completeFade f).cast = s.cast ∧ (s.completeFade f).mic = s.mic ∧
      (s.completeFade f).foldback = s.foldback ∧ (s.completeFade f).router = s.router ∧
      (s.completeFade f).lines = s.lines := by
  unfold State.completeFade; (repeat' split) <;> simp

@[simp] theorem State.fadeDone_frame (t : Target) :
    (s.fadeDone t).kept = s.kept ∧ (s.fadeDone t).cast = s.cast ∧ (s.fadeDone t).mic = s.mic ∧
      (s.fadeDone t).foldback = s.foldback ∧ (s.fadeDone t).router = s.router ∧ (s.fadeDone t).lines = s.lines := by
  unfold State.fadeDone; (repeat' split) <;> simp

@[simp] theorem State.crossfadeDone_frame (r : RoleId) :
    (s.crossfadeDone r).kept = s.kept ∧ (s.crossfadeDone r).matrix = s.matrix ∧ (s.crossfadeDone r).fades = s.fades ∧
      (s.crossfadeDone r).mic = s.mic ∧ (s.crossfadeDone r).engine = s.engine ∧ (s.crossfadeDone r).fetch = s.fetch ∧
      (s.crossfadeDone r).foldback = s.foldback ∧ (s.crossfadeDone r).router = s.router ∧
      (s.crossfadeDone r).lines = s.lines := by
  unfold State.crossfadeDone; (repeat' split) <;> simp

@[simp] theorem State.takeHanded_frame :
    (s.takeHanded).kept = s.kept ∧ (s.takeHanded).matrix = s.matrix ∧ (s.takeHanded).fades = s.fades ∧
      (s.takeHanded).engine = s.engine ∧ (s.takeHanded).fetch = s.fetch ∧ (s.takeHanded).foldback = s.foldback ∧
      (s.takeHanded).router = s.router ∧ (s.takeHanded).lines = s.lines := by
  unfold State.takeHanded; split <;> simp [State.kept_onMic]

@[simp] theorem State.dropoutDone_frame (i : InputId) :
    (s.dropoutDone i).kept = s.kept ∧ (s.dropoutDone i).matrix = s.matrix ∧ (s.dropoutDone i).fades = s.fades ∧
      (s.dropoutDone i).engine = s.engine ∧ (s.dropoutDone i).fetch = s.fetch ∧
      (s.dropoutDone i).foldback = s.foldback ∧ (s.dropoutDone i).router = s.router ∧
      (s.dropoutDone i).lines = s.lines := by
  unfold State.dropoutDone; (repeat' split) <;> simp

@[simp] theorem State.restoreDone_frame (i : InputId) :
    (s.restoreDone i).kept = s.kept ∧ (s.restoreDone i).matrix = s.matrix ∧ (s.restoreDone i).fades = s.fades ∧
      (s.restoreDone i).engine = s.engine ∧ (s.restoreDone i).fetch = s.fetch ∧
      (s.restoreDone i).foldback = s.foldback ∧ (s.restoreDone i).router = s.router ∧
      (s.restoreDone i).lines = s.lines := by
  unfold State.restoreDone; (repeat' split) <;> simp

@[simp] theorem State.staleDone_frame (i : InputId) :
    (s.staleDone i).kept = s.kept ∧ (s.staleDone i).matrix = s.matrix ∧ (s.staleDone i).fades = s.fades ∧
      (s.staleDone i).engine = s.engine ∧ (s.staleDone i).fetch = s.fetch ∧ (s.staleDone i).foldback = s.foldback ∧
      (s.staleDone i).router = s.router ∧ (s.staleDone i).lines = s.lines := by
  unfold State.staleDone; (repeat' split) <;> simp

@[simp] theorem State.referenceDone_frame :
    (s.referenceDone).kept = s.kept ∧ (s.referenceDone).matrix = s.matrix ∧ (s.referenceDone).fades = s.fades ∧
      (s.referenceDone).cast = s.cast ∧ (s.referenceDone).engine = s.engine ∧ (s.referenceDone).fetch = s.fetch ∧
      (s.referenceDone).foldback = s.foldback ∧ (s.referenceDone).router = s.router ∧
      (s.referenceDone).lines = s.lines := by
  unfold State.referenceDone; split <;> simp [State.kept_onMic]

@[simp] theorem State.tagDone_frame (t : TagId) :
    (s.tagDone t).kept = s.kept ∧ (s.tagDone t).matrix = s.matrix ∧ (s.tagDone t).cast = s.cast ∧
      (s.tagDone t).mic = s.mic ∧ (s.tagDone t).foldback = s.foldback ∧ (s.tagDone t).lines = s.lines := by
  unfold State.tagDone; dsimp only; (repeat' split) <;> simp [State.kept_onFetch]

@[simp] theorem State.discardCompletion_frame (t : TagId) :
    (s.discardCompletion t).kept = s.kept ∧ (s.discardCompletion t).matrix = s.matrix ∧
      (s.discardCompletion t).fades = s.fades ∧ (s.discardCompletion t).cast = s.cast ∧
      (s.discardCompletion t).mic = s.mic ∧ (s.discardCompletion t).engine = s.engine ∧
      (s.discardCompletion t).foldback = s.foldback ∧ (s.discardCompletion t).router = s.router ∧
      (s.discardCompletion t).lines = s.lines := by
  unfold State.discardCompletion; split <;> simp [State.kept_onFetch]

@[simp] theorem State.completeOk_frame (t : TagId) (w : Vector Word32 256) :
    (s.completeOk t w).kept = s.kept ∧ (s.completeOk t w).matrix = s.matrix ∧ (s.completeOk t w).cast = s.cast ∧
      (s.completeOk t w).mic = s.mic ∧ (s.completeOk t w).foldback = s.foldback ∧
      (s.completeOk t w).router = s.router ∧ (s.completeOk t w).lines = s.lines := by
  unfold State.completeOk; split <;> simp

@[simp] theorem State.completeError_frame (t : TagId) :
    (s.completeError t).kept = s.kept ∧ (s.completeError t).matrix = s.matrix ∧ (s.completeError t).cast = s.cast ∧
      (s.completeError t).mic = s.mic ∧ (s.completeError t).foldback = s.foldback ∧
      (s.completeError t).lines = s.lines := by
  unfold State.completeError; dsimp only; split <;> simp [State.kept_onFetch]

@[simp] theorem State.callDone_frame (id : Nat) :
    (s.callDone id).kept = s.kept ∧ (s.callDone id).matrix = s.matrix ∧ (s.callDone id).fades = s.fades ∧
      (s.callDone id).cast = s.cast ∧ (s.callDone id).mic = s.mic ∧ (s.callDone id).engine = s.engine ∧
      (s.callDone id).foldback = s.foldback ∧ (s.callDone id).lines = s.lines := by
  unfold State.callDone; (repeat' split) <;> simp

@[simp] theorem State.windowDone_frame :
    (s.windowDone).kept = s.kept ∧ (s.windowDone).matrix = s.matrix ∧ (s.windowDone).fades = s.fades ∧
      (s.windowDone).cast = s.cast ∧ (s.windowDone).mic = s.mic ∧ (s.windowDone).engine = s.engine ∧
      (s.windowDone).fetch = s.fetch ∧ (s.windowDone).router = s.router ∧ (s.windowDone).lines = s.lines := by
  unfold State.windowDone; split <;> simp

@[simp] theorem State.lineDone_frame (n : LineId) :
    (s.lineDone n).kept = s.kept ∧ (s.lineDone n).cast = s.cast ∧ (s.lineDone n).mic = s.mic := by
  unfold State.lineDone; split <;> simp

@[simp] theorem State.grantAll_frame :
    (s.grantAll).kept = s.kept ∧ (s.grantAll).matrix = s.matrix ∧ (s.grantAll).fades = s.fades ∧
      (s.grantAll).cast = s.cast ∧ (s.grantAll).mic = s.mic ∧ (s.grantAll).engine = s.engine ∧
      (s.grantAll).foldback = s.foldback ∧ (s.grantAll).router = s.router ∧ (s.grantAll).lines = s.lines := by
  have h := foldl_keeps State.kept (fun (s : State) (_ : Nat) => s.grantTag) (by simp) (List.range 8) s
  have hmatrix := foldl_keeps State.matrix (fun (s : State) (_ : Nat) => s.grantTag) (by simp) (List.range 8) s
  have hfades := foldl_keeps State.fades (fun (s : State) (_ : Nat) => s.grantTag) (by simp) (List.range 8) s
  have hcast := foldl_keeps State.cast (fun (s : State) (_ : Nat) => s.grantTag) (by simp) (List.range 8) s
  have hmic := foldl_keeps State.mic (fun (s : State) (_ : Nat) => s.grantTag) (by simp) (List.range 8) s
  have hengine := foldl_keeps State.engine (fun (s : State) (_ : Nat) => s.grantTag) (by simp) (List.range 8) s
  have hfoldback := foldl_keeps State.foldback (fun (s : State) (_ : Nat) => s.grantTag) (by simp) (List.range 8) s
  have hrouter := foldl_keeps State.router (fun (s : State) (_ : Nat) => s.grantTag) (by simp) (List.range 8) s
  have hlines := foldl_keeps State.lines (fun (s : State) (_ : Nat) => s.grantTag) (by simp) (List.range 8) s
  exact ⟨h, hmatrix, hfades, hcast, hmic, hengine, hfoldback, hrouter, hlines⟩

theorem State.takePrompt_frame (n : Nat) :
    (s.takePrompt n).kept = s.kept ∧ (s.takePrompt n).cast = s.cast ∧ (s.takePrompt n).mic = s.mic := by
  induction n generalizing s with
  | zero => simp [State.takePrompt]
  | succ n ih => unfold State.takePrompt; split <;> simp [ih]

/-- Expiries of chains change nothing the shared operations keep, nor the cast table or the supervisor. -/
@[simp] theorem State.takePromptChains_frame :
    s.takePromptChains.kept = s.kept ∧ s.takePromptChains.cast = s.cast ∧ s.takePromptChains.mic = s.mic :=
  s.takePrompt_frame _

@[simp] theorem State.eventsOwed_frame :
    s.eventsOwed.kept = s.kept ∧ s.eventsOwed.cast = s.cast ∧ s.eventsOwed.mic = s.mic := by
  simp [State.eventsOwed]

/-- Events of one kind, each ended as an operation, keep what each keeps. -/
theorem State.each_kept {α : Type} (l : List α) (f : State → α → State) (h : ∀ s a, (f s a).kept = s.kept) :
    (s.each l f).kept = s.kept := foldl_keeps State.kept _ (by simp [h]) l s

@[simp] theorem State.takeTimers_kept : s.takeTimers.kept = s.kept := by
  simp [State.takeTimers, State.each_kept]

/-- Taking what is due changes nothing the shared operations keep. -/
@[simp] theorem State.takeDue_kept : s.takeDue.kept = s.kept := by
  simp [State.takeDue, State.each_kept]

end

end Sys2Proof.Machine
end

