-- ==== Sys2Proof/Laws/Commands.lean ====
section
/-! SUPPORT. How a command and an event are carried out: what taking a line, answering it and ending an operation do, and what
every command leaves of the wires of the block: the link's queues and counts, the ports, the clock, and what waits. -/

namespace Sys2Proof.Machine

open Sys2Proof

section
variable {s t : State}

/-! ## The end of an operation (R117, R118) -/

theorem settleReady_of_shown (h : t.engine.opEvent = none) (h' : t.engine.readyShown = t.standbyReady) :
    t.settleReady = t := by
  unfold State.settleReady
  simp only [h, h', if_true]
  show State.onEngine t _ = t
  unfold State.onEngine
  rw [← h', ← h]

/-- An operation that ends settled ends as it stands. -/
theorem finish_of_settled (h : t.Settled) : t.finish = t := by
  obtain ⟨h1, h2, h3⟩ := h
  unfold State.finish
  rw [h1]
  simp only [Bool.false_eq_true, if_false]
  exact settleReady_of_shown h2 h3

/-- An operation that raised a CUE report with STANDBY_READY as it leaves it leaves the report as it was raised. -/
theorem finish_of_ready {r : CueReport} (h1 : t.engine.evalDue = false) (h2 : t.engine.opEvent = some r)
    (h3 : r.ready = t.standbyReady) :
    t.finish = t.onEngine fun b => { b with readyShown := t.standbyReady, opEvent := none } := by
  unfold State.finish
  rw [h1]
  simp only [Bool.false_eq_true, if_false]
  unfold State.settleReady
  simp only [h2, h3, if_true]

/-- STANDBY_READY depends on the standby position, the cue list and the readers alone (R118). -/
theorem standbyReady_congr (h1 : t.engine.standby = s.engine.standby) (h2 : t.cues = s.cues)
    (h3 : t.fetch.readers = s.fetch.readers) : t.standbyReady = s.standbyReady := by
  have e1 : t.standbyCue = s.standbyCue := by
    unfold State.standbyCue State.cueAt; rw [h1, h2]
  have e2 : t.standbyPlays = s.standbyPlays := by unfold State.standbyPlays; rw [e1]
  unfold State.standbyReady; rw [e1, e2, h3]

/-- A change that touches neither the engine, the cue list nor the readers leaves a settled state settled. -/
theorem settled_congr (h : s.Settled) (h1 : t.engine = s.engine) (h2 : t.cues = s.cues)
    (h3 : t.fetch.readers = s.fetch.readers) : t.Settled := by
  obtain ⟨a, b, c⟩ := h
  exact ⟨by rw [h1, a], by rw [h1, b], by
    rw [standbyReady_congr (s := s) (t := t) (by rw [h1]) h2 h3, h1]; exact c⟩

theorem raise_settled (h : s.Settled) (k : ReportKey) (x : String) : (s.raise k x).Settled :=
  settled_congr h (by simp) (by simp) (by simp)

/-! ## Taking a line (R194, R195) -/

theorem placeReply_eq_answered (tag : Tag) (text : String) : s.placeReply tag text = s.answered tag text := rfl

theorem showResetPriming_of_none (h : s.engine.primeDue = false) : s.showResetPriming = s := by
  simp [State.showResetPriming, h]

theorem takePrompt_of_none (n : Nat) (h : s.promptChain = false) : s.takePrompt n = s := by
  cases n <;> simp [State.takePrompt, h]

theorem takePromptChains_of_none (h : s.promptChain = false) : s.takePromptChains = s := takePrompt_of_none _ h

theorem eventsOwed_of_none (h : s.engine.primeDue = false) (h' : s.promptChain = false) : s.eventsOwed = s := by
  rw [State.eventsOwed, showResetPriming_of_none h, takePromptChains_of_none h']

/-- A line that arrives where `Takes` holds is taken at once. -/
theorem commandLine_of_takes (h : s.Takes) (c : Instr) (f : State → State) : s.commandLine c f = f s := by
  obtain ⟨h1, h2, h3, h4, h5⟩ := h
  have : s.replyRoom = true := by simpa [State.replyRoom] using h3
  simp [State.commandLine, h1, h2, this, eventsOwed_of_none h4 h5]

theorem command_malformed {α : Type} (h : s.Takes) (c : Instr) (tag : Tag) (f : α → State → Answer) :
    command c tag .malformed f s = .next (s.refused tag .syntaxErr) := by
  simp [command, commandLine_of_takes h, State.answer, State.refused, placeReply_eq_answered]

theorem command_error {α : Type} (h : s.Takes) (c : Instr) (tag : Tag) (a : α) (f : α → State → Answer) {e : ErrCode}
    (he : f a s = .error e) : command c tag (.given a) f s = .next (s.refused tag e) := by
  simp [command, commandLine_of_takes h, State.answer, he, State.refused, placeReply_eq_answered]

theorem command_ok {α : Type} (h : s.Takes) (c : Instr) (tag : Tag) (a : α) (f : α → State → Answer) {t : State}
    {x : State → String} (he : f a s = .ok (t, x)) :
    command c tag (.given a) f s = .next (t.finish.answered tag ("OK " ++ x t.finish)) := by
  simp [command, commandLine_of_takes h, State.answer, he, placeReply_eq_answered]

/-- A query's answer on a settled state changes nothing but the reply queue. -/
theorem command_tells {α : Type} (h : s.Takes) (h' : s.Settled) (c : Instr) (tag : Tag) (a : α)
    (f : α → State → Answer) {x : String} (he : f a s = s.tells x) :
    command c tag (.given a) f s = .next (s.answered tag ("OK " ++ x)) := by
  rw [command_ok h c tag a f he, finish_of_settled h']

theorem event_running (h : s.inReset = false) (f : State → State) : event f s = .next (f s).finish := by
  simp [event, h]

/-- An event that finds no chain with a time of 0 is carried out on the state as it stands. -/
theorem laterEvent_running (h : s.inReset = false) (h' : s.promptChain = false) (f : State → State) :
    laterEvent f s = .next (f s).finish := by
  simp [laterEvent, event_running h, takePromptChains_of_none h']

theorem event_inReset (h : s.inReset = true) (f : State → State) : event f s = .next s := by simp [event, h]

theorem commandLine_inReset (h : s.inReset = true) (c : Instr) (f : State → State) : s.commandLine c f = s := by
  simp [State.commandLine, h]

end

/-! ## The wires -/

/-- What no command changes: the link but for its report set and its mask, the ports, the clock, and the model's own
counters and queue. -/
structure Wires where
  baud : Nat
  rxq : List Instr
  replies : List String
  sending : Option String
  paused : Bool
  counts : Nat × Nat × Nat
  ports : PortBlock
  clock : ClockBlock
  pins : Vector Bool 16
  inReset : Bool
  now : Nat
  pending : List Instr

def State.wires (s : State) : Wires :=
  { baud := s.link.baud, rxq := s.link.rxq, replies := s.link.replies, sending := s.link.sending,
    paused := s.link.paused, counts := (s.link.overflow, s.link.framing, s.link.long), ports := s.ports,
    clock := s.clock, pins := s.lines.pins, inReset := s.inReset, now := s.now, pending := s.pending }

theorem wires_of_kept {s t : State} (h : t.kept = s.kept) : t.wires = s.wires := by
  have hl := kept_link h
  simp only [State.wires, kept_ports h, kept_clock h, kept_pins h, kept_inReset h, kept_now h, kept_pending h]
  rw [hl]

@[simp] theorem State.wires_finish (s : State) : s.finish.wires = s.wires := wires_of_kept (by simp)

/-- An answer that changes no wire. -/
def Answer.LeavesWires (s : State) (x : Answer) : Prop := ∀ t f, x = .ok (t, f) → t.wires = s.wires

theorem leaves_bind {s : State} {α : Type} {m : Except ErrCode α} {k : α → Answer}
    (h : ∀ a, m = .ok a → Answer.LeavesWires s (k a)) : Answer.LeavesWires s (m >>= k) := by
  intro t f e
  cases m with
  | error e' => simp [bind, Except.bind] at e
  | ok a => exact h a rfl t f e

theorem leaves_error {s : State} (e : ErrCode) : Answer.LeavesWires s (.error e) := by intro t f h; simp at h

theorem leaves_tells (s : State) (x : String) : Answer.LeavesWires s (s.tells x) := by
  intro t f h; simp [State.tells] at h; rw [h.1]

theorem leaves_replies {s t : State} (h : t.wires = s.wires) (x : State → String) :
    Answer.LeavesWires s (t.replies x) := by
  intro u f e; simp [State.replies] at e; rw [← e.1]; exact h

theorem leaves_kept {s t : State} (h : t.kept = s.kept) (x : State → String) :
    Answer.LeavesWires s (t.replies x) := leaves_replies (wires_of_kept h) x

end Sys2Proof.Machine
end

