-- ==== Sys2Proof/Laws/Leaves.lean ====
section
/-! SUPPORT. One lemma for each command line: a query is refused or tells a text and changes nothing, and any other command
that is accepted leaves the wires of the block as they stand. -/

namespace Sys2Proof.Machine

open Sys2Proof

/-- An answer of a query: a refusal, or a text and no change. -/
def Answer.Asks (s : State) (x : Answer) : Prop := (∃ e, x = .error e) ∨ ∃ text, x = s.tells text

theorem asks_bind {s : State} {α : Type} {m : Except ErrCode α} {k : α → Answer}
    (h : ∀ a, m = .ok a → Answer.Asks s (k a)) : Answer.Asks s (m >>= k) := by
  cases m with
  | error e' => exact .inl ⟨e', rfl⟩
  | ok a => exact h a rfl

theorem asks_tells (s : State) (x : String) : Answer.Asks s (s.tells x) := .inr ⟨x, rfl⟩

/-- The crosspoint and voice levels moved by LEVEL keep what every operation keeps. -/
@[simp] theorem State.kept_moveLevel (s : State) (row : Row) (bus : Bus) (c : LevelCode) (ms : Nat) :
    (s.moveLevel row bus c ms).kept = s.kept := by unfold State.moveLevel; split <;> simp

@[simp] theorem State.kept_setMode (s : State) (p : PerfId) (b : Bool) : (s.setMode p b).kept = s.kept := by
  unfold State.setMode; (repeat' split) <;> simp

@[simp] theorem State.kept_selectIfDown (s : State) (p : PerfId) : (s.selectIfDown p).kept = s.kept := by
  unfold State.selectIfDown; dsimp only; split <;> simp

@[simp] theorem State.kept_claimInput (s : State) (p : PerfId) (e : InputId × Place) :
    (s.claimInput p e).kept = s.kept := by simp [State.claimInput, State.kept_onCast]

@[simp] theorem State.kept_releaseInput (s : State) (p : PerfId) (e : InputId × Place) :
    (s.releaseInput p e).kept = s.kept := by simp [State.releaseInput, State.kept_onCast]

@[simp] theorem State.kept_placeInput (s : State) (p : PerfId) (e : InputId × Place) :
    (s.placeInput p e).kept = s.kept := by simp [State.placeInput, State.kept_onCast]

@[simp] theorem State.kept_setInputs (s : State) (p : PerfId) (m : Option InputId) (l : List InputId) :
    (s.setInputs p m l).kept = s.kept := by
  have h1 := fun l s => foldl_keeps State.kept (fun (s : State) e => s.claimInput p e) (by simp) l s
  have h2 := fun l s => foldl_keeps State.kept (fun (s : State) e => s.releaseInput p e) (by simp) l s
  have h3 := fun l s => foldl_keeps State.kept (fun (s : State) e => s.placeInput p e) (by simp) l s
  simp [State.setInputs, h1, h2, h3]

@[simp] theorem State.kept_applyPerf (s : State) (p : PerfId) (a : PerfArgs) (f : PerfFields) :
    (s.applyPerf p a f).kept = s.kept := by
  unfold State.applyPerf; dsimp only; (repeat' split) <;> simp

@[simp] theorem State.kept_forceInput (s : State) (p : PerfId) (i : InputId) : (s.forceInput p i).kept = s.kept := by
  simp [State.forceInput]

@[simp] theorem State.kept_edited (s : State) (n : Nat) : (s.edited n).kept = s.kept := by
  unfold State.edited; split <;> simp

@[simp] theorem State.wires_edited (s : State) (f : List Cue → List Cue) (n : Nat) :
    ((s.onCues f).edited n).wires = s.wires := (wires_of_kept (State.kept_edited _ _)).trans rfl

@[simp] theorem State.wires_deleteCue (s : State) (n : Nat) : (s.deleteCue n).wires = s.wires := by
  unfold State.deleteCue; dsimp only; split
  · exact (wires_of_kept (State.moveStandby_frame _ _).1).trans rfl
  · rfl

@[simp] theorem State.kept_applyFb (s : State) (k : FbId) (a : FbArgs) : (s.applyFb k a).kept = s.kept := by
  unfold State.applyFb; dsimp only; split <;> simp


theorem setRole_leaves (a : RoleArgs) (s : State) : Answer.LeavesWires s (setRole a s) := by
  unfold setRole
  repeat' first
    | (refine leaves_bind ?_; intro _ _)
    | exact leaves_kept (by simp) _

theorem setPerf_leaves (a : PerfArgs) (s : State) : Answer.LeavesWires s (setPerf a s) := by
  unfold setPerf
  repeat' first
    | (refine leaves_bind ?_; intro _ _)
    | split
    | exact leaves_kept (by simp) _

theorem readPerf_asks (n : Nat) (s : State) : Answer.Asks s (readPerf n s) := by
  unfold readPerf
  repeat' first
    | exact asks_tells _ _
    | (refine asks_bind ?_; intro _ _)

theorem setPage_leaves (a : PageArgs) (s : State) : Answer.LeavesWires s (setPage a s) := by
  unfold setPage
  repeat' first
    | (refine leaves_bind ?_; intro _ _)
    | exact leaves_replies rfl _

theorem readPages_asks (a : Unit) (s : State) : Answer.Asks s (readPages a s) := by
  unfold readPages; exact asks_tells _ _

theorem setTalkin_leaves (n : Option Nat) (s : State) : Answer.LeavesWires s (setTalkin n s) := by
  unfold setTalkin
  repeat' first
    | (refine leaves_bind ?_; intro _ _)
    | exact leaves_replies rfl _

theorem readTalkin_asks (a : Unit) (s : State) : Answer.Asks s (readTalkin a s) := by
  unfold readTalkin; exact asks_tells _ _

theorem setCast_leaves (a : CastArgs) (s : State) : Answer.LeavesWires s (setCast a s) := by
  unfold setCast
  repeat' first
    | (refine leaves_bind ?_; intro _ _)
    | exact leaves_kept (by simp) _

theorem readCast_asks (n : Option Nat) (s : State) : Answer.Asks s (readCast n s) := by
  unfold readCast
  repeat' first
    | exact asks_tells _ _
    | (refine asks_bind ?_; intro _ _)
    | split

theorem fireGo_leaves (n : Option Nat) (s : State) : Answer.LeavesWires s (fireGo n s) := by
  unfold fireGo
  refine leaves_bind fun _ _ => leaves_bind fun c _ => ?_
  have h := s.fire_frame c
  generalize s.fire c = r at h ⊢
  obtain ⟨t, slot, count⟩ := r
  exact leaves_kept h.1 _

theorem goBack_leaves (a : Unit) (s : State) : Answer.LeavesWires s (goBack a s) := by
  unfold goBack; exact leaves_kept (by simp) _

theorem jumpTo_leaves (n : Nat) (s : State) : Answer.LeavesWires s (jumpTo n s) := by
  unfold jumpTo
  repeat' first
    | (refine leaves_bind ?_; intro _ _)
    | exact leaves_kept (by simp) _

theorem haltRun_leaves (a : Unit) (s : State) : Answer.LeavesWires s (haltRun a s) := by
  unfold haltRun; exact leaves_kept (by simp) _

theorem resumeRun_leaves (a : Unit) (s : State) : Answer.LeavesWires s (resumeRun a s) := by
  unfold resumeRun; exact leaves_kept (by simp) _

theorem stopShow_leaves (t : Option Int) (s : State) : Answer.LeavesWires s (stopShow t s) := by
  unfold stopShow; exact leaves_kept (by simp) _

theorem setEngine_leaves (t : Int) (s : State) : Answer.LeavesWires s (setEngine t s) := by
  unfold setEngine; exact leaves_kept (by simp) _

theorem readEngine_asks (a : Unit) (s : State) : Answer.Asks s (readEngine a s) := by
  unfold readEngine; exact asks_tells _ _

theorem readInsts_asks (a : Unit) (s : State) : Answer.Asks s (readInsts a s) := by
  unfold readInsts; exact asks_tells _ _

theorem setCue_leaves (a : CueArgs) (s : State) : Answer.LeavesWires s (setCue a s) := by
  unfold setCue
  repeat' first
    | (refine leaves_bind ?_; intro _ _)
    | exact leaves_replies (by simp) _

theorem readCue_asks (n : Option Nat) (s : State) : Answer.Asks s (readCue n s) := by
  unfold readCue
  repeat' first
    | exact asks_tells _ _
    | (refine asks_bind ?_; intro _ _)
    | split

theorem addAct_leaves (a : ActArgs) (s : State) : Answer.LeavesWires s (addAct a s) := by
  unfold addAct
  repeat' first
    | (refine leaves_bind ?_; intro _ _)
    | exact leaves_replies (by simp) _

theorem readAct_asks (a : ActIndexArgs) (s : State) : Answer.Asks s (readAct a s) := by
  unfold readAct
  repeat' first
    | exact asks_tells _ _
    | (refine asks_bind ?_; intro _ _)

theorem dropAct_leaves (a : ActIndexArgs) (s : State) : Answer.LeavesWires s (dropAct a s) := by
  unfold dropAct
  repeat' first
    | (refine leaves_bind ?_; intro _ _)
    | exact leaves_replies (by simp) _

theorem dropCue_leaves (n : Nat) (s : State) : Answer.LeavesWires s (dropCue n s) := by
  unfold dropCue
  repeat' first
    | (refine leaves_bind ?_; intro _ _)
    | exact leaves_replies (by simp) _

theorem setFb_leaves (a : FbArgs) (s : State) : Answer.LeavesWires s (setFb a s) := by
  unfold setFb
  repeat' first
    | (refine leaves_bind ?_; intro _ _)
    | exact leaves_kept (by simp) _

theorem readFb_asks (n : Option Nat) (s : State) : Answer.Asks s (readFb n s) := by
  unfold readFb
  repeat' first
    | exact asks_tells _ _
    | (refine asks_bind ?_; intro _ _)
    | split

theorem setTalkback_leaves (a : TalkbackArgs) (s : State) : Answer.LeavesWires s (setTalkback a s) := by
  unfold setTalkback
  repeat' first
    | (refine leaves_bind ?_; intro _ _)
    | split
    | exact leaves_replies rfl _

theorem readTalkback_asks (a : Unit) (s : State) : Answer.Asks s (readTalkback a s) := by
  unfold readTalkback; exact asks_tells _ _

theorem setTalk_leaves (on : Bool) (s : State) : Answer.LeavesWires s (setTalk on s) := by
  unfold setTalk; exact leaves_replies rfl _

theorem setLineset_leaves (a : LinesetArgs) (s : State) : Answer.LeavesWires s (setLineset a s) := by
  unfold setLineset
  repeat' first
    | (refine leaves_bind ?_; intro _ _)
    | split
    | exact leaves_kept (by simp) _

theorem setCueLine_leaves (a : LineArgs) (s : State) : Answer.LeavesWires s (setCueLine a s) := by
  unfold setCueLine
  repeat' first
    | (refine leaves_bind ?_; intro _ _)
    | exact leaves_kept (by simp) _

theorem readLine_asks (n : Option Nat) (s : State) : Answer.Asks s (readLine n s) := by
  unfold readLine
  repeat' first
    | exact asks_tells _ _
    | (refine asks_bind ?_; intro _ _)
    | split

theorem setMask_leaves (a : ReportArgs) (s : State) : Answer.LeavesWires s (setMask a s) := by
  unfold setMask
  repeat' first
    | (refine leaves_bind ?_; intro _ _)
    | exact leaves_replies rfl _

theorem readMask_asks (a : Unit) (s : State) : Answer.Asks s (readMask a s) := by
  unfold readMask; exact asks_tells _ _

theorem readLink_asks (a : Unit) (s : State) : Answer.Asks s (readLink a s) := by
  unfold readLink; exact asks_tells _ _

theorem readStatus_asks (a : Unit) (s : State) : Answer.Asks s (readStatus a s) := by
  unfold readStatus; exact asks_tells _ _

theorem readClock_asks (a : Unit) (s : State) : Answer.Asks s (readClock a s) := by
  unfold readClock; exact asks_tells _ _

theorem resetShow_leaves (a : Unit) (s : State) : Answer.LeavesWires s (resetShow a s) := by
  unfold resetShow; exact leaves_replies rfl _

theorem setLevel_leaves (a : LevelArgs) (s : State) : Answer.LeavesWires s (setLevel a s) := by
  unfold setLevel
  repeat' first
    | (refine leaves_bind ?_; intro _ _)
    | exact leaves_kept (by simp) _

theorem readLevel_asks (a : LevelQueryArgs) (s : State) : Answer.Asks s (readLevel a s) := by
  unfold readLevel
  repeat' first
    | exact asks_tells _ _
    | (refine asks_bind ?_; intro _ _)
    | split

theorem setInput_leaves (a : InputArgs) (s : State) : Answer.LeavesWires s (setInput a s) := by
  unfold setInput
  repeat' first
    | (refine leaves_bind ?_; intro _ _)
    | exact leaves_replies rfl _

theorem readInput_asks (n : Nat) (s : State) : Answer.Asks s (readInput n s) := by
  unfold readInput
  repeat' first
    | exact asks_tells _ _
    | (refine asks_bind ?_; intro _ _)

theorem readClip_asks (name : BusName) (s : State) : Answer.Asks s (readClip name s) := by
  unfold readClip
  repeat' first
    | exact asks_tells _ _
    | (refine asks_bind ?_; intro _ _)

theorem readFades_asks (a : Unit) (s : State) : Answer.Asks s (readFades a s) := by
  unfold readFades; exact asks_tells _ _

theorem setSound_leaves (a : SoundArgs) (s : State) : Answer.LeavesWires s (setSound a s) := by
  unfold setSound
  repeat' first
    | (refine leaves_bind ?_; intro _ _)
    | exact leaves_replies rfl _

theorem readSound_asks (n : Nat) (s : State) : Answer.Asks s (readSound n s) := by
  unfold readSound
  repeat' first
    | exact asks_tells _ _
    | (refine asks_bind ?_; intro _ _)

theorem startPlay_leaves (a : PlayArgs) (s : State) : Answer.LeavesWires s (startPlay a s) := by
  unfold startPlay
  repeat' first
    | (refine leaves_bind ?_; intro _ _)
    | exact leaves_kept (by simp) _

theorem stopPlay_leaves (a : StopArgs) (s : State) : Answer.LeavesWires s (stopPlay a s) := by
  unfold stopPlay
  repeat' first
    | (refine leaves_bind ?_; intro _ _)
    | exact leaves_kept (by simp) _

theorem readVoice_asks (n : Option Nat) (s : State) : Answer.Asks s (readVoice n s) := by
  unfold readVoice
  repeat' first
    | exact asks_tells _ _
    | (refine asks_bind ?_; intro _ _)
    | split

theorem readPlayer_asks (n : Nat) (s : State) : Answer.Asks s (readPlayer n s) := by
  unfold readPlayer
  repeat' first
    | exact asks_tells _ _
    | (refine asks_bind ?_; intro _ _)

theorem setFetch_leaves (w : Int) (s : State) : Answer.LeavesWires s (setFetch w s) := by
  unfold setFetch; exact leaves_replies rfl _

theorem readFetch_asks (a : Unit) (s : State) : Answer.Asks s (readFetch a s) := by
  unfold readFetch; exact asks_tells _ _

theorem setZone_leaves (a : ZoneArgs) (s : State) : Answer.LeavesWires s (setZone a s) := by
  unfold setZone
  repeat' first
    | (refine leaves_bind ?_; intro _ _)
    | split
    | exact leaves_kept (by simp) _

theorem readZone_asks (n : Nat) (s : State) : Answer.Asks s (readZone n s) := by
  unfold readZone
  repeat' first
    | exact asks_tells _ _
    | (refine asks_bind ?_; intro _ _)

theorem readGroup_asks (n : Nat) (s : State) : Answer.Asks s (readGroup n s) := by
  unfold readGroup
  repeat' first
    | exact asks_tells _ _
    | (refine asks_bind ?_; intro _ _)

theorem makeCall_leaves (a : CallArgs) (s : State) : Answer.LeavesWires s (makeCall a s) := by
  unfold makeCall
  refine leaves_bind fun q _ => leaves_bind fun r h => ?_
  obtain ⟨id, t⟩ := r
  exact leaves_kept (s.submit_frame h).1 _

theorem readCall_asks (n : Option Nat) (s : State) : Answer.Asks s (readCall n s) := by
  unfold readCall
  repeat' first
    | exact asks_tells _ _
    | (refine asks_bind ?_; intro _ _)
    | split

theorem finishCall_leaves (cause : CallCause) (id : Nat) (s : State) : Answer.LeavesWires s (finishCall cause id s) := by
  unfold finishCall
  repeat' first
    | (refine leaves_bind ?_; intro _ _)
    | exact leaves_kept (by simp) _

theorem definePreset_leaves (a : PresetDefArgs) (s : State) : Answer.LeavesWires s (definePreset a s) := by
  unfold definePreset
  repeat' first
    | (refine leaves_bind ?_; intro _ _)
    | exact leaves_replies rfl _

theorem readPreset_asks (n : Nat) (s : State) : Answer.Asks s (readPreset n s) := by
  unfold readPreset
  repeat' first
    | exact asks_tells _ _
    | (refine asks_bind ?_; intro _ _)

theorem firePreset_leaves (n : Nat) (s : State) : Answer.LeavesWires s (firePreset n s) := by
  unfold firePreset
  refine leaves_bind fun k _ => leaves_bind fun q _ => leaves_bind fun r h => ?_
  obtain ⟨id, t⟩ := r
  exact leaves_kept (s.submit_frame h).1 _

theorem setSupv_leaves (a : SupvArgs) (s : State) : Answer.LeavesWires s (setSupv a s) := by
  unfold setSupv
  repeat' first
    | (refine leaves_bind ?_; intro _ _)
    | split
    | exact leaves_replies rfl _

theorem readSupv_asks (a : Unit) (s : State) : Answer.Asks s (readSupv a s) := by
  unfold readSupv; exact asks_tells _ _

theorem readTlm_asks (a : Unit) (s : State) : Answer.Asks s (readTlm a s) := by
  unfold readTlm; exact asks_tells _ _

theorem readMic_asks (n : Option Nat) (s : State) : Answer.Asks s (readMic n s) := by
  unfold readMic
  repeat' first
    | exact asks_tells _ _
    | (refine asks_bind ?_; intro _ _)
    | split

theorem setSelect_leaves (a : SelectArgs) (s : State) : Answer.LeavesWires s (setSelect a s) := by
  unfold setSelect
  repeat' first
    | (refine leaves_bind ?_; intro _ _)
    | exact leaves_kept (by simp) _

theorem setAutoMode_leaves (n : Nat) (s : State) : Answer.LeavesWires s (setAutoMode n s) := by
  unfold setAutoMode
  repeat' first
    | (refine leaves_bind ?_; intro _ _)
    | exact leaves_kept (by simp) _

end Sys2Proof.Machine
end

