-- ==== Sys2Proof/Laws/Exec.lean ====
section
/-! SUPPORT. What `exec` does with each command and event, once: a command line is taken with the answer of its own rule, an
event is carried out and its operation ended, and three pin and power events act at once. -/

namespace Sys2Proof.Machine

open Sys2Proof

section
variable (s : State)

theorem exec_level (tag : Tag) (a : Args LevelArgs) :
    exec (.level tag a) s = command (.level tag a) tag a setLevel s := rfl
theorem exec_levelQuery (tag : Tag) (a : Args LevelQueryArgs) :
    exec (.levelQuery tag a) s = command (.levelQuery tag a) tag a readLevel s := rfl
theorem exec_input (tag : Tag) (a : Args InputArgs) :
    exec (.input tag a) s = command (.input tag a) tag a setInput s := rfl
theorem exec_inputQuery (tag : Tag) (a : Args Nat) :
    exec (.inputQuery tag a) s = command (.inputQuery tag a) tag a readInput s := rfl
theorem exec_clipQuery (tag : Tag) (a : Args BusName) :
    exec (.clipQuery tag a) s = command (.clipQuery tag a) tag a readClip s := rfl
theorem exec_fadeQuery (tag : Tag) (a : Args Unit) :
    exec (.fadeQuery tag a) s = command (.fadeQuery tag a) tag a readFades s := rfl
theorem exec_role (tag : Tag) (a : Args RoleArgs) :
    exec (.role tag a) s = command (.role tag a) tag a setRole s := rfl
theorem exec_perf (tag : Tag) (a : Args PerfArgs) :
    exec (.perf tag a) s = command (.perf tag a) tag a setPerf s := rfl
theorem exec_perfQuery (tag : Tag) (a : Args Nat) :
    exec (.perfQuery tag a) s = command (.perfQuery tag a) tag a readPerf s := rfl
theorem exec_page (tag : Tag) (a : Args PageArgs) :
    exec (.page tag a) s = command (.page tag a) tag a setPage s := rfl
theorem exec_pageQuery (tag : Tag) (a : Args Unit) :
    exec (.pageQuery tag a) s = command (.pageQuery tag a) tag a readPages s := rfl
theorem exec_talkin (tag : Tag) (a : Args (Option Nat)) :
    exec (.talkin tag a) s = command (.talkin tag a) tag a setTalkin s := rfl
theorem exec_talkinQuery (tag : Tag) (a : Args Unit) :
    exec (.talkinQuery tag a) s = command (.talkinQuery tag a) tag a readTalkin s := rfl
theorem exec_cast (tag : Tag) (a : Args CastArgs) :
    exec (.cast tag a) s = command (.cast tag a) tag a setCast s := rfl
theorem exec_castQuery (tag : Tag) (a : Args (Option Nat)) :
    exec (.castQuery tag a) s = command (.castQuery tag a) tag a readCast s := rfl
theorem exec_supv (tag : Tag) (a : Args SupvArgs) :
    exec (.supv tag a) s = command (.supv tag a) tag a setSupv s := rfl
theorem exec_supvQuery (tag : Tag) (a : Args Unit) :
    exec (.supvQuery tag a) s = command (.supvQuery tag a) tag a readSupv s := rfl
theorem exec_tlmQuery (tag : Tag) (a : Args Unit) :
    exec (.tlmQuery tag a) s = command (.tlmQuery tag a) tag a readTlm s := rfl
theorem exec_micQuery (tag : Tag) (a : Args (Option Nat)) :
    exec (.micQuery tag a) s = command (.micQuery tag a) tag a readMic s := rfl
theorem exec_select (tag : Tag) (a : Args SelectArgs) :
    exec (.select tag a) s = command (.select tag a) tag a setSelect s := rfl
theorem exec_auto (tag : Tag) (a : Args Nat) :
    exec (.auto tag a) s = command (.auto tag a) tag a setAutoMode s := rfl
theorem exec_cue (tag : Tag) (a : Args CueArgs) :
    exec (.cue tag a) s = command (.cue tag a) tag a setCue s := rfl
theorem exec_cueQuery (tag : Tag) (a : Args (Option Nat)) :
    exec (.cueQuery tag a) s = command (.cueQuery tag a) tag a readCue s := rfl
theorem exec_act (tag : Tag) (a : Args ActArgs) :
    exec (.act tag a) s = command (.act tag a) tag a addAct s := rfl
theorem exec_actQuery (tag : Tag) (a : Args ActIndexArgs) :
    exec (.actQuery tag a) s = command (.actQuery tag a) tag a readAct s := rfl
theorem exec_actDel (tag : Tag) (a : Args ActIndexArgs) :
    exec (.actDel tag a) s = command (.actDel tag a) tag a dropAct s := rfl
theorem exec_cueDel (tag : Tag) (a : Args Nat) :
    exec (.cueDel tag a) s = command (.cueDel tag a) tag a dropCue s := rfl
theorem exec_go (tag : Tag) (a : Args (Option Nat)) :
    exec (.go tag a) s = command (.go tag a) tag a fireGo s := rfl
theorem exec_back (tag : Tag) (a : Args Unit) :
    exec (.back tag a) s = command (.back tag a) tag a goBack s := rfl
theorem exec_jump (tag : Tag) (a : Args Nat) :
    exec (.jump tag a) s = command (.jump tag a) tag a jumpTo s := rfl
theorem exec_halt (tag : Tag) (a : Args Unit) :
    exec (.halt tag a) s = command (.halt tag a) tag a haltRun s := rfl
theorem exec_resume (tag : Tag) (a : Args Unit) :
    exec (.resume tag a) s = command (.resume tag a) tag a resumeRun s := rfl
theorem exec_stopAll (tag : Tag) (a : Args (Option Int)) :
    exec (.stopAll tag a) s = command (.stopAll tag a) tag a stopShow s := rfl
theorem exec_engine (tag : Tag) (a : Args Int) :
    exec (.engine tag a) s = command (.engine tag a) tag a setEngine s := rfl
theorem exec_engineQuery (tag : Tag) (a : Args Unit) :
    exec (.engineQuery tag a) s = command (.engineQuery tag a) tag a readEngine s := rfl
theorem exec_instQuery (tag : Tag) (a : Args Unit) :
    exec (.instQuery tag a) s = command (.instQuery tag a) tag a readInsts s := rfl
theorem exec_sound (tag : Tag) (a : Args SoundArgs) :
    exec (.sound tag a) s = command (.sound tag a) tag a setSound s := rfl
theorem exec_soundQuery (tag : Tag) (a : Args Nat) :
    exec (.soundQuery tag a) s = command (.soundQuery tag a) tag a readSound s := rfl
theorem exec_play (tag : Tag) (a : Args PlayArgs) :
    exec (.play tag a) s = command (.play tag a) tag a startPlay s := rfl
theorem exec_stop (tag : Tag) (a : Args StopArgs) :
    exec (.stop tag a) s = command (.stop tag a) tag a stopPlay s := rfl
theorem exec_voiceQuery (tag : Tag) (a : Args (Option Nat)) :
    exec (.voiceQuery tag a) s = command (.voiceQuery tag a) tag a readVoice s := rfl
theorem exec_playerQuery (tag : Tag) (a : Args Nat) :
    exec (.playerQuery tag a) s = command (.playerQuery tag a) tag a readPlayer s := rfl
theorem exec_fetch (tag : Tag) (a : Args Int) :
    exec (.fetch tag a) s = command (.fetch tag a) tag a setFetch s := rfl
theorem exec_fetchQuery (tag : Tag) (a : Args Unit) :
    exec (.fetchQuery tag a) s = command (.fetchQuery tag a) tag a readFetch s := rfl
theorem exec_fb (tag : Tag) (a : Args FbArgs) :
    exec (.fb tag a) s = command (.fb tag a) tag a setFb s := rfl
theorem exec_fbQuery (tag : Tag) (a : Args (Option Nat)) :
    exec (.fbQuery tag a) s = command (.fbQuery tag a) tag a readFb s := rfl
theorem exec_talkback (tag : Tag) (a : Args TalkbackArgs) :
    exec (.talkback tag a) s = command (.talkback tag a) tag a setTalkback s := rfl
theorem exec_talkbackQuery (tag : Tag) (a : Args Unit) :
    exec (.talkbackQuery tag a) s = command (.talkbackQuery tag a) tag a readTalkback s := rfl
theorem exec_talk (tag : Tag) (a : Args Bool) :
    exec (.talk tag a) s = command (.talk tag a) tag a setTalk s := rfl
theorem exec_zone (tag : Tag) (a : Args ZoneArgs) :
    exec (.zone tag a) s = command (.zone tag a) tag a setZone s := rfl
theorem exec_zoneQuery (tag : Tag) (a : Args Nat) :
    exec (.zoneQuery tag a) s = command (.zoneQuery tag a) tag a readZone s := rfl
theorem exec_groupQuery (tag : Tag) (a : Args Nat) :
    exec (.groupQuery tag a) s = command (.groupQuery tag a) tag a readGroup s := rfl
theorem exec_call (tag : Tag) (a : Args CallArgs) :
    exec (.call tag a) s = command (.call tag a) tag a makeCall s := rfl
theorem exec_callQuery (tag : Tag) (a : Args (Option Nat)) :
    exec (.callQuery tag a) s = command (.callQuery tag a) tag a readCall s := rfl
theorem exec_callEnd (tag : Tag) (a : Args Nat) :
    exec (.callEnd tag a) s = command (.callEnd tag a) tag a (finishCall .ended) s := rfl
theorem exec_callCancel (tag : Tag) (a : Args Nat) :
    exec (.callCancel tag a) s = command (.callCancel tag a) tag a (finishCall .cancelled) s := rfl
theorem exec_presetDef (tag : Tag) (a : Args PresetDefArgs) :
    exec (.presetDef tag a) s = command (.presetDef tag a) tag a definePreset s := rfl
theorem exec_presetDefQuery (tag : Tag) (a : Args Nat) :
    exec (.presetDefQuery tag a) s = command (.presetDefQuery tag a) tag a readPreset s := rfl
theorem exec_preset (tag : Tag) (a : Args Nat) :
    exec (.preset tag a) s = command (.preset tag a) tag a firePreset s := rfl
theorem exec_lineset (tag : Tag) (a : Args LinesetArgs) :
    exec (.lineset tag a) s = command (.lineset tag a) tag a setLineset s := rfl
theorem exec_line (tag : Tag) (a : Args LineArgs) :
    exec (.line tag a) s = command (.line tag a) tag a setCueLine s := rfl
theorem exec_lineQuery (tag : Tag) (a : Args (Option Nat)) :
    exec (.lineQuery tag a) s = command (.lineQuery tag a) tag a readLine s := rfl
theorem exec_report (tag : Tag) (a : Args ReportArgs) :
    exec (.report tag a) s = command (.report tag a) tag a setMask s := rfl
theorem exec_reportQuery (tag : Tag) (a : Args Unit) :
    exec (.reportQuery tag a) s = command (.reportQuery tag a) tag a readMask s := rfl
theorem exec_linkQuery (tag : Tag) (a : Args Unit) :
    exec (.linkQuery tag a) s = command (.linkQuery tag a) tag a readLink s := rfl
theorem exec_statusQuery (tag : Tag) (a : Args Unit) :
    exec (.statusQuery tag a) s = command (.statusQuery tag a) tag a readStatus s := rfl
theorem exec_showReset (tag : Tag) (a : Args Unit) :
    exec (.showReset tag a) s = command (.showReset tag a) tag a resetShow s := rfl
theorem exec_clockQuery (tag : Tag) (a : Args Unit) :
    exec (.clockQuery tag a) s = command (.clockQuery tag a) tag a readClock s := rfl
theorem exec_unknown (tag : Tag) (why : LinkFail) :
    exec (.unknown tag why) s = .next (s.commandLine (.unknown tag why) fun s => s.linkFailure tag why) := rfl
theorem exec_lineReceived (chars : List RxChar) (metFull : Bool) :
    exec (.lineReceived chars metFull) s = laterEvent (fun s => s.receiveLine chars metFull) s := rfl
theorem exec_transmitLine :
    exec .transmitLine s = laterEvent (fun s => s.onLink LinkBlock.beginLine) s := rfl
theorem exec_pause (asserted : Bool) :
    exec (.pause asserted) s = .next (s.onLink fun b => { b with paused := asserted }) := rfl
theorem exec_fullReset :
    exec .fullReset s = .next s.enterReset := rfl
theorem exec_resetEnd (baud1 baud0 : Bool) :
    exec (.resetEnd baud1 baud0) s = .next (if s.inReset then s.leaveReset baud1 baud0 else s) := rfl
theorem exec_showResetPriming :
    exec .showResetPriming s = laterEvent State.showResetPriming s := rfl
theorem exec_frame (slots : Vector Word32 64) (pins : Vector Bool 16) :
    exec (.frame slots pins) s = event (fun s => s.frame slots pins) s := rfl
theorem exec_clipClear (bus : Bus) :
    exec (.clipClear bus) s = laterEvent (fun s => s.clearClip bus) s := rfl
theorem exec_fadeComplete (target : Target) :
    exec (.fadeComplete target) s = laterEvent (fun s => s.fadeDone target) s := rfl
theorem exec_crossfadeEnd (role : RoleId) :
    exec (.crossfadeEnd role) s = laterEvent (fun s => s.crossfadeDone role) s := rfl
theorem exec_telemetryByte (byte : Byte) (framing : Bool) :
    exec (.telemetryByte byte framing) s = laterEvent (fun s => s.takeByte byte framing) s := rfl
theorem exec_validRecord :
    exec .validRecord s = laterEvent State.takeHanded s := rfl
theorem exec_dropoutExpiry (input : InputId) :
    exec (.dropoutExpiry input) s = laterEvent (fun s => s.dropoutDone input) s := rfl
theorem exec_restoreExpiry (input : InputId) :
    exec (.restoreExpiry input) s = laterEvent (fun s => s.restoreDone input) s := rfl
theorem exec_staleExpiry (input : InputId) :
    exec (.staleExpiry input) s = laterEvent (fun s => s.staleDone input) s := rfl
theorem exec_referenceStale :
    exec .referenceStale s = laterEvent State.referenceDone s := rfl
theorem exec_chainExpiry :
    exec .chainExpiry s = event State.expireChain s := rfl
theorem exec_fetchGrant :
    exec .fetchGrant s = laterEvent State.grantTag s := rfl
theorem exec_completionOk (tag : TagId) (words : Vector Word32 256) :
    exec (.completionOk tag words) s = laterEvent (fun s => s.completeOk tag words) s := rfl
theorem exec_completionError (tag : TagId) :
    exec (.completionError tag) s = laterEvent (fun s => s.completeError tag) s := rfl
theorem exec_tagTimeout (tag : TagId) :
    exec (.tagTimeout tag) s = laterEvent (fun s => s.tagDone tag) s := rfl
theorem exec_guardWindowEnd :
    exec .guardWindowEnd s = laterEvent State.windowDone s := rfl
theorem exec_expired (id : Nat) :
    exec (.expired id) s = laterEvent (fun s => s.callDone id) s := rfl
theorem exec_debounce (line : LineId) :
    exec (.debounce line) s = laterEvent (fun s => s.lineDone line) s := rfl
theorem exec_clockLost :
    exec .clockLost s = laterEvent State.loseClock s := rfl
theorem exec_qualifyingTimeout :
    exec .qualifyingTimeout s = laterEvent State.dropQualifying s := rfl
theorem exec_clockRestored :
    exec .clockRestored s = laterEvent State.lockClock s := rfl
theorem exec_wclkRisingEdge (periodPs : Nat) :
    exec (.wclkRisingEdge periodPs) s = laterEvent (fun s => s.clockEdge periodPs) s := rfl

end

/-- A line's answer, with a line that is malformed for its verb refused (R196). -/
def answerArgs {α : Type} (a : Args α) (f : α → State → Answer) (s : State) : Answer :=
  match a with
  | .malformed => .error .syntaxErr
  | .given a => f a s

theorem command_eq {α : Type} (c : Instr) (tag : Tag) (a : Args α) (f : α → State → Answer) (s : State) :
    command c tag a f s = .next (s.commandLine c fun s => s.answer tag (answerArgs a f)) := by
  cases a <;> rfl

theorem answerArgs_leaves {α : Type} (a : Args α) (f : α → State → Answer) (s : State)
    (h : ∀ a, Answer.LeavesWires s (f a s)) : Answer.LeavesWires s (answerArgs a f s) := by
  cases a with
  | malformed => exact leaves_error _
  | given a => exact h a

theorem answerArgs_asks {α : Type} (a : Args α) (f : α → State → Answer) (s : State)
    (h : ∀ a, Answer.Asks s (f a s)) : Answer.Asks s (answerArgs a f s) := by
  cases a with
  | malformed => exact .inl ⟨_, rfl⟩
  | given a => exact h a

theorem leaves_of_asks {s : State} {x : Answer} (h : Answer.Asks s x) : Answer.LeavesWires s x := by
  rcases h with ⟨e, rfl⟩ | ⟨text, rfl⟩
  · exact leaves_error _
  · exact leaves_tells _ _

/-- A command line is taken with one answer, which leaves the wires of the block as they stand; that of a query changes
nothing. -/
theorem exec_command (c : Instr) (h : c.isLine = true) (h' : ∀ tag why, c ≠ .unknown tag why) :
    ∃ run : State → Answer, (∀ s, exec c s = .next (s.commandLine c fun s => s.answer c.tag run)) ∧
      (∀ s, Answer.LeavesWires s (run s)) ∧ (c.isQuery = true → ∀ s, Answer.Asks s (run s)) := by
  cases c with
  | level tag a =>
    exact ⟨answerArgs a setLevel, fun s => command_eq _ tag a setLevel s,
      fun s => answerArgs_leaves a setLevel s fun a => setLevel_leaves a s, by simp [Instr.isQuery]⟩
  | levelQuery tag a =>
    have q s := answerArgs_asks a readLevel s fun a => readLevel_asks a s
    exact ⟨answerArgs a readLevel, fun s => command_eq _ tag a readLevel s, fun s => leaves_of_asks (q s), fun _ => q⟩
  | input tag a =>
    exact ⟨answerArgs a setInput, fun s => command_eq _ tag a setInput s,
      fun s => answerArgs_leaves a setInput s fun a => setInput_leaves a s, by simp [Instr.isQuery]⟩
  | inputQuery tag a =>
    have q s := answerArgs_asks a readInput s fun a => readInput_asks a s
    exact ⟨answerArgs a readInput, fun s => command_eq _ tag a readInput s, fun s => leaves_of_asks (q s), fun _ => q⟩
  | clipQuery tag a =>
    have q s := answerArgs_asks a readClip s fun a => readClip_asks a s
    exact ⟨answerArgs a readClip, fun s => command_eq _ tag a readClip s, fun s => leaves_of_asks (q s), fun _ => q⟩
  | fadeQuery tag a =>
    have q s := answerArgs_asks a readFades s fun a => readFades_asks a s
    exact ⟨answerArgs a readFades, fun s => command_eq _ tag a readFades s, fun s => leaves_of_asks (q s), fun _ => q⟩
  | role tag a =>
    exact ⟨answerArgs a setRole, fun s => command_eq _ tag a setRole s,
      fun s => answerArgs_leaves a setRole s fun a => setRole_leaves a s, by simp [Instr.isQuery]⟩
  | perf tag a =>
    exact ⟨answerArgs a setPerf, fun s => command_eq _ tag a setPerf s,
      fun s => answerArgs_leaves a setPerf s fun a => setPerf_leaves a s, by simp [Instr.isQuery]⟩
  | perfQuery tag a =>
    have q s := answerArgs_asks a readPerf s fun a => readPerf_asks a s
    exact ⟨answerArgs a readPerf, fun s => command_eq _ tag a readPerf s, fun s => leaves_of_asks (q s), fun _ => q⟩
  | page tag a =>
    exact ⟨answerArgs a setPage, fun s => command_eq _ tag a setPage s,
      fun s => answerArgs_leaves a setPage s fun a => setPage_leaves a s, by simp [Instr.isQuery]⟩
  | pageQuery tag a =>
    have q s := answerArgs_asks a readPages s fun a => readPages_asks a s
    exact ⟨answerArgs a readPages, fun s => command_eq _ tag a readPages s, fun s => leaves_of_asks (q s), fun _ => q⟩
  | talkin tag a =>
    exact ⟨answerArgs a setTalkin, fun s => command_eq _ tag a setTalkin s,
      fun s => answerArgs_leaves a setTalkin s fun a => setTalkin_leaves a s, by simp [Instr.isQuery]⟩
  | talkinQuery tag a =>
    have q s := answerArgs_asks a readTalkin s fun a => readTalkin_asks a s
    exact ⟨answerArgs a readTalkin, fun s => command_eq _ tag a readTalkin s, fun s => leaves_of_asks (q s), fun _ => q⟩
  | cast tag a =>
    exact ⟨answerArgs a setCast, fun s => command_eq _ tag a setCast s,
      fun s => answerArgs_leaves a setCast s fun a => setCast_leaves a s, by simp [Instr.isQuery]⟩
  | castQuery tag a =>
    have q s := answerArgs_asks a readCast s fun a => readCast_asks a s
    exact ⟨answerArgs a readCast, fun s => command_eq _ tag a readCast s, fun s => leaves_of_asks (q s), fun _ => q⟩
  | supv tag a =>
    exact ⟨answerArgs a setSupv, fun s => command_eq _ tag a setSupv s,
      fun s => answerArgs_leaves a setSupv s fun a => setSupv_leaves a s, by simp [Instr.isQuery]⟩
  | supvQuery tag a =>
    have q s := answerArgs_asks a readSupv s fun a => readSupv_asks a s
    exact ⟨answerArgs a readSupv, fun s => command_eq _ tag a readSupv s, fun s => leaves_of_asks (q s), fun _ => q⟩
  | tlmQuery tag a =>
    have q s := answerArgs_asks a readTlm s fun a => readTlm_asks a s
    exact ⟨answerArgs a readTlm, fun s => command_eq _ tag a readTlm s, fun s => leaves_of_asks (q s), fun _ => q⟩
  | micQuery tag a =>
    have q s := answerArgs_asks a readMic s fun a => readMic_asks a s
    exact ⟨answerArgs a readMic, fun s => command_eq _ tag a readMic s, fun s => leaves_of_asks (q s), fun _ => q⟩
  | select tag a =>
    exact ⟨answerArgs a setSelect, fun s => command_eq _ tag a setSelect s,
      fun s => answerArgs_leaves a setSelect s fun a => setSelect_leaves a s, by simp [Instr.isQuery]⟩
  | auto tag a =>
    exact ⟨answerArgs a setAutoMode, fun s => command_eq _ tag a setAutoMode s,
      fun s => answerArgs_leaves a setAutoMode s fun a => setAutoMode_leaves a s, by simp [Instr.isQuery]⟩
  | cue tag a =>
    exact ⟨answerArgs a setCue, fun s => command_eq _ tag a setCue s,
      fun s => answerArgs_leaves a setCue s fun a => setCue_leaves a s, by simp [Instr.isQuery]⟩
  | cueQuery tag a =>
    have q s := answerArgs_asks a readCue s fun a => readCue_asks a s
    exact ⟨answerArgs a readCue, fun s => command_eq _ tag a readCue s, fun s => leaves_of_asks (q s), fun _ => q⟩
  | act tag a =>
    exact ⟨answerArgs a addAct, fun s => command_eq _ tag a addAct s,
      fun s => answerArgs_leaves a addAct s fun a => addAct_leaves a s, by simp [Instr.isQuery]⟩
  | actQuery tag a =>
    have q s := answerArgs_asks a readAct s fun a => readAct_asks a s
    exact ⟨answerArgs a readAct, fun s => command_eq _ tag a readAct s, fun s => leaves_of_asks (q s), fun _ => q⟩
  | actDel tag a =>
    exact ⟨answerArgs a dropAct, fun s => command_eq _ tag a dropAct s,
      fun s => answerArgs_leaves a dropAct s fun a => dropAct_leaves a s, by simp [Instr.isQuery]⟩
  | cueDel tag a =>
    exact ⟨answerArgs a dropCue, fun s => command_eq _ tag a dropCue s,
      fun s => answerArgs_leaves a dropCue s fun a => dropCue_leaves a s, by simp [Instr.isQuery]⟩
  | go tag a =>
    exact ⟨answerArgs a fireGo, fun s => command_eq _ tag a fireGo s,
      fun s => answerArgs_leaves a fireGo s fun a => fireGo_leaves a s, by simp [Instr.isQuery]⟩
  | back tag a =>
    exact ⟨answerArgs a goBack, fun s => command_eq _ tag a goBack s,
      fun s => answerArgs_leaves a goBack s fun a => goBack_leaves a s, by simp [Instr.isQuery]⟩
  | jump tag a =>
    exact ⟨answerArgs a jumpTo, fun s => command_eq _ tag a jumpTo s,
      fun s => answerArgs_leaves a jumpTo s fun a => jumpTo_leaves a s, by simp [Instr.isQuery]⟩
  | halt tag a =>
    exact ⟨answerArgs a haltRun, fun s => command_eq _ tag a haltRun s,
      fun s => answerArgs_leaves a haltRun s fun a => haltRun_leaves a s, by simp [Instr.isQuery]⟩
  | resume tag a =>
    exact ⟨answerArgs a resumeRun, fun s => command_eq _ tag a resumeRun s,
      fun s => answerArgs_leaves a resumeRun s fun a => resumeRun_leaves a s, by simp [Instr.isQuery]⟩
  | stopAll tag a =>
    exact ⟨answerArgs a stopShow, fun s => command_eq _ tag a stopShow s,
      fun s => answerArgs_leaves a stopShow s fun a => stopShow_leaves a s, by simp [Instr.isQuery]⟩
  | engine tag a =>
    exact ⟨answerArgs a setEngine, fun s => command_eq _ tag a setEngine s,
      fun s => answerArgs_leaves a setEngine s fun a => setEngine_leaves a s, by simp [Instr.isQuery]⟩
  | engineQuery tag a =>
    have q s := answerArgs_asks a readEngine s fun a => readEngine_asks a s
    exact ⟨answerArgs a readEngine, fun s => command_eq _ tag a readEngine s, fun s => leaves_of_asks (q s), fun _ => q⟩
  | instQuery tag a =>
    have q s := answerArgs_asks a readInsts s fun a => readInsts_asks a s
    exact ⟨answerArgs a readInsts, fun s => command_eq _ tag a readInsts s, fun s => leaves_of_asks (q s), fun _ => q⟩
  | sound tag a =>
    exact ⟨answerArgs a setSound, fun s => command_eq _ tag a setSound s,
      fun s => answerArgs_leaves a setSound s fun a => setSound_leaves a s, by simp [Instr.isQuery]⟩
  | soundQuery tag a =>
    have q s := answerArgs_asks a readSound s fun a => readSound_asks a s
    exact ⟨answerArgs a readSound, fun s => command_eq _ tag a readSound s, fun s => leaves_of_asks (q s), fun _ => q⟩
  | play tag a =>
    exact ⟨answerArgs a startPlay, fun s => command_eq _ tag a startPlay s,
      fun s => answerArgs_leaves a startPlay s fun a => startPlay_leaves a s, by simp [Instr.isQuery]⟩
  | stop tag a =>
    exact ⟨answerArgs a stopPlay, fun s => command_eq _ tag a stopPlay s,
      fun s => answerArgs_leaves a stopPlay s fun a => stopPlay_leaves a s, by simp [Instr.isQuery]⟩
  | voiceQuery tag a =>
    have q s := answerArgs_asks a readVoice s fun a => readVoice_asks a s
    exact ⟨answerArgs a readVoice, fun s => command_eq _ tag a readVoice s, fun s => leaves_of_asks (q s), fun _ => q⟩
  | playerQuery tag a =>
    have q s := answerArgs_asks a readPlayer s fun a => readPlayer_asks a s
    exact ⟨answerArgs a readPlayer, fun s => command_eq _ tag a readPlayer s, fun s => leaves_of_asks (q s), fun _ => q⟩
  | fetch tag a =>
    exact ⟨answerArgs a setFetch, fun s => command_eq _ tag a setFetch s,
      fun s => answerArgs_leaves a setFetch s fun a => setFetch_leaves a s, by simp [Instr.isQuery]⟩
  | fetchQuery tag a =>
    have q s := answerArgs_asks a readFetch s fun a => readFetch_asks a s
    exact ⟨answerArgs a readFetch, fun s => command_eq _ tag a readFetch s, fun s => leaves_of_asks (q s), fun _ => q⟩
  | fb tag a =>
    exact ⟨answerArgs a setFb, fun s => command_eq _ tag a setFb s,
      fun s => answerArgs_leaves a setFb s fun a => setFb_leaves a s, by simp [Instr.isQuery]⟩
  | fbQuery tag a =>
    have q s := answerArgs_asks a readFb s fun a => readFb_asks a s
    exact ⟨answerArgs a readFb, fun s => command_eq _ tag a readFb s, fun s => leaves_of_asks (q s), fun _ => q⟩
  | talkback tag a =>
    exact ⟨answerArgs a setTalkback, fun s => command_eq _ tag a setTalkback s,
      fun s => answerArgs_leaves a setTalkback s fun a => setTalkback_leaves a s, by simp [Instr.isQuery]⟩
  | talkbackQuery tag a =>
    have q s := answerArgs_asks a readTalkback s fun a => readTalkback_asks a s
    exact ⟨answerArgs a readTalkback, fun s => command_eq _ tag a readTalkback s, fun s => leaves_of_asks (q s), fun _ => q⟩
  | talk tag a =>
    exact ⟨answerArgs a setTalk, fun s => command_eq _ tag a setTalk s,
      fun s => answerArgs_leaves a setTalk s fun a => setTalk_leaves a s, by simp [Instr.isQuery]⟩
  | zone tag a =>
    exact ⟨answerArgs a setZone, fun s => command_eq _ tag a setZone s,
      fun s => answerArgs_leaves a setZone s fun a => setZone_leaves a s, by simp [Instr.isQuery]⟩
  | zoneQuery tag a =>
    have q s := answerArgs_asks a readZone s fun a => readZone_asks a s
    exact ⟨answerArgs a readZone, fun s => command_eq _ tag a readZone s, fun s => leaves_of_asks (q s), fun _ => q⟩
  | groupQuery tag a =>
    have q s := answerArgs_asks a readGroup s fun a => readGroup_asks a s
    exact ⟨answerArgs a readGroup, fun s => command_eq _ tag a readGroup s, fun s => leaves_of_asks (q s), fun _ => q⟩
  | call tag a =>
    exact ⟨answerArgs a makeCall, fun s => command_eq _ tag a makeCall s,
      fun s => answerArgs_leaves a makeCall s fun a => makeCall_leaves a s, by simp [Instr.isQuery]⟩
  | callQuery tag a =>
    have q s := answerArgs_asks a readCall s fun a => readCall_asks a s
    exact ⟨answerArgs a readCall, fun s => command_eq _ tag a readCall s, fun s => leaves_of_asks (q s), fun _ => q⟩
  | callEnd tag a =>
    exact ⟨answerArgs a (finishCall .ended), fun s => command_eq _ tag a (finishCall .ended) s,
      fun s => answerArgs_leaves a (finishCall .ended) s fun a => finishCall_leaves _ a s, by simp [Instr.isQuery]⟩
  | callCancel tag a =>
    exact ⟨answerArgs a (finishCall .cancelled), fun s => command_eq _ tag a (finishCall .cancelled) s,
      fun s => answerArgs_leaves a (finishCall .cancelled) s fun a => finishCall_leaves _ a s, by simp [Instr.isQuery]⟩
  | presetDef tag a =>
    exact ⟨answerArgs a definePreset, fun s => command_eq _ tag a definePreset s,
      fun s => answerArgs_leaves a definePreset s fun a => definePreset_leaves a s, by simp [Instr.isQuery]⟩
  | presetDefQuery tag a =>
    have q s := answerArgs_asks a readPreset s fun a => readPreset_asks a s
    exact ⟨answerArgs a readPreset, fun s => command_eq _ tag a readPreset s, fun s => leaves_of_asks (q s), fun _ => q⟩
  | preset tag a =>
    exact ⟨answerArgs a firePreset, fun s => command_eq _ tag a firePreset s,
      fun s => answerArgs_leaves a firePreset s fun a => firePreset_leaves a s, by simp [Instr.isQuery]⟩
  | lineset tag a =>
    exact ⟨answerArgs a setLineset, fun s => command_eq _ tag a setLineset s,
      fun s => answerArgs_leaves a setLineset s fun a => setLineset_leaves a s, by simp [Instr.isQuery]⟩
  | line tag a =>
    exact ⟨answerArgs a setCueLine, fun s => command_eq _ tag a setCueLine s,
      fun s => answerArgs_leaves a setCueLine s fun a => setCueLine_leaves a s, by simp [Instr.isQuery]⟩
  | lineQuery tag a =>
    have q s := answerArgs_asks a readLine s fun a => readLine_asks a s
    exact ⟨answerArgs a readLine, fun s => command_eq _ tag a readLine s, fun s => leaves_of_asks (q s), fun _ => q⟩
  | report tag a =>
    exact ⟨answerArgs a setMask, fun s => command_eq _ tag a setMask s,
      fun s => answerArgs_leaves a setMask s fun a => setMask_leaves a s, by simp [Instr.isQuery]⟩
  | reportQuery tag a =>
    have q s := answerArgs_asks a readMask s fun a => readMask_asks a s
    exact ⟨answerArgs a readMask, fun s => command_eq _ tag a readMask s, fun s => leaves_of_asks (q s), fun _ => q⟩
  | linkQuery tag a =>
    have q s := answerArgs_asks a readLink s fun a => readLink_asks a s
    exact ⟨answerArgs a readLink, fun s => command_eq _ tag a readLink s, fun s => leaves_of_asks (q s), fun _ => q⟩
  | statusQuery tag a =>
    have q s := answerArgs_asks a readStatus s fun a => readStatus_asks a s
    exact ⟨answerArgs a readStatus, fun s => command_eq _ tag a readStatus s, fun s => leaves_of_asks (q s), fun _ => q⟩
  | showReset tag a =>
    exact ⟨answerArgs a resetShow, fun s => command_eq _ tag a resetShow s,
      fun s => answerArgs_leaves a resetShow s fun a => resetShow_leaves a s, by simp [Instr.isQuery]⟩
  | clockQuery tag a =>
    have q s := answerArgs_asks a readClock s fun a => readClock_asks a s
    exact ⟨answerArgs a readClock, fun s => command_eq _ tag a readClock s, fun s => leaves_of_asks (q s), fun _ => q⟩
  | unknown tag why => exact absurd rfl (h' tag why)
  | lineReceived _ _ => simp [Instr.isLine] at h
  | transmitLine => simp [Instr.isLine] at h
  | pause _ => simp [Instr.isLine] at h
  | fullReset => simp [Instr.isLine] at h
  | resetEnd _ _ => simp [Instr.isLine] at h
  | showResetPriming => simp [Instr.isLine] at h
  | frame _ _ => simp [Instr.isLine] at h
  | clipClear _ => simp [Instr.isLine] at h
  | fadeComplete _ => simp [Instr.isLine] at h
  | crossfadeEnd _ => simp [Instr.isLine] at h
  | telemetryByte _ _ => simp [Instr.isLine] at h
  | validRecord => simp [Instr.isLine] at h
  | dropoutExpiry _ => simp [Instr.isLine] at h
  | restoreExpiry _ => simp [Instr.isLine] at h
  | staleExpiry _ => simp [Instr.isLine] at h
  | referenceStale => simp [Instr.isLine] at h
  | chainExpiry => simp [Instr.isLine] at h
  | fetchGrant => simp [Instr.isLine] at h
  | completionOk _ _ => simp [Instr.isLine] at h
  | completionError _ => simp [Instr.isLine] at h
  | tagTimeout _ => simp [Instr.isLine] at h
  | guardWindowEnd => simp [Instr.isLine] at h
  | expired _ => simp [Instr.isLine] at h
  | debounce _ => simp [Instr.isLine] at h
  | clockLost => simp [Instr.isLine] at h
  | qualifyingTimeout => simp [Instr.isLine] at h
  | clockRestored => simp [Instr.isLine] at h
  | wclkRisingEdge _ => simp [Instr.isLine] at h

/-- An event that is neither a line nor a pin or power event is carried out, and its operation ended. -/
theorem exec_event (c : Instr) (h : c.isLine = false) (h' : c.isPinEvent = false) :
    ∃ f : State → State, ∀ s, exec c s = event f s := by
  cases c with
  | level _ _ => simp [Instr.isLine] at h
  | levelQuery _ _ => simp [Instr.isLine] at h
  | input _ _ => simp [Instr.isLine] at h
  | inputQuery _ _ => simp [Instr.isLine] at h
  | clipQuery _ _ => simp [Instr.isLine] at h
  | fadeQuery _ _ => simp [Instr.isLine] at h
  | role _ _ => simp [Instr.isLine] at h
  | perf _ _ => simp [Instr.isLine] at h
  | perfQuery _ _ => simp [Instr.isLine] at h
  | page _ _ => simp [Instr.isLine] at h
  | pageQuery _ _ => simp [Instr.isLine] at h
  | talkin _ _ => simp [Instr.isLine] at h
  | talkinQuery _ _ => simp [Instr.isLine] at h
  | cast _ _ => simp [Instr.isLine] at h
  | castQuery _ _ => simp [Instr.isLine] at h
  | supv _ _ => simp [Instr.isLine] at h
  | supvQuery _ _ => simp [Instr.isLine] at h
  | tlmQuery _ _ => simp [Instr.isLine] at h
  | micQuery _ _ => simp [Instr.isLine] at h
  | select _ _ => simp [Instr.isLine] at h
  | auto _ _ => simp [Instr.isLine] at h
  | cue _ _ => simp [Instr.isLine] at h
  | cueQuery _ _ => simp [Instr.isLine] at h
  | act _ _ => simp [Instr.isLine] at h
  | actQuery _ _ => simp [Instr.isLine] at h
  | actDel _ _ => simp [Instr.isLine] at h
  | cueDel _ _ => simp [Instr.isLine] at h
  | go _ _ => simp [Instr.isLine] at h
  | back _ _ => simp [Instr.isLine] at h
  | jump _ _ => simp [Instr.isLine] at h
  | halt _ _ => simp [Instr.isLine] at h
  | resume _ _ => simp [Instr.isLine] at h
  | stopAll _ _ => simp [Instr.isLine] at h
  | engine _ _ => simp [Instr.isLine] at h
  | engineQuery _ _ => simp [Instr.isLine] at h
  | instQuery _ _ => simp [Instr.isLine] at h
  | sound _ _ => simp [Instr.isLine] at h
  | soundQuery _ _ => simp [Instr.isLine] at h
  | play _ _ => simp [Instr.isLine] at h
  | stop _ _ => simp [Instr.isLine] at h
  | voiceQuery _ _ => simp [Instr.isLine] at h
  | playerQuery _ _ => simp [Instr.isLine] at h
  | fetch _ _ => simp [Instr.isLine] at h
  | fetchQuery _ _ => simp [Instr.isLine] at h
  | fb _ _ => simp [Instr.isLine] at h
  | fbQuery _ _ => simp [Instr.isLine] at h
  | talkback _ _ => simp [Instr.isLine] at h
  | talkbackQuery _ _ => simp [Instr.isLine] at h
  | talk _ _ => simp [Instr.isLine] at h
  | zone _ _ => simp [Instr.isLine] at h
  | zoneQuery _ _ => simp [Instr.isLine] at h
  | groupQuery _ _ => simp [Instr.isLine] at h
  | call _ _ => simp [Instr.isLine] at h
  | callQuery _ _ => simp [Instr.isLine] at h
  | callEnd _ _ => simp [Instr.isLine] at h
  | callCancel _ _ => simp [Instr.isLine] at h
  | presetDef _ _ => simp [Instr.isLine] at h
  | presetDefQuery _ _ => simp [Instr.isLine] at h
  | preset _ _ => simp [Instr.isLine] at h
  | lineset _ _ => simp [Instr.isLine] at h
  | line _ _ => simp [Instr.isLine] at h
  | lineQuery _ _ => simp [Instr.isLine] at h
  | report _ _ => simp [Instr.isLine] at h
  | reportQuery _ _ => simp [Instr.isLine] at h
  | linkQuery _ _ => simp [Instr.isLine] at h
  | statusQuery _ _ => simp [Instr.isLine] at h
  | showReset _ _ => simp [Instr.isLine] at h
  | clockQuery _ _ => simp [Instr.isLine] at h
  | unknown _ _ => simp [Instr.isLine] at h
  | lineReceived _ _ => exact ⟨_, fun _ => rfl⟩
  | transmitLine => exact ⟨_, fun _ => rfl⟩
  | pause _ => simp [Instr.isPinEvent] at h'
  | fullReset => simp [Instr.isPinEvent] at h'
  | resetEnd _ _ => simp [Instr.isPinEvent] at h'
  | showResetPriming => exact ⟨_, fun _ => rfl⟩
  | frame _ _ => exact ⟨_, fun _ => rfl⟩
  | clipClear _ => exact ⟨_, fun _ => rfl⟩
  | fadeComplete _ => exact ⟨_, fun _ => rfl⟩
  | crossfadeEnd _ => exact ⟨_, fun _ => rfl⟩
  | telemetryByte _ _ => exact ⟨_, fun _ => rfl⟩
  | validRecord => exact ⟨_, fun _ => rfl⟩
  | dropoutExpiry _ => exact ⟨_, fun _ => rfl⟩
  | restoreExpiry _ => exact ⟨_, fun _ => rfl⟩
  | staleExpiry _ => exact ⟨_, fun _ => rfl⟩
  | referenceStale => exact ⟨_, fun _ => rfl⟩
  | chainExpiry => exact ⟨_, fun _ => rfl⟩
  | fetchGrant => exact ⟨_, fun _ => rfl⟩
  | completionOk _ _ => exact ⟨_, fun _ => rfl⟩
  | completionError _ => exact ⟨_, fun _ => rfl⟩
  | tagTimeout _ => exact ⟨_, fun _ => rfl⟩
  | guardWindowEnd => exact ⟨_, fun _ => rfl⟩
  | expired _ => exact ⟨_, fun _ => rfl⟩
  | debounce _ => exact ⟨_, fun _ => rfl⟩
  | clockLost => exact ⟨_, fun _ => rfl⟩
  | qualifyingTimeout => exact ⟨_, fun _ => rfl⟩
  | clockRestored => exact ⟨_, fun _ => rfl⟩
  | wclkRisingEdge _ => exact ⟨_, fun _ => rfl⟩

end Sys2Proof.Machine
end

