-- ==== Sys2Proof/Laws/Readers.lean ====
section
/-! SUPPORT. What the tests, the ranking and the output of a reader are, in the terms of the statements (R127 to R130, R133, R138). -/

namespace Sys2Proof.Machine

open Sys2Proof

theorem Slot.isFull_iff (x : Slot) : x.isFull = true ↔ ∃ j words, x = .full j words := by
  cases x <;> simp [Slot.isFull]

theorem Slot.isPending_iff (x : Slot) : x.isPending = true ↔ ∃ k j, x = .pending k j := by
  cases x <;> simp [Slot.isPending]

theorem Sound.lastBlock_iff (d : Sound) (j : Nat) :
    d.lastBlock j = true ↔ d.loop = none ∧ j + 1 = (d.len + 255) / 256 := by
  cases h : d.loop <;> simp [Sound.lastBlock, Sound.blocks, Sound.extent, h, Config.blockSamples]

/-- The start condition is that of R130. -/
theorem Reader.canStart_iff (r : Reader) : r.canStart = true ↔ r.Startable := by
  unfold Reader.canStart Reader.Startable
  cases hs : r.slot r.head <;> cases hd : r.sound <;> simp [Slot.isFull_iff, Sound.lastBlock_iff, nextSlot]
  exact ⟨fun h => ⟨_, _, rfl, h⟩, by rintro ⟨_, _, rfl, h⟩; exact h⟩

/-- No data is left where there is no sound, and where the cursor has passed the last block of an unlooped one (R127). -/
theorem Reader.dataLeft_false_iff (r : Reader) :
    r.dataLeft = false ↔ ∀ n d, r.sound = some (n, d) → d.loop = none ∧ (d.len + 255) / 256 ≤ r.cursor := by
  unfold Reader.dataLeft
  cases h : r.sound with
  | none => simp
  | some e =>
    obtain ⟨n, d⟩ := e
    cases hl : d.loop <;> simp [hl, Sound.blocks, Sound.extent, Config.blockSamples]

theorem toList_countP_eq_zero_iff {n : Nat} {α : Type} (v : Vector α n) (p : α → Bool) :
    v.toList.countP p = 0 ↔ ∀ i : Fin n, p (v.get i) = false := by
  simp only [List.countP_eq_zero, Vector.mem_toList_iff, Vector.mem_iff_getElem]
  constructor
  · intro h i; have := h _ ⟨i.val, i.isLt, rfl⟩; simpa [Vector.get] using this
  · rintro h a ⟨i, hi, rfl⟩; have := h ⟨i, hi⟩; simpa [Vector.get] using this

theorem toList_countP_eq_length_iff {n : Nat} {α : Type} (v : Vector α n) (p : α → Bool) :
    v.toList.countP p = n ↔ ∀ i : Fin n, p (v.get i) = true := by
  have : v.toList.countP p = n ↔ v.toList.countP p = v.toList.length := by simp
  rw [this, List.countP_eq_length]
  simp only [Vector.mem_toList_iff, Vector.mem_iff_getElem]
  constructor
  · intro h i; have := h _ ⟨i.val, i.isLt, rfl⟩; simpa [Vector.get] using this
  · rintro h a ⟨i, hi, rfl⟩; have := h ⟨i, hi⟩; simpa [Vector.get] using this

/-- The priming test is that of R133. -/
theorem Reader.isPrimed_iff (r : Reader) : r.isPrimed = true ↔ r.Primes := by
  have h1 : r.fullCount = 8 ↔ ∀ i, ∃ j words, r.slot i = .full j words := by
    simp only [Reader.fullCount, toList_countP_eq_length_iff, Slot.isFull_iff, Reader.slot]
  have h2 : r.pendingCount = 0 ↔ ∀ i k j, r.slot i ≠ .pending k j := by
    simp only [Reader.pendingCount, toList_countP_eq_zero_iff, Reader.slot]
    constructor
    · intro h i k j e; simpa [e, Slot.isPending] using h i
    · intro h i; cases e : r.ring.get i <;> simp [Slot.isPending]; exact h i _ _ e
  unfold Reader.isPrimed Reader.Primes
  rw [← Reader.dataLeft_false_iff, ← h1, ← h2]
  simp [and_assoc]

/-- The output of a reader is that of R128 and R129. -/
theorem Reader.output_outputs (r : Reader) : r.Outputs r.output := by
  unfold Reader.Outputs Reader.output
  cases r.state <;> cases r.slot r.head <;> simp

theorem toList_countP {n : Nat} {α : Type} (v : Vector α n) (p : α → Bool) :
    v.toList.countP p = (List.finRange n).countP fun i => p (v.get i) := by
  have : v.toList = (List.finRange n).map v.get := List.ext_getElem (by simp) (by simp [Vector.get])
  rw [this, List.countP_map]; rfl

theorem countP_full_or_pending {n : Nat} (v : Vector Slot n) :
    (List.finRange n).countP (fun i => (v.get i).isFull || (v.get i).isPending) =
      v.toList.countP Slot.isFull + v.toList.countP Slot.isPending := by
  simp only [toList_countP]
  induction List.finRange n with
  | nil => rfl
  | cons i l ih => cases h : v.get i <;> simp [Slot.isFull, Slot.isPending, h] at ih ⊢ <;> omega

/-- The class and the order of a reader that needs a block are those of the table of R138. -/
theorem Reader.ranked (refill : Nat) (r : Reader) (h : r.Needs) :
    r.Ranked refill (r.rankClass refill) (r.rankOrder refill) := by
  have hf : (List.finRange 8).countP (fun i => (r.slot i).isFull) = r.fullCount := (toList_countP _ _).symm
  unfold Reader.Ranked Reader.rankOrder
  rw [hf]
  refine ⟨?_, by simp only [Reader.fullCount, Reader.pendingCount, ← countP_full_or_pending]; rfl⟩
  unfold Reader.rankClass
  obtain ⟨h, -⟩ := h
  cases r.retry <;> rcases h with h | h | h | h <;> simp [h]

end Sys2Proof.Machine
end

