-- ==== Sys2Proof/Laws/Reports.lean ====
section
/-! SUPPORT. What raising a report leaves in the report set, in the terms of the statements (R199, R200), and when FRAME has a frame to
compute (R206). -/

namespace Sys2Proof.Machine

open Sys2Proof

theorem mem_upsert_self (l : List Report) (key : ReportKey) (text : String) :
    ({ key := key, text := text } : Report) ∈ upsert l key text := by
  unfold upsert
  split
  · rename_i h
    obtain ⟨r, hr, hk⟩ := List.any_eq_true.mp h
    exact List.mem_map.mpr ⟨r, hr, by simp [of_decide_eq_true hk]⟩
  · simp

theorem mem_upsert_of_ne {l : List Report} {key : ReportKey} {r : Report} (text : String) (hr : r ∈ l) (hk : r.key ≠ key) :
    r ∈ upsert l key text := by
  unfold upsert
  split
  · exact List.mem_map.mpr ⟨r, hr, by simp [hk]⟩
  · exact List.mem_append_left _ hr

/-- A raising leaves its text under its key. -/
theorem State.raised_raise {s t : State} (h : t.link.disabled = s.link.disabled) (key : ReportKey) (before part after : String) :
    s.Raised (t.raise key (before ++ (part ++ after))) key part := fun hd =>
  ⟨before, after, by
    have : t.link.disabled.contains key.kind = false := by simpa [h] using hd
    simp only [State.raise, this]
    exact mem_upsert_self _ _ _⟩

/-- A raising under another key leaves a report that stands. -/
theorem State.Raised.raise_of_ne {s t : State} {key : ReportKey} {part : String} (h : s.Raised t key part) {other : ReportKey}
    (hk : key ≠ other) (text : String) : s.Raised (t.raise other text) key part := fun hd => by
  obtain ⟨before, after, hm⟩ := h hd
  refine ⟨before, after, ?_⟩
  unfold State.raise
  split
  · exact hm
  · exact mem_upsert_of_ne text hm hk

/-- A report raised is raised still in a state with the same report set. -/
theorem State.Raised.congr {s t u : State} {key : ReportKey} {part : String} (h : s.Raised t key part)
    (hu : u.link.reports = t.link.reports) : s.Raised u key part := fun hd => by simpa [hu] using h hd

theorem State.frameBegun_iff (s : State) : s.frameBegun = true ↔ s.HasFrame := by
  simp only [State.frameBegun, State.HasFrame, Bool.or_eq_true, decide_eq_true_eq]
  exact ⟨fun h e => h.resolve_left fun n => n e, fun h => (Decidable.em _).elim (fun e => Or.inr (h e)) Or.inl⟩

theorem State.frame_of_hasFrame {s : State} (h : s.HasFrame) (slots : Vector Word32 64) (pins : Vector Bool 16) :
    s.frame slots pins = (s.takeDue.computeFrame slots pins).onClock fun b => { b with begun := b.begun - 1 } := by
  rw [State.frame, if_pos (s.frameBegun_iff.mpr h)]

theorem State.frame_of_not_hasFrame {s : State} (h : ¬s.HasFrame) (slots : Vector Word32 64) (pins : Vector Bool 16) :
    s.frame slots pins = s := by
  rw [State.frame, if_neg fun e => h (s.frameBegun_iff.mp e)]

end Sys2Proof.Machine
end

