-- ==== Sys2Proof/Tests/Slice0.lean ====
section
/-! SUPPORT. Tests: the well-formedness checks, lines read as commands, one small step of each command with what the manual's tables
and worked sequences give, and a witness for the hypotheses of each statement. -/

open Sys2Proof Sys2Proof.Machine

namespace Sys2Proof.Tests

set_option Elab.async false

/-! ## Helpers -/

def s0 : State := State.reset

/-- The state a command or an event leaves. -/
def run (c : Instr) (s : State) : State :=
  match exec c s with
  | .next t => t
  | .fault f => nomatch f
  | .refused _ => s

/-- The state a line leaves, and the replies and the report lines it leaves waiting. -/
def after (line : String) (s : State) : State := run (Text.parseLine line.toList) s
def reply (line : String) (s : State) : List String := (after line s).link.replies
def reports (s : State) : List String := s.link.reports.map (·.text)

/-- Performer 7 holds role 5 with main input 12, spare input 13 and trim +2.0 dB (section 3.6). -/
def lead : State :=
  (s0.onCast fun b => { b with
    roles := put b.roles 4 { name := "Rhea".toList, holder := some 6 }
    perfs := put b.perfs 6 { main := some 11, spares := [12], trim := 4, active := some 11, role := some 4 }
    claims := put (put b.claims 11 (some (6, .main))) 12 (some (6, .spare1)) }).onMic fun b => { b with
    health := put (put b.health 11 (some { state := .good, staleAt := some 48000 })) 12 (some { staleAt := some 48000 }) }

/-- Sound 10 has a record of three blocks (section 7.9 has one of its kind). -/
def tune : Sound := { first := 100, len := 700, loop := none }
def stocked : State := s0.onFetch fun b => { b with sounds := put b.sounds 9 (some tune) }

/-- A voice as it plays sound 10 at 0.0 dB, its head slot FULL. -/
def aReader (st : ReaderState) : Reader :=
  { state := st, sound := some (9, tune), level := 0, cursor := 3, tail := 3,
    ring := put (put (put (.replicate 8 .empty) 0 (.full 0 (.replicate 256 (-200000)))) 1 (.full 1 (.replicate 256 5)))
      2 (.full 2 (.replicate 256 7)) }
def voiceIs (st : ReaderState) : State := stocked.onReader (voiceReader 6) fun _ => aReader st

/-- Cue 20.0 plays sound 10 on voice 7, cue 21.0 sets a crosspoint and a cue line (after section 6.10). -/
def cue20 : Cue := { number := 200, label := "Storm".toList, link := .start 2000, actions := [.play 6 9 0] }
def cue21 : Cue :=
  { number := 210, actions := [.level (.role 1) (.fb 3) (-20) 0, .line 4 true, .level (.inp 29) (.house 1) 0 1500] }
def listed : State := { stocked with
  cues := [cue20, cue21], engine := { s0.engine with standby := some 210, readyShown := true } }

/-- A recorded call of priority 1 to zone 15, waiting behind a page of priority 2 that holds it (section 9.10). -/
def pageReq : CallRequest := { src := .page 0, targets := [.zone 14], pri := 2, duck := 40, level := 0, expiry := 0 }
def soundReq : CallRequest := { src := .sound 9, targets := [.zone 14], pri := 1, duck := 40, level := 0, expiry := 5000 }
def pageCall : Call :=
  { id := 2, req := pageReq, zones := [14], stamp := 0, admittedAt := 0, grant := some { stamp := 0, player := none },
    line := none }
def soundCall : Call :=
  { id := 3, req := soundReq, zones := [14], stamp := 1, admittedAt := 0, grant := none, line := none }
def paged : State := (stocked.onRouter fun b => { b with
  zones := put b.zones 14 { b.zones.get 14 with holding := some 2, duck := -40 }
  calls := [pageCall, soundCall], nextId := 4, admitStamp := 2, grantStamp := 1
  presets := put b.presets 1 (some pageReq) }).onCast fun b => { b with pages := put b.pages 0 (some 19) }

def silence : Vector Word32 64 := .replicate 64 0
def highPins : Vector Bool 16 := .replicate 16 true
def lowPins : Vector Bool 16 := .replicate 16 false
def chars (line : String) : List RxChar := line.toList.map fun c => { byte := BitVec.ofNat 8 c.toNat }

/-! ## Well-formedness: each check refuses an ill-formed term -/

theorem test_wf_tag_zero : (Instr.pageQuery (some 0) (.given ())).wellFormed = false := by decide
theorem test_wf_tag_five_digits : (Instr.level (some 10000) .malformed).wellFormed = false := by decide
theorem test_wf_tag_largest : (Instr.pageQuery (some 9999) (.given ())).wellFormed = true := by decide
theorem test_wf_role_name_with_space :
    (Instr.role none (.given { role := 5, name := ['a', ' ', 'b'] })).wellFormed = false := by decide
theorem test_wf_perf_name_control :
    (Instr.perf none (.given { perf := 5, name := some [Char.ofNat 7] })).wellFormed = false := by decide
theorem test_wf_cue_label_with_space :
    (Instr.cue none (.given { cue := 10, label := some [' '] })).wellFormed = false := by decide
theorem test_wf_zone_name_with_space :
    (Instr.zone none (.given { zone := 1, name := some [' '] })).wellFormed = false := by decide
theorem test_wf_members_empty_list :
    (Instr.talkback none (.given { members := some (.list []) })).wellFormed = false := by decide
theorem test_wf_call_without_target :
    (Instr.call none (.given { src := .page 1, targets := [] })).wellFormed = false := by decide
theorem test_wf_preset_without_target :
    (Instr.presetDef none (.given { preset := 1, request := some { src := .page 1, targets := [] } })).wellFormed = false := by
  decide
theorem test_wf_report_kind_twice :
    (Instr.report none (.given { kinds := [(.cue, true), (.cue, false)] })).wellFormed = false := by decide
theorem test_wf_line_holds_lf : (Instr.lineReceived [{ byte := 10 }] false).wellFormed = false := by decide
theorem test_wf_line_lf_with_framing_error :
    (Instr.lineReceived [{ byte := 10, framing := true }] false).wellFormed = true := by decide
theorem test_wf_call_id_zero : (Instr.expired 0).wellFormed = false := by decide
theorem test_wf_call_id_256 : (Instr.expired 256).wellFormed = false := by decide

/-! ## Lines read as commands (R2, R4, R196), and the table's bits -/

theorem test_parse_level : Text.parseLine "level IN:1 house:1 -6.25 T=100".toList =
    .level none (.given { row := .inp 1, bus := .house 1, level := .num (-6250), t := some 100 }) := by decide +kernel
theorem test_parse_level_bad_number :
    Text.parseLine "@42 LEVEL in:1 house:1 -6.2500".toList = .level (some 42) .malformed := by decide +kernel
theorem test_parse_time_with_point :
    Text.parseLine "STOP voice:3 1.5".toList = .stop none .malformed := by decide +kernel
theorem test_parse_stop_all : Text.parseLine "STOP all 2000".toList = .stopAll none (.given (some 2000)) := by
  decide +kernel
theorem test_parse_query_word : Text.parseLine "LEVEL ? house:1".toList = .level none .malformed := by decide +kernel
theorem test_parse_perf : Text.parseLine "PERF perf:7 spares=in:14 main=none".toList =
    .perf none (.given { perf := 7, main := some none, spares := some [14] }) := by decide +kernel
theorem test_parse_supv : Text.parseLine "SUPV ref=in:60 floor=-3".toList =
    .supv none (.given { floor := some (-3), ref := some (some 60) }) := by decide +kernel
theorem test_parse_cue : Text.parseLine "CUE 2.5 label=Storm.warn link=start:1500".toList =
    .cue none (.given { cue := 25, label := some "Storm.warn".toList, link := some (.start 1500) }) := by decide +kernel
theorem test_parse_cue_two_places : Text.parseLine "CUE 2.55".toList = .cue none .malformed := by decide +kernel
theorem test_parse_go : Text.parseLine "GO 21".toList = .go none (.given (some 210)) := by decide +kernel
theorem test_parse_sound : Text.parseLine "SOUND snd:41 block=9000 len=100000 loop=0,256 replace=yes".toList =
    .sound none (.given { sound := 41, block := 9000, len := 100000, loop := some (0, 256), replace := true }) := by
  decide +kernel
theorem test_parse_talkback : Text.parseLine "TALKBACK depth=10.5 members=fb:1,fb:3".toList =
    .talkback none (.given { depth := some 10500, members := some (.list [1, 3]) }) := by decide +kernel
theorem test_parse_depth_off : Text.parseLine "TALKBACK depth=off".toList = .talkback none .malformed := by
  decide +kernel
theorem test_parse_call : Text.parseLine "CALL src=snd:99 to=group:2 pri=4 duck=60.0 level=+4.0".toList =
    .call none (.given { src := .sound 99, targets := [.group 2], pri := some 4, duck := some 60000,
                         level := some (.num 4000) }) := by decide +kernel
theorem test_parse_lineset : Text.parseLine "LINESET line:4 fn=preset:2 pol=low".toList =
    .lineset none (.given { line := 4, fn := some (.preset 2), polHigh := some false }) := by decide +kernel
theorem test_parse_report : Text.parseLine "REPORT all=off cue=on".toList =
    .report none (.given { all := some false, kinds := [(.cue, true)] }) := by decide +kernel
theorem test_parse_bad_tag : Text.parseLine "@07 GO".toList = .unknown none .form := by decide +kernel
theorem test_parse_tag_alone : Text.parseLine "@7".toList = .unknown (some 7) .form := by decide +kernel
theorem test_parse_unknown_verb : Text.parseLine "@7 FLY".toList = .unknown (some 7) .verb := by decide +kernel
theorem test_parse_long : Text.parseLine ("@7 GO".toList ++ List.replicate 196 ' ') = .unknown (some 7) .long := by
  decide +kernel
theorem test_no_row_has_bits : decodeTableWord 8 5 = none ∧ s0.withFetchWord 8 5 = s0 := ⟨rfl, rfl⟩

/-! ## Levels and fades -/

theorem test_level_nearer_step : reply "LEVEL in:1 house:1 -6.2" s0 = ["OK in:1 house:1 level=-6.0"] := by decide +kernel
theorem test_level_claimed : reply "LEVEL in:12 house:1 -10" lead = ["ERR CLAIMED"] := by decide +kernel
theorem test_level_query_fade :
    reply "LEVEL? role:5 fb:2" ((s0.setXpt (.role 4) (.fb 1) (-96)).onFades fun b => { b with pool :=
      [{ target := .xpt (.role 4) (.fb 1), start := -12, goal := -180, ms := 1000, elapsed := 24000, owner := some 1,
         stopAtOff := false }] }) = ["OK role:5 fb:2 level=-48.0 target=off left=500"] := by decide +kernel
theorem test_level_query_row_none : reply "LEVEL? in:3" s0 = ["OK in:3 none"] := by decide +kernel
theorem test_input_off_is_minimum : reply "INPUT in:3 trim=off" s0 = ["OK in:3 trim=-40.0 use=free"] := by decide +kernel
theorem test_input_query_claimed : reply "INPUT? in:12" lead = ["OK in:12 trim=0.0 use=perf:7 main"] := by decide +kernel
theorem test_clip_query : reply "CLIP? house:1" s0 = ["OK house:1 state=clear frames=0 peak=0"] := by decide +kernel
theorem test_fade_query : reply "FADE?" s0 = ["OK used=0 owned=0 frozen=0 snaps=0"] := by decide +kernel
theorem test_gain_of_a_scaled_sample : scale (-3) 8211 = -2 ∧ scale 1 8211 = 1 := by decide
theorem test_frame_trimmed_role_row :
    (lead.rowSignals (put silence 11 (BitVec.ofInt 32 (1000000 * 256)))).getD 68 0 = 1258911 := by decide +kernel
set_option maxRecDepth 100000 in
theorem test_frame_output_waits : (run (.frame silence lowPins)
    (s0.onPorts fun b => { b with formedBefore := put b.formedBefore 0 8388607 })).ports.slots.get 0 = 0x7FFFFF00 := by
  decide +kernel
theorem test_clip_clear : reports (run (.clipClear (.house 0)) (s0.setClip (.house 0)
    { clipped := true, count := 1, peak := 26327229, quiet := 4800 })) =
      ["!CLIP house:1 state=clear frames=1 peak=26327229"] := by decide +kernel
theorem test_fade_complete : ((run (.fadeComplete (.xpt (.inp 6) (.house 1))) (s0.onFades fun b => { b with pool :=
    [{ target := .xpt (.inp 6) (.house 1), start := -40, goal := -12, ms := 300, elapsed := 14400, owner := none,
       stopAtOff := false }] })).xpt (.inp 6) (.house 1)) = -12 := by decide +kernel

/-! ## The cast table and supervision -/

theorem test_role : reply "ROLE role:5 name=Rhea" s0 = ["OK role:5 name=Rhea"] := by decide +kernel
theorem test_perf_in_role : reply "PERF perf:7 spares=in:14" lead = ["ERR INROLE"] := by decide +kernel
theorem test_perf_claims : (after "PERF perf:31 main=in:40 spares=in:41" s0).claim 40 = some (30, .spare1) := by
  decide +kernel
theorem test_perf_query : reply "PERF? perf:7" lead = ["OK perf:7 name= main=in:12 spares=in:13 trim=+2.0 zone=none " ++
    "revert=auto mode=auto active=in:12 state=main compromised=no role=role:5"] := by decide +kernel
theorem test_page_claimed : reply "PAGE page:1 in=in:12" lead = ["ERR CLAIMED"] := by decide +kernel
theorem test_page_query : reply "PAGE?" paged = ["OK page:1=in:20 page:2=none"] := by decide +kernel
theorem test_talkin : reply "TALKIN in=in:50" s0 = ["OK talkin=in:50"] := by decide +kernel
theorem test_talkin_query : reply "TALKIN?" s0 = ["OK talkin=none"] := by decide +kernel
theorem test_cast_begins_crossfade : reply "CAST role:5 perf=perf:31" lead =
    ["OK role:5 name=Rhea perf=perf:31 in=none xfade=240"] := by decide +kernel
theorem test_cast_held : reply "CAST role:9 perf=perf:7" lead = ["ERR HELD"] := by decide +kernel
theorem test_cast_query : reply "CAST?" lead = ["OK role:5=perf:7"] := by decide +kernel
theorem test_crossfade_end : ((run (.crossfadeEnd 4)
    (lead.onRole 4 fun r => { r with xfade := some { old := none, k := 240 } })).role 4).xfade = none := by decide +kernel
theorem test_supv_clamps : (after "SUPV floor=200 stale=1" s0).mic.sup = { floor := 100, stale := 100 } := by
  decide +kernel
theorem test_supv_query : reply "SUPV?" s0 = ["OK floor=20 hyst=6 over=90 batt=15 dropout=150 restore=2000 stale=1000 " ++
    "ref=none margin=10 eff=20 refstate=none refrf=none"] := by decide +kernel
theorem test_tlm_query : reply "TLM?" s0 = ["OK port=hunt good=0 checksum=0 channel=0 sync=0 partial=0 skipped=0"] := by
  decide +kernel
theorem test_mic_query_untracked : reply "MIC? in:1" s0 = ["OK in:1 untracked"] := by decide +kernel
theorem test_mic_query_none : reply "MIC?" s0 = ["OK none"] := by decide +kernel
theorem test_select_not_own : reply "SELECT perf:7 in=in:14" lead = ["ERR NOSUCH"] := by decide +kernel
theorem test_auto : ((after "AUTO perf:7" (lead.onPerf 6 fun p =>
    { p with state := .manual, modeAuto := false })).perf 6).state = .main := by decide +kernel
theorem test_telemetry_skipped : (run (.telemetryByte 7 false) s0).mic.tlm.skipped = 1 := by decide +kernel
theorem test_telemetry_record : (run (.telemetryByte 0x46 false) (s0.onMic fun b =>
    { b with tlm := { b.tlm with framing := .collect [0xA5, 21, 24, 24, 1] } })).mic.handed.map (·.rf) = [24] := by
  decide +kernel
theorem test_valid_record_fading : ((run .validRecord (lead.onMic fun b => { b with
    handed := [{ channel := 11, rf := 19, batt := none, pilot := true, mute := false }] })).health 11).map (·.state) =
      some .fading := by decide +kernel
theorem test_dropout : ((run (.dropoutExpiry 11) (lead.setHealth 11 (some {
    state := .fading, dropoutAt := some 0
    last := some { channel := 11, rf := 19, batt := none, pilot := false, mute := false } }))).health 11).map (·.cause) =
      some (some .pilot) := by decide +kernel
theorem test_restore : ((run (.restoreExpiry 11) (lead.setHealth 11
    (some { state := .recovering, cause := some .rf, restoreAt := some 0 }))).health 11) = some { state := .good } := by
  decide +kernel
theorem test_stale : ((run (.staleExpiry 12) { lead with now := 48000 }).health 12).map (·.cause) = some (some .stale) := by
  decide +kernel
theorem test_reference_stale : (run .referenceStale (s0.onMic fun b => { b with refRf := some 15, refStaleAt := some 0 })).mic =
    { s0.mic with refRf := some 15 } := by decide +kernel

/-! ## Cues and the cue engine (sections 5.8 and 6.10) -/

theorem test_cue_new : reply "CUE 20.5 label=Storm.warn" listed =
    ["OK cue=20.5 label=Storm.warn link=none actions=0 prev=20.0 next=21.0"] := by decide +kernel
theorem test_cue_range : reply "CUE 0" listed = ["ERR RANGE"] := by decide +kernel
theorem test_cue_query : reply "CUE?" listed = ["OK cues=2 actions=4 free=4092 first=20.0 last=21.0"] := by decide +kernel
theorem test_act : reply "ACT 20 STOP voice:2 t=3000" listed = ["OK cue=20.0 act=2 free=4091"] := by decide +kernel
theorem test_act_duplicate : reply "ACT 20 STOP voice:7" listed = ["ERR DUPLICATE"] := by decide +kernel
theorem test_act_query : reply "ACT? 21 1" listed = ["OK cue=21.0 act=1 LEVEL role:2 fb:4 -10.0 t=0"] := by decide +kernel
theorem test_act_del : reply "ACTDEL 21 3" listed = ["OK cue=21.0 actions=2 free=4093"] := by decide +kernel
theorem test_cue_del_standby : reply "CUEDEL 21" listed = ["OK cue=21.0 deleted free=4095 standby=end"] := by decide +kernel
theorem test_go : reply "GO" listed = ["OK go=21.0 slot=1 standby=end outstanding=1"] := by decide +kernel
theorem test_go_at_end : reply "GO" s0 = ["ERR END"] := by decide +kernel
theorem test_back : reply "BACK" (listed.onEngine fun b => { b with standby := none, readyShown := false }) =
    ["OK standby=21.0 ready=yes"] := by decide +kernel
theorem test_jump_primes : ((after "JUMP 20" listed).voice 6).state = .priming := by decide +kernel
theorem test_halt : reply "HALT" listed = ["OK run=halted"] := by decide +kernel
theorem test_resume : (after "RESUME" (listed.onEngine fun b => { b with halted := true })).engine.halted = false := by
  decide +kernel
theorem test_stop_all : reply "STOP ALL 0" (voiceIs .playing) = ["OK stopall t=0 voices=1 retired=0"] := by decide +kernel
theorem test_engine : reply "ENGINE stopall=700000" listed = ["OK run=running standby=21.0 last=none instances=0 " ++
    "chain=none ready=yes stopall=600000 fired=0"] := by decide +kernel
theorem test_engine_query_chain : reply "ENGINE?" (listed.onEngine fun b => { b with
    chain := some { target := 210, ms := 2000, elapsed := 48000, fromStart := true, setBy := 200 } }) =
      ["OK run=running standby=21.0 last=none instances=0 chain=21.0:1000:start ready=yes stopall=3000 fired=0"] := by
  decide +kernel
theorem test_inst_query : reply "INST?" (listed.onEngine fun b => { b with insts :=
    [{ slot := 2, cue := 120, stamp := 0, count := 2, chainTarget := none, endLink := none },
     { slot := 0, cue := 140, stamp := 1, count := 1, chainTarget := none, endLink := none }] }) =
      ["OK slot:3=12.0/2 slot:1=14.0/1"] := by decide +kernel
theorem test_chain_expiry_fires : (run .chainExpiry (listed.onEngine fun b => { b with
    chain := some { target := 210, ms := 10, elapsed := 480, fromStart := true, setBy := 200 } })).engine.lastFired =
      some 210 := by decide +kernel

/-- Cue 20.0 with a START link of no time; and a list of one cue with no actions. -/
def shortLink : State := { listed with cues := [{ cue20 with link := .start 0 }, cue21] }
def empty30 : State := { listed with
  cues := [{ number := 300 }], engine := { s0.engine with standby := some 300, readyShown := true } }
theorem test_chain_of_no_time_comes_first : (after "ENGINE?" (after "GO 20" shortLink)).link.replies.getLast? =
    some "OK run=running standby=end last=21.0 instances=2 chain=none ready=no stopall=3000 fired=2" := by decide +kernel
theorem test_fired_report_is_a_snapshot : reports (after "GO" empty30) =
    ["!CUE event=fired cue=30.0 slot=1 run=running standby=end last=30.0 instances=1 chain=none ready=no fired=1 out=0 " ++
      "locked=0 claimed=0 nocall=0"] := by decide +kernel

theorem test_cue_report_carries_the_label : reports (after "JUMP 20" { listed with cues := [{ cue20 with actions := [] }, cue21] }) =
    ["!CUE event=standby cue=20.0 slot=none run=running standby=20.0 last=none instances=0 chain=none ready=yes fired=0 " ++
      "label=Storm"] := by decide +kernel

/-! ## Playback and the sample store -/

theorem test_sound : reply "SOUND snd:41 block=9000 len=1000" s0 = ["OK snd:41 block=9000 len=1000 loop=none blocks=4"] := by
  decide +kernel
theorem test_sound_align : reply "SOUND snd:41 block=0 len=1000 loop=0,300" s0 = ["ERR ALIGN"] := by decide +kernel
theorem test_sound_query : reply "SOUND? snd:10" stocked = ["OK snd:10 block=100 len=700 loop=none blocks=3"] := by
  decide +kernel
theorem test_play_primed : reply "PLAY voice:7 snd:10" (voiceIs .primed) = ["OK voice:7 state=playing snd:10"] := by
  decide +kernel
theorem test_play_idle : reply "@42 PLAY voice:3 snd:10" stocked = ["@42 OK voice:3 state=starting snd:10"] := by
  decide +kernel
theorem test_stop_at_once : reply "STOP voice:7" (voiceIs .playing) = ["OK voice:7 state=idle"] := by decide +kernel
theorem test_stop_fade : reply "STOP voice:7 1000" (voiceIs .playing) = ["OK voice:7 state=playing"] := by decide +kernel
theorem test_voice_query : reply "VOICE?" (voiceIs .stalled) = ["OK voice:7=stalled"] := by decide +kernel
theorem test_player_query_range : reply "PLAYER? player:3" s0 = ["ERR RANGE"] := by decide +kernel
theorem test_fetch_clamps : reply "FETCH refill=9" s0 = ["OK refill=7 free=8 busy=0 orphaned=0 lost=0 timeouts=0 errors=0 stray=0"] :=
  by decide +kernel
theorem test_fetch_query : reply "FETCH?" s0 = ["OK refill=4 free=8 busy=0 orphaned=0 lost=0 timeouts=0 errors=0 stray=0"] := by
  decide +kernel

/-- Voice 7 in PRIMING with tag 5 BUSY for its slot 1, from frame 0. -/
def fetching : State := (stocked.onReader (voiceReader 6) fun _ =>
  { state := .priming, sound := some (9, tune), cursor := 2, tail := 2,
    ring := put (put (.replicate 8 .empty) 0 (.full 0 (.replicate 256 0))) 1 (.pending 5 1) }).onFetch fun b =>
      { b with tags := put b.tags 5 (.busy (voiceReader 6) 1 101 2400) }
theorem test_fetch_grant : (run .fetchGrant fetching).fetch.tags.get 0 = .busy (voiceReader 6) 2 102 2400 := by
  decide +kernel
/-- The sample at an offset of a FULL slot. -/
def sampleAt (k : Fin 256) : Slot → Option Sample
  | .full _ samples => some (samples.get k)
  | _ => none
theorem test_completion_ok : sampleAt 255 (((run (.completionOk 5 (.replicate 256 0xFFFF0080)) fetching).voice 6).slot 1) =
    some (-256) := by decide +kernel
theorem test_completion_late : (run (.completionOk 3 (.replicate 256 0))
    (s0.onFetch fun b => { b with tags := put b.tags 3 .lost })).fetch.tags.get 3 = .free := by decide +kernel
theorem test_completion_error_marks : ((run (.completionError 5) fetching).voice 6).retry = some (1, 1) := by decide +kernel
theorem test_tag_timeout : (run (.tagTimeout 5) { fetching with now := 2400 }).fetch.tags.get 5 = .lost := by
  decide +kernel

/-! ## Foldback, relay and calls -/

theorem test_fb : reply "FB fb:5 guard=on ceiling=-9.0" s0 = ["OK fb:5 lock=off guard=armed ceiling=-9.0 red=0.0 peak=none " ++
    "duck=0.0 member=no skipped=0"] := by decide +kernel
theorem test_fb_query : reply "FB?" (s0.onBus 1 fun b => { b with lock := true }) = ["OK fb:2=lock"] := by decide +kernel
theorem test_talkback : reply "TALKBACK depth=20 members=fb:1,fb:2" s0 =
    ["OK in=none level=off depth=20.0 members=fb:1,fb:2 talk=off lines=0 active=no"] := by decide +kernel
theorem test_talkback_query : reply "TALKBACK?" s0 =
    ["OK in=none level=off depth=0.0 members=none talk=off lines=0 active=no"] := by decide +kernel
theorem test_talk_with_line : reply "TALK on" (s0.onFoldback fun b => { b with heldLines := put b.heldLines 5 true }) =
    ["OK talk=on lines=1 active=yes"] := by decide +kernel
theorem test_guard_reduces : ((run .guardWindowEnd (s0.onFoldback fun b => { b with
    window := 480, buses := put b.buses 4 { guard := .metering, peak := 8388607 } })).bus 4).red = -12 := by decide +kernel
theorem test_zone : reply "ZONE zone:14 quiet=yes groups=group:2" s0 = ["OK zone:14 name= relay=on level=0.0 trim=0.0 " ++
    "quiet=yes groups=group:2 call=none duck=0.0"] := by decide +kernel
theorem test_zone_query : reply "ZONE? zone:15" paged = ["OK zone:15 name= relay=on level=0.0 trim=0.0 quiet=no groups=none " ++
    "call=2 duck=-20.0"] := by decide +kernel
theorem test_group_query : reply "GROUP? group:3" s0 = ["OK group:3 zones=none"] := by decide +kernel
theorem test_call_live : reply "CALL src=snd:10 to=zone:3" stocked = ["OK call=1 state=live"] := by decide +kernel
theorem test_call_waits : reply "CALL src=snd:10 to=zone:15 pri=1" paged = ["OK call=4 state=waiting"] := by decide +kernel
theorem test_call_query : reply "CALL?" paged = ["OK call:2=live call:3=waiting"] := by decide +kernel
theorem test_call_end_grants : ((after "CALLEND 2" paged).zone 14).holding = some 3 := by decide +kernel
theorem test_call_cancel : reply "CALLCANCEL 3" paged = ["OK call=3 state=ended cause=cancelled"] := by decide +kernel
theorem test_preset_def : reply "PRESETDEF 2 none" paged = ["OK preset:2 none"] := by decide +kernel
theorem test_preset_def_query : reply "PRESETDEF? 2" paged =
    ["OK preset:2 src=page:1 to=zone:15 pri=2 duck=20.0 level=0.0 exp=0"] := by decide +kernel
theorem test_preset_waits : reply "PRESET 2" paged = ["OK call=4 state=waiting preset=2"] := by decide +kernel
theorem test_expired : (run (.expired 3) { paged with now := 240000 }).router.calls.map (·.id) = [2] := by decide +kernel

/-! ## Logic lines, the link, resets and the clock -/

theorem test_lineset_low : reply "LINESET line:1 fn=go pol=low" (s0.onLines fun b => { b with pins := highPins }) =
    ["OK line:1 fn=go pol=low state=inactive cue=off refused=0"] := by decide +kernel
theorem test_lineset_range : reply "LINESET line:17 fn=go" s0 = ["ERR RANGE"] := by decide +kernel
theorem test_line : reply "LINE line:9 ON" (s0.onLine 8 fun r => { r with fn := .cueLine, debounced := none }) =
    ["OK line:9 cue=on fn=cue_line"] := by decide +kernel
theorem test_line_query : reply "LINE?" s0 = ["OK none"] := by decide +kernel
theorem test_debounce_refused : "!LINE line:1 fn=go event=refused why=halted refused=1" ∈ reports (run (.debounce 0)
    ((listed.onEngine fun b => { b with halted := true }).onLine 0 fun r => { r with fn := .go, count := 480 })) := by
  decide +kernel
theorem test_report : (after "REPORT all=off cue=on" s0).link.disabled.length = 13 := by decide +kernel
theorem test_report_query : reply "REPORT?" (s0.onLink fun b => { b with disabled := [.cue, .voice, .player, .mic, .perf,
    .call, .guard, .clip, .line, .fade, .store, .link] }) =
      ["OK on=tlm,clock off=cue,voice,player,mic,perf,call,guard,clip,line,fade,store,link"] := by decide +kernel
theorem test_link_query : reply "LINK?" s0 =
    ["OK baud=115200 queued=0 replies=0 hold=no pause=no overflow=0 framing=0 long=0"] := by decide +kernel
theorem test_status_query : reply "STATUS?" paged =
    ["OK run=running standby=end instances=0 fades=0 tags=0 lost=0 waiting=1 live=1 clock=internal reports=0"] := by
  decide +kernel
theorem test_show_reset : reply "SHOWRESET" listed = ["OK showreset standby=20.0"] := by decide +kernel
theorem test_show_reset_argument : reply "SHOWRESET now" listed = ["ERR SYNTAX"] := by decide +kernel
theorem test_show_reset_priming : ((run .showResetPriming (listed.onEngine fun b =>
    { b with standby := some 200, readyShown := false, primeDue := true })).voice 6).state = .priming := by decide +kernel
theorem test_clock_query : reply "CLOCK?" s0 = ["OK source=internal state=absent count=0 losses=0"] := by decide +kernel
theorem test_unknown : reply "@43 FLY" s0 = ["@43 ERR UNKNOWN"] := by decide +kernel
theorem test_long_line : (run (.unknown none .long) s0).link.long = 1 := by decide +kernel
theorem test_line_received : (run (.lineReceived (chars "GO" ++ [{ byte := 13 }]) false) s0).link.rxq =
    [.go none (.given none)] := by decide +kernel
theorem test_line_framing_error : (run (.lineReceived [{ byte := 71, framing := true }] false) s0).link.framing = 1 := by
  decide +kernel
theorem test_line_framing_error_and_overflow : reports (run (.lineReceived [{ byte := 71, framing := true }] true) s0) =
    ["!LINK event=overflow overflow=1 framing=1 long=0"] := by decide +kernel
theorem test_transmit_reply_first : (run .transmitLine (s0.onLink fun b => { b with
    replies := ["OK"], reports := [{ key := .clock, text := "!CLOCK" }] })).link.sending = some "OK\n" := by decide +kernel
theorem test_pause_holds : (run .transmitLine (run (.pause true)
    (s0.onLink fun b => { b with replies := ["OK"] }))).link.replies = ["OK"] := by decide +kernel
theorem test_full_reset : (run .fullReset listed).hold = true := by decide +kernel
theorem test_reset_end : (run (.resetEnd true false) { listed with inReset := true }).link.baud = 460800 := by decide +kernel
theorem test_clock_lost : reports (run .clockLost (s0.onClock fun _ => { wclk := true, monitor := .locked, count := 4800 })) =
    ["!CLOCK source=internal state=absent event=lost losses=1"] := by decide +kernel
theorem test_qualifying_timeout : (run .qualifyingTimeout (s0.onClock fun _ => { monitor := .qualifying, count := 9 })).clock =
    {} := by decide +kernel
theorem test_clock_restored : (run .clockRestored (s0.onClock fun _ => { monitor := .qualifying, count := 4799 })).clock.wclk =
    true := by decide +kernel
theorem test_wclk_edge_out_of_tolerance : (run (.wclkRisingEdge 21300000)
    (s0.onClock fun _ => { monitor := .qualifying, count := 100 })).clock.count = 0 := by decide +kernel

/-! ## Witnesses: states and operands that meet the hypotheses of each statement, each of its clauses, at the ends of its ranges

A statement with no hypothesis has none here. -/

theorem exec_run (c : Instr) (s : State) : exec c s = .next (run c s) := by cases c <;> rfl
theorem step_run {s : State} {c : Instr} {rest : List Instr} (h : s.pending = c :: rest) :
    step s = .next (run c { s with pending := rest }) := by simp only [step, h, exec_run]

def back : Instr := .back none (.given ())
def replies8 : State := s0.onLink fun b => { b with replies := .replicate 8 "OK" }
def replies7 : State := s0.onLink fun b => { b with replies := .replicate 7 "OK", rxq := [back] }
def lines7 : State := s0.onLink fun b => { b with rxq := .replicate 7 (.halt none (.given ())) }
def inReset : State := { s0 with inReset := true }

theorem witness_StepTakesFront :
    ({ s0 with pending := [back, .fetchGrant] } : State).pending = back :: [.fetchGrant] := rfl

theorem witness_LinesWaitTheirTurn :
    (back.isLine = true ∧ replies8.inReset = false ∧ replies8.link.rxq.length < 8 ∧ replies8.link.rxq = [] ∧
      8 ≤ replies8.link.replies.length) ∧
    (lines7.inReset = false ∧ lines7.link.rxq.length = 7 ∧ ∃ h rest, lines7.link.rxq = h :: rest ∧ h ≠ back) ∧
    (replies7.pending = [] ∧ replies7.link.rxq = [back] ∧ replies7.inReset = false ∧ replies7.link.replies.length = 7) ∧
    (s0.pending = [] ∧ s0.link.rxq = []) ∧ (inReset.pending = [] ∧ inReset.inReset = true) ∧ replies8.pending = [] :=
  ⟨by decide +kernel, ⟨rfl, rfl, _, _, rfl, by decide⟩, by decide +kernel⟩

theorem witness_FullReset : inReset.inReset = true ∧ s0.inReset = false := by decide
theorem witness_ResetHoldsThePart : inReset.inReset = true ∧ (Instr.frame silence lowPins).isPinEvent = false := ⟨rfl, rfl⟩

theorem witness_OneReplyPerLine :
    (back.isLine = true ∧ s0.inReset = false ∧ s0.link.replies.length < 8 ∧ s0.link.rxq = []) ∧
    (replies7.inReset = false ∧ replies7.link.replies.length = 7 ∧ replies7.link.rxq = back :: []) := by decide +kernel

def claimedLevel : Instr := .level none (.given { row := .inp 12, bus := .house 1, level := .num (-10000), t := none })
theorem witness_RefusedChangesNothing :
    (claimedLevel.isLine = true ∧ claimedLevel ≠ .unknown none .long ∧ lead.Takes ∧
      exec claimedLevel lead = .next (run claimedLevel lead) ∧
      (run claimedLevel lead).link.replies = lead.link.replies ++ [tagText none ++ ("ERR " ++ ErrCode.claimed.text)]) ∧
    ((Instr.level none .malformed).isMalformed = true ∧ s0.Takes) := by
  refine ⟨⟨rfl, by decide, ?_, exec_run _ _, by decide +kernel⟩, rfl, ?_⟩ <;> unfold State.Takes <;> decide +kernel

/-! ### States in which a line is taken as it arrives -/

theorem ready_s0 : s0.Ready := by unfold State.Ready State.Takes State.Settled; decide +kernel
theorem ready_lead : lead.Ready := by unfold State.Ready State.Takes State.Settled; decide +kernel
theorem ready_stocked : stocked.Ready := by unfold State.Ready State.Takes State.Settled; decide +kernel
theorem ready_listed : listed.Ready := by unfold State.Ready State.Takes State.Settled; decide +kernel
theorem ready_paged : paged.Ready := by unfold State.Ready State.Takes State.Settled; decide +kernel
theorem ready_voiceIs (st : ReaderState) : (voiceIs st).Ready := by
  unfold State.Ready State.Takes State.Settled; cases st <;> decide +kernel

theorem witness_QueriesChangeNothing : (Instr.voiceQuery none (.given none)).isQuery = true ∧ (voiceIs .playing).Ready :=
  ⟨rfl, ready_voiceIs _⟩

/-! ### Invariants -/

/-- A full link, with a pending report of an enabled kind, about to send. -/
def busyLink : State := { s0.onLink (fun b => { b with
    rxq := .replicate 8 back, replies := .replicate 8 "OK", reports := [{ key := .clock, text := "!CLOCK" }]
    disabled := [.cue] }) with pending := [.transmitLine] }

theorem witness_LinkInvariantsKept :
    busyLink.LinkBounded ∧ busyLink.link.ReportsKeyed ∧ step busyLink = .next (run .transmitLine { busyLink with pending := [] }) := by
  refine ⟨?_, ?_, rfl⟩
  · unfold State.LinkBounded; decide +kernel
  · unfold LinkBlock.ReportsKeyed; decide +kernel

/-- Cue 21.0 standing by, about to be deleted. -/
def deleting : State := { listed with pending := [.cueDel none (.given 210)] }
theorem witness_SettledKept :
    deleting.Settled ∧ step deleting = .next (run (.cueDel none (.given 210)) { deleting with pending := [] }) :=
  ⟨ready_listed.2, step_run rfl⟩

theorem cuesOk_listed : listed.CuesOk := by unfold State.CuesOk; decide +kernel
theorem witness_TablesKept :
    (deleting.CuesOk ∧ deleting.StandbyListed ∧
      step deleting = .next (run (.cueDel none (.given 210)) { deleting with pending := [] })) ∧
    (lead.RolesAgree ∧ step lead = .next lead) := by
  refine ⟨⟨cuesOk_listed, ?_, step_run rfl⟩, ?_, rfl⟩
  · intro n h; cases h; decide
  · unfold State.RolesAgree; decide +kernel

/-- A fade of the highest end level of a voice, on a voice. -/
def voiceFade (elapsed : Nat) : Fade :=
  { target := .voice 6, start := -40, goal := 0, ms := 10, elapsed := elapsed, owner := some 2, stopAtOff := false }
def rowFade (elapsed : Nat) : Fade :=
  { target := .xpt (.role 4) (.fb 1), start := 20, goal := -180, ms := 10, elapsed := elapsed, owner := none,
    stopAtOff := false }
def fading (elapsed : Nat) : State := { (voiceIs .playing).onFades fun b => { b with
    pool := [voiceFade elapsed, rowFade elapsed] } with pending := [.transmitLine] }

theorem witness_BlockBoundsKept :
    (fading 0).fades.PoolOk ∧ (fading 0).ports.SlotsOk ∧ (fading 0).foldback.GuardOk ∧
      step (fading 0) = .next (run .transmitLine { fading 0 with pending := [] }) := by
  refine ⟨?_, ?_, ?_, rfl⟩
  · unfold FadeBlock.PoolOk; decide +kernel
  · unfold PortBlock.SlotsOk; decide +kernel
  · unfold FoldbackBlock.GuardOk; decide +kernel

theorem witness_LevelsKept :
    (fading 0).TrimsOk ∧ (fading 0).LevelsOk ∧ step (fading 0) = .next (run .transmitLine { fading 0 with pending := [] }) := by
  have h : ∀ i j, ((fading 0).matrix.xpts.get i).get j = -180 := by
    intro i j
    show ((Vector.replicate 128 (Vector.replicate 25 (-180 : LevelCode))).get i).get j = -180
    simp [Vector.get_eq_getElem]
  refine ⟨?_, ⟨fun row bus => ?_, ?_, ?_, ?_⟩, rfl⟩
  · unfold State.TrimsOk; decide +kernel
  · unfold State.xpt crosspointCode; rw [h]; decide
  · unfold voiceCode; decide +kernel
  · simp [fading, State.onFades, voiceFade, rowFade, targetCode, voiceCode, crosspointCode]
  · simp [fading, voiceIs, stocked, s0, State.onFades, State.onReader, State.onFetch, State.reset]

theorem witness_LoadedDataStands :
    exec .transmitLine s0 = .next (run .transmitLine s0) ∧ ∀ baud1 baud0, Instr.transmitLine ≠ .resetEnd baud1 baud0 :=
  ⟨rfl, fun _ _ h => nomatch h⟩

/-! ### Levels and fades -/

theorem witness_LevelAddition :
    ((-180 : LevelCode) = -180 ∨ (20 : LevelCode) = -180) ∧
    ((20 : LevelCode) ≠ -180 ∧ (1 : LevelCode) ≠ -180 ∧ (20 : Int) < 20 + 1) ∧
    ((-179 : LevelCode) ≠ -180 ∧ (-1 : LevelCode) ≠ -180 ∧ (-179 : Int) + -1 < -179) ∧
    ((-100 : LevelCode) ≠ -180 ∧ (-79 : LevelCode) ≠ -180 ∧ (-179 : Int) ≤ -100 + -79) ∧
    (20 : Int) + 0 ≤ 20 ∧ (s0.zone 0).relay = true ∧ paged.holdingCall 14 = some pageCall := by decide +kernel

/-- On the internal reference every FRAME is a frame (R206). -/
theorem hasFrame_internal {s : State} (h : s.clock.monitor ≠ .locked) : s.HasFrame := fun e => absurd e h
theorem witness_PeakConversion :
    (280 < threshold (-179) ∧ threshold 40 ≤ 83886070 ∧ threshold (-179) ≤ 281) ∧
    (lead.inReset = false ∧ lead.HasFrame ∧
      exec (.frame silence lowPins) lead = .next (run (.frame silence lowPins) lead)) :=
  ⟨by decide +kernel, rfl, hasFrame_internal (by decide +kernel), exec_run _ _⟩

def crossing (k : Nat) : State := lead.onRole 4 fun r => { r with xfade := some { old := some (11, 4), k := k } }
theorem witness_RowSignals : (lead.role 4).xfade = none ∧ (crossing 239).role 4 =
    { lead.role 4 with xfade := some { old := some (11, 4), k := 239 } } ∧ 239 < 240 := by decide +kernel

theorem witness_FrameOutputs : lead.inReset = false ∧ lead.HasFrame := ⟨rfl, hasFrame_internal (by decide +kernel)⟩

/-- 256 records, none on role 5's crosspoints. -/
def manyFades : List Fade := (List.finRange 16).flatMap fun k => (List.finRange 16).map fun i =>
  { target := .xpt (.inp ⟨i.val, by omega⟩) (.fb k), start := 0, goal := 20, ms := 600000, elapsed := 0, owner := none,
    stopAtOff := false }
def fullPool : State := lead.onFades fun b => { b with pool := manyFades }
def onTheRow : State := (lead.onFades fun b => { b with pool := [rowFade 9] }).setXpt (.role 4) (.fb 1) 20
theorem witness_LevelSetsCrosspoint :
    (lead.Ready ∧ rowOf (.role 40) = some (.role 39) ∧ busOf (.house 8) = some (.house 7) ∧
      lead.claimedRow (.role 39) = false ∧ heldTime none = 0 ∧ lead.xpt (.role 4) (.fb 1) = crosspointLevel .off) ∧
    (heldTime (some 600001) ≠ 0 ∧ lead.xpt (.role 4) (.fb 1) ≠ crosspointLevel (.num 0) ∧
      lead.fadeOf (.xpt (.role 4) (.fb 1)) = none ∧ lead.fades.pool.length < 256) ∧
    (onTheRow.Ready ∧ onTheRow.xpt (.role 4) (.fb 1) ≠ crosspointLevel (.num 0) ∧
      (onTheRow.fadeOf (.xpt (.role 4) (.fb 1))).isSome) ∧
    (fullPool.Ready ∧ fullPool.xpt (.role 4) (.fb 1) ≠ crosspointLevel (.num 0) ∧
      fullPool.fadeOf (.xpt (.role 4) (.fb 1)) = none ∧ 256 = fullPool.fades.pool.length) ∧
    (lead.Takes ∧ rowOf (.inp 65) = none ∧ busOf (.house 0) = none) ∧
    (rowOf (.inp 12) = some (.inp 11) ∧ busOf .relay = some .relay ∧ lead.claim 11 ≠ none) := by
  unfold State.Ready State.Takes State.Settled; decide +kernel

def stopFade : State := (voiceIs .playing).onFades fun b => { b with
  pool := [{ target := .voice 6, start := 0, goal := -180, ms := 10, elapsed := 480, owner := none, stopAtOff := true }] }
theorem witness_FadeCompletes :
    ((fading 480).inReset = false ∧ (fading 480).Calm ∧ (fading 480).fadeOf (.voice 6) = some (voiceFade 480) ∧
      48 * (voiceFade 480).ms = (voiceFade 480).elapsed ∧ (fading 480).engine.halted = false) ∧
    (stopFade.Calm ∧ (stopFade.fadeOf (.voice 6)).map (fun f => (f.owner, f.stopAtOff, f.goal, 48 * f.ms ≤ f.elapsed)) =
      some (none, true, -180, True)) ∧
    ((fading 479).Calm ∧ (fading 479).fadeOf (.voice 6) = some (voiceFade 479) ∧
      (voiceFade 479).elapsed < 48 * (voiceFade 479).ms) := by
  refine ⟨?_, ⟨?_, by simp [stopFade, State.fadeOf, State.onFades]⟩, ?_⟩ <;> unfold State.Calm State.Settled <;> decide +kernel

def clipping (quiet : Nat) : State := s0.setClip (.fb 15) { clipped := true, count := 1, peak := 8388608, quiet := quiet }
theorem witness_CrossfadeAndClipEnd :
    ((crossing 240).inReset = false ∧ (crossing 240).Calm ∧
      ((crossing 240).role 4).xfade = some { old := some (11, 4), k := 240 }) ∧
    ((crossing 239).Calm ∧ ((crossing 239).role 4).xfade = some { old := some (11, 4), k := 239 }) ∧
    ((clipping 4800).Calm ∧ ((clipping 4800).clip (.fb 15)).clipped = true ∧ ((clipping 4800).clip (.fb 15)).quiet = 4800) ∧
    ((clipping 4799).Calm ∧ ((clipping 4799).clip (.fb 15)).quiet < 4800) ∧ (s0.clip .relay).clipped = false := by
  unfold State.Calm State.Settled; decide +kernel

/-! ### The cast table and supervision -/

theorem witness_RoleAndAssignments :
    (lead.Ready ∧ ofNum 40 40 = some 39 ∧ ("Understudy.2".toList.all nameChar = true ∧ "Understudy.2".toList.length = 12)) ∧
    (ofNum 2 2 = some 1 ∧ optNum 64 (some 64) = some (some 63) ∧ lead.use 63 = .free) ∧
    (paged.Ready ∧ ofNum 2 1 = some 0 ∧ optNum 64 (some 20) = some (some 19) ∧ paged.use 19 = .paging 0) ∧
    (optNum 64 none = some none ∧ optNum 64 (some 12) = some (some 11) ∧ lead.use 11 ≠ .free ∧
      lead.use 11 ≠ .paging 1 ∧ lead.use 11 ≠ .talkback) := by
  unfold State.Ready State.Takes State.Settled; decide +kernel

def understudy : PerfArgs := { perf := 31, main := some (some 40), spares := some [41] }
def renamed : PerfArgs := { perf := 7, name := some "Abcdefgh-_.9".toList }
theorem witness_PerfSetsRecord :
    (lead.Ready ∧ hasField understudy = true ∧ ofNum 48 31 = some 30 ∧ (∀ n, understudy.name = some n → n.length ≤ 12) ∧
      optNum 64 (some 40) = some (some 39) ∧ nums 64 [41] = some [40] ∧ [41].length ≤ 2 ∧ (lead.perf 30).zone = none ∧
      ((some 39 : Option InputId).toList ++ [40]).Nodup ∧ (lead.perf 30).role = none ∧
      ∀ i ∈ (some 39 : Option InputId).toList ++ [40], lead.usedElsewhere 30 i = false) ∧
    (hasField renamed = true ∧ ofNum 48 7 = some 6 ∧
      (∀ n, renamed.name = some n → n.all nameChar = true ∧ n.length ≤ 12) ∧ renamed.main = none ∧
      (lead.perf 6).main = some 11 ∧ (lead.perf 6).spares = [12] ∧ (some (11 : InputId)).toList ++ [12] = [11, 12] ∧
      ([11, 12] : List InputId).Nodup ∧ hasInputs renamed = false ∧
      ∀ i ∈ ([11, 12] : List InputId), lead.usedElsewhere 6 i = false) := by
  refine ⟨⟨ready_lead, by decide, by decide, ?_, by decide +kernel⟩, by decide, by decide, ?_, by decide +kernel⟩
  · intro n h; cases h
  · intro n h; cases h; decide +kernel

theorem witness_CastChangesHolder :
    (lead.Ready ∧ ofNum 40 9 = some 8 ∧ optNum 48 (some 7) = some (some 6) ∧ (lead.perf 6).role = some 4 ∧ (4 : RoleId) ≠ 8) ∧
    (ofNum 40 5 = some 4 ∧ (lead.role 4).holder = some 6) ∧
    (optNum 48 (some 31) = some (some 30) ∧ (lead.perf 30).role = none ∧ (lead.role 4).holder ≠ some 30) ∧
    (optNum 48 none = some none ∧ (lead.role 4).holder ≠ none) :=
  ⟨⟨ready_lead, by decide +kernel⟩, by decide +kernel⟩

theorem witness_SupvSettings :
    s0.Ready ∧ (supvHasField { floor := some (-1) } = true ∧ s0.mic.sup.ref = none) ∧
    (supvHasField { ref := some (some 64) } = true ∧ optNum 64 (some 64) = some (some 63) ∧ some (63 : InputId) ≠ s0.mic.sup.ref) :=
  ⟨ready_s0, by decide +kernel⟩

theorem witness_SelectForces :
    lead.Ready ∧ ofNum 48 7 = some 6 ∧ (ofNum 64 14 = some 13 ∧ ∀ e ∈ (lead.perf 6).inputs, e.1 ≠ 13) ∧
    (ofNum 64 13 = some 12 ∧ (∃ e ∈ (lead.perf 6).inputs, e.1 = 12) ∧ (lead.perf 6).role = some 4 ∧
      (lead.perf 6).active ≠ some 12) ∧
    (ofNum 64 12 = some 11 ∧ (∃ e ∈ (lead.perf 6).inputs, e.1 = 11) ∧ (lead.perf 6).active = some 11) :=
  ⟨ready_lead, by decide +kernel⟩

/-- The lead's main input DOWN, its spare in a health of its own. -/
def downMain (spare : Health) : State :=
  (lead.setHealth 11 (some { state := .down })).setHealth 12 (some { state := spare })
theorem witness_AutoReturns :
    (lead.Ready ∧ ofNum 48 7 = some 6 ∧ (lead.perf 6).active = some 11 ∧ lead.isGood 11 = true) ∧
    (ofNum 48 48 = some 47 ∧ (lead.perf 47).active = none) ∧
    ((downMain .fading).Ready ∧ (downMain .fading).isGood 11 = false ∧
      (downMain .fading).candidates ((downMain .fading).perf 6) = []) ∧
    ((downMain .good).Ready ∧ (downMain .good).isGood 11 = false ∧
      (downMain .good).candidates ((downMain .good).perf 6) = [(12, .spare1)]) := by
  unfold State.Ready State.Takes State.Settled; decide +kernel

def framed (f : Framing) (now : Nat) : State := { (s0.onMic fun b => { b with
  tlm := { b.tlm with framing := f } }) with now := now }
theorem witness_TelemetryByte :
    (s0.inReset = false ∧ s0.Calm ∧ s0.mic.tlm.framing = .hunt) ∧
    ((framed .waitSync 0).Calm ∧ (framed .waitSync 0).mic.tlm.framing = .waitSync) ∧
    ((framed (.collect [0xA5]) 96).Calm ∧ (framed (.collect [0xA5]) 96).now - (framed (.collect [0xA5]) 96).mic.tlm.lastByte = 96) ∧
    ((framed (.collect [0xA5]) 97).Calm ∧ 96 < (framed (.collect [0xA5]) 97).now - (framed (.collect [0xA5]) 97).mic.tlm.lastByte) ∧
    ((0 : Byte) + 1 + 1 + 1 ≠ 4 ∧ (0 : Byte) + 1 + 1 + 1 = 3 ∧ ofNum 64 (0 : Byte).toNat = none ∧ ofNum 64 (65 : Byte).toNat = none ∧
      ofNum 64 (64 : Byte).toNat = some 63) := by
  unfold State.Calm State.Settled; decide +kernel

/-- A record of a given RF level on the lead's main input, its pilot there and not muted. -/
def rec (rf : Nat) : TlmRecord := { channel := 11, rf := rf, batt := some 14, pilot := true, mute := false }
def healthy (st : Health) : HealthRec := { state := st, fadeStart := some 0 }
theorem witness_HealthTable :
    goodRecord (rec 26) 20 6 ∧ ¬goodRecord (rec 25) 20 6 ∧ badRecord (rec 19) 20 ∧ ¬badRecord (rec 20) 20 ∧
    (healthy .noData).state = .noData ∧ (healthy .good).state = .good ∧ (healthy .down).state = .down ∧
    (healthy .recovering).state = .recovering ∧ ((healthy .fading).state = .fading ∧ (healthy .fading).fadeStart = some 0) := by
  unfold goodRecord badRecord; decide

def handed : State := lead.onMic fun b => { b with handed := [rec 19], sup := { b.sup with ref := some 11 } }
def handedFree : State := s0.onMic fun b => { b with handed := [rec 19] }
theorem witness_ValidRecord :
    (handed.inReset = false ∧ handed.Calm ∧ handed.mic.handed = rec 19 :: [] ∧ handed.mic.sup.ref = some 11 ∧
      (handed.health 11).isSome ∧ handed.claim 11 = some (6, .main)) ∧
    (handedFree.Calm ∧ handedFree.mic.handed = rec 19 :: [] ∧ handedFree.mic.sup.ref ≠ some 11 ∧ handedFree.claim 11 = none) := by
  unfold State.Calm State.Settled; decide +kernel

def timed (st : Health) (now : Nat) : State := { ((lead.setHealth 11 (some
    { state := st, dropoutAt := some 9, restoreAt := some 9, staleAt := some 9 })).onMic fun b =>
      { b with refStaleAt := some 9 }) with now := now }
theorem witness_HealthTimers :
    ((timed .fading 9).inReset = false ∧ (timed .fading 9).Calm ∧ (timed .fading 9).claim 11 = some (6, .main) ∧
      (timed .fading 9).health 11 = some { state := .fading, dropoutAt := some 9, restoreAt := some 9, staleAt := some 9 } ∧
      (timed .fading 9).now = 9 ∧ (timed .fading 9).mic.refStaleAt = some 9) ∧
    ((timed .recovering 9).Calm ∧ ((timed .recovering 9).health 11).map (·.state) = some .recovering) ∧
    ((timed .fading 8).Calm ∧ ((timed .fading 8).health 11).map (·.dropoutAt) = some (some 9) ∧ (timed .fading 8).now < 9) ∧
    ((timed .recovering 8).Calm ∧ ((timed .recovering 8).health 11).map (·.restoreAt) = some (some 9)) := by
  unfold State.Calm State.Settled; decide +kernel

/-! ### Cues and the cue engine -/

/-- 512 cues, and 128 cues of 32 actions with one cue of none. -/
def longList : State := { s0 with cues := (List.range 512).map fun i => { number := i + 1 } }
def lines16 : List Action := (List.finRange 16).map fun n => .line n true
def stops16 : List Action := (List.finRange 16).map fun n => .stop ⟨n.val, by omega⟩ 0
def fullActions : State := { s0 with cues := (List.range 129).map fun i =>
  { number := i + 1, actions := if i < 128 then lines16 ++ stops16 else [] } }

theorem cuesOk_range (n : Nat) (h : n ≤ 512) :
    { s0 with cues := (List.range n).map fun i => { number := i + 1 } }.CuesOk := by
  refine ⟨?_, by simpa [Config.maxCues] using h, fun c hc => ?_, ?_⟩
  · simp only [List.map_map, Function.comp_def]
    exact List.Pairwise.map _ (fun a b (h : a < b) => Nat.succ_lt_succ h) List.pairwise_lt_range
  · obtain ⟨i, hi, rfl⟩ := List.mem_map.mp hc
    have := List.mem_range.mp hi
    exact ⟨by simp [cueInRange]; omega, Nat.zero_le _⟩
  · simp [State.poolUsed, Function.comp_def]
theorem cuesOk_longList : longList.Ready ∧ longList.CuesOk := by
  refine ⟨?_, cuesOk_range 512 (Nat.le_refl _)⟩
  unfold State.Ready State.Takes State.Settled; decide +kernel
theorem cuesOk_fullActions : fullActions.Ready ∧ fullActions.CuesOk := by
  unfold State.Ready State.Takes State.Settled State.CuesOk; decide +kernel

theorem witness_CueHeaders :
    (listed.Ready ∧ listed.CuesOk ∧ cueInRange 1 = true ∧ cueInRange 99999 = true ∧ listed.cueAt 1 = none ∧
      listed.cues.length < 512 ∧ ("Storm.warning_16".toList.all nameChar = true ∧ "Storm.warning_16".toList.length = 16)) ∧
    (longList.Ready ∧ longList.CuesOk ∧ longList.cueAt 99999 = none ∧ longList.cues.length = 512) ∧
    (cueInRange 210 = true ∧ listed.cueAt 210 = some cue21 ∧ listed.engine.standby = some 210) ∧
    (cueInRange 200 = true ∧ listed.cueAt 200 = some cue20) :=
  ⟨⟨ready_listed, cuesOk_listed, by decide +kernel⟩, ⟨cuesOk_longList.1, cuesOk_longList.2, by decide +kernel⟩,
    by decide +kernel⟩

def claimedList : State := { lead with cues := [cue21] }
theorem witness_CueActions :
    (listed.Ready ∧ listed.CuesOk ∧ actionOf (.play 7 10 none) = some (.play 6 9 0) ∧ listed.cueAt 200 = some cue20 ∧
      listed.fetch.sounds.get 9 ≠ none ∧ (∃ b ∈ cue20.actions, actionTarget b = actionTarget (.play 6 9 0))) ∧
    ((claimedList.Ready ∧ claimedList.CuesOk) ∧ actionOf (.level (.inp 12) .relay .off none) = some (.level (.inp 11) .relay (-180) 0) ∧
      claimedList.cueAt 210 = some cue21 ∧ (∀ b ∈ cue21.actions, actionTarget b ≠ actionTarget (.level (.inp 11) .relay (-180) 0)) ∧
      claimedList.claim 11 ≠ none) ∧
    (actionOf (.call 16) = some (.call 15) ∧ (∀ b ∈ lines16 ++ stops16, actionTarget b ≠ actionTarget (.call 15)) ∧
      (lines16 ++ stops16).length = 32 ∧ fullActions.cueAt 1 = some { number := 1, actions := lines16 ++ stops16 }) ∧
    (fullActions.poolFree = 0 ∧ fullActions.cueAt 129 = some { number := 129 }) ∧
    ((∀ b ∈ cue21.actions, actionTarget b ≠ actionTarget (.call 15)) ∧ cue21.actions.length < 32 ∧ 0 < listed.poolFree) ∧
    (cue21.actions[1 - 1]? = some (.level (.role 1) (.fb 3) (-20) 0) ∧ cue21.actions[3 - 1]?.isSome) := by
  refine ⟨⟨ready_listed, cuesOk_listed, by decide +kernel⟩, ⟨?_, by decide +kernel⟩, by decide +kernel⟩
  unfold State.Ready State.Takes State.Settled State.CuesOk; decide +kernel

theorem range_of_some {k : Nat} (h : cueInRange k = true) : ∀ j, some k = some j → cueInRange j = true := by
  intro j e; cases e; exact h

def halted : State := listed.onEngine fun b => { b with halted := true }
def chained (elapsed target : Nat) : State := listed.onEngine fun b => { b with
  chain := some { target := target, ms := 10, elapsed := elapsed, fromStart := true, setBy := 200 } }
theorem witness_GoFires :
    (listed.Ready ∧ (∀ m, (none : Option Nat) = some m → cueInRange m = true) ∧ listed.engine.halted = false ∧
      listed.standbyCue = some cue21) ∧
    ((∀ m, some 200 = some m → cueInRange m = true) ∧ listed.cueAt 200 = some cue20) ∧
    (halted.Takes ∧ halted.engine.halted = true) ∧
    ((∀ m, some 99999 = some m → cueInRange m = true) ∧ listed.cueAt 99999 = none) ∧
    (s0.Takes ∧ s0.engine.halted = false ∧ s0.engine.standby = none) ∧
    ((chained 480 210).inReset = false ∧ (chained 480 210).Settled ∧ (chained 480 210).engine.standby = some 210 ∧
      (chained 480 210).engine.chain =
        some { target := 210, ms := 10, elapsed := 480, fromStart := true, setBy := 200 } ∧
      (chained 480 210).cueAt 210 = some cue21) ∧
    ((chained 480 200).Settled ∧ (chained 480 200).engine.standby ≠ some 200) ∧
    ((chained 479 210).Settled ∧ ((chained 479 210).engine.chain.map fun c => (c.elapsed, 48 * c.ms)) = some (479, 480)) := by
  refine ⟨⟨ready_listed, ?_, by decide +kernel⟩, ⟨range_of_some rfl, by decide +kernel⟩, ?_,
    ⟨range_of_some rfl, by decide +kernel⟩, ?_⟩
  · intro m h; cases h
  · unfold State.Takes; decide +kernel
  · unfold State.Takes State.Settled; decide +kernel

theorem witness_FiringLevelAction :
    (((s0.onBus 3 fun b => { b with lock := true }).bus 3).lock = true) ∧ (lead.claim 11 ≠ none) ∧
    (onTheRow.xpt (.role 4) (.fb 1) = 20 ∧ (onTheRow.bus 1).lock = false ∧ (onTheRow.fadeOf (.xpt (.role 4) (.fb 1))).isSome) ∧
    (lead.fades.pool.length < 256) ∧
    (fullPool.fadeOf (.xpt (.role 4) (.fb 1)) = none ∧ 256 = fullPool.fades.pool.length ∧
      fullPool.xpt (.role 4) (.fb 1) ≠ 20) := by decide +kernel

/-- Cue 20.0 standing by, the voice it plays on in a state of its own. -/
def playStandby (st : ReaderState) : State := { voiceIs st with
  cues := [cue20, cue21], engine := { s0.engine with standby := some 200, readyShown := decide (st = .primed) } }
theorem witness_PrimingEvaluation :
    ((playStandby .idle).standbyPlays = [(6, 9)] ∧ (playStandby .idle).fetch.sounds.get 9 ≠ none) ∧
    (((playStandby .primed).voice 6).state = .primed ∧ ((playStandby .primed).voice 6).sound = some (9, tune) ∧
      (6, 9) ∈ (playStandby .primed).standbyPlays) ∧
    ((playStandby .playing).voice 6).state = .playing ∧ ((voiceIs .priming).voice 6).state = .priming := by decide +kernel

def listedAt (pos : Option Nat) : State := listed.onEngine fun b => { b with standby := pos, readyShown := pos = some 210 }
theorem witness_EngineCommands :
    ((listedAt none).Ready ∧ (listedAt none).engine.standby = none ∧ (listedAt none).lastCue = some 210) ∧
    ((listedAt (some 200)).Ready ∧ (listedAt (some 200)).cueBefore 200 = none) ∧
    (listed.Ready ∧ listed.cueBefore 210 = some 200) ∧
    (cueInRange 210 = true ∧ listed.cueAt 210 ≠ none ∧ listed.engine.standby = some 210) ∧
    (cueInRange 200 = true ∧ listed.cueAt 200 ≠ none ∧ listed.engine.standby ≠ some 200) ∧
    (listed.engine.halted = false ∧ ReportKind.cue ∉ listed.link.disabled) := by
  unfold State.Ready State.Takes State.Settled; decide +kernel

theorem witness_StopAllEnds :
    ((voiceIs .starting).Ready ∧ (3000 : Nat) = (voiceIs .starting).engine.stopAllMs ∧ ((voiceIs .starting).voice 6).state = .starting) ∧
    ((600000 : Nat) : Int) = max 0 (min 600000 600001) ∧ ((0 : Nat) : Int) = max 0 (min 600000 (-1)) ∧
    ((voiceIs .playing).Ready ∧ ((voiceIs .playing).voice 6).level ≠ -180 ∧ (voiceIs .playing).fades.pool.length + 24 ≤ 256) ∧
    (stopFade.Ready ∧ (stopFade.fadeOf (.voice 6)).isSome) ∧ ((voiceIs .faulted).Ready ∧ ((voiceIs .faulted).voice 6).state = .faulted) := by
  refine ⟨⟨ready_voiceIs _, by decide +kernel⟩, by decide, by decide, ⟨ready_voiceIs _, by decide +kernel⟩, ⟨?_, by decide +kernel⟩,
    ready_voiceIs _, by decide +kernel⟩
  unfold State.Ready State.Takes State.Settled; decide +kernel

def frozen : State := (fading 47).onEngine fun b => { b with halted := true }
theorem witness_FadeFrame :
    (frozen.fades.PoolOk ∧ voiceFade 47 ∈ frozen.fades.pool ∧ (voiceFade 47).owner ≠ none ∧ frozen.engine.halted = true) ∧
    ((fading 47).fades.PoolOk ∧ voiceFade 47 ∈ (fading 47).fades.pool ∧ (fading 47).engine.halted = false ∧
      (47 + 1) % 48 = 0 ∧ 47 + 1 < 48 * (voiceFade 47).ms) ∧
    ((fading 479).fades.PoolOk ∧ rowFade 479 ∈ (fading 479).fades.pool ∧ (rowFade 479).owner = none ∧
      (rowFade 479).elapsed < 48 * (rowFade 479).ms ∧ 479 + 1 = 48 * (rowFade 479).ms) ∧
    (s0.fadeOf (.voice 6) = none) := by
  unfold FadeBlock.PoolOk; decide +kernel

/-! ### Playback and the sample store -/

theorem witness_PlayTakesVoice :
    (ofNum 24 7 = some 6 ∧ ofNum 1024 10 = some 9 ∧ heldTime none = 0) ∧
    ((voiceIs .primed).Ready ∧ (voiceIs .primed).fetch.sounds.get 9 = some tune ∧ (voiceIs .primed).fades.pool = [] ∧
      ((voiceIs .primed).voice 6).state = .primed ∧ ((voiceIs .primed).voice 6).soundId = some 9) ∧
    ((voiceIs .priming).Ready ∧ (voiceIs .priming).fetch.sounds.get 9 = some tune ∧ ((voiceIs .priming).voice 6).state = .priming) ∧
    ((voiceIs .playing).Ready ∧ (voiceIs .playing).fetch.sounds.get 9 = some tune ∧ ((voiceIs .playing).voice 6).state = .playing) ∧
    (stocked.Ready ∧ stocked.fetch.sounds.get 9 = some tune ∧ (stocked.voice 23).soundId ≠ some 9 ∧ ofNum 24 24 = some 23) :=
  ⟨by decide +kernel, ⟨ready_voiceIs _, by decide +kernel⟩, ⟨ready_voiceIs _, by decide +kernel⟩,
    ⟨ready_voiceIs _, by decide +kernel⟩, ready_stocked, by decide +kernel⟩

/-- Voice 7 primed with every fade record in use elsewhere. -/
def primedFull : State := (voiceIs .primed).onFades fun b => { b with pool := manyFades }
theorem witness_PlayTakesVoice_full :
    primedFull.Ready ∧ primedFull.fetch.sounds.get 9 = some tune ∧ (primedFull.voice 6).state = .primed ∧
    (primedFull.voice 6).soundId = some 9 ∧ heldTime (some 1) ≠ 0 ∧
    256 = (primedFull.fades.pool.filter fun f => f.target ≠ .voice 6).length ∧ ReportKind.fade ∉ primedFull.link.disabled := by
  unfold State.Ready State.Takes State.Settled; decide +kernel
theorem test_entry_at_full_pool : reports (after "PLAY voice:7 snd:10 in=100" primedFull) = ["!FADE used=256 snaps=1 last=voice:7 level=0.0",
      "!VOICE voice:7 state=playing snd=snd:10 pos=0 level=0.0 event=playing late=0 stall=none underruns=0 retries=0"] := by
  decide +kernel
/-- Voice 7 playing with every fade record in use elsewhere. -/
def playingFull : State := (voiceIs .playing).onFades fun b => { b with pool := manyFades }
theorem witness_StopVoice :
    ofNum 24 7 = some 6 ∧ (stocked.Ready ∧ (stocked.voice 6).state = .idle) ∧
    ((voiceIs .faulted).Ready ∧ ((voiceIs .faulted).voice 6).state = .faulted) ∧
    ((voiceIs .stalled).Ready ∧ ((voiceIs .stalled).voice 6).state = .stalled ∧ heldTime none = 0) ∧
    (heldTime (some 600000) ≠ 0 ∧ ((voiceIs .stalled).voice 6).level ≠ -180 ∧ (voiceIs .stalled).fades.pool.length < 256 ∧
      (voiceIs .stalled).standbyPlays = []) ∧
    (playingFull.Ready ∧ (playingFull.voice 6).state = .playing ∧ playingFull.fadeOf (.voice 6) = none ∧
      256 = playingFull.fades.pool.length) := by
  refine ⟨by decide, ⟨ready_stocked, by decide +kernel⟩, ⟨ready_voiceIs _, by decide +kernel⟩, ⟨ready_voiceIs _, by decide +kernel⟩,
    ⟨by decide, by decide +kernel, by decide +kernel, rfl⟩, ?_⟩
  unfold State.Ready State.Takes State.Settled; decide +kernel

def noTags : State := fetching.onFetch fun b => { b with tags := .replicate 8 .lost }
/-- Voice 7 URGENT with a retry, before voice 1 priming. -/
def retrying : State := (fetching.onReader (voiceReader 6) fun r =>
    { r with state := .starting, ring := put r.ring 1 .empty, retry := some (1, 1) }).onReader (voiceReader 0) fun _ =>
      { state := .priming, sound := some (9, tune) }
theorem witness_FetchGrant :
    (s0.inReset = false ∧ s0.Calm ∧ ∀ r, ¬(s0.reader r).Needs) ∧ (noTags.Calm ∧ ∀ k, noTags.fetch.tags.get k ≠ .free) ∧
    (retrying.inReset = false ∧ retrying.Calm ∧ retrying.fetch.tags.get 0 = .free ∧ (∀ k' < (0 : TagId), retrying.fetch.tags.get k' ≠ .free) ∧
      (retrying.reader 6).Needs ∧ (retrying.reader 6).Asks 1 1 true ∧ (retrying.reader 6).sound = some (9, tune) ∧
      ∀ q, q ≠ 6 → (retrying.reader q).Needs →
        ∀ a x b y, (retrying.reader 6).Ranked retrying.fetch.refill a x → (retrying.reader q).Ranked retrying.fetch.refill b y →
        a < b ∨ a = b ∧ (x < y ∨ x = y ∧ (6 : ReaderId) < q)) := by
  have h0 : ∀ r, (s0.reader r).state = .idle := by decide +kernel
  have h1 : ∀ q, q ≠ 6 → (retrying.reader q).state ≠ .idle → (retrying.reader q).retry = none ∧
      (retrying.reader q).state = .priming := by decide +kernel
  have h3 : (retrying.reader 6).retry ≠ none := by decide +kernel
  have h2 : (retrying.reader 6).Asks 1 1 true := Or.inl (by decide +kernel)
  refine ⟨⟨rfl, ⟨ready_s0.2, by decide +kernel⟩, fun r h => ?_⟩, ⟨?_, by decide +kernel⟩, rfl, ?_, by decide +kernel, by decide, ?_, h2, by decide +kernel, ?_⟩
  · have := h0 r; simp [Reader.Needs, this] at h
  · unfold State.Calm State.Settled; decide +kernel
  · unfold State.Calm State.Settled; decide +kernel
  · exact ⟨by decide +kernel, 1, 1, true, h2⟩
  · intro q hq hn a x b y hr hq'
    have hp := h1 q hq (fun e => by simp [Reader.Needs, e] at hn)
    have ha : a = 0 := by simpa [h3] using hr.1
    have hb : b = 1 := by simpa [hp] using hq'.1
    exact Or.inl (by omega)

def fetchingAs (st : ReaderState) : State := fetching.onReader (voiceReader 6) fun r => { r with state := st }
def starved : State := (fetchingAs .starting).onReader (voiceReader 6) fun r => { r with head := 3 }
theorem witness_CompletionOk :
    ((fetchingAs .stalled).inReset = false ∧ (fetchingAs .stalled).Calm ∧
      (fetchingAs .stalled).fetch.tags.get 5 = .busy (voiceReader 6) 1 101 2400 ∧
      ((fetchingAs .stalled).reader (voiceReader 6)).slot 1 = .pending 5 1 ∧
      ((fetchingAs .stalled).reader (voiceReader 6)).state = .stalled) ∧
    (fetching.Calm ∧ fetching.fetch.tags.get 5 = .busy (voiceReader 6) 1 101 2400 ∧
      (fetching.reader (voiceReader 6)).slot 1 = .pending 5 1 ∧ (fetching.reader (voiceReader 6)).state = .priming) ∧
    ((fetchingAs .starting).Calm ∧ ((fetchingAs .starting).reader (voiceReader 6)).state = .starting) ∧ starved.Calm ∧
    (s0.Calm ∧ s0.fetch.tags.get 7 = .free) ∧ (noTags.Calm ∧ noTags.fetch.tags.get 7 = .lost) := by
  unfold State.Calm State.Settled; decide +kernel

def secondFailure : State := fetching.onReader (voiceReader 6) fun r => { r with retry := some (1, 1), state := .stalled }
/-- Call 2 LIVE on player 1, its slot 0 retried under tag 3; tag 4 orphaned. -/
def playerRetry : State := ((stocked.onRouter fun b => { b with
  calls := [{ soundCall with grant := some { stamp := 0, player := some 0 } }] }).onReader (playerReader 0) fun _ =>
    { state := .starting, sound := some (9, tune), ring := put (.replicate 8 .empty) 0 (.pending 3 0), retry := some (0, 0) }).onFetch
      fun b => { b with tags := put (put b.tags 3 (.busy (playerReader 0) 0 100 2400)) 4 (.orphaned 9 0) }
theorem witness_SlotFailures :
    (fetching.inReset = false ∧ fetching.Calm ∧ fetching.fetch.tags.get 5 = .busy (voiceReader 6) 1 101 2400 ∧
      (fetching.reader (voiceReader 6)).state ≠ .faulted ∧ (fetching.reader (voiceReader 6)).slot 1 = .pending 5 1 ∧
      (fetching.reader (voiceReader 6)).retry = none ∧ fetching.now < 2400) ∧
    (({ fetching with now := 2400 } : State).Calm ∧ 2400 ≤ ({ fetching with now := 2400 } : State).now) ∧
    (secondFailure.Calm ∧ secondFailure.fetch.tags.get 5 = .busy (voiceReader 6) 1 101 2400 ∧
      (secondFailure.reader (voiceReader 6)).slot 1 = .pending 5 1 ∧ (secondFailure.reader (voiceReader 6)).retry ≠ none) ∧
    (playerRetry.Calm ∧ playerRetry.fetch.tags.get 3 = .busy (playerReader 0) 0 100 2400 ∧
      (playerRetry.reader (playerReader 0)).slot 0 = .pending 3 0 ∧ (playerRetry.reader (playerReader 0)).retry ≠ none ∧
      (playerRetry.playerCall 0).isSome) ∧
    (playerRetry.fetch.tags.get 4 = .orphaned 9 0 ∧ 0 ≤ playerRetry.now) ∧ s0.fetch.tags.get 0 = .free ∧
    noTags.fetch.tags.get 0 = .lost := by
  unfold State.Calm State.Settled; decide +kernel

theorem witness_SampleStep :
    (((voiceIs .priming).reader 6).sound = some (9, tune) ∧ ((voiceIs .priming).reader 6).state = .priming) ∧
    (((fetchingAs .playing).onReader 6 fun r => { r with head := 1 }).reader 6).slot 1 = .pending 5 1 ∧
    ((((voiceIs .playing).reader 6).slot 0).isFull = true ∧ ((voiceIs .playing).reader 6).state = .playing ∧
      ((voiceIs .playing).reader 6).head = 0 ∧ ((voiceIs .playing).reader 6).pos + 1 < tune.len ∧ tune.loop = none ∧
      ((voiceIs .playing).reader 6).pos % 256 ≠ 255) ∧
    (((voiceIs .stalled).onReader 6 fun r => { r with pos := 699 }).reader 6).pos + 1 = tune.len ∧
    (((voiceIs .stalled).onReader 6 fun r => { r with pos := 255 }).reader 6).pos % 256 = 255 := by decide +kernel

theorem witness_ShowReset :
    listed.Ready ∧ (listed.inReset = false ∧ listed.Calm ∧ listed.engine.primeDue = false) ∧
    ((listedAt (some 200)).Calm ∧ ((listedAt (some 200)).onEngine fun b => { b with primeDue := true }).engine.primeDue = true ∧
      (listedAt (some 200)).standbyPlays = [(6, 9)]) :=
  ⟨ready_listed, ⟨rfl, ⟨ready_listed.2, by decide +kernel⟩, rfl⟩, by unfold State.Calm State.Settled; decide +kernel⟩

/-! ### Foldback, relay and calls -/

def window (n : Nat) (g : Guard) : State := (s0.onBus 15 fun b => { b with guard := g, peak := 200, red := -1 }).onFoldback fun b =>
  { b with window := n }
theorem witness_FoldbackAndGuard :
    (s0.Ready ∧ ofNum 16 16 = some 15 ∧ (some true : Option Bool) ≠ none ∧ (s0.bus 15).guard = .off) ∧
    ((window 0 .metering).Ready ∧ ((window 0 .metering).bus 15).guard = .metering) ∧
    ((window 479 .armed).Calm ∧ (window 479 .armed).foldback.window < 480) ∧
    ((window 480 .armed).Calm ∧ 480 = (window 480 .armed).foldback.window ∧ ((window 480 .armed).bus 15).guard = .armed) ∧
    ((window 480 .metering).Calm ∧ ((window 480 .metering).bus 15).guard = .metering) := by
  unfold State.Calm State.Ready State.Takes State.Settled; decide +kernel

def talking : State := s0.onFoldback fun b => { b with
  buses := put b.buses 2 { member := true }, talkDepth := 40, heldLines := put b.heldLines 5 true }
theorem witness_TalkAndTalkback :
    (talking.Ready ∧ talking.foldback.talkActive = true ∧ (talking.bus 2).member = true) ∧
    (s0.Ready ∧ s0.foldback.talkActive = false) ∧
    (membersOf (.list [1, 16]) = some [0, 15] ∧ ([0, 15] : List FbId).Nodup ∧ (∀ k, decide (k ∈ ([0, 15] : List FbId)) = true → k ≠ 2)) ∧
    ((some 40000 : Option Int) ≠ none ∧ talkbackDepth 40001 = 80 ∧ talkbackDepth 0 ≠ talking.foldback.talkDepth) := by
  unfold State.Ready State.Takes State.Settled; decide +kernel

theorem witness_ZoneFields :
    (paged.Ready ∧ zoneHasField { zone := 24, groups := some [8, 1] } = true ∧ ofNum 24 24 = some 23 ∧
      nums 8 [8, 1] = some [7, 0] ∧ ([7, 0] : List GroupId).Nodup) ∧
    (s0.Ready ∧ zoneHasField { zone := 1, name := some [] } = true ∧ ∀ c ∈ s0.router.calls, c.grant ≠ none) :=
  ⟨⟨ready_paged, by decide +kernel⟩, ready_s0, by decide +kernel⟩

def callOf (zone pri : Nat) : CallArgs := { src := .page 1, targets := [.zone zone], pri := some pri }
def reqOf (zone : ZoneId) (pri : Nat) : CallRequest :=
  { src := .page 0, targets := [.zone zone], pri := pri, duck := 0, level := 0, expiry := 0 }
/-- A full call table: 15 LIVE calls and a WAITING one of priority 1; zone 14 is quiet. -/
def fullTable (pri : Nat) : State := paged.onRouter fun b => { b with
  zones := put b.zones 13 { b.zones.get 13 with quiet := true }
  calls := (List.range 15).map (fun i => { pageCall with id := i + 10 }) ++ [{ soundCall with req := { soundReq with pri := pri } }] }
theorem ok_of_toOption {x : Except ErrCode CallRequest} {q : CallRequest} (h : x.toOption = some q) : x = .ok q := by
  cases x with
  | error e => cases h
  | ok a => cases h; rfl

/-- `ok_of_toOption` turns each check of a request here into the hypothesis the statement has. -/
theorem witness_CallAdmission :
    (paged.Ready ∧ (paged.checkRequest (callOf 14 2)).toOption = some (reqOf 13 2) ∧ paged.resolve (reqOf 13 2) ≠ [] ∧
      paged.router.calls.length < 16) ∧
    (paged.Ready ∧ ofNum 16 2 = some 1 ∧ paged.router.presets.get 1 = some pageReq ∧ paged.resolve pageReq = [14]) ∧
    ((fullTable 1).Ready ∧ ((fullTable 1).checkRequest (callOf 14 1)).toOption = some (reqOf 13 1) ∧
      (fullTable 1).resolve (reqOf 13 1) = []) ∧
    ((fullTable 4).Ready ∧ ((fullTable 4).checkRequest (callOf 14 4)).toOption = some (reqOf 13 4) ∧
      (fullTable 4).resolve (reqOf 13 4) = [13] ∧ (fullTable 4).router.calls.length = 16 ∧
      ∀ d ∈ (fullTable 4).router.calls, d.grant = none → 4 ≤ d.req.pri) ∧
    (((fullTable 1).checkRequest (callOf 14 4)).toOption = some (reqOf 13 4) ∧ (fullTable 1).resolve (reqOf 13 4) = [13] ∧
      (fullTable 1).router.calls.length = 16 ∧ soundCall ∈ (fullTable 1).router.calls ∧ soundCall.grant = none ∧
      soundCall.req.pri < 4 ∧ ∀ d ∈ (fullTable 1).router.calls, d ≠ soundCall → d.grant ≠ none) := by
  unfold State.Ready State.Takes State.Settled; decide +kernel

def id255 : State := paged.onRouter fun b => { b with calls := [pageCall, { soundCall with id := 255 }] }
theorem witness_CallEnds :
    (paged.Ready ∧ paged.callAt 2 = some pageCall ∧ paged.callAt 1 = none) ∧
    (id255.Ready ∧ (id255.callAt 255).isSome) ∧
    (paged.Calm ∧ paged.callAt 3 = some soundCall ∧ soundCall.grant = none ∧ 0 < soundCall.req.expiry ∧
      paged.now < soundCall.admittedAt + 48 * soundCall.req.expiry) ∧
    (({ paged with now := 240000 } : State).Calm ∧
      soundCall.admittedAt + 48 * soundCall.req.expiry = ({ paged with now := 240000 } : State).now) ∧
    pageCall.grant ≠ none := by
  unfold State.Calm State.Ready State.Takes State.Settled; decide +kernel

/-! ### Settings, lines, the link and the clock -/

theorem witness_SettingsStored :
    (s0.Ready ∧ ofNum 64 64 = some 63) ∧
    (ofNum 1024 1024 = some 1023 ∧ s0.fetch.sounds.get 1023 = none ∧ 16777215 + (256 + 255) / 256 ≤ 16777216 ∧
      (256 ∣ 0 ∧ 256 ∣ 256 ∧ 0 < 256)) ∧
    (stocked.Ready ∧ ∀ r, (stocked.reader r).state ≠ .idle → (stocked.reader r).soundId ≠ some 9) ∧
    (paged.Ready ∧ ofNum 16 16 = some 15 ∧ (paged.checkRequest (callOf 14 2)).toOption = some (reqOf 13 2)) :=
  ⟨⟨ready_s0, by decide⟩, by decide +kernel, ⟨ready_stocked, by decide +kernel⟩, ready_paged, by decide +kernel⟩

def lineAs (f : LineFn) (was : Bool) (count : Nat) : State := (listed.onLine 3 fun r =>
  { r with fn := f, debounced := some was, count := count, refused := 65535 }).onRouter fun b =>
    { b with presets := put b.presets 1 (some (reqOf 13 2)) }
/-- Line 4 holds the page of zone 15. -/
def heldPage (count : Nat) : State := (paged.onLine 3 fun r =>
  { r with fn := .preset 1, debounced := some true, count := count }).onRouter fun b =>
    { b with calls := [{ pageCall with line := some 3 }] }
theorem witness_LineConfigured :
    (s0.Ready ∧ ofNum 16 16 = some 15 ∧ (some true : Option Bool) ≠ none ∧ lineFnOf .none = some (s0.line 15).fn ∧
      (s0.line 15).activeHigh = true) ∧
    (lineFnOf (.callLive 24) = some (.callLive 23) ∧ (LineFn.callLive 23).isOutput = true) ∧
    ((lineAs .talk true 0).Ready ∧ ofNum 16 4 = some 3 ∧ lineFnOf .go = some .go ∧ ((lineAs .talk true 0).line 3).fn = .talk) ∧
    ((heldPage 0).Ready ∧ ((heldPage 0).line 3).fn = .preset 1 ∧
      (heldPage 0).router.calls.find? (fun c => c.line = some 3) = some { pageCall with line := some 3 }) ∧
    ((lineAs (.preset 1) true 0).Ready ∧ ∀ c ∈ (lineAs (.preset 1) true 0).router.calls, c.line ≠ some 3) := by
  unfold State.Ready State.Takes State.Settled; decide +kernel

theorem lineAs_settled (f : LineFn) (was : Bool) (count : Nat) :
    (lineAs f was count).inReset = false ∧ (lineAs f was count).Settled ∧ (lineAs f was count).engine.halted = false ∧
      (lineAs f was count).standbyCue = some cue21 := ⟨rfl, ready_listed.2, rfl,
    (by decide +kernel : listed.standbyCue = some cue21)⟩

def lineHalted : State := (lineAs .go false 480).onEngine fun b => { b with halted := true }
theorem witness_LineEvents :
    (((lineAs .go false 479).line 3).debounced = some false ∧ ((lineAs .go false 479).line 3).count < 480) ∧
    (((lineAs .go false 480).line 3).fn = .go ∧ 480 = ((lineAs .go false 480).line 3).count) ∧
    (((lineAs .none true 480).line 3).fn = .none ∧ ((lineAs .none true 480).line 3).debounced = some true) ∧
    (((lineAs .talk false 480).line 3).fn = .talk ∧ ((lineAs .halt false 480).line 3).fn = .halt ∧
      ((lineAs .resume false 480).line 3).fn = .resume ∧ ((lineAs .stopAll false 480).line 3).fn = .stopAll) ∧
    (lineHalted.Calm ∧ lineHalted.engine.halted = true ∧ (lineHalted.line 3).fn = .go) ∧
    (((lineAs (.preset 0) false 480).line 3).fn = .preset 0 ∧ (lineAs (.preset 0) false 480).router.presets.get 0 = none) ∧
    (((lineAs (.preset 1) false 480).line 3).fn = .preset 1 ∧
      (lineAs (.preset 1) false 480).router.presets.get 1 = some (reqOf 13 2) ∧ (lineAs (.preset 1) false 480).resolve (reqOf 13 2) ≠ [] ∧
      (lineAs (.preset 1) false 480).router.calls.length < 16) ∧
    ((heldPage 480).inReset = false ∧ (heldPage 480).Calm ∧ ((heldPage 480).line 3).debounced = some true ∧
      480 = ((heldPage 480).line 3).count ∧
      (heldPage 480).router.calls.find? (fun c => c.line = some 3) = some { pageCall with line := some 3 }) := by
  unfold State.Calm State.Settled; decide +kernel

theorem witness_LinkEvents :
    (s0.Takes ∧ s0.inReset = false ∧ s0.Calm ∧ s0.link.paused = false ∧ s0.link.replies = [] ∧ s0.link.reports = []) ∧
    Text.emptyLine (Text.keptChars (chars "   ")) = true ∧ Text.emptyLine (Text.keptChars (chars "GO")) = false ∧
    (busyLink.Calm ∧ 8 = busyLink.link.rxq.length ∧ busyLink.link.replies = "OK" :: .replicate 7 "OK") ∧
    (lines7.Calm ∧ lines7.link.rxq.length = 7 ∧ ∀ c ∈ Text.keptChars (chars "GO"), c.framing = false) ∧
    (∃ c ∈ Text.keptChars [{ byte := 71, framing := true }], c.framing = true) ∧
    ((s0.onLink fun b => { b with paused := true }).Calm) ∧
    ((s0.onLink fun b => { b with reports := [{ key := .clock, text := "!CLOCK" }] }).Calm) ∧
    (s0.Ready ∧ ([(.cue, true), (.clock, false)] : List (ReportKind × Bool)) ≠ [] ∧
      (([(.cue, true), (.clock, false)] : List (ReportKind × Bool)).map (·.1)).Nodup) := by
  unfold State.Calm State.Ready State.Takes State.Settled; decide +kernel

def monitor (m : Monitor) (n : Nat) (begun : Nat := 0) : State :=
  s0.onClock fun _ => { wclk := m = .locked, monitor := m, count := n, begun := begun }
set_option maxRecDepth 100000 in
/-- An edge while LOCKED begins one frame, which FRAME then computes; without one no frame is computed (R206). -/
theorem test_wclk_edge_begins_a_frame :
    (run (.wclkRisingEdge 20833333) (monitor .locked 4800)).clock.begun = 1 ∧
    (run (.frame silence lowPins) (run (.wclkRisingEdge 20833333) (monitor .locked 4800))).now = 1 := by decide +kernel
set_option maxRecDepth 100000 in
theorem test_no_frame_in_the_gap :
    (run (.frame silence lowPins) (monitor .locked 4800)).now = 0 ∧
    (run (.frame silence lowPins) (run .clockLost (monitor .locked 4800))).now = 1 := by decide +kernel
theorem witness_ClockMonitor :
    ((monitor .locked 4800).inReset = false ∧ (monitor .locked 4800).Calm ∧ (monitor .locked 4800).clock.monitor = .locked ∧
      (monitor .locked 4800).clock.begun = 0) ∧
    ((monitor .locked 4800 1).Calm ∧ (monitor .locked 4800 1).clock.monitor = .locked ∧
      0 + 1 = (monitor .locked 4800 1).clock.begun ∧ (monitor .locked 4800 1).HasFrame) ∧
    ReportKind.clock ∉ s0.link.disabled ∧
    (s0.Calm ∧ s0.clock.monitor = .absent) ∧
    ((monitor .qualifying 4798).Calm ∧ (monitor .qualifying 4798).clock.count < 4799) ∧
    ((monitor .qualifying 4799).Calm ∧ (monitor .qualifying 4799).clock.count = 4799) ∧
    (49000 * 20408163 < 10 ^ 12 ∧ 10 ^ 12 ≤ 49000 * 20408164 ∧ 47000 * 21276595 ≤ 10 ^ 12 ∧ 10 ^ 12 < 47000 * 21276596) := by
  unfold State.HasFrame State.Calm State.Settled; decide +kernel

/-! ### The clauses on FRAME, on the walk, on the instances' accounts, and on what comes before a line -/

/-- A chain of a time of 0 to the standby cue; a priming evaluation owed after a show reset. -/
def prompt : State := listed.onEngine fun b => { b with
  chain := some { target := 210, ms := 0, elapsed := 0, fromStart := true, setBy := 200 } }
def owedPriming : State := listed.onEngine fun b => { b with primeDue := true }
theorem witness_LinesWaitTheirTurn_events :
    (prompt.pending = [] ∧ prompt.inReset = false ∧ prompt.promptChain = true) ∧
    (owedPriming.pending = [] ∧ owedPriming.promptChain = false ∧ owedPriming.engine.primeDue = true) ∧
    (replies7.promptChain = false ∧ replies7.engine.primeDue = false) := by decide +kernel

theorem witness_QueriesChangeNothing_answers :
    (lead.Ready ∧ listed.Ready ∧ stocked.Ready ∧ paged.Ready) ∧
    (rowOf (.role 40) = some (.role 39) ∧ busOf (.fb 16) = some (.fb 15) ∧ lead.fadeOf (.xpt (.role 39) (.fb 15)) = none ∧
      onTheRow.fadeOf (.xpt (.role 4) (.fb 1)) = some (rowFade 9)) ∧
    (ofNum 64 64 = some 63 ∧ ofNum 48 48 = some 47 ∧ ofNum 40 40 = some 39 ∧ ofNum 24 24 = some 23 ∧
      ofNum 16 16 = some 15 ∧ ofNum 8 8 = some 7 ∧ ofNum 2 2 = some 1 ∧ ofNum 1024 10 = some 9 ∧
      stocked.fetch.sounds.get 9 = some tune) ∧
    (cueInRange 210 = true ∧ listed.cueAt 210 = some cue21 ∧ cue21.actions[3 - 1]?.isSome ∧ paged.callAt 2 = some pageCall) :=
  ⟨⟨ready_lead, ready_listed, ready_stocked, ready_paged⟩, by decide +kernel⟩

theorem witness_QueriesChangeNothing_refusals :
    (ofNum 64 65 = none ∧ ofNum 48 0 = none ∧ ofNum 40 41 = none ∧ ofNum 24 25 = none ∧ ofNum 16 17 = none ∧
      ofNum 2 3 = none ∧ ofNum 8 9 = none ∧ ofNum 1024 1025 = none ∧ cueInRange 0 = false ∧ rowOf (.inp 65) = none ∧
      busOf (.house 9) = none) ∧
    (cueInRange 99999 = true ∧ listed.cueAt 99999 = none ∧ listed.cueAt 210 = some cue21 ∧ cue21.actions.length < 4 ∧
      stocked.fetch.sounds.get 8 = none ∧ paged.callAt 4 = none) := by decide +kernel

def ending : State := { paged with pending := [.callEnd none (.given 2)] }
theorem witness_TablesKept_calls :
    ending.CallsOk ∧ step ending = .next (run (.callEnd none (.given 2)) { ending with pending := [] }) := by
  refine ⟨?_, step_run rfl⟩
  unfold State.CallsOk; decide +kernel

/-- A fade and a crosspoint fade with an instance that owns the first. -/
def owned (elapsed : Nat) : State := (fading elapsed).onEngine fun b => { b with
  insts := [{ slot := 2, cue := 210, stamp := 0, count := 1, chainTarget := some 220, endLink := some 0 }], nextStamp := 1 }
theorem owned_ok : (owned 480).OwnersOk ∧ (owned 480).fades.PoolOk := by
  unfold State.OwnersOk FadeBlock.PoolOk; decide +kernel
theorem witness_LevelSetsCrosspoint_told :
    onTheRow.engine.firing = none ∧ (onTheRow.fadeOf (.xpt (.role 4) (.fb 1))).isSome := by decide +kernel
theorem witness_FadeCompletes_told :
    (owned 480).OwnersOk ∧ (owned 480).inReset = false ∧ (owned 480).Calm ∧
      (owned 480).fadeOf (.voice 6) = some (voiceFade 480) ∧ (owned 480).engine.halted = false := by
  refine ⟨owned_ok.1, ?_⟩
  unfold State.Calm State.Settled; decide +kernel
theorem witness_OwnersKept :
    (owned 480).fades.PoolOk ∧ (owned 480).OwnersOk ∧
      step (owned 480) = .next (run .transmitLine { owned 480 with pending := [] }) := ⟨owned_ok.2, owned_ok.1, rfl⟩

/-- Role 5 at full level at +10.0 dB on house 1 and foldback 16; the clip records of foldback 16 and the relay column are open. -/
def loud : State := ((lead.setXpt (.role 4) (.house 0) 20).setXpt (.role 4) (.fb 15) 20).onMatrix fun b => { b with
  clips := put (put b.clips (colPos (.fb 15)) { clipped := true, count := 65535, peak := 9, quiet := 7 }) (colPos .relay)
    { clipped := true, count := 1, peak := 9, quiet := 4799 } }
def fullScale : Vector Word32 64 := put silence 11 0x7FFFFF00
set_option maxRecDepth 100000 in
theorem witness_CrossfadeAndClipEnd_frame :
    loud.inReset = false ∧ loud.HasFrame ∧
    exec (.frame fullScale lowPins) loud = .next (run (.frame fullScale lowPins) loud) ∧
    (inRange24 (loud.takeDue.busSum fullScale (.house 0)) = false ∧ (loud.takeDue.clip (.house 0)).clipped = false) ∧
    (inRange24 (loud.takeDue.foldbackValue 15 (loud.takeDue.busSum fullScale (.fb 15))
        (loud.takeDue.talkAudio fullScale 15)) = false ∧ (loud.takeDue.clip (.fb 15)).clipped = true) ∧
    (inRange24 (loud.takeDue.busSum fullScale .relay) = true ∧ (loud.takeDue.clip .relay).clipped = true) ∧
    (inRange24 (loud.takeDue.busSum fullScale (.house 1)) = true ∧ (loud.takeDue.clip (.house 1)).clipped = false) :=
  ⟨rfl, hasFrame_internal (by decide +kernel), exec_run _ _, by decide +kernel⟩

theorem witness_PerfSetsRecord_claims :
    hasInputs understudy = true ∧ (∀ place, (39, place) ∉ (lead.perf 30).inputs) ∧
      (39, .main) ∈ ((run (.perf none (.given understudy)) lead).perf 30).inputs ∧
      11 ∉ (some 39 : Option InputId).toList ++ [40] ∧ ∀ place, (11, place) ∉ (lead.perf 30).inputs := by
  have h : (lead.perf 30).inputs = [] := by decide +kernel
  simp only [h]
  exact ⟨rfl, by simp, by decide +kernel, by decide, by simp⟩

def refStale (n : Nat) : State := s0.onMic fun b => { b with refRf := some 15, refStaleAt := some n }
theorem witness_HealthTimers_reference :
    ((refStale 0).inReset = false ∧ (refStale 0).Calm ∧ (refStale 0).mic.refStaleAt = some 0 ∧ 0 = (refStale 0).now) ∧
    ((refStale 1).Calm ∧ (refStale 1).mic.refStaleAt = some 1 ∧ (refStale 1).now < 1) ∧ (refStale 0).health 63 = none := by
  unfold State.Calm State.Settled; decide +kernel

/-- Eight instances, each with a fade of its own. -/
def eightFades : List Fade := (List.finRange 8).map fun k =>
  { target := .xpt (.role ⟨k.val, by omega⟩) .relay, start := -180, goal := 0, ms := 10, elapsed := 0, owner := some k,
    stopAtOff := false }
def eight : State := (listed.onEngine fun b => { b with nextStamp := 8, insts := (List.finRange 8).map fun k =>
  { slot := k, cue := 200, stamp := k.val, count := 1, chainTarget := some 210, endLink := none } }).onFades fun b =>
    { b with pool := eightFades }
theorem owners_listed : listed.OwnersOk ∧ listed.fades.PoolOk := by
  unfold State.OwnersOk FadeBlock.PoolOk; decide +kernel
theorem owners_chained : (chained 480 210).OwnersOk ∧ (chained 480 210).fades.PoolOk := by
  unfold State.OwnersOk FadeBlock.PoolOk; decide +kernel
theorem owners_eight : eight.OwnersOk ∧ eight.fades.PoolOk := by
  unfold State.OwnersOk FadeBlock.PoolOk; decide +kernel
theorem witness_GoFires_tables :
    (listed.OwnersOk ∧ listed.fades.PoolOk) ∧ ((chained 480 210).OwnersOk ∧ (chained 480 210).fades.PoolOk) ∧
    (eight.OwnersOk ∧ eight.fades.PoolOk) ∧ (eight.Ready ∧ eight.engine.halted = false ∧ eight.standbyCue = some cue21) := by
  refine ⟨owners_listed, owners_chained, owners_eight, ?_⟩
  unfold State.Ready State.Takes State.Settled; decide +kernel
theorem witness_GoFires_prompt :
    (prompt.inReset = false ∧ prompt.engine.primeDue = false ∧ prompt.engine.halted = false ∧
      prompt.engine.chain = some { target := 210, ms := 0, elapsed := 0, fromStart := true, setBy := 200 }) ∧
    (exec .chainExpiry prompt = .next (run .chainExpiry prompt) ∧ (run .chainExpiry prompt).promptChain = false) ∧
    (Instr.transmitLine ≠ .chainExpiry ∧ Instr.transmitLine.isPinEvent = false ∧ Instr.transmitLine.isLine = false) ∧
    (back ≠ .chainExpiry ∧ back.isPinEvent = false ∧ prompt.link.rxq = [] ∧ prompt.link.replies.length < 8) :=
  ⟨by decide +kernel, ⟨exec_run _ _, by decide +kernel⟩, by decide, by decide +kernel⟩

set_option maxRecDepth 100000 in
theorem witness_FadeFrame_frame :
    (fading 47).inReset = false ∧ (fading 47).HasFrame ∧
      exec (.frame silence lowPins) (fading 47) = .next (run (.frame silence lowPins) (fading 47)) ∧
      ((run (.frame silence lowPins) (fading 47)).voice 6).state = .playing ∧ (fading 47).takeDue.router.calls = [] :=
  ⟨rfl, hasFrame_internal (by decide +kernel), exec_run _ _, by decide +kernel⟩

theorem witness_SlotFailures_notBusy :
    (s0.Calm ∧ ∀ r slot addr expires, s0.fetch.tags.get 0 ≠ .busy r slot addr expires) ∧
    (noTags.Calm ∧ ∀ r slot addr expires, noTags.fetch.tags.get 7 ≠ .busy r slot addr expires) := by
  have h : s0.fetch.tags.get 0 = .free := by decide +kernel
  have g : noTags.fetch.tags.get 7 = .lost := by decide +kernel
  rw [h, g]
  exact ⟨⟨by unfold State.Calm State.Settled; decide +kernel, fun _ _ _ _ e => nomatch e⟩,
    by unfold State.Calm State.Settled; decide +kernel, fun _ _ _ _ e => nomatch e⟩

/-! A walk: a sound call behind a page, alone, and with both players taken by calls of priority 2; a page beside a LIVE call from
the same page. -/
def playerCallOf (id : Nat) (z : ZoneId) (p : PlayerId) : Call :=
  { id := id, req := { soundReq with pri := 2, targets := [.zone z] }, zones := [z], stamp := p.val, admittedAt := 0,
    grant := some { stamp := p.val, player := some p }, line := none }
def waiting (pri : Nat) : Call := { soundCall with stamp := 2, req := { soundReq with pri := pri } }
def alone : State := stocked.onRouter fun b => { b with calls := [soundCall], admitStamp := 2 }
def taken (pri : Nat) : State := stocked.onRouter fun b => { b with
  calls := if 2 < pri then [waiting pri, playerCallOf 10 0 0, playerCallOf 11 1 1]
    else [playerCallOf 10 0 0, playerCallOf 11 1 1, waiting pri]
  admitStamp := 3, grantStamp := 2 }
def pageAgain (live : Bool) : State := stocked.onRouter fun b => { b with
  calls := (if live then [pageCall] else []) ++ [{ pageCall with id := 9, zones := [3], stamp := 1, grant := none }], admitStamp := 2 }
def again : Call := { pageCall with id := 9, zones := [3], stamp := 1, grant := none }

theorem witness_walk_reserves :
    (paged.CallsOk ∧ paged.callAt soundCall.id = some soundCall ∧ soundCall.grant = none ∧ (14 : ZoneId) ∈ soundCall.zones ∧
      ¬paged.ZoneFor [] soundCall 14) ∧
    ((taken 1).CallsOk ∧ (taken 1).callAt (waiting 1).id = some (waiting 1) ∧ (waiting 1).req.src = .sound 9 ∧
      ∀ p, ∃ d, (taken 1).playerCall p = some d ∧ (waiting 1).req.pri ≤ d.req.pri) ∧
    ((pageAgain true).CallsOk ∧ (pageAgain true).callAt 9 = some again ∧ again.req.src = .page 0 ∧
      ∃ d ∈ (pageAgain true).router.calls, d.grant ≠ none ∧ d.req.src = .page 0) := by
  refine ⟨⟨?_, ?_⟩, ⟨?_, by decide +kernel, rfl, fun p => ⟨playerCallOf (10 + p.val) ⟨p.val, by omega⟩ p, ?_⟩⟩,
    ⟨?_, by decide +kernel⟩⟩
  · unfold State.CallsOk; decide +kernel
  · refine ⟨by decide +kernel, rfl, by decide, fun h => ?_⟩
    exact absurd (h.2 2 pageCall (by decide +kernel) (by decide +kernel)) (by decide)
  · unfold State.CallsOk; decide +kernel
  · revert p; decide +kernel
  · unfold State.CallsOk; decide +kernel

theorem zoneFor_free {s : State} {c : Call} {z : ZoneId} (h : (s.zone z).holding = none) : s.ZoneFor [] c z :=
  ⟨by simp, fun id d e => by rw [h] at e; cases e⟩

theorem witness_walk_grants :
    (alone.CallsOk ∧ alone.callAt soundCall.id = some soundCall ∧ (∀ z ∈ soundCall.zones, alone.ZoneFor [] soundCall z) ∧
      soundCall.req.src = .sound 9 ∧ alone.PlayerTaken soundCall 0) ∧
    ((taken 3).CallsOk ∧ (taken 3).callAt (waiting 3).id = some (waiting 3) ∧
      (∀ z ∈ (waiting 3).zones, (taken 3).ZoneFor [] (waiting 3) z) ∧ (taken 3).PlayerTaken (waiting 3) 1) ∧
    ((pageAgain false).CallsOk ∧ (pageAgain false).callAt 9 = some again ∧
      (∀ z ∈ again.zones, (pageAgain false).ZoneFor [] again z) ∧
      ∀ d ∈ (pageAgain false).router.calls, d.grant ≠ none → d.req.src ≠ .page 0) := by
  refine ⟨⟨?_, by decide +kernel, ?_, rfl, Or.inl ?_⟩, ⟨?_, by decide +kernel, ?_, Or.inr ⟨?_, ?_⟩⟩, ?_, by decide +kernel, ?_, ?_⟩
  · unfold State.CallsOk; decide +kernel
  · intro z hz; rw [List.mem_singleton.mp hz]; exact zoneFor_free (by decide +kernel)
  · decide +kernel
  · unfold State.CallsOk; decide +kernel
  · intro z hz; rw [List.mem_singleton.mp hz]; exact zoneFor_free (by decide +kernel)
  · decide +kernel
  · refine ⟨playerCallOf 11 1 1, { stamp := 1, player := some 1 }, by decide +kernel, rfl, by decide, fun q e x hq he hx => ?_⟩
    have hq0 := (by decide : ∀ q : PlayerId, q ≠ 1 → q = 0) q hq
    rw [hq0, (by decide +kernel : (taken 3).playerCall 0 = some (playerCallOf 10 0 0))] at he
    cases he; cases hx; decide
  · unfold State.CallsOk; decide +kernel
  · intro z hz; rw [List.mem_singleton.mp hz]; exact zoneFor_free (by decide +kernel)
  · decide +kernel

theorem witness_CallAdmission_walks :
    (paged.callAt 2).map (·.grant.isSome) = some true ∧ paged.callAt 7 = none ∧ paged.walkOnce.granted = false ∧
      alone.walkOnce.granted = true := by decide +kernel

def outputs : State := listed.onLines fun b => { b with recs := .ofFn fun n =>
  { b.recs.get n with debounced := none, fn := ([.cueActive, .standbyReady, .halted, .micAlert, .callLive 23, .callWaiting,
    .voiceFault, .cueLine] : List LineFn).getD n.val .none } }
set_option maxRecDepth 100000 in
theorem witness_LineConfigured_frame :
    outputs.inReset = false ∧ outputs.HasFrame ∧
    exec (.frame silence highPins) outputs = .next (run (.frame silence highPins) outputs) ∧
    ((outputs.takeDue.line 0).fn = .cueActive ∧ outputs.takeDue.engine.insts = []) ∧
    ((outputs.takeDue.line 1).fn = .standbyReady ∧ outputs.takeDue.standbyReady = true) ∧
    ((outputs.takeDue.line 2).fn = .halted ∧ outputs.takeDue.engine.halted = false) ∧
    ((outputs.takeDue.line 3).fn = .micAlert ∧ ∀ p, ¬((outputs.takeDue.perf p).state = .alarm ∨ (outputs.takeDue.perf p).state = .spare)) ∧
    ((outputs.takeDue.line 4).fn = .callLive 23 ∧ (outputs.takeDue.zone 23).holding = none) ∧
    ((outputs.takeDue.line 5).fn = .callWaiting ∧ outputs.takeDue.router.calls = []) ∧
    ((outputs.takeDue.line 6).fn = .voiceFault ∧ ∀ r, (outputs.takeDue.reader r).state ≠ .faulted) ∧
    ((outputs.takeDue.line 7).fn = .cueLine ∧ (outputs.takeDue.line 7).cueLine = false) ∧
    (outputs.takeDue.line 15).fn.isOutput = false :=
  ⟨rfl, hasFrame_internal (by decide +kernel), exec_run _ _, by decide +kernel⟩

/-- Line 4's preset for a quiet zone, and for a call with no place in the table. -/
def quietPress : State := (lineAs (.preset 1) false 480).onRouter fun b => { b with
  zones := put b.zones 13 { b.zones.get 13 with quiet := true } }
def fullPress : State := ((fullTable 4).onLine 3 fun r => { r with fn := .preset 1, count := 480 }).onRouter fun b =>
  { b with presets := put b.presets 1 (some (reqOf 13 4)) }
theorem witness_LineEvents_presses :
    ((lineAs .go false 480).OwnersOk ∧ (lineAs .go false 480).fades.PoolOk) ∧
    (quietPress.Calm ∧ (quietPress.line 3).fn = .preset 1 ∧ quietPress.router.presets.get 1 = some (reqOf 13 2) ∧
      quietPress.resolve (reqOf 13 2) = []) ∧
    (fullPress.Calm ∧ (fullPress.line 3).fn = .preset 1 ∧ fullPress.router.presets.get 1 = some (reqOf 13 4) ∧
      fullPress.router.calls.length = 16 ∧ ∀ d ∈ fullPress.router.calls, d.grant = none → (reqOf 13 4).pri ≤ d.req.pri) := by
  refine ⟨?_, ?_⟩
  · unfold State.OwnersOk FadeBlock.PoolOk; decide +kernel
  · unfold State.Calm State.Settled; decide +kernel
set_option maxRecDepth 100000 in
theorem witness_LineEvents_frame :
    (outputs.HasFrame ∧ exec (.frame silence highPins) outputs = .next (run (.frame silence highPins) outputs) ∧
      (outputs.takeDue.line 0).debounced = none) ∧
    (s0.HasFrame ∧ exec (.frame silence highPins) s0 = .next (run (.frame silence highPins) s0) ∧ (s0.takeDue.line 15).debounced = some false ∧
      highPins.get 15 = (s0.takeDue.line 15).activeHigh) ∧ (highPins.get 3 = true ∧ (((lineAs .talk true 9).takeDue).line 3).debounced = some true) :=
  ⟨⟨hasFrame_internal (by decide +kernel), exec_run _ _, by decide +kernel⟩,
    ⟨hasFrame_internal (by decide +kernel), exec_run _ _, by decide +kernel⟩, by decide +kernel⟩

theorem witness_LinkEvents_overflow :
    busyLink.Calm ∧ Text.emptyLine (Text.keptChars [{ byte := 71, framing := true }]) = false ∧ 8 ≤ busyLink.link.rxq.length := by
  unfold State.Calm State.Settled; decide +kernel

/-- Voice 7 playing with an empty head slot. -/
def dry : State := (voiceIs .playing).onReader 6 fun r => { r with head := 5 }
set_option maxRecDepth 100000 in
theorem witness_SampleStep_frame :
    ((voiceIs .playing).inReset = false ∧ (voiceIs .playing).HasFrame ∧ exec (.frame silence lowPins) (voiceIs .playing) =
        .next (run (.frame silence lowPins) (voiceIs .playing)) ∧
      (((voiceIs .playing).takeDue.fadeFrame.sampleStep (voiceReader 6)).voice 6).state = .playing) ∧
    (((voiceIs .starting).takeDue.fadeFrame.sampleStep (voiceReader 6)).voice 6).state = .starting ∧
    (((voiceIs .faulted).takeDue.fadeFrame.sampleStep (voiceReader 6)).voice 6).state = .faulted ∧
    ((stocked.takeDue.fadeFrame.sampleStep (voiceReader 6)).voice 6).state = .idle ∧ stocked.takeDue.standbyPlays = [] ∧
    (dry.HasFrame ∧ (dry.takeDue.voice 6).state = .playing ∧
      ((dry.takeDue.fadeFrame.sampleStep (voiceReader 6)).voice 6).state = .stalled) ∧
    ((voiceIs .stalled).HasFrame ∧ ((voiceIs .stalled).takeDue.voice 6).state = .stalled ∧
      (((voiceIs .stalled).takeDue.fadeFrame.sampleStep (voiceReader 6)).voice 6).state = .playing) :=
  ⟨⟨rfl, hasFrame_internal (by decide +kernel), exec_run _ _, by decide +kernel⟩, by decide +kernel, by decide +kernel,
    by decide +kernel, by decide +kernel, ⟨hasFrame_internal (by decide +kernel), by decide +kernel⟩,
    hasFrame_internal (by decide +kernel), by decide +kernel⟩

/-- Voice 7 with the block of slot 1 come in. -/
def filled (s : State) : Reader := { s.reader (voiceReader 6) with
  ring := put (s.reader (voiceReader 6)).ring 1 (.full 1 (.replicate 256 0)) }
def lastAsked : State := fetching.onReader (voiceReader 6) fun r => { r with cursor := 3 }
theorem witness_CompletionOk_tests :
    (filled (fetchingAs .starting)).Startable ∧ ¬(filled starved).Startable ∧
    ((fetching.reader (voiceReader 6)).state = .priming ∧ ¬(filled fetching).Primes) ∧
    (lastAsked.Calm ∧ (lastAsked.reader (voiceReader 6)).state = .priming ∧ (filled lastAsked).Primes) ∧
    { filled fetching with ring := .replicate 8 (.full 1 (.replicate 256 0)) }.Primes := by
  simp only [← Reader.canStart_iff, ← Reader.isPrimed_iff]
  unfold State.Calm State.Settled; decide +kernel
theorem witness_PlayTakesVoice_priming :
    { (voiceIs .priming).voice 6 with sound := some (9, tune) }.Startable ∧
    (fetching.Ready ∧ (fetching.voice 6).state = .priming ∧ (fetching.voice 6).soundId = some 9 ∧
      ¬{ fetching.voice 6 with sound := some (9, tune) }.Startable) := by
  simp only [← Reader.canStart_iff]
  unfold State.Ready State.Takes State.Settled; decide +kernel

/-- Input 20 is the talkback input and paging input 1, and the page waits LIVE on zone 15. -/
def talkback20 : State := talking.onCast fun b => { b with talkin := some 19 }
theorem witness_FrameOutputs_parts :
    ((talkback20.foldback.heldLines.get 5 = true ∧ (talkback20.bus 2).member = true ∧ talkback20.cast.talkin = some 19) ∧
      (talkback20.bus 3).member = false ∧ talking.cast.talkin = none) ∧
    (s0.foldback.talkCommand = false ∧ ∀ n, s0.foldback.heldLines.get n = false) ∧
    (∃ c ∈ playerRetry.router.calls, c.req.src = .sound 9 ∧ c.player = some 0) ∧
    (pageCall.req.src = .page 0 ∧ paged.cast.pages.get 0 = some 19 ∧ s0.cast.pages.get 0 = none) ∧
    ((s0.zone 14).holding = none ∧ (s0.zone 14).relay = true) ∧
    ((paged.zone 14).holding = some 2 ∧ paged.callAt 2 = some pageCall) := by decide +kernel
theorem witness_RowSignals_output :
    (((voiceIs .playing).voice 6).state = .playing ∧ ((voiceIs .playing).voice 6).slot ((voiceIs .playing).voice 6).head =
      .full 0 (.replicate 256 (-200000))) ∧
    ((voiceIs .primed).voice 6).state ≠ .playing ∧ ((voiceIs .primed).voice 6).state ≠ .stalled ∧
    ∀ j words, (stocked.voice 6).slot (stocked.voice 6).head ≠ .full j words := by
  refine ⟨by decide +kernel, by decide +kernel, by decide +kernel, fun j words h => ?_⟩
  have : (stocked.voice 6).slot (stocked.voice 6).head = .empty := by decide +kernel
  simp [this] at h

/-- Performer 7 in a state of changeover on one of its inputs, with no role. -/
def following (active : InputId) (st : PerfState) : State := lead.onPerf 6 fun x =>
  { x with active := some active, state := st, modeAuto := decide (st ≠ .manual) }
def uncast (h : Health) : State := ((lead.onPerf 6 fun x => { x with role := none }).onRole 4 fun x => { x with holder := none }
  ).setHealth 11 (some { state := h })
def spareAlone : PerfArgs := { perf := 7, spares := some [14] }
def modeOf (auto : Bool) : PerfArgs := { perf := 7, modeAuto := some auto }
/-- Two instances own fades on the row of input 40. -/
def ownedRow : State := (lead.onEngine fun b => { b with nextStamp := 1, insts :=
  [{ slot := 3, cue := 10, stamp := 0, count := 1, chainTarget := none, endLink := none }] }).onFades fun b => { b with
    pool := [newFade (.xpt (.inp 39) .relay) 0 20 100 (some 3) false] }
theorem witness_PerfSetsRecord_after :
    (ownedRow.Ready ∧ ownedRow.engine.firing = none ∧ (ownedRow.fadeOf (.xpt (.inp 39) .relay)).bind (·.owner) = some 3) ∧
    ((uncast .down).Ready ∧ hasInputs spareAlone = true ∧ ((uncast .down).perf 6).role = none ∧
      (run (.perf none (.given spareAlone)) (uncast .down)).health 11 = some { state := .down } ∧
      ((run (.perf none (.given spareAlone)) (uncast .down)).perf 6).modeAuto = true) ∧
    ((uncast .good).Ready ∧ (run (.perf none (.given spareAlone)) (uncast .good)).health 11 = some { state := .good }) ∧
    (hasInputs (modeOf true) = false ∧ (downMain .good).isGood 11 = false ∧
      ((run (.perf none (.given (modeOf true))) (downMain .good)).perf 6).modeAuto = true) ∧
    ((run (.perf none (.given (modeOf false))) lead).perf 6).modeAuto = false := by
  unfold State.Ready State.Takes State.Settled; decide +kernel

/-- A record handed over that takes input 12 from NO_DATA to DOWN or to GOOD. -/
def firstRecord (rf : Nat) (s : State) : State :=
  (s.setHealth 11 (some { staleAt := some 48000 })).onMic fun b => { b with handed := [rec rf] }
def firstHealth (rf : Nat) (s : State) : Health :=
  (({ staleAt := some 48000 } : HealthRec).take (rec rf) (run .validRecord (firstRecord rf s)).mic.effectiveFloor
    s.mic.sup s.now).state
theorem witness_ValidRecord_follows :
    ((firstRecord 19 lead).Calm ∧ firstHealth 19 lead = .down ∧ (lead.perf 6).modeAuto = true ∧ (lead.perf 6).active = some 11) ∧
    ((firstRecord 100 (following 12 .alarm)).Calm ∧ firstHealth 100 (following 12 .alarm) = .good ∧
      ((following 12 .alarm).perf 6).modeAuto = true) ∧
    ((firstRecord 100 (following 12 .spare)).Calm ∧ firstHealth 100 (following 12 .spare) = .good ∧
      ((following 12 .spare).perf 6).revertAuto = true ∧ ((following 12 .spare).perf 6).main = some 11) ∧
    ((firstRecord 19 (following 11 .manual)).Calm ∧ ((following 11 .manual).perf 6).modeAuto = false) := by
  unfold State.Calm State.Settled; decide +kernel

def timedAs (st : Health) (active : InputId) (x : PerfState) : State :=
  { (following active x).setHealth 11 (some { state := st, dropoutAt := some 9, restoreAt := some 9, staleAt := some 9 }) with
    now := 9 }
theorem witness_HealthTimers_follows :
    ((timedAs .fading 11 .main).Calm ∧ ((timedAs .fading 11 .main).perf 6).active = some 11 ∧
      ((timedAs .fading 11 .main).perf 6).modeAuto = true) ∧
    ((timedAs .recovering 11 .alarm).Calm ∧ ((timedAs .recovering 11 .alarm).perf 6).state = .alarm) ∧
    ((timedAs .recovering 12 .spare).Calm ∧ ((timedAs .recovering 12 .spare).perf 6).main = some 11 ∧
      ((timedAs .recovering 12 .spare).perf 6).state = .spare ∧ ((timedAs .recovering 12 .spare).perf 6).revertAuto = true) ∧
    ((timedAs .fading 11 .manual).Calm ∧ ((timedAs .fading 11 .manual).perf 6).modeAuto = false) := by
  unfold State.Calm State.Settled; decide +kernel

/-! ### Late starts, and the reports of the events -/

/-- Voice 7 in STARTING for the instance of slot 3, its fade-in kept, and what is in the pool. -/
def lateStart (ms : Nat) (pool : List Fade) : State := (((fetchingAs .starting).onReader (voiceReader 6) fun r =>
    { r with keptFadeIn := some ms, level := if ms = 0 then 0 else -180, owner := some 3 }).onEngine fun b => { b with
      nextStamp := 1, insts := [{ slot := 3, cue := 10, stamp := 0, count := 2, chainTarget := none, endLink := none }]
      }).onFades fun b => { b with pool := pool }
/-- Call player 1 in STARTING, its head slot asked for and the next FULL. -/
def latePlayer : State := playerRetry.onReader (playerReader 0) fun r =>
  { r with retry := none, ring := put r.ring 1 (.full 1 (.replicate 256 0)) }
theorem witness_CompletionOk_late :
    ((lateStart 100 []).Calm ∧ (filled (lateStart 100 [])).Startable ∧
      ((lateStart 100 []).reader (voiceReader 6)).state = .starting ∧ (lateStart 100 []).fadeOf (.voice 6) = none ∧
      ((lateStart 100 []).voice 6).keptFadeIn = some 100 ∧ ((lateStart 100 []).voice 6).level = -180 ∧
      ((lateStart 100 []).reader (voiceReader 6)).owner = some 3 ∧ (lateStart 100 []).engine.firing = none) ∧
    ((lateStart 1 manyFades).Calm ∧ (filled (lateStart 1 manyFades)).Startable ∧
      (lateStart 1 manyFades).fadeOf (.voice 6) = none ∧ 256 = (lateStart 1 manyFades).fades.pool.length) ∧
    ((lateStart 0 []).Calm ∧ (filled (lateStart 0 [])).Startable ∧ ((lateStart 0 []).voice 6).level = 0) ∧
    ((filled (fetchingAs .starting)).Startable ∧ ((fetchingAs .starting).voice 6).keptFadeIn = none) ∧
    (latePlayer.Calm ∧ latePlayer.fetch.tags.get 3 = .busy (playerReader 0) 0 100 2400 ∧
      { latePlayer.reader (playerReader 0) with
        ring := put (latePlayer.reader (playerReader 0)).ring 0 (.full 0 (.replicate 256 0)) }.Startable) := by
  simp only [← Reader.canStart_iff]
  unfold State.Calm State.Settled; decide +kernel
/-- A late start begins its fade-in and tells its owner; with no free record it snaps to 0.0 dB (R27, R35, R130). -/
theorem test_late_start_fades_in :
    (run (.completionOk 5 (.replicate 256 0)) (lateStart 100 [])).fades.pool = [newFade (.voice 6) (-180) 0 100 none false] ∧
    ((run (.completionOk 5 (.replicate 256 0)) (lateStart 100 [])).instAt 3).map (·.count) = some 1 := by decide +kernel
theorem test_late_start_at_full_pool :
    ((run (.completionOk 5 (.replicate 256 0)) (lateStart 100 manyFades)).voice 6).level = 0 ∧
    (run (.completionOk 5 (.replicate 256 0)) (lateStart 100 manyFades)).fades.snaps = 1 := by decide +kernel

/-- A player with no call whose second fetch of a block fails. -/
def orphanPlayer : State := playerRetry.onRouter fun b => { b with calls := [] }
theorem witness_SlotFailures_reports :
    ((fetching.reader (voiceReader 6)).retry = none ∧ ReportKind.store ∉ fetching.link.disabled ∧
      ReportKind.voice ∉ fetching.link.disabled) ∧
    (orphanPlayer.Calm ∧ orphanPlayer.fetch.tags.get 3 = .busy (playerReader 0) 0 100 2400 ∧
      (orphanPlayer.reader (playerReader 0)).slot 0 = .pending 3 0 ∧
      (orphanPlayer.reader (playerReader 0)).retry ≠ none ∧ orphanPlayer.playerCall 0 = none) := by
  unfold State.Calm State.Settled; decide +kernel

/-- Foldback bus 16 at the end of a window that begins, keeps and ends a reduction. -/
def guarded (peak : Nat) (red : LevelCode) : State :=
  (window 480 .metering).onBus 15 fun b => { b with red := red, peak := peak, episode := if red < 0 then some (red, 1) else none }
theorem witness_FoldbackAndGuard_reports :
    ((guarded 8388607 0).Calm ∧ ((guarded 8388607 0).bus 15).red = 0 ∧
      ((run .guardWindowEnd (guarded 8388607 0)).bus 15).red < 0) ∧
    ((guarded 0 (-1)).Calm ∧ ((guarded 0 (-1)).bus 15).red < 0 ∧ ((run .guardWindowEnd (guarded 0 (-1))).bus 15).red = 0) ∧
    ((window 0 .metering).Ready ∧ ((window 0 .metering).bus 15).red < 0) ∧ ReportKind.guard ∉ s0.link.disabled := by
  unfold State.Calm State.Ready State.Takes State.Settled; decide +kernel

/-- The health record a record handed over leaves, beside the one before it. -/
def healthChange (r : TlmRecord) (h : HealthRec) : HealthRec × HealthRec := (h, h.take r 20 {} 0)
theorem witness_ValidRecord_reports :
    ((healthChange (rec 19) { state := .good }).1.state ≠ (healthChange (rec 19) { state := .good }).2.state) ∧
    ((healthChange (rec 26) { state := .fading, fadeStart := some 0, dropoutAt := some 9 }).2.state = .good) ∧
    ((healthChange (rec 19) { state := .down, cause := some .pilot }).2.state = .down ∧
      (healthChange (rec 19) { state := .down, cause := some .pilot }).2.cause = some .rf) ∧
    ((healthChange { rec 95 with batt := some 100 } { state := .good, lowBatt := true }).2.state = .good ∧
      (healthChange { rec 95 with batt := some 100 } { state := .good, lowBatt := true }).2.cause = none ∧
      (healthChange { rec 95 with batt := some 100 } { state := .good, lowBatt := true }).2.lowBatt = false) := by
  decide +kernel

/-- A call of the full table that makes room, and whose number is not the one the new call takes. -/
def displaced : State := (fullTable 1).onRouter fun b => { b with nextId := 200 }
theorem witness_CallAdmission_displaced :
    displaced.Ready ∧ soundCall ∈ displaced.router.calls ∧ displaced.resolve (reqOf 13 4) = [13] ∧
    (run (.call none (.given (callOf 14 4))) displaced).router.calls.any (fun d => d.id = 200) = true ∧ soundCall.id ≠ 200 := by
  unfold State.Ready State.Takes State.Settled; decide +kernel

theorem witness_LineEvents_reports :
    ((lineAs .halt false 480).Calm ∧ (lineAs .halt false 480).engine.halted = false) ∧
    (((lineAs .resume false 480).onEngine fun b => { b with halted := true }).Calm ∧
      ((lineAs .resume false 480).onEngine fun b => { b with halted := true }).engine.halted = true) ∧
    ReportKind.line ∉ s0.link.disabled := by
  unfold State.Calm State.Settled; decide +kernel
theorem witness_FadeCompletes_reports :
    (owned 480).instAt 2 = some { slot := 2, cue := 210, stamp := 0, count := 1, chainTarget := some 220, endLink := some 0 } ∧
    (voiceFade 480).owner = some 2 ∧ ReportKind.cue ∉ (owned 480).link.disabled := by decide +kernel
theorem witness_PerfSetsRecord_reports :
    hasInputs spareAlone = true ∧ (modeOf false).modeAuto = some false ∧ (lead.perf 6).modeAuto = true ∧
    ReportKind.perf ∉ lead.link.disabled ∧ ReportKind.mic ∉ lead.link.disabled ∧
    ((run (.perf none (.given spareAlone)) (uncast .good)).perf 6).modeAuto = true := by decide +kernel
theorem witness_PrimingEvaluation_reports :
    (((playStandby .idle).evaluatePriming.voice 6).state ≠ ((playStandby .idle).voice 6).state ∧
      ((playStandby .idle).evaluatePriming.voice 6).state = .priming) ∧
    (((voiceIs .primed).evaluatePriming.voice 6).state = .idle ∧ ((voiceIs .primed).voice 6).state = .primed) := by
  decide +kernel
/-- Voice 7 playing at OFF, its fade-in before its first step. -/
def lateOff : State := ((voiceIs .playing).onReader (voiceReader 6) fun r => { r with level := -180 }).onFades fun b =>
  { b with pool := [newFade (.voice 6) (-180) 0 100 none false] }
theorem witness_StopAllEnds_reports :
    ((voiceIs .starting).Ready ∧ ((voiceIs .starting).voice 6).state = .starting) ∧
    (lateOff.Ready ∧ (lateOff.voice 6).state = .playing ∧ (lateOff.voice 6).level = -180 ∧
      (lateOff.fadeOf (.voice 6)).isSome) := by
  refine ⟨⟨ready_voiceIs _, by decide +kernel⟩, ?_⟩
  unfold State.Ready State.Takes State.Settled; decide +kernel

end Sys2Proof.Tests
end

