-- ==== Sys2Proof/Proofs/LevelsAndMix.lean ====
section
/-! PROOFS. The gain table and level addition (01_levels_and_the_mix_matrix.md, R5, R7). -/

namespace Sys2Proof.Machine

open Sys2Proof

/-! ### Level addition (R5) -/

theorem levelAdd_of_off {a b : LevelCode} (h : a = offCode ∨ b = offCode) : levelAdd a b = offCode :=
  if_pos h

/-- With no addend OFF the sum is brought into the range of a level: OFF below it, its top above it. -/
theorem levelAdd_of_levels {a b : LevelCode} (ha : a ≠ offCode) (hb : b ≠ offCode) :
    levelAdd a b = if 20 < a + b then 20 else if a + b < -179 then offCode else a + b :=
  if_neg (not_or.mpr ⟨ha, hb⟩)

theorem levelAdd_of_above {a b : LevelCode} (ha : a ≠ offCode) (hb : b ≠ offCode) (h : 20 < a + b) :
    levelAdd a b = 20 := by
  rw [levelAdd_of_levels ha hb, if_pos h]

theorem levelAdd_of_below {a b : LevelCode} (ha : a ≠ offCode) (hb : b ≠ offCode) (h : a + b < -179) :
    levelAdd a b = offCode := by
  have hTop : a + b < 20 := h.trans (by decide)
  rw [levelAdd_of_levels ha hb, if_neg hTop.not_gt, if_pos h]

theorem levelAdd_of_within {a b : LevelCode} (ha : a ≠ offCode) (hb : b ≠ offCode) (hLow : -179 ≤ a + b)
    (hHigh : a + b ≤ 20) : levelAdd a b = a + b := by
  rw [levelAdd_of_levels ha hb, if_neg (not_lt.mpr hHigh), if_neg (not_lt.mpr hLow)]

/-! ### Where the part adds levels (R158, R163) -/

theorem Zone.relayCode_of_relay {z : Zone} (h : z.relay = true) : z.relayCode = levelAdd z.level z.duck :=
  if_pos h

theorem State.zoneValue_of_holdingCall {s : State} {z : ZoneId} {c : Call} (h : s.holdingCall z = some c)
    (slots : Vector Word32 64) (relay : Sample) :
    s.zoneValue slots relay z = scale relay (gain (s.zone z).relayCode) +
      scale (s.callAudio slots c) (gain (levelAdd c.req.level (s.zone z).trim)) := by
  simp only [State.zoneValue, h]

/-! ### The gain table (R7) -/

theorem gainTable_length : gainTable.length = 200 := by decide +kernel

theorem gainTable_pairwise_le : gainTable.Pairwise (· ≤ ·) := by decide +kernel

/-- The entries of the table stand for the codes from -179 up, one for each half-decibel. -/
theorem gain_eq_getElem (n : Nat) (h : n < gainTable.length) : gain (n - 179) = gainTable[n] := by
  have hOn : ¬ ((n : Int) - 179 ≤ offCode) := by unfold offCode; omega
  have hIndex : ((n : Int) - 179 + 179).toNat = n := by omega
  rw [gain, if_neg hOn, hIndex, List.getD_eq_getElem _ _ h, Int.ofNat_eq_natCast]

/-- A level code other than OFF by the index of its table entry. -/
theorem exists_index_of_level {c : Int} (hLow : -179 ≤ c) (hHigh : c ≤ 20) :
    ∃ n : Nat, n < gainTable.length ∧ c = n - 179 :=
  ⟨(c + 179).toNat, by rw [gainTable_length]; omega, by omega⟩

/-- The entry `n` against its exact bounds: twice an entry is within one of 32768 × 10^((n - 179)/40), with both sides raised to
the 40th power. -/
theorem gainTable_rounded : ∀ (n : Nat) (h : n < gainTable.length),
    (2 * (gainTable[n] : Int) - 1) ^ 40 * 10 ^ 179 ≤ 32768 ^ 40 * 10 ^ n ∧
      32768 ^ 40 * 10 ^ n < (2 * (gainTable[n] : Int) + 1) ^ 40 * 10 ^ 179 ∧ 1 ≤ (gainTable[n] : Int) := by
  decide +kernel

theorem gain_rounded {c : Int} (hLow : -179 ≤ c) (hHigh : c ≤ 20) :
    (2 * gain c - 1) ^ 40 * 10 ^ 179 ≤ 32768 ^ 40 * 10 ^ (c + 179).toNat ∧
      32768 ^ 40 * 10 ^ (c + 179).toNat < (2 * gain c + 1) ^ 40 * 10 ^ 179 ∧ 1 ≤ gain c := by
  obtain ⟨n, hn, rfl⟩ := exists_index_of_level hLow hHigh
  have hIndex : ((n : Int) - 179 + 179).toNat = n := by omega
  rw [gain_eq_getElem n hn, hIndex]
  exact gainTable_rounded n hn

theorem gain_mono {c d : Int} (hLow : -179 ≤ c) (hcd : c ≤ d) (hHigh : d ≤ 20) : gain c ≤ gain d := by
  obtain ⟨m, hm, rfl⟩ := exists_index_of_level hLow (hcd.trans hHigh)
  obtain ⟨n, hn, rfl⟩ := exists_index_of_level (hLow.trans hcd) hHigh
  rw [gain_eq_getElem m hm, gain_eq_getElem n hn, Int.ofNat_le]
  exact gainTable_pairwise_le.rel_get_of_le (a := ⟨m, hm⟩) (b := ⟨n, hn⟩) (by simpa using hcd)

/-- The gains rise and none is below 1, so they are all 1 up to the last that is. -/
theorem gain_eq_one {c : Int} (hLow : -179 ≤ c) (hHigh : c ≤ -162) : gain c = 1 := by
  have hLast : gain (-162) = 1 := by decide
  have hUpper : gain c ≤ gain (-162) := gain_mono hLow hHigh (by decide)
  obtain ⟨-, -, hLower⟩ := gain_rounded hLow (hHigh.trans (by decide))
  exact le_antisymm (hUpper.trans_eq hLast) hLower

end Sys2Proof.Machine

namespace Sys2Proof.Proofs

open Sys2Proof Sys2Proof.Machine

/-- Settles O17, from the cases of the sum and the definitions of the three values that add levels. -/
theorem levelAddition : Obligations.LevelAddition :=
  ⟨fun _ _ => levelAdd_of_off,
   fun _ _ ha hb => ⟨levelAdd_of_above ha hb, levelAdd_of_below ha hb, levelAdd_of_within ha hb⟩,
   fun _ => Zone.relayCode_of_relay,
   fun _ _ _ _ => rfl,
   fun _ slots relay _ _ h => State.zoneValue_of_holdingCall h slots relay⟩

/-- Settles O16: the bounds are checked entry by entry, the order of the gains and the run of ones follow from the order of the
table. -/
theorem gainTable : Obligations.GainTable :=
  ⟨gainTable_length,
   fun _ => gain_rounded,
   fun _ hLow hHigh => gain_mono hLow (by omega) (by omega),
   fun _ => gain_eq_one,
   by decide⟩

end Sys2Proof.Proofs
end

section
/-! PROOFS. What surrounds every operation: the taking of a line, the expiries of chains with a time of 0, the end of an operation, and
the events due before a frame. A property that each of these pieces keeps is kept by every command and event (R111, R117, R194,
R195, R205). -/

namespace Sys2Proof

open Sys2Proof.Machine

/-! ### The answer of a line and the effect of an event -/

/-- The answer of a command line other than a query. -/
def Instr.answerOf (c : Instr) (s : State) : Answer :=
  match c with
  | .level _ a => answerArgs a setLevel s
  | .input _ a => answerArgs a setInput s
  | .role _ a => answerArgs a setRole s
  | .perf _ a => answerArgs a setPerf s
  | .page _ a => answerArgs a setPage s
  | .talkin _ a => answerArgs a setTalkin s
  | .cast _ a => answerArgs a setCast s
  | .supv _ a => answerArgs a setSupv s
  | .select _ a => answerArgs a setSelect s
  | .auto _ a => answerArgs a setAutoMode s
  | .cue _ a => answerArgs a setCue s
  | .act _ a => answerArgs a addAct s
  | .actDel _ a => answerArgs a dropAct s
  | .cueDel _ a => answerArgs a dropCue s
  | .go _ a => answerArgs a fireGo s
  | .back _ a => answerArgs a goBack s
  | .jump _ a => answerArgs a jumpTo s
  | .halt _ a => answerArgs a haltRun s
  | .resume _ a => answerArgs a resumeRun s
  | .stopAll _ a => answerArgs a stopShow s
  | .engine _ a => answerArgs a setEngine s
  | .sound _ a => answerArgs a setSound s
  | .play _ a => answerArgs a startPlay s
  | .stop _ a => answerArgs a stopPlay s
  | .fetch _ a => answerArgs a setFetch s
  | .fb _ a => answerArgs a setFb s
  | .talkback _ a => answerArgs a setTalkback s
  | .talk _ a => answerArgs a setTalk s
  | .zone _ a => answerArgs a setZone s
  | .call _ a => answerArgs a makeCall s
  | .callEnd _ a => answerArgs a (finishCall .ended) s
  | .callCancel _ a => answerArgs a (finishCall .cancelled) s
  | .presetDef _ a => answerArgs a definePreset s
  | .preset _ a => answerArgs a firePreset s
  | .lineset _ a => answerArgs a setLineset s
  | .line _ a => answerArgs a setCueLine s
  | .report _ a => answerArgs a setMask s
  | .showReset _ a => answerArgs a resetShow s
  | _ => .error .unknown

/-- A line other than a query and a link failure is taken with its own answer. -/
theorem exec_answerOf {c : Instr} (hLine : c.isLine = true) (hQuery : c.isQuery = false)
    (hUnknown : ∀ tag why, c ≠ .unknown tag why) (s : State) :
    exec c s = .next (s.commandLine c fun s => s.answer c.tag c.answerOf) := by
  cases c
  case unknown tag why => exact absurd rfl (hUnknown tag why)
  all_goals first
    | exact command_eq _ _ _ _ _
    | exact Bool.noConfusion hLine
    | exact Bool.noConfusion hQuery

/-- The effect of an event other than the pin and power events. -/
def Instr.effect (c : Instr) (s : State) : State :=
  match c with
  | .lineReceived chars metFull => s.receiveLine chars metFull
  | .transmitLine => s.onLink LinkBlock.beginLine
  | .showResetPriming => s.showResetPriming
  | .frame slots pins => s.frame slots pins
  | .clipClear b => s.clearClip b
  | .fadeComplete x => s.fadeDone x
  | .crossfadeEnd r => s.crossfadeDone r
  | .telemetryByte byte framing => s.takeByte byte framing
  | .validRecord => s.takeHanded
  | .dropoutExpiry i => s.dropoutDone i
  | .restoreExpiry i => s.restoreDone i
  | .staleExpiry i => s.staleDone i
  | .referenceStale => s.referenceDone
  | .chainExpiry => s.expireChain
  | .fetchGrant => s.grantTag
  | .completionOk k words => s.completeOk k words
  | .completionError k => s.completeError k
  | .tagTimeout k => s.tagDone k
  | .guardWindowEnd => s.windowDone
  | .expired id => s.callDone id
  | .debounce n => s.lineDone n
  | .clockLost => s.loseClock
  | .qualifyingTimeout => s.dropQualifying
  | .clockRestored => s.lockClock
  | .wclkRisingEdge periodPs => s.clockEdge periodPs
  | _ => s

/-- Whether the expiry of a chain with a time of 0 comes before an event: not before FRAME, which takes it among the events due, nor
before CHAIN_EXPIRY, which is that expiry (R111). -/
def Instr.afterPrompt : Instr → Bool
  | .frame _ _ => false
  | .chainExpiry => false
  | _ => true

/-- An event that is no pin or power event: the expiries before it, its effect, and the end of the operation. -/
theorem exec_effect {c : Instr} (hLine : c.isLine = false) (hPin : c.isPinEvent = false) (s : State) :
    exec c s = event (fun s => c.effect (if c.afterPrompt then s.takePromptChains else s)) s := by
  cases c
  all_goals first
    | rfl
    | exact Bool.noConfusion hLine
    | exact Bool.noConfusion hPin

/-- The events the part's timers and units reach, which FRAME takes before it where they are due. -/
def Instr.isTimerEvent : Instr → Bool
  | .clipClear _ => true
  | .fadeComplete _ => true
  | .crossfadeEnd _ => true
  | .validRecord => true
  | .dropoutExpiry _ => true
  | .restoreExpiry _ => true
  | .staleExpiry _ => true
  | .referenceStale => true
  | .fetchGrant => true
  | .tagTimeout _ => true
  | .guardWindowEnd => true
  | .expired _ => true
  | .debounce _ => true
  | _ => false

end Sys2Proof

namespace Sys2Proof.Machine

open Sys2Proof

/-! ### Properties that answers keep -/

/-- An answer whose state, where it is accepted, has a property. -/
def Answer.Keeps (P : State → Prop) (x : Answer) : Prop := ∀ t f, x = .ok (t, f) → P t

section
variable {P : State → Prop} {s t : State}

theorem keeps_error (e : ErrCode) : Answer.Keeps P (.error e) := by intro t f h; simp at h

theorem keeps_replies (h : P t) (x : State → String) : Answer.Keeps P (t.replies x) := by
  intro u f e
  simp only [State.replies, Except.ok.injEq, Prod.mk.injEq] at e
  exact e.1 ▸ h

theorem keeps_bind {α : Type} {m : Except ErrCode α} {k : α → Answer} (h : ∀ a, m = .ok a → Answer.Keeps P (k a)) :
    Answer.Keeps P (m >>= k) := by
  intro t f e
  cases m with
  | error e' => simp [bind, Except.bind] at e
  | ok a => exact h a rfl t f e

theorem keeps_answerArgs {α : Type} (a : Args α) {f : α → State → Answer} (h : ∀ a, Answer.Keeps P (f a s)) :
    Answer.Keeps P (answerArgs a f s) := by
  cases a with
  | malformed => exact keeps_error _
  | given a => exact h a

theorem keeps_of_asks {x : Answer} (hs : P s) (h : Answer.Asks s x) : Answer.Keeps P x := by
  rcases h with ⟨e, rfl⟩ | ⟨text, rfl⟩
  · exact keeps_error _
  · exact keeps_replies hs _

theorem Answer.Keeps.mono {Q : State → Prop} {x : Answer} (h : Answer.Keeps P x) (hPQ : ∀ t, P t → Q t) :
    Answer.Keeps Q x := fun t f e => hPQ t (h t f e)

end

theorem need_eq_ok {α : Type} {e : ErrCode} {o : Option α} {a : α} : need e o = .ok a ↔ o = some a := by
  cases o <;> simp [need]

theorem refuseIf_eq_ok {b : Bool} {e : ErrCode} {u : Unit} : refuseIf b e = .ok u ↔ b = false := by
  cases b <;> simp [refuseIf]

/-- A list of operations keeps a property that each of them keeps. -/
theorem foldl_holds {α β : Type} {P : β → Prop} {f : β → α → β} (h : ∀ s a, P s → P (f s a)) (l : List α) {s : β} (hs : P s) :
    P (l.foldl f s) := by
  induction l generalizing s with
  | nil => exact hs
  | cons a l ih => exact ih (h s a hs)

/-! ### What surrounds every operation -/

/-- A property `P` of the state between operations and a property `Q` within them, kept by what surrounds the operations: the reports,
the end of an operation, and the part's own events that come before a line or an event. -/
structure Surrounded (P Q : State → Prop) : Prop where
  within : ∀ {s}, P s → Q s
  raise : ∀ {s key text}, P s → P (s.raise key text)
  finish : ∀ {s}, Q s → P s.finish
  expireChain : ∀ {s}, Q s → Q s.expireChain
  priming : ∀ {s}, P s → Q ((s.onEngine fun b => { b with primeDue := false }).evaluatePriming)

section
variable {P Q : State → Prop} (h : Surrounded P Q) {s : State}
include h

theorem Surrounded.takePrompt (n : Nat) (hs : P s) : P (s.takePrompt n) := by
  induction n generalizing s with
  | zero => exact hs
  | succ n ih =>
    unfold State.takePrompt
    split
    · exact ih (h.finish (h.expireChain (h.within hs)))
    · exact hs

theorem Surrounded.takePromptChains (hs : P s) : P s.takePromptChains := h.takePrompt _ hs

theorem Surrounded.showResetPriming (hs : P s) : P s.showResetPriming := by
  unfold State.showResetPriming
  split
  · exact h.finish (h.priming hs)
  · exact hs

theorem Surrounded.eventsOwed (hs : P s) : P s.eventsOwed := h.takePromptChains (h.showResetPriming hs)

/-- An event keeps a property that its effect keeps. -/
theorem Surrounded.event {c : Instr} (hLine : c.isLine = false) (hPin : c.isPinEvent = false)
    (hEffect : ∀ s, P s → Q (c.effect s)) {t : State} (hs : P s) (e : exec c s = .next t) : P t := by
  rw [exec_effect hLine hPin] at e
  cases e
  dsimp only
  split
  · exact hs
  · refine h.finish (hEffect _ ?_)
    split
    · exact h.takePromptChains hs
    · exact hs

/-! ### The events due before a frame -/

theorem Surrounded.each {α : Type} (l : List α) {f : State → α → State} (hf : ∀ s a, Q s → Q (f s a)) (hs : Q s) :
    Q (s.each l f) :=
  foldl_holds (fun s a hs => h.within (h.takePromptChains (h.finish (hf s a hs)))) l hs

/-- Taking what is due keeps a property that the effect of each timer event keeps. -/
theorem Surrounded.takeDue (hTimer : ∀ c : Instr, c.isTimerEvent = true → ∀ s, Q s → Q (c.effect s)) (hs : P s) :
    Q s.takeDue := by
  have hTimers : Q s.takeTimers := by
    refine hTimer .referenceStale rfl _ ?_
    refine h.each _ (fun s i => hTimer (.staleExpiry i) rfl s) ?_
    refine h.each _ (fun s i => hTimer (.restoreExpiry i) rfl s) ?_
    refine h.each _ (fun s i => hTimer (.dropoutExpiry i) rfl s) ?_
    refine h.each _ (fun s b => hTimer (.clipClear b) rfl s) ?_
    refine h.each _ (fun s x => hTimer (.fadeComplete x) rfl s) ?_
    refine h.each _ (fun s r => hTimer (.crossfadeEnd r) rfl s) ?_
    exact h.each _ (fun s _ => hTimer .validRecord rfl s) (h.within (h.eventsOwed hs))
  refine foldl_holds (fun s _ => hTimer .fetchGrant rfl s) _ ?_
  refine h.each _ (fun s n => hTimer (.debounce n) rfl s) ?_
  refine hTimer .guardWindowEnd rfl _ ?_
  refine h.each _ (fun s id => hTimer (.expired id) rfl s) ?_
  refine h.within (h.takePromptChains (h.finish (h.expireChain ?_)))
  exact h.each _ (fun s k => hTimer (.tagTimeout k) rfl s) hTimers

/-- FRAME keeps a property that the effect of each timer event, the frame's own computation and the count of begun frames keep. -/
theorem Surrounded.frame (hTimer : ∀ c : Instr, c.isTimerEvent = true → ∀ s, Q s → Q (c.effect s))
    (hCompute : ∀ s slots pins, Q s → Q (s.computeFrame slots pins))
    (hBegun : ∀ s, Q s → Q (s.onClock fun b => { b with begun := b.begun - 1 })) (hs : P s) (slots : Vector Word32 64)
    (pins : Vector Bool 16) : Q (s.frame slots pins) := by
  unfold State.frame
  split
  · exact hBegun _ (hCompute _ _ _ (h.takeDue hTimer hs))
  · exact h.within hs

end

/-! ### The link's queues -/

/-- A surrounded property that the link's queues do not touch. -/
structure Queued (P Q : State → Prop) : Prop extends Surrounded P Q where
  queues : ∀ {s} {f : LinkBlock → LinkBlock}, (∀ b, (f b).reports = b.reports ∧ (f b).disabled = b.disabled ∧
    (f b).baud = b.baud) → P s → P (s.onLink f)

section
variable {P Q : State → Prop} (h : Queued P Q) {s : State}
include h

theorem Queued.placeReply (hs : P s) (tag : Tag) (text : String) : P (s.placeReply tag text) :=
  h.queues (fun _ => ⟨rfl, rfl, rfl⟩) hs

theorem Queued.overflowLine (hs : P s) : P s.overflowLine := h.raise (h.queues (fun _ => ⟨rfl, rfl, rfl⟩) hs)

theorem Queued.enqueueLine (hs : P s) (c : Instr) : P (s.enqueueLine c) := by
  unfold State.enqueueLine
  split
  · exact h.overflowLine hs
  · exact h.queues (fun _ => ⟨rfl, rfl, rfl⟩) hs

theorem Queued.receiveLine (hs : P s) (chars : List RxChar) (metFull : Bool) : P (s.receiveLine chars metFull) := by
  unfold State.receiveLine
  dsimp only
  split
  · exact hs
  · have hFraming : P (if (Text.keptChars chars).any (·.framing) then s.framingLine else s) := by
      split
      · exact h.raise (h.queues (fun _ => ⟨rfl, rfl, rfl⟩) hs)
      · exact hs
    split
    · exact h.overflowLine hFraming
    · exact h.enqueueLine hFraming _

theorem Queued.commandLine (hs : P s) (c : Instr) {carry : State → State} (hCarry : ∀ s, P s → P (carry s)) :
    P (s.commandLine c carry) := by
  unfold State.commandLine
  split
  · exact hs
  · split
    · split
      · exact hCarry _ (h.eventsOwed hs)
      · exact h.enqueueLine hs c
    · split
      · split
        · exact hCarry _ (h.eventsOwed (h.queues (fun _ => ⟨rfl, rfl, rfl⟩) hs))
        · exact hs
      · exact h.enqueueLine hs c

theorem Queued.answer (hs : P s) (tag : Tag) {run : State → Answer} (hRun : Answer.Keeps Q (run s)) :
    P (s.answer tag run) := by
  unfold State.answer
  split
  · exact h.placeReply hs _ _
  · rename_i t text e
    exact h.placeReply (h.finish (hRun t text e)) _ _

theorem Queued.linkFailure (hs : P s) (tag : Tag) (why : LinkFail) : P (s.linkFailure tag why) := by
  cases why with
  | long => exact h.placeReply (h.queues (f := fun b => { b with long := bump b.long }) (fun _ => ⟨rfl, rfl, rfl⟩) hs) _ _
  | form => exact h.placeReply hs _ _
  | verb => exact h.placeReply hs _ _

/-- A line keeps a property that its answer keeps; a query and a line that fails at link level keep it with nothing asked. -/
theorem Queued.line {c : Instr} (hLine : c.isLine = true)
    (hAnswer : ∀ s, P s → Answer.Keeps Q (c.answerOf s)) {t : State} (hs : P s) (e : exec c s = .next t) : P t := by
  by_cases hUnknown : ∃ tag why, c = .unknown tag why
  · obtain ⟨tag, why, rfl⟩ := hUnknown
    rw [exec_unknown] at e
    cases e
    exact h.commandLine hs _ fun s hs => h.linkFailure hs tag why
  · have hUnknown : ∀ tag why, c ≠ .unknown tag why := fun tag why e => hUnknown ⟨tag, why, e⟩
    cases hQuery : c.isQuery with
    | false =>
      rw [exec_answerOf hLine hQuery hUnknown] at e
      cases e
      exact h.commandLine hs _ fun s hs => h.answer hs _ (hAnswer s hs)
    | true =>
      obtain ⟨run, hRun, -, hAsks⟩ := exec_command c hLine hUnknown
      rw [hRun] at e
      cases e
      exact h.commandLine hs _ fun s hs => h.answer hs _ (keeps_of_asks (h.within hs) (hAsks hQuery s))

/-! ### The step -/

/-- A property that the lines, the events and the two ends of a full reset keep is kept by every command and event. -/
theorem Queued.exec (hAnswer : ∀ (c : Instr) s, c.isLine = true → P s → Answer.Keeps Q (c.answerOf s))
    (hEffect : ∀ (c : Instr) s, c.isLine = false → c.isPinEvent = false → P s → Q (c.effect s))
    (hEnter : ∀ s, P s → P s.enterReset) (hLeave : ∀ s baud1 baud0, P s → P (s.leaveReset baud1 baud0))
    (c : Instr) (t : State) (hs : P s) (e : exec c s = .next t) : P t := by
  cases hLine : c.isLine with
  | true => exact h.line hLine (fun s hs => hAnswer c s hLine hs) hs e
  | false =>
    cases hPin : c.isPinEvent with
    | false => exact h.event hLine hPin (fun s hs => hEffect c s hLine hPin hs) hs e
    | true =>
      cases c
      case pause asserted => cases e; exact h.queues (fun _ => ⟨rfl, rfl, rfl⟩) hs
      case fullReset => cases e; exact hEnter s hs
      case resetEnd baud1 baud0 =>
        cases e
        split
        · exact hLeave s _ _ hs
        · exact hs
      all_goals exact Bool.noConfusion hPin

end

/-- A property that a command placed in the queue does not touch is kept by every step where every command and event keeps it. -/
theorem step_keeps {P : State → Prop} (hPending : ∀ s l, P s → P { s with pending := l })
    (hExec : ∀ c s t, P s → exec c s = .next t → P t) {s t : State} (hs : P s) (e : step s = .next t) : P t := by
  unfold step at e
  split at e
  · exact hExec _ _ _ (hPending s _ hs) e
  · split at e
    · exact hExec _ _ _ hs e
    · cases e; exact hs

end Sys2Proof.Machine
end

section
/-! PROOFS. The end of an operation settles STANDBY_READY and the priming evaluation (06_the_cue_engine.md, R117, R118). -/

namespace Sys2Proof.Machine

open Sys2Proof

section
variable (s : State)

theorem raiseCue_engine (e : CueEvent) :
    (s.raiseCue e).engine = { s.engine with opEvent := some (s.cueReport e) } := by
  simp [State.raiseCue]

theorem raiseCue_standbyReady (e : CueEvent) : (s.raiseCue e).standbyReady = s.standbyReady :=
  standbyReady_congr (by simp [raiseCue_engine]) (kept_cues (s.raiseCue_frame e).1) (by simp)

theorem raise_standbyReady (key : ReportKey) (text : String) : (s.raise key text).standbyReady = s.standbyReady :=
  standbyReady_congr (by simp) (by simp) (by simp)

theorem evaluatePriming_evalDue : s.evaluatePriming.engine.evalDue = false := rfl

variable {s}

/-- Settling STANDBY_READY records its value, whatever was reported of it before. -/
theorem settleReady_settled (h : s.engine.evalDue = false) : s.settleReady.Settled := by
  have settled : ∀ t : State, t.engine.evalDue = false → t.standbyReady = s.standbyReady →
      (t.onEngine fun b => { b with readyShown := s.standbyReady, opEvent := none }).Settled :=
    fun t hEval hReady => ⟨hEval, rfl, hReady.symm⟩
  unfold State.settleReady
  dsimp only
  split
  · split
    · exact settled _ h rfl
    · exact settled _ (by simpa using h) (raise_standbyReady ..)
  · split
    · exact settled _ h rfl
    · exact settled _ (by simpa [raiseCue_engine] using h) (raiseCue_standbyReady ..)

/-- Every operation ends settled. -/
theorem finish_settled : s.finish.Settled := by
  unfold State.finish
  split
  · exact settleReady_settled (evaluatePriming_evalDue s)
  · rename_i h; exact settleReady_settled (Bool.eq_false_iff.mpr h)

end

/-- Between operations the state is settled, whatever happens within one. -/
theorem settled_queued : Queued State.Settled (fun _ => True) where
  within := fun _ => trivial
  raise := fun hs => raise_settled hs _ _
  queues := fun _ hs => settled_congr hs rfl rfl rfl
  finish := fun _ => finish_settled
  expireChain := fun _ => trivial
  priming := fun _ => trivial

end Sys2Proof.Machine

namespace Sys2Proof.Proofs

open Sys2Proof Sys2Proof.Machine

/-- Settles O11: every operation ends with STANDBY_READY settled, and what lies between operations touches neither the engine, the
cue list nor the readers. -/
theorem settledKept : Obligations.SettledKept := fun _ _ hs e =>
  step_keeps (P := State.Settled) (fun _ _ hs => settled_congr hs rfl rfl rfl)
    (fun c _ t hs => settled_queued.exec (fun _ _ _ _ _ _ _ => trivial) (fun _ _ _ _ _ => trivial)
      (fun _ hs => settled_congr hs rfl rfl rfl) (fun _ _ _ _ => ⟨rfl, rfl, rfl⟩) c t hs) hs e

end Sys2Proof.Proofs
end

section
/-! PROOFS. Invariants of the blocks. The shared operations change the blocks by a small number of primitive changes; a property that
these keep is kept by every shared operation, by every firing and by every frame. -/

namespace Sys2Proof.Machine

open Sys2Proof

/-! ### The primitive changes -/

/-- A change of the foldback section that leaves the settings of its buses and the talkback level and depth, and keeps the bounds of
the guards. -/
structure FoldbackBlock.Moves (b b' : FoldbackBlock) : Prop where
  talk : b'.talkLevel = b.talkLevel ∧ b'.talkDepth = b.talkDepth
  settings : ∀ k : FbId, (b'.buses.get k).lock = (b.buses.get k).lock ∧
    (b'.buses.get k).ceiling = (b.buses.get k).ceiling ∧ (b'.buses.get k).member = (b.buses.get k).member ∧
    ((b'.buses.get k).guard = .off ↔ (b.buses.get k).guard = .off)
  guards : b.GuardOk → b'.GuardOk

/-- A change of the cast table that leaves everything but crossfades and the active inputs, states, modes and flags. -/
structure CastBlock.Moves (b b' : CastBlock) : Prop where
  uses : b'.claims = b.claims ∧ b'.pages = b.pages ∧ b'.talkin = b.talkin
  roles : ∀ r : RoleId, b'.roles.get r = { b.roles.get r with xfade := (b'.roles.get r).xfade }
  perfs : ∀ p : PerfId, b'.perfs.get p = { b.perfs.get p with
    active := (b'.perfs.get p).active, state := (b'.perfs.get p).state, modeAuto := (b'.perfs.get p).modeAuto,
    compromised := (b'.perfs.get p).compromised }

/-- A change of the router that leaves the presets and the settings of the zones. -/
structure RouterBlock.Moves (b b' : RouterBlock) : Prop where
  presets : b'.presets = b.presets
  zones : ∀ z : ZoneId, b'.zones.get z = { b.zones.get z with
    holding := (b'.zones.get z).holding, duck := (b'.zones.get z).duck, ramp := (b'.zones.get z).ramp }

/-- A change of the lines that leaves their functions and polarities. -/
def LineBlock.Moves (b b' : LineBlock) : Prop :=
  ∀ n : LineId, (b'.recs.get n).fn = (b.recs.get n).fn ∧ (b'.recs.get n).activeHigh = (b.recs.get n).activeHigh

/-- A change of the sample fetch unit that leaves the sounds and the watermark, and each voice's level or brings it to an allowed
one. -/
structure FetchBlock.Moves (allow : Target → LevelCode → Prop) (b b' : FetchBlock) : Prop where
  sounds : b'.sounds = b.sounds
  refill : b'.refill = b.refill
  levels : ∀ v : VoiceId, (b'.readers.get (voiceReader v)).level = (b.readers.get (voiceReader v)).level ∨
    allow (.voice v) (b'.readers.get (voiceReader v)).level

/-- A property kept by every primitive change of the shared operations, `allow` saying which levels a target may be brought to. A
change not named in a construction leaves what the property is about as it stands. -/
structure Closed (allow : Target → LevelCode → Prop) (P : State → Prop) : Prop where
  raise : ∀ {s key text}, P s → P (s.raise key text) := by intros; assumption
  engine : ∀ {s} {f : EngineBlock → EngineBlock}, (∀ b, (f b).stopAllMs = b.stopAllMs ∧ (f b).standby = b.standby) → P s →
    P (s.onEngine f) := by intros; assumption
  standby : ∀ {s n}, (∀ m, n = some m → m ∈ s.cues.map (·.number)) → P s →
    P (s.onEngine fun b => { b with standby := n }) := by intros; assumption
  level : ∀ {s t c}, allow t c → P s → P (s.setLevelOf t c) := by intros; assumption
  snaps : ∀ {s} {f : Nat → Nat}, P s → P (s.onFades fun b => { b with snaps := f b.snaps }) := by intros; assumption
  filterPool : ∀ {s} {p : Fade → Bool}, P s → P (s.onFades fun b => { b with pool := b.pool.filter p }) := by intros; assumption
  mapPool : ∀ {s} {g : Fade → Fade}, (∀ f, (g f).target = f.target ∧ (g f).start = f.start ∧ (g f).goal = f.goal) → P s →
    P (s.onFades fun b => { b with pool := b.pool.map g }) := by intros; assumption
  replaceFade : ∀ {s} {x : Fade}, x.start = s.levelOf x.target → allow x.target x.goal → P s →
    P (s.onFades fun b => { b with pool := b.pool.map fun f => if f.target = x.target then x else f }) := by intros; assumption
  addFade : ∀ {s} {x : Fade}, x.start = s.levelOf x.target → allow x.target x.goal → s.fadeOf x.target = none →
    s.fades.pool.length < Config.fadePool → P s → P (s.onFades fun b => { b with pool := b.pool ++ [x] }) := by intros; assumption
  allowOff : ∀ t, allow t offCode := by intros; trivial
  allowTop : ∀ v, allow (.voice v) 0 := by intros; trivial
  allowGoal : ∀ {s f}, P s → f ∈ s.fades.pool → allow f.target f.goal := by intros; trivial
  allowStep : ∀ {s f}, P s → f ∈ s.fades.pool → f.advance.due = false → allow f.target f.advance.levelNow := by intros; trivial
  allowAction : ∀ {s c row bus code ms}, P s → c ∈ s.cues → Action.level row bus code ms ∈ c.actions →
    allow (.xpt row bus) code := by intros; trivial
  fetch : ∀ {s} {f : FetchBlock → FetchBlock}, (∀ b : FetchBlock, b.Moves allow (f b)) → P s → P (s.onFetch f) := by intros; assumption
  router : ∀ {s} {f : RouterBlock → RouterBlock}, (∀ b : RouterBlock, b.Moves (f b)) →
    ((∀ u, P u → u.CallsOk) → (s.onRouter f).CallsOk) → P s → P (s.onRouter f) := by intros; assumption
  cast : ∀ {s} {f : CastBlock → CastBlock}, (∀ b : CastBlock, b.Moves (f b)) → P s → P (s.onCast f) := by intros; assumption
  mic : ∀ {s} {f : MicBlock → MicBlock}, (∀ b, (f b).sup = b.sup) → P s → P (s.onMic f) := by intros; assumption
  clips : ∀ {s} {f : Vector Clip 25 → Vector Clip 25}, P s → P (s.onMatrix fun b => { b with clips := f b.clips }) := by
    intros; assumption
  foldback : ∀ {s} {f : FoldbackBlock → FoldbackBlock}, (∀ b : FoldbackBlock, b.Moves (f b)) → P s → P (s.onFoldback f) := by
    intros; assumption
  lines : ∀ {s} {f : LineBlock → LineBlock}, (∀ b : LineBlock, b.Moves (f b)) → P s → P (s.onLines f) := by intros; assumption
  tick : ∀ {s}, P s → P { s with now := s.now + 1 } := by intros; assumption

/-- A request makes a record where no record addresses the target and the pool has a free place (R25). -/
theorem State.fadeCase_made {s : State} {t : Target} {goal : LevelCode} (e : s.fadeCase t goal = .made) :
    s.fadeOf t = none ∧ s.fades.pool.length < Config.fadePool := by
  unfold State.fadeCase at e
  split at e
  · cases e
  · rename_i hNone
    split at e
    · cases e
    · split at e
      · rename_i hRoom; exact ⟨by simpa using hNone, hRoom⟩
      · cases e

section
variable {allow : Target → LevelCode → Prop} {P : State → Prop} (h : Closed allow P) {s : State}
include h

/-! ### The accounting of instances -/

theorem Closed.raiseCue {e : CueEvent} (hs : P s) : P (s.raiseCue e) := by
  unfold State.raiseCue
  exact h.raise (h.engine (fun _ => ⟨rfl, rfl⟩) hs)

theorem Closed.setChain {c : Chain} (hs : P s) : P (s.setChain c) := by
  unfold State.setChain
  dsimp only
  split
  · exact h.raiseCue (h.engine (fun _ => ⟨rfl, rfl⟩) hs)
  · exact h.raiseCue (h.engine (fun _ => ⟨rfl, rfl⟩) (h.raiseCue hs))

theorem Closed.endLink {i : Inst} (hs : P s) : P (s.endLink i) := by
  unfold State.endLink
  split
  · exact hs
  · split
    · split
      · exact h.setChain hs
      · exact h.raiseCue hs
    · exact h.raiseCue hs

theorem Closed.completeInst {i : Inst} {atFiring : Bool} (hs : P s) : P (s.completeInst i atFiring) := by
  have hRemoved : P (s.removeInst i.slot) := h.engine (fun _ => ⟨rfl, rfl⟩) hs
  unfold State.completeInst
  refine h.endLink ?_
  split
  · exact hRemoved
  · exact h.raiseCue hRemoved

theorem Closed.instDone {slot : InstSlot} (hs : P s) : P (s.instDone slot) := by
  unfold State.instDone
  split
  · exact hs
  · dsimp only
    split
    · exact h.completeInst (h.engine (fun _ => ⟨rfl, rfl⟩) hs)
    · exact h.engine (fun _ => ⟨rfl, rfl⟩) hs

theorem Closed.ownerDone {owner : Option InstSlot} (hs : P s) : P (s.ownerDone owner) := by
  cases owner with
  | none => exact hs
  | some slot => exact h.instDone hs

theorem Closed.ownerAdd {owner : Option InstSlot} (hs : P s) : P (s.ownerAdd owner) := by
  unfold State.ownerAdd
  split
  · exact hs
  · exact h.engine (fun _ => ⟨rfl, rfl⟩) hs

/-! ### Fades -/

theorem Closed.dropFade {t : Target} (hs : P s) : P (s.dropFade t) := h.filterPool hs

theorem Closed.removeFade {t : Target} (hs : P s) : P (s.removeFade t) := by
  unfold State.removeFade
  split
  · exact hs
  · exact h.ownerDone (h.dropFade hs)

theorem Closed.snapLevel {t : Target} {c : LevelCode} (hAllow : allow t c) (hs : P s) : P (s.snapLevel t c) :=
  h.level hAllow (h.removeFade hs)

theorem Closed.poolFullSnap {t : Target} {c : LevelCode} (hAllow : allow t c) (hs : P s) : P (s.poolFullSnap t c) :=
  h.raise (h.snaps (h.level hAllow hs))

theorem Closed.requestFade {t : Target} {goal : LevelCode} {ms : Nat} {owner : Option InstSlot} {stopAtOff : Bool}
    (hAllow : allow t goal) (hs : P s) : P (s.requestFade t goal ms owner stopAtOff) := by
  unfold State.requestFade
  dsimp only
  split
  · exact h.ownerAdd (h.ownerDone
      (h.replaceFade (x := ⟨t, s.levelOf t, goal, ms, 0, owner, stopAtOff⟩) rfl hAllow hs))
  · exact hs
  · rename_i hCase
    obtain ⟨hNone, hRoom⟩ := State.fadeCase_made hCase
    exact h.ownerAdd (h.addFade (x := ⟨t, s.levelOf t, goal, ms, 0, owner, stopAtOff⟩) rfl hAllow hNone hRoom hs)
  · exact h.poolFullSnap hAllow hs

theorem Closed.disownFades {slot : InstSlot} (hs : P s) : P (s.disownFades slot) :=
  h.mapPool (fun f => by split <;> exact ⟨rfl, rfl, rfl⟩) hs

theorem Closed.fadeSteps {l : List Fade} (hl : ∀ f ∈ l, f ∈ s.fades.pool) (hs : P s) : P (l.foldl State.fadeStep s) := by
  induction l generalizing s with
  | nil => exact hs
  | cons f l ih =>
    obtain ⟨hf, hl⟩ := List.forall_mem_cons.mp hl
    refine ih (by simpa using hl) ?_
    unfold State.fadeStep
    split
    · exact hs
    · rename_i hMove
      simp only [Bool.or_eq_true, not_or, Bool.not_eq_true] at hMove
      exact h.level (h.allowStep hs hf hMove.1.2) hs

theorem Closed.fadeFrame (hs : P s) : P s.fadeFrame := by
  refine h.mapPool (fun f => ?_) (h.fadeSteps (fun _ hf => hf) hs)
  unfold Fade.advance
  repeat' split
  all_goals exact ⟨rfl, rfl, rfl⟩

/-! ### Readers -/

/-- A reader changed: its level stands or is brought to an allowed one. -/
theorem Closed.onReader {r : ReaderId} {f : Reader → Reader}
    (hf : ∀ v x, (f x).level = x.level ∨ allow (.voice v) (f x).level)
    (hs : P s) : P (s.onReader r f) := by
  refine h.fetch (fun b => ⟨rfl, rfl, fun v => ?_⟩) hs
  by_cases hr : r = voiceReader v
  · subst hr; rw [get_update_same]; exact hf v _
  · rw [get_update_ne _ _ _ _ hr]; exact .inl rfl

/-- A reader changed at the level it has. -/
theorem Closed.onReaderAt {r : ReaderId} {f : Reader → Reader} (hf : ∀ x, (f x).level = x.level) (hs : P s) :
    P (s.onReader r f) := h.onReader (fun _ _ => .inl (hf _)) hs

theorem Closed.setTag {t : TagId} {x : StoreTag} (hs : P s) : P (s.setTag t x) :=
  h.fetch (fun _ => ⟨rfl, rfl, fun _ => .inl rfl⟩) hs

theorem Closed.clearRing {r : ReaderId} (hs : P s) : P (s.clearRing r) :=
  h.onReaderAt (fun _ => rfl) (h.fetch (fun _ => ⟨rfl, rfl, fun _ => .inl rfl⟩) hs)

theorem Closed.raiseReader {r : ReaderId} {event : String} (hs : P s) : P (s.raiseReader r event) := by
  unfold State.raiseReader
  dsimp only
  split <;> exact h.raise hs

theorem Closed.callEvaluation {v : VoiceId} (hs : P s) : P (s.callEvaluation v) := by
  unfold State.callEvaluation
  split
  · exact h.engine (fun _ => ⟨rfl, rfl⟩) hs
  · exact hs

theorem Closed.enterIdle {r : ReaderId} {event : String} (hs : P s) : P (s.enterIdle r event) := by
  have hIdle : P (((s.clearRing r).onReader r Reader.toIdle).raiseReader r event) :=
    h.raiseReader (h.onReaderAt (fun _ => rfl) (h.clearRing hs))
  unfold State.enterIdle
  dsimp only
  split
  · exact h.callEvaluation (h.ownerDone (h.removeFade hIdle))
  · exact hIdle

theorem Closed.fadeIn {v : VoiceId} {kept : Option Nat} (hs : P s) : P (s.fadeIn v kept) := by
  unfold State.fadeIn
  split
  · exact hs
  · exact hs
  · exact h.requestFade (h.allowTop v) hs

theorem Closed.enterPlaying {r : ReaderId} {late : Nat} (hs : P s) : P (s.enterPlaying r late) := by
  have hPlaying : P (s.onReader r fun x => { x with state := .playing, late := some late, keptFadeIn := none, owner := none }) :=
    h.onReaderAt (fun _ => rfl) hs
  unfold State.enterPlaying
  dsimp only
  refine h.raiseReader ?_
  split
  · exact h.ownerDone (h.fadeIn hPlaying)
  · exact hPlaying

theorem Closed.testStart {r : ReaderId} (hs : P s) : P (s.testStart r) := by
  unfold State.testStart
  dsimp only
  split
  · exact h.enterPlaying hs
  · exact hs

theorem Closed.takePlay {v : VoiceId} {now : Nat} {n : SoundId} {d : Sound} {ms : Nat} {owner : Option InstSlot}
    (hs : P s) : P (s.onReader (voiceReader v) fun x => x.takePlay now n d ms owner) := by
  refine h.onReader (fun w _ => .inr ?_) hs
  unfold Reader.takePlay
  dsimp only
  split
  · exact h.allowTop w
  · exact h.allowOff _

theorem Closed.play {v : VoiceId} {n : SoundId} {d : Sound} {ms : Nat} {owner : Option InstSlot} (hs : P s) :
    P (s.play v n d ms owner) := by
  have hTold : P ((s.removeFade (.voice v)).ownerDone (s.reader (voiceReader v)).owner) := h.ownerDone (h.removeFade hs)
  unfold State.play
  dsimp only
  split
  · exact h.enterPlaying (h.takePlay hTold)
  · refine h.testStart (h.raiseReader (h.ownerAdd (h.takePlay ?_)))
    split
    · exact h.onReaderAt (fun _ => rfl) hTold
    · exact h.onReaderAt (fun _ => rfl) (h.clearRing hTold)

theorem Closed.stopVoice {v : VoiceId} {ms : Nat} {owner : Option InstSlot} (hs : P s) : P (s.stopVoice v ms owner) := by
  have hSounding : P (if ms = 0 ∨ (s.reader (voiceReader v)).level = offCode then s.enterIdle (voiceReader v) "stopped"
      else match s.fadeCase (.voice v) offCode with
        | .snapped => (s.poolFullSnap (.voice v) offCode).enterIdle (voiceReader v) "stopped"
        | _ => s.requestFade (.voice v) offCode ms owner true) := by
    split
    · exact h.enterIdle hs
    · split
      · exact h.enterIdle (h.poolFullSnap (h.allowOff _) hs)
      · exact h.requestFade (h.allowOff _) hs
  unfold State.stopVoice
  dsimp only
  split
  case h_1 => exact hs
  case h_6 => exact hSounding
  case h_7 => exact hSounding
  all_goals exact h.enterIdle hs

theorem Closed.prime {v : VoiceId} {n : SoundId} (hs : P s) : P (s.prime v n) := by
  unfold State.prime
  split
  · exact hs
  · exact h.raiseReader (h.onReaderAt (fun _ => rfl) (h.fetch (fun _ => ⟨rfl, rfl, fun _ => .inl rfl⟩) hs))

theorem Closed.testPrimed {r : ReaderId} (hs : P s) : P (s.testPrimed r) := by
  unfold State.testPrimed
  dsimp only
  split
  · exact h.raiseReader (h.onReaderAt (fun _ => rfl) hs)
  · exact hs

theorem Closed.startPlayer {p : PlayerId} {n : SoundId} (hs : P s) : P (s.startPlayer p n) := by
  unfold State.startPlayer
  split
  · exact hs
  · exact h.raiseReader (h.onReaderAt (fun _ => rfl) (h.clearRing hs))

theorem Closed.stopPlayer {p : PlayerId} (hs : P s) : P (s.stopPlayer p) := by
  unfold State.stopPlayer
  split
  · exact hs
  · exact h.enterIdle hs

theorem Closed.enterFaulted {r : ReaderId} (hs : P s) : P (s.enterFaulted r) := by
  have hFaulted : P (((s.clearRing r).onReader r fun x =>
      { x with state := .faulted, keptFadeIn := none, owner := none, stalledFor := 0 }).raiseReader r "fault") :=
    h.raiseReader (h.onReaderAt (fun _ => rfl) (h.clearRing hs))
  unfold State.enterFaulted
  dsimp only
  split
  · exact h.ownerDone (h.removeFade hFaulted)
  · exact hFaulted

theorem Closed.failSlot {r : ReaderId} {i : RingSlot} (hs : P s) : P (s.failSlot r i) := by
  unfold State.failSlot
  dsimp only
  split
  · exact h.raiseReader (h.onReaderAt (fun _ => rfl) hs)
  · exact h.enterFaulted hs

end

theorem Reader.request_level (x : Reader) (t : TagId) (i : RingSlot) (j : Nat) (isRetry : Bool) :
    (x.request t i j isRetry).level = x.level := by
  unfold Reader.request; dsimp only; split <;> rfl

theorem Reader.advance_level (x : Reader) : x.advance.level = x.level := by
  unfold Reader.advance; dsimp only; split <;> rfl

theorem Reader.fill_level (x : Reader) (i : RingSlot) (samples : Vector Sample 256) :
    (x.fill i samples).level = x.level := by
  unfold Reader.fill; split <;> rfl

section
variable {allow : Target → LevelCode → Prop} {P : State → Prop} (h : Closed allow P) {s : State}
include h

theorem Closed.grantTag (hs : P s) : P s.grantTag := by
  unfold State.grantTag
  split
  · split
    · exact h.fetch (fun _ => ⟨rfl, rfl, fun _ => .inl rfl⟩) (h.setTag (h.onReaderAt (fun x => x.request_level ..) hs))
    · exact hs
  · exact hs

theorem Closed.sampleStep {r : ReaderId} (hs : P s) : P (s.sampleStep r) := by
  have hEnd : ∀ t : State, P t → P (if (t.reader r).ended then t.enterIdle r "end" else t) := by
    intro t ht
    split
    · exact h.enterIdle ht
    · exact ht
  unfold State.sampleStep
  dsimp only
  split
  · split
    · refine hEnd _ ?_
      split
      · exact h.raiseReader (h.onReaderAt (fun x => x.advance_level) hs)
      · exact h.onReaderAt Reader.advance_level hs
    · split
      · exact h.raiseReader (h.onReaderAt (fun _ => rfl) hs)
      · exact h.onReaderAt (fun _ => rfl) hs
  · exact hs

end

end Sys2Proof.Machine
end

section
/-! PROOFS. The call table: what the router's operations make of it (R167, R168, R172, R175). -/

namespace Sys2Proof.Machine

open Sys2Proof

/-! ### The order of the table -/

/-- The order of two calls of the table: priority, highest first, then admission (R167). -/
def Call.before (c d : Call) : Prop := d.req.pri < c.req.pri ∨ c.req.pri = d.req.pri ∧ c.stamp < d.stamp

theorem insertCall_perm (c : Call) (l : List Call) : (insertCall c l).Perm (c :: l) := by
  induction l with
  | nil => exact .refl _
  | cons d l ih =>
    unfold insertCall
    split
    · exact .refl _
    · exact (ih.cons d).trans (.swap c d l)

theorem insertCall_pairwise {c : Call} {l : List Call} (hLast : ∀ d ∈ l, d.stamp < c.stamp) (h : l.Pairwise Call.before) :
    (insertCall c l).Pairwise Call.before := by
  induction l with
  | nil => exact List.pairwise_singleton _ _
  | cons d l ih =>
    obtain ⟨hHead, hTail⟩ := List.pairwise_cons.mp h
    obtain ⟨hd, hLast⟩ := List.forall_mem_cons.mp hLast
    unfold insertCall
    split
    · rename_i hHigher
      refine List.pairwise_cons.mpr ⟨fun e he => .inl ?_, h⟩
      rcases List.mem_cons.mp he with rfl | he
      · exact hHigher
      · rcases hHead e he with hLower | ⟨hSame, -⟩
        · exact hLower.trans hHigher
        · exact hSame ▸ hHigher
    · rename_i hNot
      refine List.pairwise_cons.mpr ⟨fun e he => ?_, ih hLast hTail⟩
      rcases List.mem_cons.mp ((insertCall_perm c l).mem_iff.mp he) with rfl | he
      · rcases Nat.lt_or_eq_of_le (not_lt.mp hNot) with hLower | hSame
        · exact .inl hLower
        · exact .inr ⟨hSame.symm, hd⟩
      · exact hHead e he

/-! ### Calls leave, go LIVE and enter -/

theorem State.CallsOk.filter {s : State} (h : s.CallsOk) (p : Call → Bool) :
    (s.onRouter fun b => { b with calls := b.calls.filter p }).CallsOk := by
  obtain ⟨hLength, hIds, hRange, hOrder, hPlayers⟩ := h
  have hSub : (s.router.calls.filter p).Sublist s.router.calls := List.filter_sublist
  exact ⟨hSub.length_le.trans hLength, (hSub.map _).nodup hIds, fun c hc => hRange c (hSub.subset hc), hOrder.sublist hSub,
    (hSub.filterMap _).nodup hPlayers⟩

/-- The calls with one gone LIVE. -/
def goLive (live : Call) (l : List Call) : List Call := l.map fun d => if d.id = live.id then live else d

theorem goLive_ids (live : Call) (l : List Call) : (goLive live l).map (·.id) = l.map (·.id) := by
  rw [goLive, List.map_map]
  refine List.map_congr_left fun d _ => ?_
  dsimp only [Function.comp]
  split <;> simp [*]

theorem goLive_of_absent {live : Call} {l : List Call} (h : ∀ d ∈ l, d.id ≠ live.id) : goLive live l = l := by
  rw [goLive]
  conv_rhs => rw [← List.map_id l]
  exact List.map_congr_left fun d hd => by rw [if_neg (h d hd)]; rfl

/-- A player no call of the table holds is held by the one call that takes it. -/
theorem goLive_players {live : Call} {l : List Call} (hIds : (l.map (·.id)).Nodup)
    (hFree : ∀ p, live.player = some p → ∀ d ∈ l, d.player ≠ some p) (h : (l.filterMap Call.player).Nodup) :
    ((goLive live l).filterMap Call.player).Nodup := by
  induction l with
  | nil => exact h
  | cons d l ih =>
    obtain ⟨hHead, hTail⟩ := List.nodup_cons.mp hIds
    have hRest : (l.filterMap Call.player).Nodup := ((List.sublist_cons_self d l).filterMap _).nodup h
    have hFreeRest : ∀ p, live.player = some p → ∀ e ∈ l, e.player ≠ some p := fun p hp e he =>
      hFree p hp e (List.mem_cons_of_mem _ he)
    by_cases hd : d.id = live.id
    · have hAbsent : ∀ e ∈ l, e.id ≠ live.id := fun e he hSame => hHead (List.mem_map.mpr ⟨e, he, hSame.trans hd.symm⟩)
      have hList : goLive live (d :: l) = live :: l := by
        show (if d.id = live.id then live else d) :: goLive live l = _
        rw [if_pos hd, goLive_of_absent hAbsent]
      rw [hList]
      cases hPlayer : live.player with
      | none => rwa [List.filterMap_cons_none hPlayer]
      | some p =>
        rw [List.filterMap_cons_some hPlayer]
        refine List.nodup_cons.mpr ⟨fun hp => ?_, hRest⟩
        obtain ⟨e, he, hHeld⟩ := List.mem_filterMap.mp hp
        exact hFreeRest p hPlayer e he hHeld
    · have hList : goLive live (d :: l) = d :: goLive live l := by
        show (if d.id = live.id then live else d) :: goLive live l = _
        rw [if_neg hd]
      rw [hList]
      have hGoes := ih hTail hFreeRest hRest
      cases hPlayer : d.player with
      | none => rwa [List.filterMap_cons_none hPlayer]
      | some p =>
        rw [List.filterMap_cons_some hPlayer] at h ⊢
        refine List.nodup_cons.mpr ⟨fun hp => ?_, hGoes⟩
        obtain ⟨e, he, hHeld⟩ := List.mem_filterMap.mp hp
        obtain ⟨e', he', rfl⟩ := List.mem_map.mp he
        split at hHeld
        · exact hFree p hHeld d List.mem_cons_self hPlayer
        · exact (List.nodup_cons.mp h).1 (List.mem_filterMap.mpr ⟨e', he', hHeld⟩)

theorem State.CallsOk.goLive {s : State} (h : s.CallsOk) {live : Call} (stamp : Nat)
    (hSame : ∀ d ∈ s.router.calls, d.id = live.id → d.req = live.req ∧ d.stamp = live.stamp)
    (hFree : ∀ p, live.player = some p → ∀ d ∈ s.router.calls, d.player ≠ some p) :
    (s.onRouter fun b => { b with grantStamp := stamp, calls := Machine.goLive live b.calls }).CallsOk := by
  obtain ⟨hLength, hIds, hRange, hOrder, hPlayers⟩ := h
  have hKey : ∀ d ∈ s.router.calls, (if d.id = live.id then live else d).id = d.id ∧
      (if d.id = live.id then live else d).req = d.req ∧ (if d.id = live.id then live else d).stamp = d.stamp := fun d hd => by
    split
    · rename_i hId
      exact ⟨hId.symm, (hSame d hd hId).1.symm, (hSame d hd hId).2.symm⟩
    · exact ⟨rfl, rfl, rfl⟩
  refine ⟨?_, ?_, fun c hc => ?_, ?_, goLive_players hIds hFree hPlayers⟩
  · show (Machine.goLive live s.router.calls).length ≤ _
    rw [Machine.goLive, List.length_map]; exact hLength
  · show ((Machine.goLive live s.router.calls).map (·.id)).Nodup
    rw [goLive_ids]; exact hIds
  · obtain ⟨d, hd, rfl⟩ := List.mem_map.mp hc
    obtain ⟨hId, -, hStamp⟩ := hKey d hd
    rw [hId, hStamp]; exact hRange d hd
  · refine List.pairwise_map.mpr (hOrder.imp_of_mem fun {c d} hc hd hBefore => ?_)
    obtain ⟨-, hReqC, hStampC⟩ := hKey c hc
    obtain ⟨-, hReqD, hStampD⟩ := hKey d hd
    rw [hReqC, hReqD, hStampC, hStampD]; exact hBefore

/-! ### The next id -/

theorem idAfter_range (counter k : Nat) : 1 ≤ idAfter counter k ∧ idAfter counter k ≤ 255 := by
  unfold idAfter; omega

theorem idAfter_injOn (counter : Nat) : ((List.range 255).map (idAfter counter)).Nodup := by
  refine List.Nodup.map_on (fun a ha b hb e => ?_) List.nodup_range
  rw [List.mem_range] at ha hb
  unfold idAfter at e; omega

/-- A table with a free place has a free id, the first at or after the counter (R167, R168). -/
theorem RouterBlock.freeId_spec {b : RouterBlock} (hRoom : b.calls.length < Config.maxCalls) :
    (1 ≤ b.freeId ∧ b.freeId ≤ 255) ∧ ∀ c ∈ b.calls, c.id ≠ b.freeId := by
  unfold RouterBlock.freeId
  cases e : ((List.range 255).map (idAfter b.nextId)).find? fun id => b.calls.all fun c => c.id ≠ id with
  | some id =>
    obtain ⟨k, -, rfl⟩ := List.mem_map.mp (List.mem_of_find?_eq_some e)
    exact ⟨idAfter_range _ _, by simpa using List.find?_some e⟩
  | none =>
    have hTaken : ((List.range 255).map (idAfter b.nextId)) ⊆ b.calls.map (·.id) := fun id hid => by
      have := List.find?_eq_none.mp e id hid
      simpa using this
    have hLength := ((idAfter_injOn b.nextId).subperm hTaken).length_le
    rw [List.length_map, List.length_map, List.length_range] at hLength
    exact absurd hRoom (by rw [Config.maxCalls]; omega)

section
variable {s : State}

/-- The call a request enters the table as (R168). -/
def State.newCall (s : State) (q : CallRequest) (zones : List ZoneId) (line : Option LineId) : Call :=
  { id := s.router.freeId, req := q, zones := zones, stamp := s.router.admitStamp, admittedAt := s.now, grant := none, line := line }

/-- A new call enters the table in its place (R168). -/
theorem State.enterCall_table (q : CallRequest) (zones : List ZoneId) (line : Option LineId) (h : s.CallsOk)
    (hRoom : s.router.calls.length < Config.maxCalls) :
    (s.onRouter fun b => { b with
      calls := insertCall (s.newCall q zones line) b.calls
      nextId := idAfter s.router.freeId 1
      admitStamp := b.admitStamp + 1 }).CallsOk := by
  obtain ⟨hLength, hIds, hRange, hOrder, hPlayers⟩ := h
  obtain ⟨⟨hLow, hHigh⟩, hFree⟩ := RouterBlock.freeId_spec hRoom
  have hPerm := insertCall_perm (s.newCall q zones line) s.router.calls
  refine ⟨?_, ?_, fun c hc => ?_, insertCall_pairwise (fun d hd => (hRange d hd).2.2) hOrder, ?_⟩
  · exact hPerm.length_eq.trans_le hRoom
  · refine (hPerm.map _).nodup_iff.mpr (List.nodup_cons.mpr ⟨fun hId => ?_, hIds⟩)
    obtain ⟨c, hc, hSame⟩ := List.mem_map.mp hId
    exact hFree c hc hSame
  · rcases List.mem_cons.mp (hPerm.mem_iff.mp hc) with rfl | hc
    · exact ⟨hLow, hHigh, Nat.lt_succ_self _⟩
    · obtain ⟨h1, h2, h3⟩ := hRange c hc
      exact ⟨h1, h2, h3.trans (Nat.lt_succ_self _)⟩
  · exact (hPerm.filterMap _).nodup_iff.mpr hPlayers

/-! ### What the router's operations leave of the table -/

theorem State.callAt_id {id : Nat} {c : Call} (e : s.callAt id = some c) : c.id = id := by
  simpa using List.find?_some e

theorem State.callAt_mem {id : Nat} {c : Call} (e : s.callAt id = some c) : c ∈ s.router.calls := List.mem_of_find?_eq_some e

theorem foldl_onZone_calls (f : Zone → Zone) (l : List ZoneId) :
    (l.foldl (fun s z => s.onZone z f) s).router.calls = s.router.calls :=
  foldl_holds (P := fun t : State => t.router.calls = s.router.calls) (f := fun s z => s.onZone z f) (fun _ _ e => e) l rfl

theorem State.closeCall_calls (c : Call) (k : CallCause) (b : Option Nat) :
    (s.closeCall c k b).router.calls = s.router.calls.filter fun d => d.id ≠ c.id := by
  have hFreed : ∀ t : State, t.router.calls = s.router.calls →
      ((t.dropCall c.id).raiseCall c .ended none (some k) b "ended").router.calls =
        s.router.calls.filter fun d => d.id ≠ c.id := fun t e => by
    rw [State.raiseCall, State.raise_router, State.dropCall, State.onRouter_router, e]
  have hZones : (c.zones.foldl (fun s z => s.onZone z Zone.release) s).router.calls = s.router.calls := foldl_onZone_calls _ _
  unfold State.closeCall
  refine hFreed _ ?_
  split
  · simp only
    split
    · simpa using hZones
    · exact hZones
  · rfl

theorem foldl_closeCall_calls (k : CallCause) (b : Option Nat) (l : List Call) :
    (l.foldl (fun s d => s.closeCall d k b) s).router.calls = s.router.calls.filter fun d => ∀ e ∈ l, d.id ≠ e.id := by
  induction l generalizing s with
  | nil => simp
  | cons c l ih =>
    rw [List.foldl_cons, ih, State.closeCall_calls, List.filter_filter]
    refine List.filter_congr fun d _ => ?_
    rw [Bool.eq_iff_iff]
    simp [and_comm]

/-- Two calls of a table with one id are one call. -/
theorem State.CallsOk.eq_of_id (h : s.CallsOk) {c d : Call} (hc : c ∈ s.router.calls) (hd : d ∈ s.router.calls)
    (e : c.id = d.id) : c = d := List.inj_on_of_nodup_map h.2.1 hc hd e

/-- A granted call goes LIVE in a table that the calls in its way have left (R172). -/
theorem State.grantCall_table {c : Call} (hc : s.callAt c.id = some c) (player : Option PlayerId) (h : s.CallsOk)
    {t : State} (ht : t = (s.router.calls.filter fun d =>
      d.grant.isSome ∧ (c.zones.any (fun z => (s.zone z).holding = some d.id) ∨ (player.isSome ∧ d.player = player))).foldl
        (fun s d => s.closeCall d .preempted (some c.id)) s) (hOk : t.CallsOk) :
    (t.onRouter fun b => { b with
      grantStamp := t.router.grantStamp + 1
      calls := b.calls.map fun d =>
        if d.id = c.id then { c with grant := some { stamp := t.router.grantStamp, player := player } } else d }).CallsOk := by
  have hStays : ∀ d ∈ t.router.calls, d ∈ s.router.calls ∧
      ∀ e ∈ s.router.calls, e.grant.isSome → player.isSome → e.player = player → d.id ≠ e.id := fun d hd => by
    rw [ht, foldl_closeCall_calls, List.mem_filter] at hd
    refine ⟨hd.1, fun e he hGrant hSome hPlayer => ?_⟩
    refine of_decide_eq_true hd.2 e (List.mem_filter.mpr ⟨he, ?_⟩)
    simp [hGrant, hSome, hPlayer]
  refine hOk.goLive (live := { c with grant := some { stamp := t.router.grantStamp, player := player } }) _ ?_ ?_
  · intro d hd hId
    have : d = c := h.eq_of_id (hStays d hd).1 (State.callAt_mem hc) hId
    exact this ▸ ⟨rfl, rfl⟩
  · intro p hp d hd hHeld
    have hPlayer : player = some p := hp
    have hGrant : d.grant.isSome := by
      cases hg : d.grant with
      | none => rw [Call.player, hg] at hHeld; cases hHeld
      | some g => rfl
    exact (hStays d hd).2 d (hStays d hd).1 hGrant (by simp [hPlayer]) (hHeld.trans hPlayer.symm) rfl

/-! ### Room -/

theorem RouterBlock.room_free {b : RouterBlock} {pri : Nat} (e : b.room pri = .free) : b.calls.length < Config.maxCalls := by
  unfold RouterBlock.room at e
  split at e
  · assumption
  · split at e
    · split at e <;> cases e
    · cases e

/-- The call displaced is one of the table. -/
theorem RouterBlock.lastWaiting_mem {b : RouterBlock} {c : Call} (e : b.lastWaiting = some c) : c ∈ b.calls := by
  unfold RouterBlock.lastWaiting at e
  have hFold : ∀ (l : List Call) (best : Option Call), (∀ d, best = some d → d ∈ b.calls) → (∀ d ∈ l, d ∈ b.calls) →
      ∀ d, l.foldl (fun best c =>
        match best with
        | none => some c
        | some d => if displacedFirst d c then some d else some c) best = some d → d ∈ b.calls := by
    intro l
    induction l with
    | nil => exact fun best hBest _ => hBest
    | cons x l ih =>
      intro best hBest hl
      obtain ⟨hx, hl⟩ := List.forall_mem_cons.mp hl
      refine ih _ (fun d hd => ?_) hl
      dsimp only at hd
      split at hd
      · cases hd; exact hx
      · rename_i y
        split at hd
        · cases hd; exact hBest _ rfl
        · cases hd; exact hx
  exact hFold _ none (fun _ h => nomatch h) (fun d hd => List.mem_of_mem_filter hd) c e

/-- A displaced call makes room (R169). -/
theorem State.room_displacing (h : s.CallsOk) {pri : Nat} {c : Call} (e : s.router.room pri = .displacing c) (k : CallCause)
    (b : Option Nat) : (s.closeCall c k b).router.calls.length < Config.maxCalls := by
  have hMem : c ∈ s.router.calls := by
    unfold RouterBlock.room at e
    split at e
    · cases e
    · split at e
      · rename_i hLast
        split at e
        · cases e; exact RouterBlock.lastWaiting_mem hLast
        · cases e
      · cases e
  rw [State.closeCall_calls]
  refine lt_of_lt_of_le ?_ h.1
  exact List.length_filter_lt_length_iff_exists.mpr ⟨c, hMem, by simp⟩

end

end Sys2Proof.Machine
end

section
/-! PROOFS. Invariants of the blocks, continued: the router, the cue engine, the cast table, the supervisor, the foldback section, the
lines and the frame. -/

namespace Sys2Proof.Machine

open Sys2Proof

theorem get_ofFn {n : Nat} {α : Type} (f : Fin n → α) (i : Fin n) : (Vector.ofFn f).get i = f i := by
  simp [Vector.get_eq_getElem]

/-! ### Changes that leave the settings -/

theorem RouterBlock.Moves.of_zones_eq {b b' : RouterBlock} (hPresets : b'.presets = b.presets) (hZones : b'.zones = b.zones) :
    b.Moves b' := ⟨hPresets, fun z => by rw [hZones]⟩

theorem CastBlock.Moves.update_role {b : CastBlock} {r : RoleId} {f : Role → Role}
    (hf : ∀ x, f x = { x with xfade := (f x).xfade }) : b.Moves { b with roles := update b.roles r f } := by
  refine ⟨⟨rfl, rfl, rfl⟩, fun q => ?_, fun p => rfl⟩
  show (update b.roles r f).get q = _
  by_cases hq : r = q
  · subst hq; simpa only [get_update_same] using hf _
  · simp only [get_update_ne _ _ _ _ hq]

theorem CastBlock.Moves.update_perf {b : CastBlock} {p : PerfId} {f : Perf → Perf}
    (hf : ∀ x, f x = { x with active := (f x).active, state := (f x).state, modeAuto := (f x).modeAuto,
                              compromised := (f x).compromised }) :
    b.Moves { b with perfs := update b.perfs p f } := by
  refine ⟨⟨rfl, rfl, rfl⟩, fun r => rfl, fun q => ?_⟩
  show (update b.perfs p f).get q = _
  by_cases hq : p = q
  · subst hq; simpa only [get_update_same] using hf _
  · simp only [get_update_ne _ _ _ _ hq]

theorem LineBlock.Moves.update {b : LineBlock} {n : LineId} {f : LineRec → LineRec}
    (hf : ∀ x, (f x).fn = x.fn ∧ (f x).activeHigh = x.activeHigh) : b.Moves { b with recs := update b.recs n f } := by
  intro q
  by_cases hq : n = q
  · subst hq; simpa only [get_update_same] using hf _
  · simp only [get_update_ne _ _ _ _ hq]; exact ⟨trivial, trivial⟩

/-- A foldback bus whose settings, reduction and guard a change leaves. -/
def FbBus.SameGuard (x y : FbBus) : Prop :=
  y.lock = x.lock ∧ y.ceiling = x.ceiling ∧ y.member = x.member ∧ y.guard = x.guard ∧ y.red = x.red

theorem FoldbackBlock.Moves.of_sameGuard {b b' : FoldbackBlock}
    (hTalk : b'.talkLevel = b.talkLevel ∧ b'.talkDepth = b.talkDepth)
    (hBus : ∀ k : FbId, (b.buses.get k).SameGuard (b'.buses.get k)) : b.Moves b' := by
  refine ⟨hTalk, fun k => ?_, fun hGuard k => ?_⟩ <;> obtain ⟨hLock, hCeiling, hMember, hState, hRed⟩ := hBus k
  · exact ⟨hLock, hCeiling, hMember, by rw [hState]⟩
  · rw [hRed, hCeiling, hState]; exact hGuard k

theorem FbBus.rampTo_sameGuard (x : FbBus) (goal : LevelCode) (ms : Nat) : x.SameGuard (x.rampTo goal ms) :=
  ⟨rfl, rfl, rfl, rfl, rfl⟩

theorem FoldbackBlock.rampMembers_sameGuard (b : FoldbackBlock) (goal : LevelCode) (ms : Nat) (k : FbId) :
    (b.buses.get k).SameGuard ((b.rampMembers goal ms).buses.get k) := by
  show FbBus.SameGuard _ ((b.buses.map _).get k)
  rw [get_map]
  split
  · exact FbBus.rampTo_sameGuard _ _ _
  · exact ⟨rfl, rfl, rfl, rfl, rfl⟩

/-- The ramps that follow a change of talk leave the settings and the guards. -/
theorem FoldbackBlock.afterTalk_moves (b : FoldbackBlock) (was : Bool) : b.Moves (b.afterTalk was) := by
  unfold FoldbackBlock.afterTalk
  split
  · exact .of_sameGuard ⟨rfl, rfl⟩ fun _ => ⟨rfl, rfl, rfl, rfl, rfl⟩
  · split <;> exact .of_sameGuard ⟨rfl, rfl⟩ (b.rampMembers_sameGuard _ _)

theorem FoldbackBlock.holdLine_moves (b : FoldbackBlock) (n : LineId) (held : Bool) : b.Moves (b.holdLine n held) := by
  obtain ⟨hTalk, hSettings, hGuard⟩ := FoldbackBlock.afterTalk_moves { b with heldLines := put b.heldLines n held } b.talkActive
  exact ⟨hTalk, hSettings, hGuard⟩

theorem FoldbackBlock.setTalk_moves (b : FoldbackBlock) (on : Bool) : b.Moves (b.setTalk on) := by
  obtain ⟨hTalk, hSettings, hGuard⟩ := FoldbackBlock.afterTalk_moves { b with talkCommand := on } b.talkActive
  exact ⟨hTalk, hSettings, hGuard⟩

/-! ### The guard at the end of a window (R147, R152) -/

/-- The guard update keeps the reduction within its range, the ceiling being at most 0.0 dB. -/
theorem guardUpdate_range {p ceiling red : Int} (hLow : -80 ≤ red) (hHigh : red ≤ 0) :
    -80 ≤ guardUpdate p ceiling red ∧ guardUpdate p ceiling red ≤ 0 := by
  unfold guardUpdate
  split
  · rename_i hOver
    have hCut : (ceiling - p : Int) ≤ 0 := sub_nonpos.mpr (by linarith)
    exact ⟨le_max_left _ _, max_le (by decide) hCut⟩
  · split
    · rename_i hUp; exact ⟨by linarith, Int.add_one_le_iff.mpr hUp.1⟩
    · exact ⟨hLow, hHigh⟩

theorem FbBus.endWindow_settings (b : FbBus) :
    b.endWindow.lock = b.lock ∧ b.endWindow.ceiling = b.ceiling ∧ b.endWindow.member = b.member ∧
      (b.endWindow.guard = .off ↔ b.guard = .off) := by
  unfold FbBus.endWindow
  split <;> simp [*]

/-- A bus's part of the guard bounds (R147). -/
def FbBus.GuardOk (b : FbBus) : Prop :=
  (-80 ≤ b.red ∧ b.red ≤ 0) ∧ (b.guard = .off → b.red = 0) ∧ (-80 ≤ b.ceiling ∧ b.ceiling ≤ 0)

theorem FbBus.endWindow_guardOk {b : FbBus} (h : b.GuardOk) : b.endWindow.GuardOk := by
  obtain ⟨⟨hLow, hHigh⟩, hOff, hCeiling⟩ := h
  unfold FbBus.endWindow
  split
  · exact ⟨⟨hLow, hHigh⟩, hOff, hCeiling⟩
  · exact ⟨⟨hLow, hHigh⟩, fun e => by simp at e, hCeiling⟩
  · rename_i hMeter
    exact ⟨guardUpdate_range hLow hHigh, fun e => by simp [hMeter] at e, hCeiling⟩

theorem FoldbackBlock.endWindow_moves (b : FoldbackBlock) (k : FbId) :
    b.Moves { b with buses := update b.buses k FbBus.endWindow } := by
  refine ⟨⟨rfl, rfl⟩, fun q => ?_, fun hGuard q => ?_⟩ <;> show _ ∧ _ <;> dsimp only <;> by_cases hq : k = q
  · subst hq; simp only [get_update_same]; exact FbBus.endWindow_settings _
  · simp only [get_update_ne _ _ _ _ hq]; exact ⟨trivial, trivial, trivial, trivial⟩
  · subst hq; simp only [get_update_same]; exact FbBus.endWindow_guardOk (hGuard _)
  · simp only [get_update_ne _ _ _ _ hq]; exact hGuard q

/-! ### Cues of the list -/

section
variable {s : State} {n m : Nat}

theorem State.cueAfter_listed (e : s.cueAfter n = some m) : m ∈ s.cues.map (·.number) := by
  obtain ⟨c, hc, rfl⟩ := Option.map_eq_some_iff.mp e
  exact List.mem_map_of_mem (List.mem_of_find?_eq_some hc)

theorem State.cueAfter_lt (e : s.cueAfter n = some m) : n < m := by
  obtain ⟨c, hc, rfl⟩ := Option.map_eq_some_iff.mp e
  simpa using List.find?_some hc

theorem State.cueAfter_ne : s.cueAfter n ≠ some n := fun e => (State.cueAfter_lt e).ne rfl

theorem State.cueAt_listed (h : s.cueAt n ≠ none) : n ∈ s.cues.map (·.number) := by
  obtain ⟨c, hc⟩ := Option.ne_none_iff_exists'.mp h
  have hn : c.number = n := by simpa using List.find?_some hc
  exact hn ▸ List.mem_map_of_mem (List.mem_of_find?_eq_some hc)

theorem State.lastCue_listed (e : s.lastCue = some m) : m ∈ s.cues.map (·.number) := by
  obtain ⟨c, hc, rfl⟩ := Option.map_eq_some_iff.mp e
  exact List.mem_map_of_mem (List.mem_of_getLast? hc)

theorem State.cueBefore_listed (e : s.cueBefore n = some m) : m ∈ s.cues.map (·.number) := by
  obtain ⟨c, hc, rfl⟩ := Option.map_eq_some_iff.mp e
  exact List.mem_map_of_mem (List.mem_of_mem_filter (List.mem_of_getLast? hc))

/-- Where BACK moves the standby position, it moves it to a cue of the list (R101). -/
theorem State.backPosition_listed (hMoves : s.engine.standby ≠ s.backPosition) (e : s.backPosition = some m) :
    m ∈ s.cues.map (·.number) := by
  unfold State.backPosition at hMoves e
  split at e
  · exact State.lastCue_listed e
  · rename_i k hStandby
    split at e
    · rename_i hFirst
      rw [hStandby] at hMoves
      simp [hFirst] at hMoves
    · rename_i hBefore; cases e; exact State.cueBefore_listed hBefore

end

/-! ### The operations of the blocks -/

/-- A property kept by the operations of the fade engine and of the readers, and by every primitive change of the other blocks, a
firing and a STOP ALL apart. -/
structure Core (allow : Target → LevelCode → Prop) (P : State → Prop) : Prop where
  raise : ∀ {s key text}, P s → P (s.raise key text)
  engine : ∀ {s} {f : EngineBlock → EngineBlock}, (∀ b, ((f b).stopAllMs = b.stopAllMs ∧ (f b).standby = b.standby) ∧
    (f b).insts = b.insts ∧ (f b).nextStamp = b.nextStamp ∧ (f b).firing = b.firing) → P s → P (s.onEngine f)
  standby : ∀ {s n}, (∀ m, n = some m → m ∈ s.cues.map (·.number)) → P s → P (s.onEngine fun b => { b with standby := n })
  allowOff : ∀ t, allow t offCode
  snapLevel : ∀ {s t c}, allow t c → P s → P (s.snapLevel t c)
  fadeXpt : ∀ {s row bus c ms}, allow (.xpt row bus) c → P s → P (s.requestFade (.xpt row bus) c ms none false)
  fadeFrame : ∀ {s}, P s → P s.fadeFrame
  fadeDone : ∀ {s t}, P s → P (s.fadeDone t)
  setTag : ∀ {s t x}, P s → P (s.setTag t x)
  counts : ∀ {s} {f : FetchBlock → FetchBlock},
    (∀ b, (f b).sounds = b.sounds ∧ (f b).refill = b.refill ∧ (f b).readers = b.readers) → P s → P (s.onFetch f)
  fill : ∀ {s r i samples}, P s → P (s.onReader r fun x => x.fill i samples)
  enterIdle : ∀ {s r event}, P s → P (s.enterIdle r event)
  testStart : ∀ {s r}, P s → P (s.testStart r)
  testPrimed : ∀ {s r}, P s → P (s.testPrimed r)
  play : ∀ {s v n d ms}, P s → P (s.play v n d ms none)
  stopVoice : ∀ {s v ms}, P s → P (s.stopVoice v ms none)
  prime : ∀ {s v n}, (s.voice v).state = .idle → P s → P (s.prime v n)
  startPlayer : ∀ {s p n}, P s → P (s.startPlayer p n)
  failSlot : ∀ {s r i}, P s → P (s.failSlot r i)
  grantTag : ∀ {s}, P s → P s.grantTag
  sampleStep : ∀ {s r}, P s → P (s.sampleStep r)
  router : ∀ {s} {f : RouterBlock → RouterBlock}, (∀ b : RouterBlock, b.Moves (f b)) →
    ((∀ u, P u → u.CallsOk) → (s.onRouter f).CallsOk) → P s → P (s.onRouter f)
  cast : ∀ {s} {f : CastBlock → CastBlock}, (∀ b : CastBlock, b.Moves (f b)) → P s → P (s.onCast f)
  mic : ∀ {s} {f : MicBlock → MicBlock}, (∀ b, (f b).sup = b.sup) → P s → P (s.onMic f)
  clips : ∀ {s} {f : Vector Clip 25 → Vector Clip 25}, P s → P (s.onMatrix fun b => { b with clips := f b.clips })
  foldback : ∀ {s} {f : FoldbackBlock → FoldbackBlock}, (∀ b : FoldbackBlock, b.Moves (f b)) → P s → P (s.onFoldback f)
  lines : ∀ {s} {f : LineBlock → LineBlock}, (∀ b : LineBlock, b.Moves (f b)) → P s → P (s.onLines f)
  tick : ∀ {s}, P s → P { s with now := s.now + 1 }

section
variable {allow : Target → LevelCode → Prop} {P : State → Prop} (h : Closed allow P) {s : State}
include h

/-- A change of the store's tags and counts alone. -/
theorem Closed.counts {f : FetchBlock → FetchBlock}
    (hf : ∀ b, (f b).sounds = b.sounds ∧ (f b).refill = b.refill ∧ (f b).readers = b.readers) (hs : P s) :
    P (s.onFetch f) := by
  refine h.fetch (fun b => ?_) hs
  obtain ⟨hSounds, hRefill, hReaders⟩ := hf b
  exact ⟨hSounds, hRefill, fun v => .inl (by rw [hReaders])⟩

theorem Closed.fadeDone {t : Target} (hs : P s) : P (s.fadeDone t) := by
  unfold State.fadeDone
  split
  · exact hs
  · rename_i f e
    split
    · have hGoal := h.allowGoal hs (List.mem_of_find?_eq_some e)
      have hTold := h.ownerDone (owner := f.owner) (h.dropFade (t := f.target) (h.level hGoal hs))
      unfold State.completeFade
      dsimp only
      split
      · split
        · exact h.enterIdle hTold
        · exact hTold
      · exact hTold
    · exact hs

theorem Closed.core : Core allow P where
  raise := h.raise
  engine hf := h.engine fun b => (hf b).1
  standby := h.standby
  allowOff := h.allowOff
  snapLevel := h.snapLevel
  fadeXpt := h.requestFade
  fadeFrame := h.fadeFrame
  fadeDone := h.fadeDone
  setTag := h.setTag
  counts := h.counts
  fill := h.onReaderAt fun x => x.fill_level ..
  enterIdle := h.enterIdle
  testStart := h.testStart
  testPrimed := h.testPrimed
  play := h.play
  stopVoice := h.stopVoice
  prime _ := h.prime
  startPlayer := h.startPlayer
  failSlot := h.failSlot
  grantTag := h.grantTag
  sampleStep := h.sampleStep
  router := h.router
  cast := h.cast
  mic := h.mic
  clips := h.clips
  foldback := h.foldback
  lines := h.lines
  tick := h.tick

end

section
variable {allow : Target → LevelCode → Prop} {P : State → Prop} (h : Core allow P) {s : State}
include h

theorem Core.raiseCue {e : CueEvent} (hs : P s) : P (s.raiseCue e) := by
  unfold State.raiseCue
  exact h.raise (h.engine (fun _ => ⟨⟨rfl, rfl⟩, rfl, rfl, rfl⟩) hs)

theorem Core.stopPlayer {p : PlayerId} (hs : P s) : P (s.stopPlayer p) := by
  unfold State.stopPlayer
  split
  · exact hs
  · exact h.enterIdle hs

/-! ### The router -/

theorem Core.raiseCall {c : Call} {st : CallState} {p : Option PlayerId} {k : Option CallCause} {b : Option Nat}
    {e : String} (hs : P s) : P (s.raiseCall c st p k b e) := h.raise hs

theorem Core.onZone {z : ZoneId} {f : Zone → Zone}
    (hf : ∀ x, f x = { x with holding := (f x).holding, duck := (f x).duck, ramp := (f x).ramp }) (hs : P s) :
    P (s.onZone z f) := by
  refine h.router (fun b => ⟨rfl, fun q => ?_⟩) (fun hOk => hOk s hs) hs
  show (update b.zones z f).get q = _
  by_cases hq : z = q
  · subst hq; simpa only [get_update_same] using hf _
  · simp only [get_update_ne _ _ _ _ hq]

theorem Core.dropCall {id : Nat} (hs : P s) : P (s.dropCall id) :=
  h.router (fun _ => .of_zones_eq rfl rfl) (fun hOk => (hOk s hs).filter _) hs

theorem Core.closeCall {c : Call} {k : CallCause} {b : Option Nat} (hs : P s) : P (s.closeCall c k b) := by
  have hZones : P (c.zones.foldl (fun s z => s.onZone z Zone.release) s) :=
    foldl_holds (fun _ _ hs => h.onZone (fun _ => rfl) hs) _ hs
  unfold State.closeCall
  refine h.raiseCall (h.dropCall ?_)
  split
  · simp only
    split
    · exact h.stopPlayer hZones
    · exact hZones
  · exact hs

/-- A call of the table goes LIVE: no call that stays holds the player it takes. -/
theorem Core.grantCall {c : Call} {player : Option PlayerId} (hc : s.callAt c.id = some c) (hs : P s) :
    P (s.grantCall c player) := by
  unfold State.grantCall
  refine h.raiseCall ?_
  have hEnded : ∀ l : List Call, P (l.foldl (fun s d => s.closeCall d .preempted (some c.id)) s) := fun l =>
    foldl_holds (fun _ _ hs => h.closeCall hs) l hs
  have hTaken : ∀ t, P t → P (c.zones.foldl (fun s z => s.onZone z (Zone.take c.id c.req.duck)) t) := fun t ht =>
    foldl_holds (fun _ _ hs => h.onZone (fun _ => rfl) hs) _ ht
  have hTable := fun hOk : ∀ u, P u → u.CallsOk => State.grantCall_table hc player (hOk s hs) rfl (hOk _ (hEnded _))
  split
  · exact h.startPlayer (hTaken _ (h.router (fun _ => .of_zones_eq rfl rfl) hTable (hEnded _)))
  · exact hTaken _ (h.router (fun _ => .of_zones_eq rfl rfl) hTable (hEnded _))

theorem Core.visit {w : Walk} {id : Nat} (hw : P w.state) : P (w.visit id).state := by
  unfold Walk.visit
  split
  · exact hw
  · rename_i c hc
    have hc : w.state.callAt c.id = some c := by rwa [State.callAt_id hc]
    split
    · exact hw
    · split
      · exact h.grantCall hc hw
      · exact hw

theorem Core.walkOnce (hs : P s) : P s.walkOnce.state :=
  foldl_holds (P := fun w : Walk => P w.state) (fun _ _ hw => h.visit hw) _ hs

theorem Core.walkUpTo {n : Nat} (hs : P s) : P (s.walkUpTo n) := by
  induction n generalizing s with
  | zero => exact hs
  | succ n ih =>
    unfold State.walkUpTo
    dsimp only
    split
    · exact ih (h.walkOnce hs)
    · exact h.walkOnce hs

theorem Core.walk (hs : P s) : P s.walk := h.walkUpTo hs

theorem Core.endCall {c : Call} {k : CallCause} (hs : P s) : P (s.endCall c k) := h.walk (h.closeCall hs)

theorem Core.playerReports {p : PlayerId} {k : CallCause} (hs : P s) : P (s.playerReports p k) := by
  unfold State.playerReports
  split
  · exact hs
  · exact h.endCall hs

theorem Core.enterCall {q : CallRequest} {zones : List ZoneId} {line : Option LineId}
    (hRoom : (∀ u, P u → u.CallsOk) → s.router.calls.length < Config.maxCalls) (hs : P s) :
    P (s.enterCall q zones line) :=
  h.raiseCall (h.router (fun _ => .of_zones_eq rfl rfl) (fun hOk => State.enterCall_table _ _ _ (hOk s hs) (hRoom hOk)) hs)

theorem Core.submit {q : CallRequest} {line : Option LineId} {id : Nat} {t : State} (hs : P s)
    (e : s.submit q line = .ok (id, t)) : P t := by
  unfold State.submit at e
  dsimp only at e
  split at e
  · cases e
  · split at e
    · cases e
    · rename_i hRoom
      cases e; exact h.walk (h.enterCall (fun _ => RouterBlock.room_free hRoom) hs)
    · rename_i c hRoom
      cases e
      exact h.walk (h.enterCall (fun hOk => State.room_displacing (hOk s hs) hRoom _ _) (h.closeCall hs))

theorem Core.releaseLine {n : LineId} (hs : P s) : P (s.releaseLine n) := by
  unfold State.releaseLine
  split
  · exact hs
  · exact h.endCall hs

theorem Core.readerFrame {r : ReaderId} (hs : P s) : P (s.readerFrame r) := by
  unfold State.readerFrame
  dsimp only
  split
  · exact h.sampleStep hs
  · split
    · exact h.playerReports (h.sampleStep hs)
    · exact h.sampleStep hs

theorem Core.slotFailed {r : ReaderId} {i : RingSlot} (hs : P s) : P (s.slotFailed r i) := by
  unfold State.slotFailed
  dsimp only
  split
  · exact h.failSlot hs
  · split
    · exact h.playerReports (h.failSlot hs)
    · exact h.failSlot hs

/-! ### The cue engine -/

theorem Core.releaseUnwanted {v : VoiceId} (hs : P s) : P (s.releaseUnwanted v) := by
  unfold State.releaseUnwanted
  split
  · exact h.enterIdle hs
  · exact hs

theorem Core.primeWanted {e : VoiceId × SoundId} (hs : P s) : P (s.primeWanted e) := by
  unfold State.primeWanted
  split
  · rename_i hIdle; exact h.prime hIdle hs
  · exact hs

theorem Core.evaluatePriming (hs : P s) : P s.evaluatePriming := by
  have hReleased : ∀ l : List VoiceId, P (l.foldl State.releaseUnwanted s) := fun l =>
    foldl_holds (fun _ _ hs => h.releaseUnwanted hs) l hs
  have hPrimed : ∀ (l : List (VoiceId × SoundId)) t, P t → P (l.foldl State.primeWanted t) := fun l _ ht =>
    foldl_holds (fun _ _ hs => h.primeWanted hs) l ht
  unfold State.evaluatePriming
  exact h.engine (fun _ => ⟨⟨rfl, rfl⟩, rfl, rfl, rfl⟩) (hPrimed _ _ (hReleased _))

theorem Core.settleReady (hs : P s) : P s.settleReady := by
  unfold State.settleReady
  refine h.engine (fun _ => ⟨⟨rfl, rfl⟩, rfl, rfl, rfl⟩) ?_
  split
  · split
    · exact hs
    · exact h.raise hs
  · split
    · exact hs
    · exact h.raiseCue hs

theorem Core.finish (hs : P s) : P s.finish := by
  unfold State.finish
  refine h.settleReady ?_
  split
  · exact h.evaluatePriming hs
  · exact hs

theorem Core.moveStandby {n : Option Nat} (hListed : s.engine.standby ≠ n → ∀ m, n = some m → m ∈ s.cues.map (·.number))
    (hs : P s) : P (s.moveStandby n) := by
  unfold State.moveStandby
  split
  · exact hs
  · rename_i hMoves; exact h.raiseCue (h.evaluatePriming (h.standby (hListed hMoves) hs))

theorem Core.onBus {k : FbId} {f : FbBus → FbBus} (hf : ∀ x : FbBus, x.SameGuard (f x)) (hs : P s) : P (s.onBus k f) := by
  refine h.foldback (fun b => .of_sameGuard ⟨rfl, rfl⟩ fun q => ?_) hs
  show FbBus.SameGuard _ ((update b.buses k f).get q)
  by_cases hq : k = q
  · subst hq; rw [get_update_same]; exact hf _
  · rw [get_update_ne _ _ _ _ hq]; exact ⟨rfl, rfl, rfl, rfl, rfl⟩

theorem Core.countSkip {bus : Bus} (hs : P s) : P (s.countSkip bus) := by
  unfold State.countSkip
  split
  · exact h.onBus (fun _ => ⟨rfl, rfl, rfl, rfl, rfl⟩) hs
  · exact hs

theorem Core.fireCall {n : FireCounts} {k : PresetId} (hs : P s) : P (s.fireCall n k).1 := by
  unfold State.fireCall
  split
  · exact hs
  · split
    · exact hs
    · rename_i e; exact h.submit hs e

theorem Core.onLine {n : LineId} {f : LineRec → LineRec}
    (hf : ∀ x, (f x).fn = x.fn ∧ (f x).activeHigh = x.activeHigh) (hs : P s) : P (s.onLine n f) :=
  h.lines (fun _ => .update hf) hs

end

section
variable {allow : Target → LevelCode → Prop} {P : State → Prop} (h : Closed allow P) {s : State}
include h

theorem Closed.fireLevel {n : FireCounts} {slot : InstSlot} {row : Row} {bus : Bus} {code : LevelCode} {ms : Nat}
    (hAllow : allow (.xpt row bus) code) (hs : P s) : P (s.fireLevel n slot row bus code ms).1 := by
  unfold State.fireLevel
  split
  · exact h.core.countSkip hs
  · split
    · exact hs
    · split
      · exact h.snapLevel hAllow hs
      · exact h.requestFade hAllow hs

theorem Closed.fireAction {slot : InstSlot} {acc : State × FireCounts} {a : Action}
    (hAllow : ∀ row bus code ms, a = .level row bus code ms → allow (.xpt row bus) code) (hs : P acc.1) :
    P (State.fireAction slot acc a).1 := by
  obtain ⟨s, n⟩ := acc
  cases a with
  | level row bus code ms => exact h.fireLevel (hAllow _ _ _ _ rfl) hs
  | play v snd fadeIn =>
    unfold State.fireAction
    dsimp only
    split
    · exact hs
    · exact h.play hs
  | stop v ms => exact h.stopVoice hs
  | call k => exact h.core.fireCall hs
  | line l on => exact h.core.onLine (fun _ => ⟨rfl, rfl⟩) hs

theorem Closed.fireActions {slot : InstSlot} {l : List Action} {acc : State × FireCounts}
    (hAllow : ∀ row bus code ms, Action.level row bus code ms ∈ l → allow (.xpt row bus) code) (hs : P acc.1) :
    P (l.foldl (State.fireAction slot) acc).1 := by
  induction l generalizing acc with
  | nil => exact hs
  | cons a l ih =>
    exact ih (fun _ _ _ _ hm => hAllow _ _ _ _ (List.mem_cons_of_mem _ hm))
      (h.fireAction (fun row bus code ms e => hAllow row bus code ms (by simp [e])) hs)

theorem Closed.disownStarts {slot : InstSlot} (hs : P s) : P (s.disownStarts slot) := by
  refine h.fetch (fun _ => ⟨rfl, rfl, fun v => .inl ?_⟩) hs
  dsimp only
  rw [get_map]
  split <;> rfl

theorem Closed.makeRoom (hs : P s) : P s.makeRoom := by
  unfold State.makeRoom
  split
  · split
    · exact h.endLink (h.raiseCue (h.disownStarts (h.disownFades (h.engine (fun _ => ⟨rfl, rfl⟩) hs))))
    · exact hs
  · exact hs

theorem Closed.cancelChain {n : Nat} (hs : P s) : P (s.cancelChain n) := by
  unfold State.cancelChain
  split
  · exact hs
  · split
    · exact h.raiseCue (h.engine (fun _ => ⟨rfl, rfl⟩) hs)
    · exact hs

theorem Closed.openInst {c : Cue} (hs : P s) : P (s.openInst c) := by
  exact h.engine (f := fun b => { b with
      insts := b.insts ++ [{ slot := b.freeSlot, cue := c.number, stamp := b.nextStamp, count := 0,
                             chainTarget := s.cueAfter c.number, endLink := c.endLink }]
      nextStamp := b.nextStamp + 1, lastFired := some c.number, fired := bump b.fired, firing := some b.freeSlot })
    (fun _ => ⟨rfl, rfl⟩) (h.standby (n := s.cueAfter c.number) (fun _ => State.cueAfter_listed) hs)

theorem Closed.startLink {c : Cue} (hs : P s) : P (s.startLink c) := by
  unfold State.startLink
  split
  · exact h.setChain hs
  · exact hs

theorem Closed.closeFiring {c : Cue} {slot : InstSlot} {n : FireCounts} (hs : P s) : P (s.closeFiring c slot n).1 := by
  have hFired : ∀ e, P ((s.raiseCue e).onEngine fun b => { b with firing := none }) := fun e => h.engine (fun _ => ⟨rfl, rfl⟩) (h.raiseCue hs)
  unfold State.closeFiring
  dsimp only
  split
  · split
    · exact h.completeInst (hFired _)
    · exact hFired _
  · exact hFired _

theorem Closed.fire {c : Cue} (hAllow : ∀ row bus code ms, Action.level row bus code ms ∈ c.actions → allow (.xpt row bus) code)
    (hs : P s) : P (s.fire c).1 := by
  unfold State.fire
  dsimp only
  exact h.closeFiring (h.core.evaluatePriming (h.startLink (h.fireActions hAllow (h.openInst (h.cancelChain (h.makeRoom hs))))))

end

theorem State.cueAt_mem {s : State} {n : Nat} {c : Cue} (e : s.cueAt n = some c) : c ∈ s.cues := List.mem_of_find?_eq_some e

theorem State.standbyCue_mem {s : State} {c : Cue} (e : s.standbyCue = some c) : c ∈ s.cues := by
  unfold State.standbyCue at e
  obtain ⟨n, -, hn⟩ := Option.bind_eq_some_iff.mp e
  exact State.cueAt_mem hn

theorem State.goCue_mem {s : State} {n : Option Nat} {c : Cue} (e : s.goCue n = .ok c) : c ∈ s.cues := by
  unfold State.goCue at e
  split at e
  · cases e
  · split at e <;> split at e
    · cases e; exact State.cueAt_mem ‹_›
    · cases e
    · cases e; exact State.standbyCue_mem ‹_›
    · cases e

section
variable {allow : Target → LevelCode → Prop} {P : State → Prop} (h : Closed allow P) {s : State}
include h

/-- A firing of a cue of the list. -/
theorem Closed.fireListed {c : Cue} (hc : c ∈ s.cues) (hs : P s) : P (s.fire c).1 :=
  h.fire (fun _ _ _ _ hm => h.allowAction hs hc hm) hs

theorem Closed.stopAll {ms : Nat} (hs : P s) : P (s.stopAll ms) := by
  have hStarting : P (s.startingVoices.foldl (fun s v => s.enterIdle (voiceReader v) "stopped")
      (s.onEngine fun b => { b with insts := [] })) :=
    foldl_holds (fun _ _ hs => h.enterIdle hs) _ (h.engine (fun _ => ⟨rfl, rfl⟩) hs)
  have hSounding : P (s.soundingVoices.foldl (fun s v => s.stopVoice v ms none)
      (s.startingVoices.foldl (fun s v => s.enterIdle (voiceReader v) "stopped")
        (s.onEngine fun b => { b with insts := [] }))) :=
    foldl_holds (fun _ _ hs => h.stopVoice hs) _ hStarting
  unfold State.stopAll
  exact h.raiseCue (h.engine (fun _ => ⟨rfl, rfl⟩) (h.mapPool (g := fun f => { f with owner := none }) (fun _ => ⟨rfl, rfl, rfl⟩)
    (h.filterPool hSounding)))

end

/-- A property kept by the operations of the blocks, and by a firing and a STOP ALL. -/
structure Base (allow : Target → LevelCode → Prop) (P : State → Prop) : Prop extends Core allow P where
  fireListed : ∀ {s c}, c ∈ s.cues → P s → P (s.fire c).1
  stopAll : ∀ {s ms}, P s → P (s.stopAll ms)

theorem Closed.base {allow : Target → LevelCode → Prop} {P : State → Prop} (h : Closed allow P) : Base allow P where
  toCore := h.core
  fireListed := h.fireListed
  stopAll := h.stopAll

section
variable {allow : Target → LevelCode → Prop} {P : State → Prop} (h : Base allow P) {s : State}
include h

theorem Base.expireChain (hs : P s) : P s.expireChain := by
  unfold State.expireChain
  split
  · exact hs
  · split
    · exact hs
    · dsimp only
      have hRemoved : P (s.onEngine fun b => { b with chain := none }) := h.engine (fun _ => ⟨⟨rfl, rfl⟩, rfl, rfl, rfl⟩) hs
      split
      · rename_i cue e
        refine h.fireListed (State.standbyCue_mem (s := s.onEngine fun b => { b with chain := none }) ?_) hRemoved
        split at e
        · exact e
        · cases e
      · exact h.raiseCue hRemoved

theorem Base.chainFrame (hs : P s) : P s.chainFrame := h.engine (fun _ => ⟨⟨rfl, rfl⟩, rfl, rfl, rfl⟩) hs

theorem Base.setRun {halted : Bool} (hs : P s) : P (s.setRun halted) := by
  unfold State.setRun
  split
  · exact hs
  · exact h.raiseCue (h.engine (fun _ => ⟨⟨rfl, rfl⟩, rfl, rfl, rfl⟩) hs)

/-! ### The cast table and the supervisor -/

theorem Base.onPerf {p : PerfId} {f : Perf → Perf}
    (hf : ∀ x, f x = { x with active := (f x).active, state := (f x).state, modeAuto := (f x).modeAuto,
                              compromised := (f x).compromised }) (hs : P s) : P (s.onPerf p f) :=
  h.cast (fun _ => .update_perf hf) hs

theorem Base.onRole {r : RoleId} {f : Role → Role} (hf : ∀ x, f x = { x with xfade := (f x).xfade }) (hs : P s) :
    P (s.onRole r f) := h.cast (fun _ => .update_role hf) hs

theorem Base.changeover {p : PerfId} {i : InputId} (hs : P s) : P (s.changeover p i) := by
  unfold State.changeover
  split
  · exact hs
  · dsimp only
    split
    · exact h.onPerf (fun _ => rfl) hs
    · exact h.onRole (fun _ => rfl) (h.onPerf (fun _ => rfl) hs)

theorem Base.raisePerf {p : PerfId} {event : String} (hs : P s) : P (s.raisePerf p event) := h.raise hs

theorem Base.raisePerfIf {p : PerfId} {event : Option String} (hs : P s) : P (s.raisePerfIf p event) := by
  cases event with
  | none => exact hs
  | some e => exact h.raisePerf hs

theorem Base.select {p : PerfId} (hs : P s) : P (s.select p).1 := by
  unfold State.select
  dsimp only
  split
  · exact hs
  · split
    · exact h.onPerf (fun _ => rfl) (h.changeover hs)
    · split
      · split
        · exact hs
        · exact h.onPerf (fun _ => rfl) hs
      · split
        · exact hs
        · exact h.onPerf (fun _ => rfl) hs

theorem Base.afterHealth {p : PerfId} {i : InputId} {before after : Health} (hs : P s) :
    P (s.afterHealth p i before after).1 := by
  unfold State.afterHealth
  dsimp only
  split
  · exact hs
  · split
    · exact h.select hs
    · split
      · exact h.select hs
      · split
        · exact h.onPerf (fun _ => rfl) (h.changeover hs)
        · exact hs

theorem Base.setHealth {i : InputId} {x : Option HealthRec} (hs : P s) : P (s.setHealth i x) := h.mic (fun _ => rfl) hs

theorem Base.changeHealth {i : InputId} {f : HealthRec → HealthRec} (hs : P s) : P (s.changeHealth i f) := by
  unfold State.changeHealth
  split
  · rename_i x p _ _ _
    have hAfter := h.afterHealth (p := p) (i := i) (before := x.state) (after := (f x).state)
      (h.setHealth (i := i) (x := some (f x)) hs)
    dsimp only
    refine h.raisePerfIf ?_
    split
    · exact hAfter
    · exact h.raise hAfter
  · exact hs

theorem Base.takeRecord {d : TlmRecord} (hs : P s) : P (s.takeRecord d) := by
  unfold State.takeRecord State.takeReference
  refine h.changeHealth ?_
  split
  · exact h.mic (fun _ => rfl) hs
  · exact hs

theorem Base.setAuto {p : PerfId} (hs : P s) : P (s.setAuto p) := by
  have hAuto : P (s.onPerf p fun y => { y with modeAuto := true, state := placeState y.activePlace }) :=
    h.onPerf (fun _ => rfl) hs
  unfold State.setAuto
  refine h.raisePerf ?_
  split
  · exact hAuto
  · split
    · exact hAuto
    · exact h.select hAuto

theorem Base.forceInput {p : PerfId} {i : InputId} (hs : P s) : P (s.forceInput p i) :=
  h.raisePerf (h.onPerf (fun _ => rfl) (h.changeover hs))

theorem Base.onTlm {f : Telemetry → Telemetry} (hs : P s) : P (s.onTlm f) := h.mic (fun _ => rfl) hs

theorem Base.discard {cause : Discard} (hs : P s) : P (s.discard cause) := h.raise (h.onTlm hs)

theorem Base.checkRecord {bytes : List Byte} (hs : P s) : P (s.checkRecord bytes) := by
  unfold State.checkRecord
  split
  · split
    · exact h.discard hs
    · split
      · exact h.discard hs
      · exact h.mic (fun _ => rfl) (h.onTlm hs)
  · exact hs

theorem Base.huntByte {byte : Byte} {framing : Bool} (hs : P s) : P (s.huntByte byte framing) := by
  unfold State.huntByte
  split <;> exact h.onTlm hs

theorem Base.takeByte {byte : Byte} {framing : Bool} (hs : P s) : P (s.takeByte byte framing) := by
  unfold State.takeByte
  split
  · exact h.huntByte hs
  · split
    · exact h.onTlm hs
    · exact h.discard hs
  · split
    · exact h.huntByte (h.discard hs)
    · split
      · exact h.discard hs
      · dsimp only
        split
        · exact h.checkRecord (h.onTlm hs)
        · exact h.onTlm hs

/-! ### The foldback section and the lines -/

theorem Base.endWindow {k : FbId} (hs : P s) : P (s.endWindow k) := by
  have hEnded : P (s.onBus k FbBus.endWindow) := h.foldback (fun b => b.endWindow_moves k) hs
  unfold State.endWindow
  dsimp only
  split
  · exact h.raise hEnded
  · split
    · exact h.raise hEnded
    · exact hEnded

theorem Base.endWindows (hs : P s) : P s.endWindows := by
  have hEnded : ∀ l : List FbId, P (l.foldl State.endWindow s) := fun l => foldl_holds (fun _ _ hs => h.endWindow hs) l hs
  unfold State.endWindows
  exact h.foldback (fun _ => .of_sameGuard ⟨rfl, rfl⟩ fun _ => ⟨rfl, rfl, rfl, rfl, rfl⟩) (hEnded _)

theorem Base.refusePress {n : LineId} {why : String} (hs : P s) : P (s.refusePress n why) :=
  h.raise (h.onLine (fun _ => ⟨rfl, rfl⟩) hs)

theorem Base.pressGo {n : LineId} (hs : P s) : P (s.pressGo n) := by
  unfold State.pressGo
  split
  · rename_i e; exact h.fireListed (State.goCue_mem e) hs
  · exact h.refusePress (h.raiseCue hs)

theorem Base.pressPreset {n : LineId} {k : PresetId} (hs : P s) : P (s.pressPreset n k) := by
  unfold State.pressPreset
  split
  · exact h.refusePress hs
  · split
    · rename_i e; exact h.submit hs e
    · exact h.refusePress hs

theorem Base.press {n : LineId} (hs : P s) : P (s.press n) := by
  unfold State.press
  split
  · exact h.pressGo hs
  · exact h.setRun hs
  · exact h.setRun hs
  · exact h.stopAll hs
  · exact h.pressPreset hs
  · exact h.foldback (fun b => b.holdLine_moves ..) hs
  all_goals exact hs

theorem Base.release {n : LineId} (hs : P s) : P (s.release n) := by
  unfold State.release
  split
  · exact h.releaseLine hs
  · exact h.foldback (fun b => b.holdLine_moves ..) hs
  all_goals exact hs

theorem Base.lineDone {n : LineId} (hs : P s) : P (s.lineDone n) := by
  have hTurned : P (s.onLine n LineRec.turn) := h.onLine (fun _ => ⟨rfl, rfl⟩) hs
  unfold State.lineDone State.debounced
  split
  · dsimp only
    split
    · exact h.press hTurned
    · exact h.release hTurned
  · exact hs

/-! ### The events of the timers and the store -/

theorem Base.setClip {bus : Bus} {c : Clip} (hs : P s) : P (s.setClip bus c) :=
  h.clips (f := fun v => put v (colPos bus) c) hs

theorem Base.feedClip {e : Bus × Sample} (hs : P s) : P (s.feedClip e) := by
  unfold State.feedClip
  dsimp only
  split
  · exact h.raise (h.setClip hs)
  · exact h.setClip hs

theorem Base.clearClip {bus : Bus} (hs : P s) : P (s.clearClip bus) := by
  unfold State.clearClip
  dsimp only
  split
  · exact h.raise (h.setClip hs)
  · exact hs

theorem Base.crossfadeDone {r : RoleId} (hs : P s) : P (s.crossfadeDone r) := by
  unfold State.crossfadeDone
  split
  · exact hs
  · split
    · exact h.onRole (fun _ => rfl) hs
    · exact hs

theorem Base.takeHanded (hs : P s) : P s.takeHanded := by
  unfold State.takeHanded
  split
  · exact hs
  · exact h.takeRecord (h.mic (fun _ => rfl) hs)

theorem Base.dropoutDone {i : InputId} (hs : P s) : P (s.dropoutDone i) := by
  unfold State.dropoutDone
  split
  · exact hs
  · split
    · exact h.changeHealth hs
    · exact hs

theorem Base.restoreDone {i : InputId} (hs : P s) : P (s.restoreDone i) := by
  unfold State.restoreDone
  split
  · exact hs
  · split
    · exact h.changeHealth hs
    · exact hs

theorem Base.staleDone {i : InputId} (hs : P s) : P (s.staleDone i) := by
  unfold State.staleDone
  split
  · exact hs
  · split
    · exact h.changeHealth hs
    · exact hs

theorem Base.referenceDone (hs : P s) : P s.referenceDone := by
  unfold State.referenceDone
  split
  · exact h.mic (fun _ => rfl) hs
  · exact hs

theorem Base.raiseStore {e : String} {t : TagId} (hs : P s) : P (s.raiseStore e t) := h.raise hs

theorem Base.tagDone {t : TagId} (hs : P s) : P (s.tagDone t) := by
  have hLost : P ((s.setTag t .lost).onFetch fun b => { b with timeouts := bump b.timeouts }) :=
    h.counts (fun _ => ⟨rfl, rfl, rfl⟩) (h.setTag hs)
  unfold State.tagDone
  dsimp only
  split
  · split
    · exact h.raiseStore (h.slotFailed hLost)
    · exact hs
  · split
    · exact h.raiseStore hLost
    · exact hs
  · exact hs
  · exact hs

theorem Base.discardCompletion {t : TagId} (hs : P s) : P (s.discardCompletion t) := by
  unfold State.discardCompletion
  split
  · exact h.raiseStore (h.counts (fun _ => ⟨rfl, rfl, rfl⟩) hs)
  · exact h.setTag hs
  · exact h.raiseStore (h.setTag hs)
  · exact hs

theorem Base.completeOk {t : TagId} {words : Vector Word32 256} (hs : P s) : P (s.completeOk t words) := by
  unfold State.completeOk
  split
  · exact h.testStart (h.testPrimed (h.fill (h.setTag hs)))
  · exact h.discardCompletion hs

theorem Base.completeError {t : TagId} (hs : P s) : P (s.completeError t) := by
  have hCounted : P (s.onFetch fun b => { b with errors := bump b.errors }) := h.counts (fun _ => ⟨rfl, rfl, rfl⟩) hs
  unfold State.completeError
  dsimp only
  split
  · exact h.raiseStore (h.slotFailed (h.setTag hCounted))
  · exact h.raiseStore (h.discardCompletion hCounted)
  · exact h.discardCompletion (h.raiseStore hCounted)

theorem Base.callDone {id : Nat} (hs : P s) : P (s.callDone id) := by
  unfold State.callDone
  split
  · exact hs
  · split
    · exact h.endCall hs
    · exact hs

theorem Base.windowDone (hs : P s) : P s.windowDone := by
  unfold State.windowDone
  split
  · exact h.endWindows hs
  · exact hs

end

end Sys2Proof.Machine
end

section
/-! PROOFS. Invariants of the blocks, concluded: the frame, the events, and the commands that set what was loaded. -/

namespace Sys2Proof.Machine

open Sys2Proof

theorem saturate_inRange24 (v : Sample) : inRange24 (saturate v) = true := by
  unfold inRange24 saturate
  simp only [decide_eq_true_eq]
  exact ⟨le_max_left _ _, max_le (by decide) (min_le_left _ _)⟩

/-- The samples a frame forms lie within 24 bits (R8, R20). -/
theorem State.audio_outputs_inRange (s : State) (slots : Vector Word32 64) :
    ∀ v ∈ (s.audio slots).outputs, inRange24 v = true := by
  intro v hv
  obtain ⟨x, -, rfl⟩ := List.mem_map.mp hv
  exact saturate_inRange24 x

theorem FbBus.frame_sameGuard (x : FbBus) : x.SameGuard x.frame := ⟨rfl, rfl, rfl, rfl, rfl⟩

theorem FbBus.meter_sameGuard (x : FbBus) (v : Sample) : x.SameGuard (x.meter v) := by
  unfold FbBus.meter; split <;> exact ⟨rfl, rfl, rfl, rfl, rfl⟩

theorem LineRec.frame_settings (pin : Bool) (x : LineRec) :
    (x.frame pin).fn = x.fn ∧ (x.frame pin).activeHigh = x.activeHigh := by
  unfold LineRec.frame
  split
  · exact ⟨rfl, rfl⟩
  · split <;> exact ⟨rfl, rfl⟩

section
variable {allow : Target → LevelCode → Prop} {P : State → Prop} (h : Base allow P) {s : State}
include h

/-! ### The frame -/

theorem Base.driveLamps (hs : P s) : P s.driveLamps := by
  refine h.lines (fun b n => ?_) hs
  dsimp only
  rw [get_map]
  exact ⟨rfl, rfl⟩

theorem Base.countFrame {pins : Vector Bool 16} (hs : P s) : P (s.countFrame pins) := by
  unfold State.countFrame
  have hCounted : P ({ s with now := s.now + 1 } : State).fadeFrame.chainFrame := h.chainFrame (h.fadeFrame (h.tick hs))
  dsimp only
  refine h.lines (fun b n => ?_) (h.cast (fun b => ⟨⟨rfl, rfl, rfl⟩, fun r => ?_, fun p => rfl⟩)
    (h.foldback (fun b => .of_sameGuard ⟨rfl, rfl⟩ fun k => ?_) (h.router (fun b => ⟨rfl, fun z => ?_⟩)
      (fun hOk => have hTable := hOk _ hCounted; hTable) hCounted)))
  · dsimp only; rw [get_ofFn]; exact LineRec.frame_settings _ _
  · dsimp only; rw [get_map]; rfl
  · dsimp only; rw [get_map]; exact FbBus.frame_sameGuard _
  · dsimp only; rw [get_map]; rfl

theorem Base.meterFrame {a : Audio} (hs : P s) : P (s.meterFrame a) := by
  have hFed : ∀ l : List (Bus × Sample), P (l.foldl State.feedClip s) := fun l => foldl_holds (fun _ _ hs => h.feedClip hs) l hs
  unfold State.meterFrame
  refine h.foldback (fun b => .of_sameGuard ⟨rfl, rfl⟩ fun k => ?_) (hFed _)
  dsimp only
  rw [get_ofFn]
  exact FbBus.meter_sameGuard _ _

theorem Base.computeFrame {slots : Vector Word32 64} {pins : Vector Bool 16}
    (hPorts : ∀ t outputs, (∀ v ∈ outputs, inRange24 v = true) → P t → P (t.onPorts fun b => b.frame outputs)) (hs : P s) :
    P (s.computeFrame slots pins) := by
  have hSteps : ∀ (l : List ReaderId) t, P t → P (l.foldl State.readerFrame t) := fun l _ ht =>
    foldl_holds (fun _ _ hs => h.readerFrame hs) l ht
  unfold State.computeFrame
  exact h.counts (fun _ => ⟨rfl, rfl, rfl⟩) (hPorts _ _ (s.audio_outputs_inRange slots)
    (h.meterFrame (hSteps _ _ (h.countFrame (h.driveLamps hs)))))

/-! ### What surrounds the operations, and the events -/

theorem Base.surrounded : Surrounded P P where
  within := id
  raise := h.raise
  finish := h.finish
  expireChain := h.expireChain
  priming := fun hs => h.evaluatePriming (h.engine (fun _ => ⟨⟨rfl, rfl⟩, rfl, rfl, rfl⟩) hs)

theorem Base.timer {c : Instr} (hTimer : c.isTimerEvent = true) (hs : P s) : P (c.effect s) := by
  cases c
  case clipClear b => exact h.clearClip hs
  case fadeComplete x => exact h.fadeDone hs
  case crossfadeEnd r => exact h.crossfadeDone hs
  case validRecord => exact h.takeHanded hs
  case dropoutExpiry i => exact h.dropoutDone hs
  case restoreExpiry i => exact h.restoreDone hs
  case staleExpiry i => exact h.staleDone hs
  case referenceStale => exact h.referenceDone hs
  case fetchGrant => exact h.grantTag hs
  case tagTimeout k => exact h.tagDone hs
  case guardWindowEnd => exact h.windowDone hs
  case expired id => exact h.callDone hs
  case debounce n => exact h.lineDone hs
  all_goals exact Bool.noConfusion hTimer

/-- The events that change the ports, the clock or the link's queues, with FRAME among them. -/
def isOutside : Instr → Bool
  | .lineReceived _ _ | .transmitLine | .frame _ _ | .clockLost | .qualifyingTimeout | .clockRestored | .wclkRisingEdge _ => true
  | _ => false

/-- Every event but those of the outside keeps a property that the primitive changes keep. -/
theorem Base.effect {c : Instr} (hLine : c.isLine = false) (hOutside : isOutside c = true → P (c.effect s)) (hs : P s) :
    P (c.effect s) := by
  cases hTimer : c.isTimerEvent with
  | true => exact h.timer hTimer hs
  | false =>
    cases c
    case pause => exact hs
    case fullReset => exact hs
    case resetEnd => exact hs
    case showResetPriming => exact h.surrounded.showResetPriming hs
    case telemetryByte byte framing => exact h.takeByte hs
    case chainExpiry => exact h.expireChain hs
    case completionOk k words => exact h.completeOk hs
    case completionError k => exact h.completeError hs
    all_goals first
      | exact Bool.noConfusion hTimer
      | exact Bool.noConfusion hLine
      | exact hOutside rfl

end

/-- A property kept by the primitive changes and by those of the ports and the clock. -/
structure Ported (allow : Target → LevelCode → Prop) (P : State → Prop) : Prop extends Base allow P where
  ports : ∀ {s outputs}, (∀ v ∈ outputs, inRange24 v = true) → P s → P (s.onPorts fun b => b.frame outputs) := by
    intros; assumption
  clock : ∀ {s} {f : ClockBlock → ClockBlock}, P s → P (s.onClock f) := by intros; assumption

section
variable {allow : Target → LevelCode → Prop} {P : State → Prop} (h : Ported allow P) {s : State}
include h

theorem Ported.loseClock (hs : P s) : P s.loseClock := by
  unfold State.loseClock
  split
  · exact h.raise (h.clock hs)
  · exact hs

theorem Ported.lockClock (hs : P s) : P s.lockClock := by
  unfold State.lockClock
  split
  · exact h.raise (h.clock hs)
  · exact hs

theorem Ported.dropQualifying (hs : P s) : P s.dropQualifying := by
  unfold State.dropQualifying
  split
  · exact h.clock hs
  · exact hs

theorem Ported.clockEdge {n : Nat} (hs : P s) : P (s.clockEdge n) := by
  unfold State.clockEdge
  split
  · exact h.clock hs
  · split
    · split
      · exact h.clock hs
      · exact h.lockClock hs
    · exact h.clock hs
  · exact h.clock hs

/-- The events of the link. -/
def isLinkEvent : Instr → Bool
  | .lineReceived _ _ | .transmitLine => true
  | _ => false

/-- Every event but those of the link keeps a property that the primitive changes, the ports and the clock keep. -/
theorem Ported.effect {c : Instr} (hLine : c.isLine = false) (hLink : isLinkEvent c = true → P (c.effect s)) (hs : P s) :
    P (c.effect s) := by
  refine h.toBase.effect hLine (fun hOutside => ?_) hs
  cases c
  case frame slots pins =>
    exact h.surrounded.frame (fun c hc s hs => h.timer hc hs)
      (fun s _ _ hs => h.toBase.computeFrame (fun _ _ hOut ht => h.ports hOut ht) hs) (fun s hs => h.clock hs) hs slots pins
  case clockLost => exact h.loseClock hs
  case qualifyingTimeout => exact h.dropQualifying hs
  case clockRestored => exact h.lockClock hs
  case wclkRisingEdge n => exact h.clockEdge hs
  case lineReceived => exact hLink rfl
  case transmitLine => exact hLink rfl
  all_goals exact Bool.noConfusion hOutside

end

/-- A property kept by the primitive changes and by those of the ports, the clock and the link's queues. -/
structure Linked (allow : Target → LevelCode → Prop) (P : State → Prop) : Prop extends Ported allow P where
  queues : ∀ {s} {f : LinkBlock → LinkBlock}, (∀ b, (f b).reports = b.reports ∧ (f b).disabled = b.disabled ∧
    (f b).baud = b.baud) → P s → P (s.onLink f) := by intros; assumption
  beginLine : ∀ {s}, P s → P (s.onLink LinkBlock.beginLine) := by intros; assumption

section
variable {allow : Target → LevelCode → Prop} {P : State → Prop} (h : Linked allow P) {s : State}
include h

theorem Linked.queued : Queued P P where
  toSurrounded := h.surrounded
  queues := h.queues

/-- Every event keeps a property that the primitive changes, the ports, the clock and the link's queues keep. -/
theorem Linked.effect {c : Instr} (hLine : c.isLine = false) (hs : P s) : P (c.effect s) := by
  refine h.toPorted.effect hLine (fun hLink => ?_) hs
  cases c
  case lineReceived chars metFull => exact h.queued.receiveLine hs _ _
  case transmitLine => exact h.beginLine hs
  all_goals exact Bool.noConfusion hLink

end

end Sys2Proof.Machine
end

section
/-! PROOFS. Commands that set what was loaded, and the invariants of the blocks under every step. -/

namespace Sys2Proof.Machine

open Sys2Proof

/-! ### The settings -/

/-- What was loaded, by the command that sets it. -/
inductive Setting where
  | input | role | perf | page | talkin | supv | cue | sound | fetch | talkback | fb | zone | lineset | engine | presetDef | report
  deriving DecidableEq

/-- The setting a line changes. -/
def settingOf : Instr → Option Setting
  | .input _ _ => some .input
  | .role _ _ => some .role
  | .perf _ _ => some .perf
  | .page _ _ => some .page
  | .talkin _ _ => some .talkin
  | .supv _ _ => some .supv
  | .cue _ _ | .act _ _ | .actDel _ _ | .cueDel _ _ => some .cue
  | .sound _ _ => some .sound
  | .fetch _ _ => some .fetch
  | .talkback _ _ => some .talkback
  | .fb _ _ => some .fb
  | .zone _ _ => some .zone
  | .lineset _ _ => some .lineset
  | .engine _ _ => some .engine
  | .presetDef _ _ => some .presetDef
  | .report _ _ => some .report
  | _ => none

/-- What a PERF sets of a performer's record but for its inputs' states (R47). -/
def Perf.loaded (x : Perf) : Name × Option InputId × List InputId × LevelCode × Option ZoneId × Bool :=
  (x.name, x.main, x.spares, x.trim, x.zone, x.revertAuto)

/-- What an FB sets of a foldback bus (R148). -/
def FbBus.loaded (x : FbBus) : Bool × LevelCode × Bool := (x.lock, x.ceiling, decide (x.guard = .off))

/-- What a ZONE sets of a zone (R161). -/
def Zone.loaded (x : Zone) : Name × Bool × LevelCode × LevelCode × Bool × Vector Bool 8 :=
  (x.name, x.relay, x.level, x.trim, x.quiet, x.groups)

/-- A change of the cast table by one setting that leaves holders and roles held, and each trim or brings it into its range. -/
structure CastBlock.Sets (k : Setting) (b b' : CastBlock) : Prop where
  holders : ∀ r : RoleId, (b'.roles.get r).holder = (b.roles.get r).holder
  held : ∀ p : PerfId, (b'.perfs.get p).role = (b.perfs.get p).role
  trims : ∀ p : PerfId, (b'.perfs.get p).trim = (b.perfs.get p).trim ∨
    -80 ≤ (b'.perfs.get p).trim ∧ (b'.perfs.get p).trim ≤ 20
  names : k ≠ .role → ∀ r : RoleId, (b'.roles.get r).name = (b.roles.get r).name
  claims : k ≠ .perf → b'.claims = b.claims
  fields : k ≠ .perf → ∀ p : PerfId, (b'.perfs.get p).loaded = (b.perfs.get p).loaded
  pages : k ≠ .page → b'.pages = b.pages
  talkin : k ≠ .talkin → b'.talkin = b.talkin

/-- A change of the foldback section by one setting that keeps the bounds of the guards. -/
structure FoldbackBlock.Sets (k : Setting) (b b' : FoldbackBlock) : Prop where
  guards : b.GuardOk → b'.GuardOk
  talk : k ≠ .talkback → b'.talkLevel = b.talkLevel ∧ b'.talkDepth = b.talkDepth
  members : k ≠ .talkback → ∀ q : FbId, (b'.buses.get q).member = (b.buses.get q).member
  buses : k ≠ .fb → ∀ q : FbId, (b'.buses.get q).loaded = (b.buses.get q).loaded

/-- A change of the router by one setting that leaves the call table. -/
structure RouterBlock.Sets (k : Setting) (b b' : RouterBlock) : Prop where
  calls : b'.calls = b.calls
  admitStamp : b'.admitStamp = b.admitStamp
  presets : k ≠ .presetDef → b'.presets = b.presets
  zones : k ≠ .zone → ∀ z : ZoneId, (b'.zones.get z).loaded = (b.zones.get z).loaded

/-- A change of the sample fetch unit by one setting that leaves the readers. -/
structure FetchBlock.Sets (k : Setting) (b b' : FetchBlock) : Prop where
  readers : b'.readers = b.readers
  sounds : k ≠ .sound → b'.sounds = b.sounds
  refill : k ≠ .fetch → b'.refill = b.refill

/-- A property kept by the primitive changes and by the settings of `sets`. -/
structure Settable (allow : Target → LevelCode → Prop) (sets : Setting → Prop) (P : State → Prop) : Prop extends Base allow P where
  allowCode : ∀ {row bus code}, crosspointCode code → allow (.xpt row bus) code := by intros; trivial
  trim : sets .input → ∀ {s i x}, -80 ≤ x → x ≤ 20 → P s → P (s.onMatrix fun b => { b with trims := put b.trims i x }) := by
    intros; assumption
  castSettings : ∀ {k}, sets k → ∀ {s} {f : CastBlock → CastBlock}, (∀ b : CastBlock, b.Sets k (f b)) → P s →
    P (s.onCast f) := by intros; assumption
  castRole : ∀ {s r p}, p.any (s.heldElsewhere r) = false → P s → P (s.castRole r p) := by intros; assumption
  micSettings : sets .supv → ∀ {s} {f : MicBlock → MicBlock}, P s → P (s.onMic f) := by intros; assumption
  engineSettings : sets .engine → ∀ {s} {f : EngineBlock → EngineBlock}, (∀ b, f b = { b with stopAllMs := (f b).stopAllMs }) → P s →
    P (s.onEngine f) := by intros; assumption
  fetchSettings : ∀ {k}, sets k → ∀ {s} {f : FetchBlock → FetchBlock}, (∀ b : FetchBlock, b.Sets k (f b)) → P s →
    P (s.onFetch f) := by intros; assumption
  foldbackSettings : ∀ {k}, sets k → ∀ {s} {f : FoldbackBlock → FoldbackBlock}, (∀ b : FoldbackBlock, b.Sets k (f b)) → P s →
    P (s.onFoldback f) := by intros; assumption
  routerSettings : ∀ {k}, sets k → ∀ {s} {f : RouterBlock → RouterBlock}, (∀ b : RouterBlock, b.Sets k (f b)) → P s →
    P (s.onRouter f) := by intros; assumption
  lineSettings : sets .lineset → ∀ {s} {f : LineBlock → LineBlock}, P s → P (s.onLines f) := by intros; assumption
  newCue : sets .cue → ∀ {s n label link}, cueInRange n = true → ((s.cueAt n).isNone → s.cues.length < Config.maxCues) → P s →
    P (s.onCues (placeCue n label link)) := by intros; assumption
  newAction : sets .cue → ∀ {s n c a}, actionCode a → s.cueAt n = some c → c.actions.length < Config.actionsPerCue →
    s.poolFree ≠ 0 → P s → P (s.onCues (changeActions n (· ++ [a]))) := by intros; assumption
  oldAction : sets .cue → ∀ {s n i}, P s → P (s.onCues (changeActions n fun l => l.eraseIdx i)) := by intros; assumption
  oldCue : sets .cue → ∀ {s n}, s.engine.standby ≠ some n → P s → P (s.onCues fun l => l.filter fun c => c.number ≠ n) := by
    intros; assumption
  oldStandby : sets .cue → ∀ {s n}, s.engine.standby = some n → P s →
    P ((s.onCues fun l => l.filter fun c => c.number ≠ n).onEngine fun b =>
      { b with standby := (s.onCues fun l => l.filter fun c => c.number ≠ n).cueAfter n }) := by intros; assumption
  mask : sets .report → ∀ {s disabled}, P s → P (s.onLink fun b => b.setMask disabled) := by intros; assumption
  showReset : ∀ {s}, P s → P s.showReset := by intros; assumption

/-- A property kept by every change, of the link's queues and of a full reset too. -/
structure Stepped (allow : Target → LevelCode → Prop) (P : State → Prop) : Prop extends Settable allow (fun _ => True) P, Linked allow P where
  enterReset : ∀ {s}, P s → P s.enterReset := by intros; assumption
  leaveReset : ∀ {s baud1 baud0}, P s → P (s.leaveReset baud1 baud0) := by intros; assumption
  pending : ∀ {s} {l : List Instr}, P s → P { s with pending := l } := by intros; assumption

/-! ### Levels as held -/

theorem heldFrom_range {lo hi : LevelCode} (hRange : lo ≤ hi) (x : LevelField) : lo ≤ heldFrom lo hi x ∧ heldFrom lo hi x ≤ hi := by
  cases x with
  | off => exact ⟨le_refl _, hRange⟩
  | num x => exact ⟨le_max_left _ _, max_le hRange (min_le_left _ _)⟩

theorem trimLevel_range (x : LevelField) : -80 ≤ trimLevel x ∧ trimLevel x ≤ 20 := heldFrom_range (by decide) x

theorem ceilingLevel_range (x : LevelField) : -80 ≤ ceilingLevel x ∧ ceilingLevel x ≤ 0 := heldFrom_range (by decide) x

theorem crosspointLevel_range (x : LevelField) : crosspointCode (crosspointLevel x) := by
  cases x with
  | off => exact ⟨le_refl _, by decide⟩
  | num x =>
    show crosspointCode (if halfDecibels x ≤ offCode then offCode else min 20 (halfDecibels x))
    split
    · exact ⟨le_refl _, by decide⟩
    · rename_i hOn; exact ⟨le_min (by decide) (not_le.mp hOn).le, min_le_left _ _⟩

theorem actionOf_code {x : ActionField} {a : Action} (e : actionOf x = some a) : actionCode a := by
  cases x <;> simp only [actionOf, bind, Option.bind_eq_some_iff, pure, Option.some.injEq] at e
  case level row bus l t =>
    obtain ⟨_, _, _, _, rfl⟩ := e
    exact crosspointLevel_range l
  case play v n t => obtain ⟨_, _, _, _, rfl⟩ := e; trivial
  case stop v t => obtain ⟨_, _, rfl⟩ := e; trivial
  case call k => obtain ⟨_, _, rfl⟩ := e; trivial
  case line n on => obtain ⟨_, _, rfl⟩ := e; trivial

/-! ### The edits of the cue list -/

theorem placeCue_actions {n : Nat} {label : Name} {link : Link} {l : List Cue} {c : Cue} (hc : c ∈ placeCue n label link l)
    {a : Action} (ha : a ∈ c.actions) : ∃ d ∈ l, a ∈ d.actions := by
  induction l with
  | nil =>
    rw [placeCue, List.mem_singleton] at hc
    subst hc; cases ha
  | cons d l ih =>
    rw [placeCue] at hc
    split at hc
    · rcases List.mem_cons.mp hc with rfl | hc
      · cases ha
      · exact ⟨c, hc, ha⟩
    · split at hc
      · rcases List.mem_cons.mp hc with rfl | hc
        · exact ⟨d, List.mem_cons_self, ha⟩
        · exact ⟨c, List.mem_cons_of_mem _ hc, ha⟩
      · rcases List.mem_cons.mp hc with rfl | hc
        · exact ⟨c, List.mem_cons_self, ha⟩
        · obtain ⟨d, hd, h⟩ := ih hc
          exact ⟨d, List.mem_cons_of_mem _ hd, h⟩

theorem changeActions_actions {n : Nat} {f : List Action → List Action} {l : List Cue} {c : Cue} (hc : c ∈ changeActions n f l)
    {a : Action} (ha : a ∈ c.actions) : ∃ d ∈ l, a ∈ d.actions ∨ a ∈ f d.actions := by
  obtain ⟨d, hd, rfl⟩ := List.mem_map.mp hc
  split at ha
  · exact ⟨d, hd, .inr ha⟩
  · exact ⟨d, hd, .inl ha⟩

/-! ### The talkback settings -/

theorem FoldbackBlock.GuardOk.of_sameGuard {b b' : FoldbackBlock} (hBus : ∀ k : FbId, (b.buses.get k).SameGuard (b'.buses.get k) ∨
    (b'.buses.get k).GuardOk) (h : b.GuardOk) : b'.GuardOk := fun k => by
  rcases hBus k with ⟨-, hCeiling, -, hState, hRed⟩ | hOk
  · rw [hRed, hCeiling, hState]; exact h k
  · exact hOk

theorem FbBus.setMember_guard (x : FbBus) (active : Bool) (ducked : LevelCode) (member : Bool) :
    (x.setMember active ducked member).guard = x.guard ∧ (x.setMember active ducked member).red = x.red ∧
      (x.setMember active ducked member).ceiling = x.ceiling := by
  unfold FbBus.setMember
  dsimp only
  repeat' split
  all_goals exact ⟨rfl, rfl, rfl⟩

theorem FoldbackBlock.setDepth_guardOk (b : FoldbackBlock) (depth : Nat) (h : b.GuardOk) : (b.setDepth depth).GuardOk := by
  unfold FoldbackBlock.setDepth
  split
  · exact h
  · dsimp only
    split
    · exact .of_sameGuard (fun k => .inl (FoldbackBlock.rampMembers_sameGuard { b with talkDepth := depth } _ _ k)) h
    · exact h

theorem FoldbackBlock.setMembers_guardOk (b : FoldbackBlock) (members : FbId → Bool) (h : b.GuardOk) :
    (b.setMembers members).GuardOk := by
  intro k
  show FbBus.GuardOk ((b.setMembers members).buses.get k)
  unfold FoldbackBlock.setMembers
  dsimp only
  rw [get_ofFn]
  obtain ⟨hState, hRed, hCeiling⟩ := (b.buses.get k).setMember_guard b.talkActive b.ducked (members k)
  unfold FbBus.GuardOk
  rw [hState, hRed, hCeiling]
  exact h k

theorem applyTalkback_guardOk (a : TalkbackArgs) (members : Option (List FbId)) (b : FoldbackBlock) (h : b.GuardOk) :
    (applyTalkback a members b).GuardOk := by
  have hLevel : ({ b with talkLevel := (a.level.map talkbackLevel).getD b.talkLevel } : FoldbackBlock).GuardOk := h
  unfold applyTalkback
  dsimp only
  split <;> split
  · exact hLevel
  · exact FoldbackBlock.setDepth_guardOk _ _ hLevel
  · exact FoldbackBlock.setMembers_guardOk _ _ hLevel
  · exact FoldbackBlock.setMembers_guardOk _ _ (FoldbackBlock.setDepth_guardOk _ _ hLevel)

theorem FbBus.setMember_loaded (x : FbBus) (active : Bool) (ducked : LevelCode) (member : Bool) :
    (x.setMember active ducked member).loaded = x.loaded := by
  unfold FbBus.setMember
  dsimp only
  repeat' split
  all_goals rfl

theorem FoldbackBlock.setMembers_loaded (b : FoldbackBlock) (members : FbId → Bool) (k : FbId) :
    ((b.setMembers members).buses.get k).loaded = (b.buses.get k).loaded := by
  unfold FoldbackBlock.setMembers
  dsimp only
  rw [get_ofFn]; exact FbBus.setMember_loaded _ _ _ _

theorem FbBus.SameGuard.loaded {x y : FbBus} (h : x.SameGuard y) : y.loaded = x.loaded := by
  obtain ⟨hLock, hCeiling, -, hState, -⟩ := h
  unfold FbBus.loaded
  rw [hLock, hCeiling, hState]

theorem FoldbackBlock.setDepth_loaded (b : FoldbackBlock) (depth : Nat) (k : FbId) :
    ((b.setDepth depth).buses.get k).loaded = (b.buses.get k).loaded := by
  unfold FoldbackBlock.setDepth
  split
  · rfl
  · dsimp only
    split
    · exact (FoldbackBlock.rampMembers_sameGuard { b with talkDepth := depth } _ _ k).loaded
    · rfl

theorem applyTalkback_sets (a : TalkbackArgs) (members : Option (List FbId)) (b : FoldbackBlock) :
    b.Sets .talkback (applyTalkback a members b) := by
  refine ⟨applyTalkback_guardOk a members b, fun e => absurd rfl e, fun e => absurd rfl e, fun _ q => ?_⟩
  unfold applyTalkback
  dsimp only
  split <;> split
  · rfl
  · exact FoldbackBlock.setDepth_loaded _ _ _
  · exact FoldbackBlock.setMembers_loaded _ _ _
  · exact (FoldbackBlock.setMembers_loaded _ _ _).trans (FoldbackBlock.setDepth_loaded _ _ _)

theorem guardOk_update {b : FoldbackBlock} {k : FbId} {f : FbBus → FbBus} (hf : (b.buses.get k).GuardOk → (f (b.buses.get k)).GuardOk)
    (h : b.GuardOk) : ({ b with buses := update b.buses k f } : FoldbackBlock).GuardOk := by
  intro q
  show FbBus.GuardOk ((update b.buses k f).get q)
  by_cases hq : k = q
  · subst hq; rw [get_update_same]; exact hf (h k)
  · rw [get_update_ne _ _ _ _ hq]; exact h q

/-! ### The commands -/

theorem CastBlock.Sets.update_perf {b : CastBlock} {p : PerfId} {f : Perf → Perf}
    (hRole : ∀ x, (f x).role = x.role) (hTrim : ∀ x, (f x).trim = x.trim ∨ -80 ≤ (f x).trim ∧ (f x).trim ≤ 20) :
    b.Sets .perf { b with perfs := update b.perfs p f } := by
  refine ⟨fun _ => rfl, fun q => ?_, fun q => ?_, fun _ _ => rfl, fun e => absurd rfl e, fun e => absurd rfl e, fun _ => rfl,
    fun _ => rfl⟩ <;> dsimp only <;> by_cases hq : p = q
  · subst hq; rw [get_update_same]; exact hRole _
  · rw [get_update_ne _ _ _ _ hq]
  · subst hq; rw [get_update_same]; exact hTrim _
  · rw [get_update_ne _ _ _ _ hq]; exact .inl rfl

theorem CastBlock.Sets.update_role {b : CastBlock} {r : RoleId} {f : Role → Role} (hHolder : ∀ x, (f x).holder = x.holder) :
    b.Sets .role { b with roles := update b.roles r f } := by
  refine ⟨fun q => ?_, fun _ => rfl, fun _ => .inl rfl, fun e => absurd rfl e, fun _ => rfl, fun _ _ => rfl, fun _ => rfl,
    fun _ => rfl⟩
  dsimp only
  by_cases hq : r = q
  · subst hq; rw [get_update_same]; exact hHolder _
  · rw [get_update_ne _ _ _ _ hq]

/-- An FB on one bus: its bounds are kept, and of no bus whether it is a member changes. -/
theorem FoldbackBlock.Sets.update_bus {b : FoldbackBlock} {k : FbId} {f : FbBus → FbBus} (hGuard : ∀ x : FbBus, x.GuardOk → (f x).GuardOk)
    (hMember : ∀ x : FbBus, (f x).member = x.member) : b.Sets .fb { b with buses := update b.buses k f } := by
  refine ⟨fun hb => guardOk_update (fun hk => hGuard _ hk) hb, fun _ => ⟨rfl, rfl⟩, fun _ q => ?_, fun e => absurd rfl e⟩
  dsimp only
  by_cases hq : k = q
  · subst hq; rw [get_update_same]; exact hMember _
  · rw [get_update_ne _ _ _ _ hq]

section
variable {allow : Target → LevelCode → Prop} {sets : Setting → Prop} {P : State → Prop} (h : Settable allow sets P) {s : State}
include h

theorem Settable.claims (hSet : sets .perf)
    {f : Vector (Option (PerfId × Place)) 64 → Vector (Option (PerfId × Place)) 64} (hs : P s) :
    P (s.onCast fun b => { b with claims := f b.claims }) :=
  h.castSettings hSet (fun _ => ⟨fun _ => rfl, fun _ => rfl, fun _ => .inl rfl, fun _ _ => rfl, fun e => absurd rfl e,
    fun _ _ => rfl, fun _ => rfl, fun _ => rfl⟩) hs

theorem Settable.perf (hSet : sets .perf) {p : PerfId} {f : Perf → Perf} (hRole : ∀ x, (f x).role = x.role)
    (hTrim : ∀ x, (f x).trim = x.trim ∨ -80 ≤ (f x).trim ∧ (f x).trim ≤ 20) (hs : P s) : P (s.onPerf p f) :=
  h.castSettings hSet (fun _ => .update_perf hRole hTrim) hs

theorem Settable.silenceRow {i : InputId} (hs : P s) : P (s.silenceRow i) := by
  unfold State.silenceRow
  exact foldl_holds (fun _ _ hs => h.snapLevel (h.allowOff _) hs) _ hs

theorem Settable.claimInput (hSet : sets .perf) {p : PerfId} {e : InputId × Place} (hs : P s) : P (s.claimInput p e) := by
  unfold State.claimInput State.track
  exact h.raise (h.setHealth (h.silenceRow (h.claims hSet (f := fun c => put c e.1 (some (p, e.2))) hs)))

theorem Settable.releaseInput (hSet : sets .perf) {p : PerfId} {e : InputId × Place} (hs : P s) : P (s.releaseInput p e) := by
  unfold State.releaseInput State.untrack
  exact h.raise (h.setHealth (h.claims hSet (f := fun c => put c e.1 none) hs))

theorem Settable.placeInput (hSet : sets .perf) {p : PerfId} {e : InputId × Place} (hs : P s) : P (s.placeInput p e) :=
  h.claims hSet (f := fun c => put c e.1 (some (p, e.2))) hs

theorem Settable.setInputs (hSet : sets .perf) {p : PerfId} {main : Option InputId} {spares : List InputId} (hs : P s) :
    P (s.setInputs p main spares) := by
  unfold State.setInputs
  exact h.raisePerf (foldl_holds (fun _ _ hs => h.placeInput hSet hs) _ (foldl_holds (fun _ _ hs => h.releaseInput hSet hs) _
    (foldl_holds (fun _ _ hs => h.claimInput hSet hs) _ (h.perf hSet (fun _ => rfl) (fun _ => .inl rfl) hs))))

theorem Settable.setMode (hSet : sets .perf) {p : PerfId} {auto : Bool} (hs : P s) : P (s.setMode p auto) := by
  unfold State.setMode
  split
  · exact h.setAuto hs
  · split
    · exact h.raisePerf (h.perf hSet (fun _ => rfl) (fun _ => .inl rfl) hs)
    · exact hs

theorem Settable.selectIfDown {p : PerfId} (hs : P s) : P (s.selectIfDown p) := by
  unfold State.selectIfDown
  split
  · exact h.raisePerfIf (h.select hs)
  · exact hs

theorem Settable.applyPerf (hSet : sets .perf) {p : PerfId} {a : PerfArgs} {f : PerfFields} (hs : P s) : P (s.applyPerf p a f) := by
  have hTrim : ∀ x : Perf, (a.trim.map trimLevel).getD x.trim = x.trim ∨
      -80 ≤ (a.trim.map trimLevel).getD x.trim ∧ (a.trim.map trimLevel).getD x.trim ≤ 20 := by
    intro x
    cases a.trim with
    | none => exact .inl rfl
    | some t => exact .inr (trimLevel_range t)
  have hNamed : P (s.onPerf p fun x => { x with name := a.name.getD x.name }) := h.perf hSet (fun _ => rfl) (fun _ => .inl rfl) hs
  have hFields := fun t (ht : P t) => h.castSettings hSet (f := fun b => { b with perfs := update b.perfs p fun x =>
      { x with trim := (a.trim.map trimLevel).getD x.trim
               zone := f.zone.getD x.zone
               revertAuto := a.revertAuto.getD x.revertAuto } })
    (fun _ => .update_perf (fun _ => rfl) hTrim) ht
  have hMode : ∀ m t, P t → P (match m with
      | none => t
      | some auto => t.setMode p auto) := by
    intro m t ht
    cases m with
    | none => exact ht
    | some auto => exact h.setMode hSet ht
  unfold State.applyPerf
  dsimp only
  split
  · exact h.selectIfDown (hMode _ _ (hFields _ (h.setInputs hSet hNamed)))
  · exact hMode _ _ (hFields _ hNamed)

theorem Settable.edited {n : Nat} (hs : P s) : P (s.edited n) := by
  unfold State.edited
  split
  · exact h.evaluatePriming hs
  · exact hs

theorem Settable.deleteCue (hSet : sets .cue) {n : Nat} (hs : P s) : P (s.deleteCue n) := by
  unfold State.deleteCue
  dsimp only
  split
  · rename_i hStandby
    have hNext : (s.onCues fun l => l.filter fun c => c.number ≠ n).cueAfter n ≠ some n := State.cueAfter_ne
    unfold State.moveStandby
    rw [if_neg (by rw [hStandby]; exact hNext.symm)]
    exact h.raiseCue (h.evaluatePriming (h.oldStandby hSet hStandby hs))
  · exact h.oldCue hSet ‹_› hs

theorem Settable.setGuard (hSet : sets .fb) {k : FbId} {on : Bool} (hs : P s) : P (s.setGuard k on) := by
  unfold State.setGuard
  dsimp only
  split
  · split
    · exact h.foldbackSettings hSet (fun _ => .update_bus (fun _ hk => ⟨hk.1, nofun, hk.2.2⟩) fun _ => rfl) hs
    · exact hs
  · have hOff : P (s.onBus k FbBus.guardOff) :=
      h.foldbackSettings hSet (fun _ => .update_bus
        (fun _ hk => ⟨⟨by show (-80 : Int) ≤ 0; decide, le_refl _⟩, fun _ => rfl, hk.2.2⟩) fun _ => rfl) hs
    split
    · exact h.raise hOff
    · exact hOff

theorem Settable.applyFb (hSet : sets .fb) {k : FbId} {a : FbArgs} (hs : P s) : P (s.applyFb k a) := by
  have hApplied : P (s.onBus k fun b =>
      { b with ceiling := (a.ceiling.map ceilingLevel).getD b.ceiling, lock := a.lock.getD b.lock }) := by
    refine h.foldbackSettings hSet (fun _ => .update_bus (fun _ hk => ⟨hk.1, hk.2.1, ?_⟩) fun _ => rfl) hs
    cases a.ceiling with
    | none => exact hk.2.2
    | some x => exact ceilingLevel_range x
  unfold State.applyFb
  dsimp only
  split
  · exact hApplied
  · exact h.setGuard hSet hApplied

theorem Settable.setLine (hSet : sets .lineset) {n : LineId} {fn : LineFn} {activeHigh : Bool} (hs : P s) : P (s.setLine n fn activeHigh) := by
  have hEnd : P (s.endRole n) := h.toBase.release hs
  unfold State.setLine
  dsimp only
  split
  · exact hs
  · exact h.lineSettings hSet hEnd

theorem Settable.moveLevel {row : Row} {bus : Bus} {x : LevelField} {ms : Nat} (hs : P s) :
    P (s.moveLevel row bus (crosspointLevel x) ms) := by
  have hAllow : allow (.xpt row bus) (crosspointLevel x) := h.allowCode (crosspointLevel_range x)
  unfold State.moveLevel
  split
  · exact h.snapLevel hAllow hs
  · exact h.fadeXpt hAllow hs

/-! ### The answers -/

theorem Settable.keeps_setPerf (hSet : sets .perf) (a : PerfArgs) (hs : P s) : Answer.Keeps P (setPerf a s) := by
  have hApplied : ∀ (p : PerfId) main spares zone, Answer.Keeps P (do
      refuseIf (!decide (main.toList ++ spares).Nodup) .duplicate
      refuseIf (hasInputs a && (s.perf p).role.isSome) .inRole
      refuseIf ((main.toList ++ spares).any (s.usedElsewhere p)) .claimed
      (s.applyPerf p a { main := main, spares := spares, zone := zone }).replies fun s => s.perfLine p) :=
    fun p main spares zone => keeps_bind fun _ _ => keeps_bind fun _ _ => keeps_bind fun _ _ => keeps_replies (h.applyPerf hSet hs) _
  refine keeps_bind fun _ _ => keeps_bind fun _ _ => keeps_bind fun _ _ => keeps_bind fun _ _ =>
    keeps_bind fun _ _ => keeps_bind fun p _ => ?_
  dsimp only
  split <;> refine keeps_bind fun main _ => ?_ <;> split <;> refine keeps_bind fun spares _ => ?_ <;> split <;>
    exact keeps_bind fun zone _ => hApplied p main spares zone

/-- Every answer of a command line keeps the property (R4 to R204). -/
theorem Settable.answerOf {c : Instr} (hLine : c.isLine = true) (hSets : ∀ k, settingOf c = some k → sets k) (hs : P s) : Answer.Keeps P (c.answerOf s) := by
  cases c
  case level tag a =>
    exact keeps_answerArgs a fun a => keeps_bind fun row _ => keeps_bind fun bus _ => keeps_bind fun _ _ =>
      keeps_replies (h.moveLevel hs) _
  case input tag a =>
    exact keeps_answerArgs a fun a => keeps_bind fun i _ =>
      keeps_replies (h.trim (hSets _ rfl) (trimLevel_range a.trim).1 (trimLevel_range a.trim).2 hs) _
  case role tag a =>
    refine keeps_answerArgs a fun a => keeps_bind fun _ _ => keeps_bind fun _ _ => keeps_bind fun r _ => keeps_replies ?_ _
    exact h.castSettings (hSets _ rfl) (fun b => .update_role fun _ => rfl) hs
  case perf tag a => exact keeps_answerArgs a fun a => h.keeps_setPerf (hSets _ rfl) a hs
  case page tag a =>
    refine keeps_answerArgs a fun a => keeps_bind fun _ _ => keeps_bind fun _ _ => keeps_bind fun _ _ => keeps_replies ?_ _
    exact h.castSettings (hSets _ rfl) (fun _ => ⟨fun _ => rfl, fun _ => rfl, fun _ => .inl rfl, fun _ _ => rfl, fun _ => rfl,
      fun _ _ => rfl, fun e => absurd rfl e, fun _ => rfl⟩) hs
  case talkin tag a =>
    refine keeps_answerArgs a fun a => keeps_bind fun _ _ => keeps_bind fun _ _ => keeps_replies ?_ _
    exact h.castSettings (hSets _ rfl) (fun _ => ⟨fun _ => rfl, fun _ => rfl, fun _ => .inl rfl, fun _ _ => rfl, fun _ => rfl,
      fun _ _ => rfl, fun _ => rfl, fun e => absurd rfl e⟩) hs
  case cast tag a =>
    exact keeps_answerArgs a fun a => keeps_bind fun r _ => keeps_bind fun p _ => keeps_bind fun _ hFree =>
      keeps_replies (h.castRole (by simpa [refuseIf_eq_ok] using hFree) hs) _
  case supv tag a =>
    refine keeps_answerArgs a fun a => keeps_bind fun _ _ => ?_
    dsimp only
    split <;> exact keeps_bind fun _ _ => keeps_replies (h.micSettings (hSets _ rfl) hs) _
  case select tag a =>
    exact keeps_answerArgs a fun a => keeps_bind fun _ _ => keeps_bind fun _ _ => keeps_bind fun _ _ =>
      keeps_replies (h.forceInput hs) _
  case auto tag a => exact keeps_answerArgs a fun a => keeps_bind fun _ _ => keeps_replies (h.setAuto hs) _
  case cue tag a =>
    refine keeps_answerArgs a fun a => keeps_bind fun _ _ => keeps_bind fun _ hRange => keeps_bind fun _ hFull =>
      keeps_replies (h.edited (h.newCue (hSets _ rfl) ?_ ?_ hs)) _
    · simpa using (Bool.or_eq_false_iff.mp (refuseIf_eq_ok.mp hRange)).1
    · simpa using refuseIf_eq_ok.mp hFull
  case act tag a =>
    refine keeps_answerArgs a fun a => keeps_bind fun _ _ => keeps_bind fun act hAct => keeps_bind fun c hc =>
      keeps_bind fun _ _ => keeps_bind fun _ _ => keeps_bind fun _ _ => keeps_bind fun _ hFull => ?_
    obtain ⟨hShort, hRoom⟩ := Bool.or_eq_false_iff.mp (refuseIf_eq_ok.mp hFull)
    exact keeps_replies (h.edited (h.newAction (hSets _ rfl) (actionOf_code (need_eq_ok.mp hAct)) (need_eq_ok.mp hc)
      (not_le.mp (of_decide_eq_false hShort)) (of_decide_eq_false hRoom) hs)) _
  case actDel tag a => exact keeps_answerArgs a fun a => keeps_bind fun _ _ => keeps_replies (h.edited (h.oldAction (hSets _ rfl) hs)) _
  case cueDel tag a =>
    exact keeps_answerArgs a fun a => keeps_bind fun _ _ => keeps_bind fun _ _ => keeps_replies (h.deleteCue (hSets _ rfl) hs) _
  case go tag a =>
    refine keeps_answerArgs a fun a => keeps_bind fun _ _ => keeps_bind fun c hc => ?_
    have hFired := h.fireListed (State.goCue_mem hc) hs
    rcases hFire : s.fire c with ⟨t, slot, count⟩
    rw [hFire] at hFired
    dsimp only
    exact keeps_replies hFired _
  case back tag a => exact keeps_answerArgs a fun a => keeps_replies (h.moveStandby (fun hMoves _ => State.backPosition_listed hMoves) hs) _
  case jump tag a =>
    refine keeps_answerArgs a fun a => keeps_bind fun _ _ => keeps_bind fun _ hListed => keeps_replies (h.moveStandby ?_ hs) _
    rintro - _ ⟨⟩
    exact State.cueAt_listed fun e => by rw [refuseIf_eq_ok, e] at hListed; cases hListed
  case halt tag a => exact keeps_answerArgs a fun a => keeps_replies (h.setRun hs) _
  case resume tag a => exact keeps_answerArgs a fun a => keeps_replies (h.setRun hs) _
  case stopAll tag a => exact keeps_answerArgs a fun a => keeps_replies (h.stopAll hs) _
  case engine tag a =>
    refine keeps_answerArgs a fun a => keeps_replies ?_ _
    exact h.engineSettings (hSets _ rfl) (fun _ => rfl) hs
  case sound tag a =>
    refine keeps_answerArgs a fun a => keeps_bind fun _ _ => keeps_bind fun _ _ => keeps_bind fun _ _ => keeps_bind fun _ _ =>
      keeps_replies ?_ _
    exact h.fetchSettings (hSets _ rfl) (fun _ => ⟨rfl, fun e => absurd rfl e, fun _ => rfl⟩) hs
  case play tag a =>
    exact keeps_answerArgs a fun a => keeps_bind fun _ _ => keeps_bind fun _ _ => keeps_bind fun _ _ =>
      keeps_replies (h.play hs) _
  case stop tag a => exact keeps_answerArgs a fun a => keeps_bind fun _ _ => keeps_replies (h.stopVoice hs) _
  case fetch tag a =>
    refine keeps_answerArgs a fun a => keeps_replies ?_ _
    exact h.fetchSettings (hSets _ rfl) (fun _ => ⟨rfl, fun _ => rfl, fun e => absurd rfl e⟩) hs
  case fb tag a => exact keeps_answerArgs a fun a => keeps_bind fun _ _ => keeps_bind fun _ _ => keeps_replies (h.applyFb (hSets _ rfl) hs) _
  case talkback tag a =>
    refine keeps_answerArgs a fun a => keeps_bind fun _ _ => ?_
    dsimp only
    split <;> exact keeps_bind fun members _ => keeps_bind fun _ _ =>
      keeps_replies (h.foldbackSettings (hSets _ rfl) (fun b => applyTalkback_sets a members b) hs) _
  case talk tag a =>
    exact keeps_answerArgs a fun a => keeps_replies (h.foldback (fun b => FoldbackBlock.setTalk_moves b a) hs) _
  case zone tag a =>
    refine keeps_answerArgs a fun a => keeps_bind fun _ _ => keeps_bind fun _ _ => keeps_bind fun _ _ => keeps_bind fun z _ => ?_
    have hZone : ∀ f : Zone → Zone, P (s.onZone z f).walk := fun f => h.walk (h.routerSettings (hSets _ rfl) (fun _ => ⟨rfl, rfl, fun _ => rfl, fun e => absurd rfl e⟩) hs)
    dsimp only
    split <;> exact keeps_bind fun _ _ => keeps_bind fun _ _ => keeps_replies (hZone _) _
  case call tag a =>
    exact keeps_answerArgs a fun a => keeps_bind fun _ _ => keeps_bind fun e he => keeps_replies (h.submit hs he) _
  case callEnd tag a =>
    exact keeps_answerArgs a fun a => keeps_bind fun _ _ => keeps_bind fun _ _ => keeps_replies (h.endCall hs) _
  case callCancel tag a =>
    exact keeps_answerArgs a fun a => keeps_bind fun _ _ => keeps_bind fun _ _ => keeps_replies (h.endCall hs) _
  case presetDef tag a =>
    refine keeps_answerArgs a fun a => keeps_bind fun _ _ => keeps_bind fun _ _ => keeps_replies ?_ _
    exact h.routerSettings (hSets _ rfl) (fun _ => ⟨rfl, rfl, fun e => absurd rfl e, fun _ _ => rfl⟩) hs
  case preset tag a =>
    exact keeps_answerArgs a fun a => keeps_bind fun _ _ => keeps_bind fun _ _ => keeps_bind fun e he =>
      keeps_replies (h.submit hs he) _
  case lineset tag a =>
    refine keeps_answerArgs a fun a => keeps_bind fun _ _ => keeps_bind fun _ _ => ?_
    dsimp only
    split <;> exact keeps_bind fun _ _ => keeps_replies (h.setLine (hSets _ rfl) hs) _
  case line tag a =>
    refine keeps_answerArgs a fun a => keeps_bind fun _ _ => keeps_replies ?_ _
    exact h.onLine (fun _ => ⟨rfl, rfl⟩) hs
  case report tag a => exact keeps_answerArgs a fun a => keeps_bind fun _ _ => keeps_replies (h.mask (hSets _ rfl) hs) _
  case showReset tag a => exact keeps_answerArgs a fun a => keeps_replies (h.showReset hs) _
  all_goals exact keeps_error _

end

/-- Every step keeps the property. -/
theorem Stepped.step {allow : Target → LevelCode → Prop} {P : State → Prop} (h : Stepped allow P) {s t : State} (hs : P s)
    (e : Machine.step s = .next t) : P t :=
  step_keeps (fun _ _ hs => h.pending hs)
    (fun c _ t hs e => h.toLinked.queued.exec (fun _ _ hLine hs => h.toSettable.answerOf hLine (fun _ _ => trivial) hs)
      (fun _ _ hLine _ hs => h.toLinked.effect hLine hs) (fun _ hs => h.enterReset hs) (fun _ _ _ hs => h.leaveReset hs) c t hs e)
    hs e

end Sys2Proof.Machine
end

section
/-! PROOFS. Invariants of single blocks under every step: the report set, the fade pool, the output slots, the guards, the cast table, the
trims and the levels. -/

namespace Sys2Proof.Machine

open Sys2Proof

theorem get_replicate {α : Type} {n : Nat} (x : α) (i : Fin n) : (Vector.replicate n x).get i = x := by
  simp [Vector.get_eq_getElem]

/-- Where a target may be brought does not matter to a property that is not about levels. -/
def anyLevel : Target → LevelCode → Prop := fun _ _ => True

/-! ### The fade pool -/

theorem FadeBlock.PoolOk.sublist {b : FadeBlock} {l : List Fade} (h : b.PoolOk) (hl : l.Sublist b.pool) :
    ({ b with pool := l } : FadeBlock).PoolOk :=
  ⟨hl.length_le.trans h.1, (hl.map _).nodup h.2⟩

theorem FadeBlock.PoolOk.map {b : FadeBlock} {g : Fade → Fade} (h : b.PoolOk) (hg : ∀ f, (g f).target = f.target) :
    ({ b with pool := b.pool.map g } : FadeBlock).PoolOk := by
  refine ⟨by simpa using h.1, ?_⟩
  have hTargets : (fun f => f.target) ∘ g = fun f => f.target := funext hg
  simpa [hTargets] using h.2

theorem FadeBlock.PoolOk.add {b : FadeBlock} {x : Fade} (h : b.PoolOk) (hFree : ∀ f ∈ b.pool, f.target ≠ x.target)
    (hRoom : b.pool.length < Config.fadePool) : ({ b with pool := b.pool ++ [x] } : FadeBlock).PoolOk := by
  refine ⟨by simpa using hRoom, ?_⟩
  simpa [List.nodup_append] using ⟨h.2, hFree⟩

theorem State.fadeOf_eq_none {s : State} {t : Target} : s.fadeOf t = none ↔ ∀ f ∈ s.fades.pool, f.target ≠ t := by
  simp [State.fadeOf, List.find?_eq_none]

theorem setLevelOf_fades (s : State) (t : Target) (c : LevelCode) : (s.setLevelOf t c).fades = s.fades := by
  cases t <;> rfl

theorem poolOk_closed : Closed anyLevel fun s => s.fades.PoolOk where
  raise hs := by simpa using hs
  level _ hs := by simpa [setLevelOf_fades] using hs
  filterPool hs := hs.sublist List.filter_sublist
  mapPool hg hs := hs.map fun f => (hg f).1
  replaceFade _ _ hs := hs.map fun f => by split <;> simp [*]
  addFade _ _ hNone hRoom hs := hs.add (State.fadeOf_eq_none.mp hNone) hRoom

theorem poolOk_stepped : Stepped anyLevel fun s => s.fades.PoolOk where
  toBase := poolOk_closed.base
  castRole _ hs := by simpa using hs
  showReset _ := ⟨Nat.zero_le _, List.nodup_nil⟩
  leaveReset _ := ⟨Nat.zero_le _, List.nodup_nil⟩

/-! ### The output slots -/

theorem slotOf_low (v : Sample) : (slotOf v).extractLsb' 0 8 = 0 := by
  apply BitVec.eq_of_toNat_eq
  rw [slotOf, BitVec.extractLsb'_toNat, BitVec.toNat_ofInt]
  show _ = 0
  omega

theorem PortBlock.frame_slotsOk {b : PortBlock} {outputs : List Sample} (hOut : ∀ v ∈ outputs, inRange24 v = true)
    (h : b.SlotsOk) : (b.frame outputs).SlotsOk := by
  refine ⟨fun i => ?_, fun i => ⟨?_, (h.2 i).1⟩⟩
  · show ((b.formedBefore.map slotOf).get i).extractLsb' 0 8 = 0
    rw [get_map]; exact slotOf_low _
  · show inRange24 ((Vector.ofFn fun i : Fin 48 => outputs.getD i.val 0).get i) = true
    rw [get_ofFn, List.getD_eq_getElem?_getD]
    cases e : outputs[i.val]? with
    | none => rfl
    | some v => exact hOut v (List.mem_of_getElem? e)

theorem slotsOk_start : ({} : PortBlock).SlotsOk := by
  refine ⟨fun i => ?_, fun i => ⟨?_, ?_⟩⟩
  · show ((Vector.replicate 48 (0 : Word32)).get i).extractLsb' 0 8 = 0
    rw [get_replicate]; rfl
  all_goals
    show inRange24 ((Vector.replicate 48 (0 : Sample)).get i) = true
    rw [get_replicate]; rfl

theorem setLevelOf_ports (s : State) (t : Target) (c : LevelCode) : (s.setLevelOf t c).ports = s.ports := by
  cases t <;> rfl

theorem slotsOk_closed : Closed anyLevel fun s => s.ports.SlotsOk where
  raise hs := by simpa using hs
  level _ hs := by simpa [setLevelOf_ports] using hs

theorem slotsOk_stepped : Stepped anyLevel fun s => s.ports.SlotsOk where
  toBase := slotsOk_closed.base
  castRole _ hs := by rw [kept_ports (State.castRole_frame _ _ _).1]; exact hs
  ports hOut hs := PortBlock.frame_slotsOk hOut hs
  enterReset _ := slotsOk_start
  leaveReset _ := slotsOk_start

/-! ### The foldback guards -/

theorem setLevelOf_foldback (s : State) (t : Target) (c : LevelCode) : (s.setLevelOf t c).foldback = s.foldback := by
  cases t <;> rfl

theorem FbBus.showReset_guardOk {b : FbBus} (h : b.GuardOk) : b.showReset.GuardOk :=
  ⟨⟨by show (-80 : Int) ≤ 0; decide, le_refl _⟩, fun _ => rfl, h.2.2⟩

theorem FoldbackBlock.showReset_guardOk {b : FoldbackBlock} (h : b.GuardOk) : b.showReset.GuardOk := by
  have hBuses : ({ b with buses := b.buses.map FbBus.showReset, talkCommand := false } : FoldbackBlock).GuardOk := by
    intro k
    show FbBus.GuardOk ((b.buses.map FbBus.showReset).get k)
    rw [get_map]; exact FbBus.showReset_guardOk (h k)
  unfold FoldbackBlock.showReset
  dsimp only
  split
  · exact .of_sameGuard (fun k => .inl (FoldbackBlock.rampMembers_sameGuard _ _ _ k)) hBuses
  · exact hBuses

theorem guardOk_start : ({} : FoldbackBlock).GuardOk := by
  intro k
  show FbBus.GuardOk ((Vector.replicate 16 ({} : FbBus)).get k)
  rw [get_replicate]
  unfold FbBus.GuardOk
  decide

theorem guardOk_closed : Closed anyLevel fun s => s.foldback.GuardOk where
  raise hs := by simpa using hs
  level _ hs := by simpa [setLevelOf_foldback] using hs
  foldback hf hs := (hf _).guards hs

theorem guardOk_stepped : Stepped anyLevel fun s => s.foldback.GuardOk where
  toBase := guardOk_closed.base
  castRole _ hs := by simpa using hs
  foldbackSettings {_} _ {_ _} hf hs := (hf _).guards hs
  showReset hs := FoldbackBlock.showReset_guardOk hs
  leaveReset _ := guardOk_start

end Sys2Proof.Machine

namespace Sys2Proof.Proofs

open Sys2Proof Sys2Proof.Machine

/-- Settles O13: each bound is a property of one block that every change of the block keeps. -/
theorem blockBoundsKept : Obligations.BlockBoundsKept := fun _ _ e =>
  ⟨fun hs => poolOk_stepped.step hs e, fun hs => slotsOk_stepped.step hs e, fun hs => guardOk_stepped.step hs e⟩

end Sys2Proof.Proofs
end

section
/-! PROOFS. The report set, the cast table, the trims and the levels under every step. -/

namespace Sys2Proof.Machine

open Sys2Proof

/-! ### The report set -/

theorem keys_upsert_nodup {l : List Report} (key : ReportKey) (text : String) (h : (l.map (·.key)).Nodup) :
    ((upsert l key text).map (·.key)).Nodup := by
  unfold upsert
  split
  · have hKeys : (Report.key ∘ fun r : Report => if r.key = key then ⟨key, text⟩ else r) = Report.key := by
      funext r; dsimp only [Function.comp]; split <;> simp [*]
    simpa [hKeys] using h
  · rename_i hNew
    simpa [List.nodup_append] using ⟨h, by simpa using hNew⟩

theorem kind_of_mem_upsert {l : List Report} {key : ReportKey} {text : String} {r : Report} (h : r ∈ upsert l key text) :
    r ∈ l ∨ r.key = key := by
  unfold upsert at h
  split at h
  · obtain ⟨q, hq, rfl⟩ := List.mem_map.mp h
    split
    · exact .inr rfl
    · exact .inl hq
  · rcases List.mem_append.mp h with h | h
    · exact .inl h
    · exact .inr (by rw [List.mem_singleton.mp h])

theorem State.ReportsKeyed.raise {s : State} (h : s.link.ReportsKeyed) (key : ReportKey) (text : String) :
    (s.raise key text).link.ReportsKeyed := by
  obtain ⟨hKeys, hKinds⟩ := h
  unfold State.raise
  split
  · exact ⟨hKeys, hKinds⟩
  · rename_i hEnabled
    refine ⟨keys_upsert_nodup _ _ hKeys, fun r hr => ?_⟩
    rcases kind_of_mem_upsert hr with hOld | hNew
    · exact hKinds r hOld
    · rw [hNew]; simpa using hEnabled

theorem LinkBlock.ReportsKeyed.sublist {b b' : LinkBlock} (h : b.ReportsKeyed) (hReports : b'.reports.Sublist b.reports)
    (hDisabled : b'.disabled = b.disabled) : b'.ReportsKeyed :=
  ⟨(hReports.map _).nodup h.1, fun r hr => hDisabled ▸ h.2 r (hReports.subset hr)⟩

theorem LinkBlock.beginLine_reports (b : LinkBlock) :
    b.beginLine.reports.Sublist b.reports ∧ b.beginLine.disabled = b.disabled := by
  unfold LinkBlock.beginLine
  split
  · exact ⟨List.Sublist.refl _, rfl⟩
  · split
    · exact ⟨List.Sublist.refl _, rfl⟩
    · rename_i hReports; rw [hReports]; exact ⟨List.sublist_cons_self _ _, rfl⟩
    · exact ⟨List.Sublist.refl _, rfl⟩

theorem setLevelOf_link (s : State) (t : Target) (c : LevelCode) : (s.setLevelOf t c).link = s.link := by
  cases t <;> rfl

theorem reportsKeyed_closed : Closed anyLevel fun s => s.link.ReportsKeyed where
  raise hs := State.ReportsKeyed.raise hs _ _
  level _ hs := by simpa [setLevelOf_link] using hs

theorem reportsKeyed_stepped : Stepped anyLevel fun s => s.link.ReportsKeyed where
  toBase := reportsKeyed_closed.base
  queues {s f} hf hs := hs.sublist (by rw [State.onLink_link, (hf s.link).1]) (hf s.link).2.1
  beginLine {s} hs := hs.sublist s.link.beginLine_reports.1 s.link.beginLine_reports.2
  castRole {s r p} _ hs := by
    unfold State.castRole
    dsimp only
    repeat' split
    · exact hs
    all_goals repeat apply State.ReportsKeyed.raise
    all_goals exact hs
  mask _ {s disabled} hs := ⟨(List.filter_sublist.map _).nodup hs.1, fun r hr =>
    (by simpa using (List.mem_filter.mp hr).2 : r.key.kind ∉ disabled)⟩
  showReset hs := hs.sublist (List.nil_sublist _) rfl
  enterReset hs := hs
  leaveReset _ := ⟨List.nodup_nil, fun _ h => nomatch h⟩

/-! ### The cast table -/

/-- A holder and a role of a cast table name each other (R43). -/
def CastBlock.Agrees (b : CastBlock) : Prop := ∀ r p, (b.roles.get r).holder = some p ↔ (b.perfs.get p).role = some r

theorem CastBlock.Agrees.congr {b b' : CastBlock} (h : b.Agrees) (hHolder : ∀ r : RoleId, (b'.roles.get r).holder = (b.roles.get r).holder)
    (hRole : ∀ p : PerfId, (b'.perfs.get p).role = (b.perfs.get p).role) : b'.Agrees := fun r p => by
  rw [hHolder, hRole]; exact h r p

theorem CastBlock.Moves.holders {b b' : CastBlock} (h : b.Moves b') (r : RoleId) :
    (b'.roles.get r).holder = (b.roles.get r).holder := by rw [h.roles r]

theorem CastBlock.Moves.held {b b' : CastBlock} (h : b.Moves b') (p : PerfId) :
    (b'.perfs.get p).role = (b.perfs.get p).role := by rw [h.perfs p]

theorem CastBlock.Moves.trims {b b' : CastBlock} (h : b.Moves b') (p : PerfId) :
    (b'.perfs.get p).trim = (b.perfs.get p).trim := by rw [h.perfs p]

section
variable (s : State) (r : RoleId) (p : Option PerfId)

/-- The holders after a CAST (R52). -/
theorem State.castRole_holder (q : RoleId) : ((s.castRole r p).role q).holder = if r = q then p else (s.role q).holder := by
  unfold State.castRole
  dsimp only
  split
  · rename_i hSame; split
    · rename_i hq; subst hq; exact hSame
    · rfl
  · have hRaised : ∀ t : State, ∀ k x, ((t.raisePerf k x).role q).holder = (t.role q).holder := fun t k x => by
      simp only [State.role, State.raisePerf, State.raise_cast]
    have hBegun : ∀ t : State, ∀ old,
        (((t.onRole r fun x => { x with holder := p }).beginCrossfade r old).role q).holder =
          if r = q then p else (t.role q).holder := fun t old => by
      simp only [State.beginCrossfade, role_onRole]
      split <;> simp
    cases (s.role r).holder <;> cases p <;> simp only [hRaised, hBegun] <;> rfl

/-- The roles held after a CAST that changes the holder (R52). -/
theorem State.castRole_held (hNew : (s.role r).holder ≠ p) (q : PerfId) :
    ((s.castRole r p).perf q).role =
      if p = some q then some r else if (s.role r).holder = some q then none else (s.perf q).role := by
  unfold State.castRole
  dsimp only
  rw [if_neg hNew]
  have hRaised : ∀ t : State, ∀ k x, (t.raisePerf k x).perf q = t.perf q := fun t k x => by
    simp only [State.perf, State.raisePerf, State.raise_cast]
  have hBegun : ∀ t : State, ∀ old,
      ((t.onRole r fun x => { x with holder := p }).beginCrossfade r old).perf q = t.perf q := fun _ _ => rfl
  cases hHolder : (s.role r).holder <;> cases p <;> simp only [hRaised, hBegun, perf_onPerf, Option.some.injEq] <;>
    (repeat' split) <;> simp_all

/-- A CAST leaves each performer's trim. -/
theorem State.castRole_trim (q : PerfId) : ((s.castRole r p).perf q).trim = (s.perf q).trim := by
  unfold State.castRole
  dsimp only
  split
  · rfl
  · have hTaken : ∀ t : State, ∀ x role, ((t.onPerf x fun y => { y with role := role }).perf q).trim = (t.perf q).trim :=
      fun t x role => by rw [perf_onPerf]; split <;> simp [*]
    have hRaised : ∀ t : State, ∀ k x, (t.raisePerf k x).perf q = t.perf q := fun t k x => by
      simp only [State.perf, State.raisePerf, State.raise_cast]
    have hBegun : ∀ t : State, ∀ old,
        ((t.onRole r fun x => { x with holder := p }).beginCrossfade r old).perf q = t.perf q := fun _ _ => rfl
    cases (s.role r).holder <;> cases p <;> simp only [hRaised, hBegun, hTaken]

end

theorem State.castRole_agrees {s : State} {r : RoleId} {p : Option PerfId} (hFree : p.any (s.heldElsewhere r) = false)
    (h : s.cast.Agrees) : (s.castRole r p).cast.Agrees := by
  by_cases hNew : (s.role r).holder = p
  · rwa [State.castRole, if_pos hNew]
  · have hAgree : ∀ r p, (s.role r).holder = some p ↔ (s.perf p).role = some r := h
    intro q x
    change ((s.castRole r p).role q).holder = some x ↔ ((s.castRole r p).perf x).role = some q
    rw [State.castRole_holder, State.castRole_held _ _ _ hNew]
    have hUnheld : p = some x → (s.perf x).role = none := by
      rintro rfl
      cases hRole : (s.perf x).role with
      | none => rfl
      | some q' =>
        have : q' = r := by simpa [State.heldElsewhere, hRole] using hFree
        exact absurd ((hAgree r x).mpr (this ▸ hRole)) hNew
    by_cases hq : r = q
    · subst hq
      by_cases hx : p = some x
      · simp [hx]
      · by_cases hOld : (s.role r).holder = some x
        · simp [hx, hOld]
        · simpa [hx, hOld] using (hAgree r x).not.mp hOld
    · by_cases hx : p = some x
      · have := (hAgree q x).not.mpr (by rw [hUnheld hx]; simp)
        simp [hq, hx, this]
      · by_cases hOld : (s.role r).holder = some x
        · have : (s.role q).holder ≠ some x := fun e => hq (Option.some.inj (((hAgree r x).mp hOld).symm.trans ((hAgree q x).mp e)))
          simp [hq, hx, hOld, this]
        · simp only [hq, hx, hOld, if_false]; exact hAgree q x

theorem setLevelOf_cast (s : State) (t : Target) (c : LevelCode) : (s.setLevelOf t c).cast = s.cast := by
  cases t <;> rfl

theorem rolesAgree_closed : Closed anyLevel fun s => s.cast.Agrees where
  raise hs := by simpa using hs
  level _ hs := by simpa [setLevelOf_cast] using hs
  cast hf hs := hs.congr (hf _).holders (hf _).held

theorem rolesAgree_stepped : Stepped anyLevel fun s => s.cast.Agrees where
  toBase := rolesAgree_closed.base
  castSettings {_} _ {_ _} hf hs := hs.congr (hf _).holders (hf _).held
  castRole hFree hs := State.castRole_agrees hFree hs
  showReset hs := hs.congr (fun r => by
    show ((Vector.map (fun x : Role => { x with xfade := none }) _).get r).holder = _
    rw [get_map]) fun _ => rfl
  leaveReset _ := fun r p => by
    show ((Vector.replicate 40 ({} : Role)).get r).holder = some p ↔ ((Vector.replicate 48 ({} : Perf)).get p).role = some r
    rw [get_replicate, get_replicate]; simp

/-! ### The trims -/

theorem State.TrimsOk.congr {s t : State} (h : s.TrimsOk) (hInputs : t.matrix.trims = s.matrix.trims)
    (hPerfs : ∀ p, (t.perf p).trim = (s.perf p).trim ∨ -80 ≤ (t.perf p).trim ∧ (t.perf p).trim ≤ 20) : t.TrimsOk := by
  refine ⟨fun i => hInputs ▸ h.1 i, fun p => ?_⟩
  rcases hPerfs p with e | hRange
  · rw [e]; exact h.2 p
  · exact hRange

theorem setLevelOf_trims (s : State) (t : Target) (c : LevelCode) : (s.setLevelOf t c).matrix.trims = s.matrix.trims := by
  cases t <;> rfl

theorem trimsOk_closed : Closed anyLevel State.TrimsOk where
  raise {s key text} hs := hs.congr (by rw [State.raise_matrix]) fun p => .inl (by simp only [State.perf, State.raise_cast])
  level {s t c} _ hs := hs.congr (setLevelOf_trims _ _ _) fun p => .inl (by simp only [State.perf, setLevelOf_cast])
  cast hf hs := hs.congr rfl fun p => .inl ((hf _).trims p)

theorem trimsOk_stepped : Stepped anyLevel State.TrimsOk where
  toBase := trimsOk_closed.base
  trim _ {s i x} hLow hHigh hs := by
    refine ⟨fun j => ?_, hs.2⟩
    show -80 ≤ (put s.matrix.trims i x).get j ∧ (put s.matrix.trims i x).get j ≤ 20
    rw [get_put]
    split
    · exact ⟨hLow, hHigh⟩
    · exact hs.1 j
  castSettings {_} _ {_ _} hf hs := hs.congr rfl (hf _).trims
  castRole {s r p} _ hs := hs.congr (by simp) fun q => .inl (State.castRole_trim _ _ _ _)
  showReset hs := hs.congr rfl fun _ => .inl rfl
  leaveReset _ := by
    refine ⟨fun i => ?_, fun p => ?_⟩
    · show -80 ≤ (Vector.replicate 64 (0 : LevelCode)).get i ∧ (Vector.replicate 64 (0 : LevelCode)).get i ≤ 20
      rw [get_replicate]; decide
    · show -80 ≤ ((Vector.replicate 48 ({} : Perf)).get p).trim ∧ ((Vector.replicate 48 ({} : Perf)).get p).trim ≤ 20
      rw [get_replicate]; decide

/-! ### The levels -/

/-- A level on the way between two levels of a range lies in the range (R29). -/
theorem interpolate_range {lo hi a b : Int} {t d : Nat} (ha : lo ≤ a ∧ a ≤ hi) (hb : lo ≤ b ∧ b ≤ hi) (hLate : t ≤ d) :
    lo ≤ interpolate a b t d ∧ interpolate a b t d ≤ hi := by
  have hUp : ∀ x : Int, 0 ≤ x → 0 ≤ (x * t).tdiv d ∧ (x * t).tdiv d ≤ x := fun x hx =>
    ⟨Int.tdiv_nonneg (by positivity) (by positivity), by
      rw [Int.tdiv_eq_ediv_of_nonneg (by positivity)]
      rcases Nat.eq_zero_or_pos d with rfl | hd
      · simpa using hx
      · exact Int.ediv_le_of_le_mul (by exact_mod_cast hd) (by gcongr)⟩
  unfold interpolate
  rcases le_total a b with hab | hab
  · obtain ⟨hLow, hHigh⟩ := hUp (b - a) (by linarith)
    exact ⟨by linarith, by linarith⟩
  · obtain ⟨hLow, hHigh⟩ := hUp (a - b) (by linarith)
    have hNeg : ((b - a) * t).tdiv d = -(((a - b) * t).tdiv d) := by rw [← Int.neg_tdiv]; congr 1; ring
    rw [hNeg]
    exact ⟨by linarith, by linarith⟩

theorem Fade.levelNow_range {f : Fade} (hStart : targetCode f.target f.start) (hGoal : targetCode f.target f.goal)
    (hLate : f.due = false) : targetCode f.target f.levelNow := by
  have hTime : f.elapsed / Config.framesPerMs ≤ f.ms := by
    have hShort : ¬ 48 * f.ms ≤ f.elapsed := of_decide_eq_false hLate
    show f.elapsed / 48 ≤ f.ms
    omega
  unfold Fade.levelNow
  cases hTarget : f.target <;> rw [hTarget] at hStart hGoal <;> exact interpolate_range hStart hGoal hTime

theorem Fade.advance_frame (f : Fade) : f.advance.target = f.target ∧ f.advance.start = f.start ∧ f.advance.goal = f.goal := by
  unfold Fade.advance
  split <;> exact ⟨rfl, rfl, rfl⟩

theorem State.LevelsOk.levelOf {s : State} (h : s.LevelsOk) (t : Target) : targetCode t (s.levelOf t) := by
  obtain ⟨hXpts, hVoices, -⟩ := h
  cases t with
  | xpt row bus => exact hXpts row bus
  | voice v => exact hVoices v

/-- Other blocks than the crosspoints, the readers, the fade pool and the cue list do not matter to the levels. -/
theorem State.LevelsOk.congr {s t : State} (h : s.LevelsOk) (hXpts : t.matrix.xpts = s.matrix.xpts) (hFetch : t.fetch = s.fetch)
    (hFades : t.fades = s.fades) (hCues : t.cues = s.cues) : t.LevelsOk := by
  unfold State.LevelsOk State.xpt State.voice State.reader
  rw [hXpts, hFetch, hFades, hCues]
  exact h

theorem State.LevelsOk.pool {s : State} (h : s.LevelsOk) {f : FadeBlock → FadeBlock}
    (hf : ∀ x ∈ (f s.fades).pool, targetCode x.target x.start ∧ targetCode x.target x.goal) : (s.onFades f).LevelsOk :=
  ⟨h.1, h.2.1, hf, h.2.2.2⟩

theorem State.LevelsOk.edits {s : State} (h : s.LevelsOk) {f : List Cue → List Cue}
    (hf : ∀ c ∈ f s.cues, ∀ a ∈ c.actions, actionCode a ∨ ∃ d ∈ s.cues, a ∈ d.actions) : (s.onCues f).LevelsOk :=
  ⟨h.1, h.2.1, h.2.2.1, fun c hc a ha => (hf c hc a ha).elim id fun ⟨d, hd, hOld⟩ => h.2.2.2 d hd a hOld⟩

theorem State.LevelsOk.setLevelOf {s : State} (h : s.LevelsOk) {t : Target} {c : LevelCode} (hc : targetCode t c) :
    (s.setLevelOf t c).LevelsOk := by
  obtain ⟨hXpts, hVoices, hPool, hCues⟩ := h
  cases t with
  | xpt row bus =>
    refine ⟨fun row' bus' => ?_, hVoices, hPool, hCues⟩
    show crosspointCode ((s.setXpt row bus c).xpt row' bus')
    rw [xpt_setXpt]
    split
    · exact hc
    · exact hXpts row' bus'
  | voice v =>
    refine ⟨hXpts, fun w => ?_, hPool, hCues⟩
    show voiceCode ((s.onReader (voiceReader v) fun r => { r with level := c }).reader (voiceReader w)).level
    rw [reader_onReader]
    split
    · exact hc
    · exact hVoices w

theorem crosspointCode_off : crosspointCode offCode := ⟨le_refl _, by decide⟩

theorem voiceCode_off : voiceCode offCode := ⟨le_refl _, by decide⟩

theorem State.LevelsOk.cleared {s : State} (hXpts : s.matrix.xpts = .replicate 128 (.replicate 25 offCode))
    (hReaders : s.fetch.readers = .replicate 26 {}) (hPool : s.fades.pool = [])
    (hCues : ∀ c ∈ s.cues, ∀ a ∈ c.actions, actionCode a) : s.LevelsOk := by
  refine ⟨fun row bus => ?_, fun v => ?_, fun f hf => ?_, hCues⟩
  · rw [State.xpt, hXpts, get_replicate, get_replicate]; exact crosspointCode_off
  · rw [State.voice, State.reader, hReaders, get_replicate]; exact voiceCode_off
  · rw [hPool] at hf; cases hf

theorem levelsOk_closed : Closed targetCode State.LevelsOk where
  raise {s key text} hs := hs.congr (by simp) (by simp) (by simp) (by simp)
  level hc hs := hs.setLevelOf hc
  snaps hs := hs
  filterPool hs := hs.pool fun x hx => hs.2.2.1 x (List.mem_of_mem_filter hx)
  mapPool {s g} hg hs := hs.pool fun x hx => by
    obtain ⟨f, hf, rfl⟩ := List.mem_map.mp hx
    rw [(hg f).1, (hg f).2.1, (hg f).2.2]; exact hs.2.2.1 f hf
  replaceFade {s x} hStart hGoal hs := hs.pool fun y hy => by
    obtain ⟨f, hf, rfl⟩ := List.mem_map.mp hy
    split
    · rw [hStart]; exact ⟨hs.levelOf _, hGoal⟩
    · exact hs.2.2.1 f hf
  addFade {s x} hStart hGoal _ _ hs := hs.pool fun y hy => by
    rcases List.mem_append.mp hy with hOld | hNew
    · exact hs.2.2.1 y hOld
    · rw [List.mem_singleton.mp hNew, hStart]; exact ⟨hs.levelOf _, hGoal⟩
  allowOff t := by
    cases t with
    | xpt row bus => exact crosspointCode_off
    | voice v => exact voiceCode_off
  allowTop v := ⟨by decide, le_refl _⟩
  allowGoal hs hf := (hs.2.2.1 _ hf).2
  allowStep {s f} hs hf hDue := by
    obtain ⟨hTarget, hStart, hGoal⟩ := f.advance_frame
    obtain ⟨hs, hg⟩ := hs.2.2.1 f hf
    have := Fade.levelNow_range (f := f.advance) (by rwa [hTarget, hStart]) (by rwa [hTarget, hGoal]) hDue
    rwa [hTarget] at this
  allowAction hs hc ha := hs.2.2.2 _ hc _ ha
  fetch {s f} hf hs := ⟨hs.1, fun v => by
    rcases (hf s.fetch).levels v with e | hAllowed
    · show voiceCode ((f s.fetch).readers.get (voiceReader v)).level
      rw [e]; exact hs.2.1 v
    · exact hAllowed, hs.2.2⟩

theorem levelsOk_stepped : Stepped targetCode State.LevelsOk where
  toBase := levelsOk_closed.base
  allowCode hc := hc
  fetchSettings {k} _ {s f} hf hs := ⟨hs.1, fun v => by
    show voiceCode ((f s.fetch).readers.get (voiceReader v)).level
    rw [(hf s.fetch).readers]; exact hs.2.1 v, hs.2.2⟩
  newCue _ {_ _ _ _} _ _ hs := hs.edits fun c hc a ha => .inr (placeCue_actions hc ha)
  newAction _ {s n c a} hCode _ _ _ hs := hs.edits fun c hc b hb => by
    obtain ⟨d, hd, hOld | hNew⟩ := changeActions_actions hc hb
    · exact .inr ⟨d, hd, hOld⟩
    · rcases List.mem_append.mp hNew with hOld | hNew
      · exact .inr ⟨d, hd, hOld⟩
      · exact .inl (List.mem_singleton.mp hNew ▸ hCode)
  oldAction _ {_ _ _} hs := hs.edits fun c hc b hb => by
    obtain ⟨d, hd, hOld | hNew⟩ := changeActions_actions hc hb
    · exact .inr ⟨d, hd, hOld⟩
    · exact .inr ⟨d, hd, List.mem_of_mem_eraseIdx hNew⟩
  oldCue _ {_ _} _ hs := hs.edits fun c hc a ha => .inr ⟨c, List.mem_of_mem_filter hc, ha⟩
  oldStandby _ {_ _} _ hs := hs.edits (f := fun l => l.filter _) fun c hc a ha => .inr ⟨c, List.mem_of_mem_filter hc, ha⟩
  castRole {s r p} _ hs := hs.congr (by simp) (by simp) (by simp) (kept_cues (State.castRole_frame _ _ _).1)
  showReset hs := .cleared rfl rfl rfl hs.2.2.2
  enterReset hs := hs
  leaveReset _ := .cleared rfl rfl rfl fun c h => absurd h List.not_mem_nil

end Sys2Proof.Machine

namespace Sys2Proof.Proofs

open Sys2Proof Sys2Proof.Machine

/-- Settles O14: a level moves to a level as held, to the end of a fade, to a level between the ends of one, or to the level of a cue
action, and each of these lies in its range. -/
theorem levelsKept : Obligations.LevelsKept := fun _ _ hTrims hLevels e =>
  ⟨trimsOk_stepped.step hTrims e, levelsOk_stepped.step hLevels e⟩

end Sys2Proof.Proofs
end

section
/-! PROOFS. The link's queues under every step (R194, R195, R199, R200). -/

namespace Sys2Proof.Machine

open Sys2Proof

/-- The lines and the replies that wait. -/
def State.queues (s : State) : List Instr × List String := (s.link.rxq, s.link.replies)

/-- No operation but a reply, a received line and the transmitter touches the queues. -/
theorem queues_closed (q : List Instr × List String) : Closed anyLevel fun s => s.queues = q where
  raise {s key text} hs := by
    rw [← hs]
    show ((s.raise key text).link.rxq, (s.raise key text).link.replies) = _
    rw [State.raise_link]; rfl
  level _ hs := by simpa [State.queues, setLevelOf_link] using hs

theorem queues_settable (q : List Instr × List String) : Settable anyLevel (fun _ => True) fun s => s.queues = q where
  toBase := (queues_closed q).base
  castRole {s r p} _ hs := by
    have hKept := (State.castRole_frame s r p).1
    rw [← hs, State.queues, kept_rxq hKept, kept_replies hKept, State.queues]

section
variable {s : State}

theorem eventsOwed_queues : s.eventsOwed.queues = s.queues := (queues_settable s.queues).toBase.surrounded.eventsOwed rfl

theorem answer_queues (tag : Tag) {run : State → Answer} (hRun : Answer.Keeps (fun t => t.queues = s.queues) (run s)) :
    ∃ x, (s.answer tag run).queues = (s.link.rxq, s.link.replies ++ [x]) := by
  unfold State.answer
  split
  · exact ⟨_, rfl⟩
  · rename_i t text e
    have hQueues : t.finish.queues = s.queues := (queues_settable s.queues).toBase.finish (hRun t text e)
    obtain ⟨hLines, hReplies⟩ := Prod.mk.inj hQueues
    refine ⟨tagText tag ++ ("OK " ++ text t.finish), Prod.ext hLines ?_⟩
    show t.finish.link.replies ++ _ = _
    rw [hReplies]

theorem linkFailure_queues (tag : Tag) (why : LinkFail) :
    ∃ x, (s.linkFailure tag why).queues = (s.link.rxq, s.link.replies ++ [x]) := by
  cases why <;> exact ⟨_, rfl⟩

theorem State.LinkBounded.of_queues {t : State} (h : s.LinkBounded) (e : t.queues = s.queues) : t.LinkBounded := by
  obtain ⟨hLines, hReplies⟩ := Prod.mk.inj e
  exact ⟨hLines ▸ h.1, hReplies ▸ h.2⟩

theorem State.LinkBounded.raiseLink (h : s.LinkBounded) (e : String) : (s.raiseLink e).LinkBounded :=
  h.of_queues ((queues_settable s.queues).raise rfl)

theorem State.LinkBounded.overflowLine (h : s.LinkBounded) : s.overflowLine.LinkBounded :=
  State.LinkBounded.raiseLink (s := s.onLink fun b => { b with overflow := bump b.overflow }) h _

theorem State.LinkBounded.enqueueLine (h : s.LinkBounded) (c : Instr) : (s.enqueueLine c).LinkBounded := by
  unfold State.enqueueLine
  split
  · exact h.overflowLine
  · rename_i hRoom
    refine ⟨?_, h.2⟩
    show (s.link.rxq ++ [c]).length ≤ _
    rw [List.length_append]; exact not_le.mp hRoom

theorem State.LinkBounded.receiveLine (h : s.LinkBounded) (chars : List RxChar) (metFull : Bool) :
    (s.receiveLine chars metFull).LinkBounded := by
  unfold State.receiveLine
  dsimp only
  split
  · exact h
  · have hFraming : (if (Text.keptChars chars).any (·.framing) then s.framingLine else s).LinkBounded := by
      split
      · exact State.LinkBounded.raiseLink (s := s.onLink fun b => { b with framing := bump b.framing }) h _
      · exact h
    split
    · exact hFraming.overflowLine
    · exact hFraming.enqueueLine _

theorem State.LinkBounded.beginLine (h : s.LinkBounded) : (s.onLink LinkBlock.beginLine).LinkBounded := by
  have hBegun : s.link.beginLine.rxq = s.link.rxq ∧ s.link.beginLine.replies.length ≤ s.link.replies.length := by
    unfold LinkBlock.beginLine
    split
    · exact ⟨rfl, le_refl _⟩
    · split
      · rename_i hReplies; rw [hReplies]; exact ⟨rfl, Nat.le_succ _⟩
      · exact ⟨rfl, le_refl _⟩
      · exact ⟨rfl, le_refl _⟩
  exact ⟨hBegun.1 ▸ h.1, hBegun.2.trans h.2⟩

/-- A line keeps the bounds where what it does, once taken, leaves the lines that wait and places one reply. -/
theorem State.LinkBounded.commandLine (h : s.LinkBounded) (c : Instr) {carry : State → State}
    (hCarry : ∀ s, ∃ x, (carry s).queues = (s.link.rxq, s.link.replies ++ [x])) : (s.commandLine c carry).LinkBounded := by
  have hTaken : ∀ u : State, u.LinkBounded → u.replyRoom = true → (carry u.eventsOwed).LinkBounded := fun u hu hRoom => by
    obtain ⟨x, hx⟩ := hCarry u.eventsOwed
    obtain ⟨hLines, hReplies⟩ := Prod.mk.inj hx
    obtain ⟨hOwedLines, hOwedReplies⟩ := Prod.mk.inj (eventsOwed_queues (s := u))
    refine ⟨by rw [hLines, hOwedLines]; exact hu.1, ?_⟩
    rw [hReplies, hOwedReplies, List.length_append]
    exact of_decide_eq_true hRoom
  unfold State.commandLine
  split
  · exact h
  · split
    · split
      · exact hTaken s h ‹_›
      · exact h.enqueueLine c
    · split
      · split
        · rename_i hRoom
          exact hTaken s.dropLine ⟨(List.length_tail ▸ Nat.sub_le _ _).trans h.1, h.2⟩ hRoom
        · exact h
      · exact h.enqueueLine c

theorem State.LinkBounded.line (h : s.LinkBounded) {c : Instr} (hLine : c.isLine = true) {t : State}
    (e : exec c s = .next t) : t.LinkBounded := by
  by_cases hUnknown : ∃ tag why, c = .unknown tag why
  · obtain ⟨tag, why, rfl⟩ := hUnknown
    rw [exec_unknown] at e
    cases e
    exact h.commandLine _ fun s => linkFailure_queues tag why
  · have hUnknown : ∀ tag why, c ≠ .unknown tag why := fun tag why e => hUnknown ⟨tag, why, e⟩
    cases hQuery : c.isQuery with
    | false =>
      rw [exec_answerOf hLine hQuery hUnknown] at e
      cases e
      exact h.commandLine _ fun s => answer_queues _ ((queues_settable s.queues).answerOf hLine (fun _ _ => trivial) rfl)
    | true =>
      obtain ⟨run, hRun, -, hAsks⟩ := exec_command c hLine hUnknown
      rw [hRun] at e
      cases e
      exact h.commandLine _ fun s => answer_queues _ (keeps_of_asks rfl (hAsks hQuery s))

theorem linkBounded_surrounded : Surrounded State.LinkBounded State.LinkBounded where
  within := id
  raise {s _ _} hs := hs.of_queues ((queues_settable s.queues).raise rfl)
  finish {s} hs := hs.of_queues ((queues_settable s.queues).toBase.finish rfl)
  expireChain {s} hs := hs.of_queues ((queues_settable s.queues).toBase.expireChain rfl)
  priming {s} hs := hs.of_queues ((queues_settable s.queues).toBase.surrounded.priming rfl)

theorem queues_ported (q : List Instr × List String) : Ported anyLevel fun s => s.queues = q where
  toBase := (queues_settable q).toBase

theorem State.LinkBounded.effect (h : s.LinkBounded) {c : Instr} (hLine : c.isLine = false) : (c.effect s).LinkBounded := by
  cases hLink : isLinkEvent c with
  | false => exact h.of_queues ((queues_ported s.queues).effect hLine (fun e => Bool.noConfusion (hLink.symm.trans e)) rfl)
  | true =>
    cases c
    case lineReceived chars metFull => exact h.receiveLine chars metFull
    case transmitLine => exact h.beginLine
    all_goals exact Bool.noConfusion hLink

theorem State.LinkBounded.exec (h : s.LinkBounded) {c : Instr} {t : State} (e : exec c s = .next t) : t.LinkBounded := by
  cases hLine : c.isLine with
  | true => exact h.line hLine e
  | false =>
    cases hPin : c.isPinEvent with
    | false => exact linkBounded_surrounded.event hLine hPin (fun s hs => hs.effect hLine) h e
    | true =>
      cases c
      case pause asserted => cases e; exact h
      case fullReset => cases e; exact h
      case resetEnd baud1 baud0 =>
        cases e
        split
        · exact ⟨Nat.zero_le _, Nat.zero_le _⟩
        · exact h
      all_goals exact Bool.noConfusion hPin

end

end Sys2Proof.Machine

namespace Sys2Proof.Proofs

open Sys2Proof Sys2Proof.Machine

/-- Settles O10: a reply is placed only where a place is free, a line enters the queue only where it has room, and a raised report takes
the place of the entry under its key. -/
theorem linkInvariantsKept : Obligations.LinkInvariantsKept := fun _ _ hLink hReports e =>
  ⟨step_keeps (P := State.LinkBounded) (fun _ _ hs => hs) (fun _ _ _ hs e => hs.exec e) hLink e,
    reportsKeyed_stepped.step hReports e⟩

end Sys2Proof.Proofs
end

section
/-! PROOFS. The cue list, the standby position and the call table under every step (R84, R85, R87, R92, R99, R167, R168). -/

namespace Sys2Proof.Machine

open Sys2Proof

/-! ### The cue list -/

/-- The bounds of a cue list (R84, R85, R87, R92). -/
def cueListOk (l : List Cue) : Prop :=
  (l.map (·.number)).Pairwise (· < ·) ∧ l.length ≤ Config.maxCues ∧
    (∀ c ∈ l, cueInRange c.number = true ∧ c.actions.length ≤ Config.actionsPerCue) ∧
    (l.map fun c => c.actions.length).sum ≤ Config.actionPool

section
variable {n : Nat} {label : Name} {link : Link} {l : List Cue}

theorem cueListOk.sublist {l' : List Cue} (h : cueListOk l) (hl : l'.Sublist l) : cueListOk l' := by
  obtain ⟨hOrder, hLength, hCues, hPool⟩ := h
  exact ⟨hOrder.sublist (hl.map _), hl.length_le.trans hLength, fun c hc => hCues c (hl.subset hc),
    ((hl.map _).sum_le_sum fun _ _ => Nat.zero_le _).trans hPool⟩

/-- Two cues of a list with one number are one cue. -/
theorem cueListOk.eq_of_number (h : cueListOk l) {c d : Cue} (hc : c ∈ l) (hd : d ∈ l) (e : c.number = d.number) : c = d :=
  List.inj_on_of_nodup_map (h.1.imp fun hLt => hLt.ne) hc hd e

theorem placeCue_mem {c : Cue} (hc : c ∈ placeCue n label link l) :
    (c.number = n ∧ c.actions = []) ∨ ∃ d ∈ l, d.number = c.number ∧ d.actions = c.actions := by
  induction l with
  | nil => exact .inl (by rw [List.mem_singleton.mp hc]; exact ⟨rfl, rfl⟩)
  | cons d l ih =>
    unfold placeCue at hc
    split at hc
    · rcases List.mem_cons.mp hc with rfl | hc
      · exact .inl ⟨rfl, rfl⟩
      · exact .inr ⟨c, hc, rfl, rfl⟩
    · split at hc
      · rcases List.mem_cons.mp hc with rfl | hc
        · exact .inr ⟨d, List.mem_cons_self, rfl, rfl⟩
        · exact .inr ⟨c, List.mem_cons_of_mem _ hc, rfl, rfl⟩
      · rcases List.mem_cons.mp hc with rfl | hc
        · exact .inr ⟨c, List.mem_cons_self, rfl, rfl⟩
        · rcases ih hc with hNew | ⟨e, he, hSame⟩
          · exact .inl hNew
          · exact .inr ⟨e, List.mem_cons_of_mem _ he, hSame⟩

theorem placeCue_numbers {m : Nat} : m ∈ (placeCue n label link l).map (·.number) ↔ m = n ∨ m ∈ l.map (·.number) := by
  induction l with
  | nil => simp [placeCue]
  | cons d l ih =>
    unfold placeCue
    split
    · simp
    · split
      · rename_i hSame; simp [hSame]
      · simp only [List.map_cons, List.mem_cons, ih]; tauto

theorem placeCue_sum : ((placeCue n label link l).map fun c => c.actions.length).sum = (l.map fun c => c.actions.length).sum := by
  induction l with
  | nil => rfl
  | cons d l ih =>
    unfold placeCue
    split
    · simp
    · split
      · rfl
      · simp [ih]

theorem placeCue_pairwise (h : (l.map (·.number)).Pairwise (· < ·)) :
    ((placeCue n label link l).map (·.number)).Pairwise (· < ·) := by
  induction l with
  | nil => exact List.pairwise_singleton _ _
  | cons d l ih =>
    obtain ⟨hHead, hTail⟩ := List.pairwise_cons.mp h
    unfold placeCue
    split
    · rename_i hBelow
      refine List.pairwise_cons.mpr ⟨fun m hm => ?_, h⟩
      rcases List.mem_cons.mp hm with rfl | hm
      · exact hBelow
      · exact hBelow.trans (hHead m hm)
    · rename_i hNotBelow
      split
      · rename_i hSame; subst hSame; exact h
      · rename_i hNe
        refine List.pairwise_cons.mpr ⟨fun m hm => ?_, ih hTail⟩
        rcases placeCue_numbers.mp hm with rfl | hm
        · exact lt_of_le_of_ne (not_lt.mp hNotBelow) (Ne.symm hNe)
        · exact hHead m hm

theorem placeCue_length_le : (placeCue n label link l).length ≤ l.length + 1 := by
  induction l with
  | nil => exact le_refl _
  | cons d l ih =>
    unfold placeCue
    split
    · exact le_refl _
    · split
      · exact Nat.le_succ _
      · exact Nat.succ_le_succ ih

/-- A CUE with a number of the list replaces a header. -/
theorem placeCue_length_of_mem (hOrder : (l.map (·.number)).Pairwise (· < ·)) (hn : n ∈ l.map (·.number)) :
    (placeCue n label link l).length = l.length := by
  induction l with
  | nil => cases hn
  | cons d l ih =>
    obtain ⟨hHead, hTail⟩ := List.pairwise_cons.mp hOrder
    unfold placeCue
    split
    · rename_i hBelow
      rcases List.mem_cons.mp hn with hSame | hn
      · exact absurd hSame hBelow.ne
      · exact absurd (hHead n hn) (not_lt.mpr hBelow.le)
    · split
      · rfl
      · rename_i hNe
        rcases List.mem_cons.mp hn with hSame | hn
        · exact absurd hSame hNe
        · exact congrArg Nat.succ (ih hTail hn)

theorem cueListOk.placeCue (h : cueListOk l) (hRange : cueInRange n = true)
    (hRoom : n ∉ l.map (·.number) → l.length < Config.maxCues) : cueListOk (placeCue n label link l) := by
  obtain ⟨hOrder, hLength, hCues, hPool⟩ := h
  refine ⟨placeCue_pairwise hOrder, ?_, fun c hc => ?_, placeCue_sum.trans_le hPool⟩
  · by_cases hn : n ∈ l.map (·.number)
    · rw [placeCue_length_of_mem hOrder hn]; exact hLength
    · exact placeCue_length_le.trans (hRoom hn)
  · rcases placeCue_mem hc with ⟨hNumber, hActions⟩ | ⟨d, hd, hNumber, hActions⟩
    · rw [hNumber, hActions]; exact ⟨hRange, Nat.zero_le _⟩
    · rw [← hNumber, ← hActions]; exact hCues d hd

theorem changeActions_numbers (f : List Action → List Action) : (changeActions n f l).map (·.number) = l.map (·.number) := by
  rw [changeActions, List.map_map]
  refine List.map_congr_left fun c _ => ?_
  dsimp only [Function.comp]
  split <;> rfl

theorem changeActions_sum_le {f : List Action → List Action} (hf : ∀ x, (f x).length ≤ x.length) :
    ((changeActions n f l).map fun c => c.actions.length).sum ≤ (l.map fun c => c.actions.length).sum := by
  rw [changeActions, List.map_map]
  refine List.sum_le_sum fun c _ => ?_
  dsimp only [Function.comp]
  split
  · exact hf _
  · exact le_refl _

/-- An ACT takes one entry of the pool: one cue of the list has its number. -/
theorem changeActions_append_sum (a : Action) (hNumbers : (l.map (·.number)).Nodup) :
    ((changeActions n (· ++ [a]) l).map fun c => c.actions.length).sum ≤ (l.map fun c => c.actions.length).sum + 1 := by
  induction l with
  | nil => exact Nat.zero_le _
  | cons d l ih =>
    obtain ⟨hHead, hTail⟩ := List.nodup_cons.mp hNumbers
    by_cases hd : d.number = n
    · have hRest : changeActions n (· ++ [a]) l = l := by
        rw [changeActions]
        conv_rhs => rw [← List.map_id l]
        refine List.map_congr_left fun c hc => if_neg fun hSame => hHead ?_
        exact List.mem_map.mpr ⟨c, hc, hSame.trans hd.symm⟩
      have hList : changeActions n (· ++ [a]) (d :: l) = { d with actions := d.actions ++ [a] } :: l := by
        show (if d.number = n then { d with actions := d.actions ++ [a] } else d) :: changeActions n (· ++ [a]) l = _
        rw [if_pos hd, hRest]
      rw [hList]
      simp only [List.map_cons, List.sum_cons, List.length_append, List.length_singleton]
      omega
    · have hList : changeActions n (· ++ [a]) (d :: l) = d :: changeActions n (· ++ [a]) l := by
        show (if d.number = n then { d with actions := d.actions ++ [a] } else d) :: changeActions n (· ++ [a]) l = _
        rw [if_neg hd]
      rw [hList]
      simp only [List.map_cons, List.sum_cons]
      have := ih hTail
      omega

theorem cueListOk.changeActions (h : cueListOk l) {f : List Action → List Action}
    (hShort : ∀ c ∈ l, c.number = n → (f c.actions).length ≤ Config.actionsPerCue)
    (hPool : ((changeActions n f l).map fun c => c.actions.length).sum ≤ Config.actionPool) :
    cueListOk (changeActions n f l) := by
  obtain ⟨hOrder, hLength, hCues, -⟩ := h
  refine ⟨(changeActions_numbers f).symm ▸ hOrder, ?_, fun c hc => ?_, hPool⟩
  · rw [Machine.changeActions, List.length_map]; exact hLength
  · obtain ⟨d, hd, rfl⟩ := List.mem_map.mp hc
    split
    · exact ⟨(hCues d hd).1, hShort d hd ‹_›⟩
    · exact hCues d hd

end

/-! ### The cue list and the standby position -/

/-- The cue list within its bounds, and the standby position listed (R84, R99). -/
def State.CueTable (s : State) : Prop := cueListOk s.cues ∧ s.StandbyListed

section
variable {s : State}

theorem State.cueAt_mem_of_eq {n : Nat} {c : Cue} (e : s.cueAt n = some c) : c ∈ s.cues ∧ c.number = n :=
  ⟨List.mem_of_find?_eq_some e, by simpa using List.find?_some e⟩

theorem State.cueAt_isNone {n : Nat} : (s.cueAt n).isNone = true ↔ n ∉ s.cues.map (·.number) := by
  simp [State.cueAt]

/-- Other parts of the state than the cue list and the standby position do not matter. -/
theorem State.CueTable.congr {t : State} (h : s.CueTable) (hCues : t.cues = s.cues)
    (hStandby : t.engine.standby = s.engine.standby) : t.CueTable :=
  ⟨hCues ▸ h.1, fun n e => hCues ▸ h.2 n (hStandby ▸ e)⟩

theorem setLevelOf_cueTable {t : Target} {c : LevelCode} (h : s.CueTable) : (s.setLevelOf t c).CueTable := by
  cases t <;> exact h

theorem State.CueTable.newAction (h : s.CueTable) {n : Nat} {c : Cue} {a : Action} (hc : s.cueAt n = some c)
    (hShort : c.actions.length < Config.actionsPerCue) (hFree : s.poolFree ≠ 0) :
    (s.onCues (changeActions n (· ++ [a]))).CueTable := by
  obtain ⟨hMem, hNumber⟩ := State.cueAt_mem_of_eq hc
  refine ⟨h.1.changeActions (fun d hd hSame => ?_) ((changeActions_append_sum a (h.1.1.imp fun hLt => hLt.ne)).trans ?_),
    fun m hm => ?_⟩
  · have : d = c := h.1.eq_of_number hd hMem (hSame.trans hNumber.symm)
    rw [this, List.length_append]; exact hShort
  · have hUsed : Config.actionPool - s.poolUsed ≠ 0 := hFree
    change s.poolUsed + 1 ≤ _
    omega
  · change m ∈ (changeActions n (· ++ [a]) s.cues).map (·.number)
    rw [changeActions_numbers]; exact h.2 m hm

end

theorem cueTable_closed : Closed anyLevel State.CueTable where
  raise hs := hs.congr (by simp) (by simp)
  engine {s f} hf hs := hs.congr rfl (hf s.engine).2
  standby hListed hs := ⟨hs.1, hListed⟩
  level _ hs := setLevelOf_cueTable hs

theorem cueTable_stepped : Stepped anyLevel State.CueTable where
  toBase := cueTable_closed.base
  engineSettings _ {s f} hf hs := hs.congr rfl (congrArg (·.standby) (hf s.engine))
  castRole {s r p} _ hs := hs.congr (kept_cues (State.castRole_frame s r p).1) (by simp)
  newCue _ {_ _ _ _} hRange hRoom hs := ⟨hs.1.placeCue hRange fun hNew => hRoom (State.cueAt_isNone.mpr hNew),
    fun m hm => placeCue_numbers.mpr (.inr (hs.2 m hm))⟩
  newAction _ {_ _ _ _} _ hc hShort hFree hs := hs.newAction hc hShort hFree
  oldAction _ {s n i} hs := by
    refine ⟨hs.1.changeActions (fun c hc _ => (List.length_eraseIdx_le _ _).trans (hs.1.2.2.1 c hc).2)
      ((changeActions_sum_le fun _ => List.length_eraseIdx_le _ _).trans hs.1.2.2.2), fun m hm => ?_⟩
    change m ∈ (changeActions n (fun l => l.eraseIdx i) s.cues).map (·.number)
    rw [changeActions_numbers]; exact hs.2 m hm
  oldCue _ {s n} hNot hs := by
    refine ⟨hs.1.sublist List.filter_sublist, fun m hm => ?_⟩
    obtain ⟨c, hc, rfl⟩ := List.mem_map.mp (hs.2 m hm)
    exact List.mem_map_of_mem (List.mem_filter.mpr ⟨hc, decide_eq_true fun (e : c.number = n) => hNot (e ▸ hm)⟩)
  oldStandby _ {_ _} _ hs := ⟨hs.1.sublist List.filter_sublist, fun _ hm => State.cueAfter_listed hm⟩
  showReset {s} hs := ⟨hs.1, fun n hn => by
    obtain ⟨c, hc, rfl⟩ := Option.map_eq_some_iff.mp hn
    exact List.mem_map_of_mem (List.mem_of_head? hc)⟩
  enterReset hs := hs
  leaveReset _ := ⟨⟨List.Pairwise.nil, Nat.zero_le _, fun _ h => absurd h List.not_mem_nil, Nat.zero_le _⟩, nofun⟩

/-! ### The call table -/

theorem State.CallsOk.congr {s t : State} (h : s.CallsOk) (hCalls : t.router.calls = s.router.calls)
    (hStamp : t.router.admitStamp = s.router.admitStamp) : t.CallsOk := by
  unfold State.CallsOk
  rw [hCalls, hStamp]; exact h

theorem setLevelOf_router (s : State) (t : Target) (c : LevelCode) : (s.setLevelOf t c).router = s.router := by
  cases t <;> rfl

theorem State.CallsOk.of_empty {s : State} (hCalls : s.router.calls = []) : s.CallsOk := by
  unfold State.CallsOk
  rw [hCalls]
  exact ⟨Nat.zero_le _, List.nodup_nil, fun _ h => absurd h List.not_mem_nil, List.Pairwise.nil, List.nodup_nil⟩

theorem callsOk_closed : Closed anyLevel State.CallsOk where
  raise hs := hs.congr (by simp) (by simp)
  level _ hs := hs.congr (by rw [setLevelOf_router]) (by rw [setLevelOf_router])
  router _ hTable _ := hTable fun _ hu => hu

theorem callsOk_stepped : Stepped anyLevel State.CallsOk where
  toBase := callsOk_closed.base
  routerSettings {k} _ {s f} hf hs := hs.congr (hf s.router).calls (hf s.router).admitStamp
  castRole {s r p} _ hs := hs.congr (by simp) (by simp)
  showReset _ := .of_empty rfl
  leaveReset _ := .of_empty rfl

end Sys2Proof.Machine

namespace Sys2Proof.Proofs

open Sys2Proof Sys2Proof.Machine

/-- Settles O12: each table is kept by the edits of its own chapter, and nothing else touches it. -/
theorem tablesKept : Obligations.TablesKept := fun _ _ e =>
  ⟨fun hCues hStandby => cueTable_stepped.step ⟨hCues, hStandby⟩ e, fun hs => rolesAgree_stepped.step hs e,
    fun hs => callsOk_stepped.step hs e⟩

end Sys2Proof.Proofs
end

section
/-! PROOFS. Loaded show data under every command and event (R10 to R200): each command sets what is its own, and nothing else sets it. -/

namespace Sys2Proof.Machine

open Sys2Proof

/-- The states agree in what was loaded but for what the setting `k` sets. -/
structure LoadedAgrees (k : Option Setting) (s t : State) : Prop where
  trims : k ≠ some .input → t.matrix.trims = s.matrix.trims
  names : k ≠ some .role → ∀ r, (t.role r).name = (s.role r).name
  claims : k ≠ some .perf → t.cast.claims = s.cast.claims
  perfs : k ≠ some .perf → ∀ p, (t.perf p).loaded = (s.perf p).loaded
  pages : k ≠ some .page → t.cast.pages = s.cast.pages
  talkin : k ≠ some .talkin → t.cast.talkin = s.cast.talkin
  sup : k ≠ some .supv → t.mic.sup = s.mic.sup
  cues : k ≠ some .cue → t.cues = s.cues
  sounds : k ≠ some .sound → t.fetch.sounds = s.fetch.sounds
  refill : k ≠ some .fetch → t.fetch.refill = s.fetch.refill
  talk : k ≠ some .talkback → t.foldback.talkLevel = s.foldback.talkLevel ∧ t.foldback.talkDepth = s.foldback.talkDepth
  members : k ≠ some .talkback → ∀ q, (t.bus q).member = (s.bus q).member
  buses : k ≠ some .fb → ∀ q, (t.bus q).loaded = (s.bus q).loaded
  zones : k ≠ some .zone → ∀ z, (t.zone z).loaded = (s.zone z).loaded
  lines : k ≠ some .lineset → ∀ n, (t.line n).fn = (s.line n).fn ∧ (t.line n).activeHigh = (s.line n).activeHigh
  stopAllMs : k ≠ some .engine → t.engine.stopAllMs = s.engine.stopAllMs
  presets : k ≠ some .presetDef → t.router.presets = s.router.presets
  disabled : k ≠ some .report → t.link.disabled = s.link.disabled
  baud : t.link.baud = s.link.baud

theorem LoadedAgrees.refl (k : Option Setting) (s : State) : LoadedAgrees k s s := by
  constructor <;> intros <;> simp

theorem LoadedAgrees.trans {k : Option Setting} {s t u : State} (h : LoadedAgrees k s t) (h' : LoadedAgrees k t u) :
    LoadedAgrees k s u where
  trims e := (h'.trims e).trans (h.trims e)
  names e r := (h'.names e r).trans (h.names e r)
  claims e := (h'.claims e).trans (h.claims e)
  perfs e p := (h'.perfs e p).trans (h.perfs e p)
  pages e := (h'.pages e).trans (h.pages e)
  talkin e := (h'.talkin e).trans (h.talkin e)
  sup e := (h'.sup e).trans (h.sup e)
  cues e := (h'.cues e).trans (h.cues e)
  sounds e := (h'.sounds e).trans (h.sounds e)
  refill e := (h'.refill e).trans (h.refill e)
  talk e := ⟨(h'.talk e).1.trans (h.talk e).1, (h'.talk e).2.trans (h.talk e).2⟩
  members e q := (h'.members e q).trans (h.members e q)
  buses e q := (h'.buses e q).trans (h.buses e q)
  zones e z := (h'.zones e z).trans (h.zones e z)
  lines e n := ⟨(h'.lines e n).1.trans (h.lines e n).1, (h'.lines e n).2.trans (h.lines e n).2⟩
  stopAllMs e := (h'.stopAllMs e).trans (h.stopAllMs e)
  presets e := (h'.presets e).trans (h.presets e)
  disabled e := (h'.disabled e).trans (h.disabled e)
  baud := h'.baud.trans h.baud

section
variable {k : Option Setting} {s : State}

/-! ### What each change leaves -/

theorem LoadedAgrees.raise {key : ReportKey} {text : String} : LoadedAgrees k s (s.raise key text) := by
  unfold State.raise
  split
  · exact .refl k s
  · exact { LoadedAgrees.refl k s with disabled := fun _ => rfl, baud := rfl }

theorem LoadedAgrees.onMatrix {f : MatrixBlock → MatrixBlock} (hf : k ≠ some .input → (f s.matrix).trims = s.matrix.trims) :
    LoadedAgrees k s (s.onMatrix f) := { LoadedAgrees.refl k s with trims := hf }

theorem LoadedAgrees.onCast {f : CastBlock → CastBlock}
    (hNames : k ≠ some .role → ∀ r : RoleId, ((f s.cast).roles.get r).name = (s.role r).name)
    (hClaims : k ≠ some .perf → (f s.cast).claims = s.cast.claims)
    (hPerfs : k ≠ some .perf → ∀ p : PerfId, ((f s.cast).perfs.get p).loaded = (s.perf p).loaded)
    (hPages : k ≠ some .page → (f s.cast).pages = s.cast.pages)
    (hTalkin : k ≠ some .talkin → (f s.cast).talkin = s.cast.talkin) : LoadedAgrees k s (s.onCast f) :=
  { LoadedAgrees.refl k s with names := hNames, claims := hClaims, perfs := hPerfs, pages := hPages, talkin := hTalkin }

theorem LoadedAgrees.onFetch {f : FetchBlock → FetchBlock} (hSounds : k ≠ some .sound → (f s.fetch).sounds = s.fetch.sounds)
    (hRefill : k ≠ some .fetch → (f s.fetch).refill = s.fetch.refill) : LoadedAgrees k s (s.onFetch f) :=
  { LoadedAgrees.refl k s with sounds := hSounds, refill := hRefill }

theorem LoadedAgrees.onRouter {f : RouterBlock → RouterBlock}
    (hZones : k ≠ some .zone → ∀ z : ZoneId, ((f s.router).zones.get z).loaded = (s.zone z).loaded)
    (hPresets : k ≠ some .presetDef → (f s.router).presets = s.router.presets) : LoadedAgrees k s (s.onRouter f) :=
  { LoadedAgrees.refl k s with zones := hZones, presets := hPresets }

theorem LoadedAgrees.onFoldback {f : FoldbackBlock → FoldbackBlock}
    (hTalk : k ≠ some .talkback → (f s.foldback).talkLevel = s.foldback.talkLevel ∧ (f s.foldback).talkDepth = s.foldback.talkDepth)
    (hMembers : k ≠ some .talkback → ∀ q : FbId, ((f s.foldback).buses.get q).member = (s.bus q).member)
    (hBuses : k ≠ some .fb → ∀ q : FbId, ((f s.foldback).buses.get q).loaded = (s.bus q).loaded) :
    LoadedAgrees k s (s.onFoldback f) :=
  { LoadedAgrees.refl k s with talk := hTalk, members := hMembers, buses := hBuses }

theorem LoadedAgrees.onLines {f : LineBlock → LineBlock} (hLines : k ≠ some .lineset → s.lines.Moves (f s.lines)) :
    LoadedAgrees k s (s.onLines f) := { LoadedAgrees.refl k s with lines := hLines }

theorem LoadedAgrees.onLink {f : LinkBlock → LinkBlock} (hDisabled : k ≠ some .report → (f s.link).disabled = s.link.disabled)
    (hBaud : (f s.link).baud = s.link.baud) : LoadedAgrees k s (s.onLink f) :=
  { LoadedAgrees.refl k s with disabled := hDisabled, baud := hBaud }

theorem LoadedAgrees.setLevelOf {t : Target} {c : LevelCode} : LoadedAgrees k s (s.setLevelOf t c) := by
  cases t with
  | xpt row bus => exact { LoadedAgrees.refl k s with }
  | voice v => exact { LoadedAgrees.refl k s with }

theorem CastBlock.Moves.loaded {b b' : CastBlock} (h : b.Moves b') (p : PerfId) :
    (b'.perfs.get p).loaded = (b.perfs.get p).loaded := by rw [h.perfs p]; rfl

theorem CastBlock.Moves.names {b b' : CastBlock} (h : b.Moves b') (r : RoleId) :
    (b'.roles.get r).name = (b.roles.get r).name := by rw [h.roles r]

theorem FoldbackBlock.Moves.loaded {b b' : FoldbackBlock} (h : b.Moves b') (q : FbId) :
    (b'.buses.get q).loaded = (b.buses.get q).loaded := by
  obtain ⟨hLock, hCeiling, -, hOff⟩ := h.settings q
  unfold FbBus.loaded
  rw [hLock, hCeiling, decide_eq_decide.mpr hOff]

theorem RouterBlock.Moves.loaded {b b' : RouterBlock} (h : b.Moves b') (z : ZoneId) :
    (b'.zones.get z).loaded = (b.zones.get z).loaded := by rw [h.zones z]; rfl

/-- A CAST sets nothing of what was loaded. -/
theorem LoadedAgrees.castRole {r : RoleId} {p : Option PerfId} : LoadedAgrees k s (s.castRole r p) := by
  have hRole : ∀ (t : State) q x, LoadedAgrees k s t → LoadedAgrees k s (t.onPerf q fun y => { y with role := x }) :=
    fun t q x ht => ht.trans (.onCast (fun _ _ => rfl) (fun _ => rfl) (fun _ p => by
      show ((update t.cast.perfs q fun y => { y with role := x }).get p).loaded = _
      rw [get_update]; split
      · rename_i e; rw [← e]; rfl
      · rfl) (fun _ => rfl) fun _ => rfl)
  have hNames : ∀ (t : State) x old q,
      (((t.onRole r fun y => { y with holder := x }).beginCrossfade r old).role q).name = (t.role q).name := by
    intro t x old q
    rw [State.beginCrossfade, role_onRole, role_onRole, if_pos rfl, role_onRole]
    by_cases hq : r = q
    · rw [if_pos hq, hq]
    · rw [if_neg hq, if_neg hq]
  have hHolder : ∀ (t : State) x old, LoadedAgrees k s t →
      LoadedAgrees k s ((t.onRole r fun y => { y with holder := x }).beginCrossfade r old) :=
    fun t x old ht => ht.trans { LoadedAgrees.refl k t with names := fun _ => hNames t x old }
  have hRaised : ∀ (t : State) q e, LoadedAgrees k s t → LoadedAgrees k s (t.raisePerf q e) := fun t q e ht => ht.trans .raise
  unfold State.castRole
  dsimp only
  split
  · exact .refl k s
  · cases (s.role r).holder <;> cases p
    · exact hHolder _ _ _ (.refl k s)
    · exact hRaised _ _ _ (hHolder _ _ _ (hRole _ _ _ (.refl k s)))
    · exact hRaised _ _ _ (hHolder _ _ _ (hRole _ _ _ (.refl k s)))
    · exact hRaised _ _ _ (hRaised _ _ _ (hHolder _ _ _ (hRole _ _ _ (hRole _ _ _ (.refl k s)))))

theorem FbBus.showReset_loaded (x : FbBus) : x.showReset.loaded = x.loaded ∧ x.showReset.member = x.member := by
  refine ⟨?_, rfl⟩
  unfold FbBus.showReset FbBus.loaded
  cases x.guard <;> rfl

theorem FoldbackBlock.showReset_loaded (b : FoldbackBlock) (q : FbId) :
    (b.showReset.buses.get q).loaded = (b.buses.get q).loaded ∧ (b.showReset.buses.get q).member = (b.buses.get q).member := by
  have hBuses : ((b.buses.map FbBus.showReset).get q).loaded = (b.buses.get q).loaded ∧
      ((b.buses.map FbBus.showReset).get q).member = (b.buses.get q).member := by
    rw [get_map]; exact FbBus.showReset_loaded _
  unfold FoldbackBlock.showReset
  dsimp only
  split
  · have hRamp := FoldbackBlock.rampMembers_sameGuard
      { b with buses := b.buses.map FbBus.showReset, talkCommand := false }
      (FoldbackBlock.ducked { b with buses := b.buses.map FbBus.showReset, talkCommand := false }) 50 q
    exact ⟨hRamp.loaded.trans hBuses.1, hRamp.2.2.1.trans hBuses.2⟩
  · exact hBuses

/-- A show reset keeps what was loaded (R204). -/
theorem LoadedAgrees.showReset : LoadedAgrees k s s.showReset :=
  { LoadedAgrees.refl k s with
    names := fun _ r => by
      show ((Vector.map (fun r : Role => { r with xfade := none }) s.cast.roles).get r).name = _
      rw [get_map]; rfl
    talk := fun _ => by
      show s.foldback.showReset.talkLevel = _ ∧ s.foldback.showReset.talkDepth = _
      unfold FoldbackBlock.showReset
      dsimp only
      split <;> exact ⟨rfl, rfl⟩
    members := fun _ q => (s.foldback.showReset_loaded q).2
    buses := fun _ q => (s.foldback.showReset_loaded q).1
    zones := fun _ z => by
      show ((s.router.zones.map Zone.showReset).get z).loaded = _
      rw [get_map]; rfl
    lines := fun _ n => by
      show ((Vector.map (fun r : LineRec => { r with cueLine := false }) s.lines.recs).get n).fn = _ ∧
        ((Vector.map (fun r : LineRec => { r with cueLine := false }) s.lines.recs).get n).activeHigh = _
      rw [get_map]; exact ⟨rfl, rfl⟩ }

theorem LinkBlock.beginLine_settings (b : LinkBlock) : b.beginLine.disabled = b.disabled ∧ b.beginLine.baud = b.baud := by
  unfold LinkBlock.beginLine
  repeat' split
  all_goals exact ⟨rfl, rfl⟩

end

/-! ### Every command and event -/

theorem loaded_closed (k : Option Setting) (s₀ : State) : Closed anyLevel (LoadedAgrees k s₀) where
  raise hs := hs.trans .raise
  engine {s f} hf hs := hs.trans { LoadedAgrees.refl k s with stopAllMs := fun _ => (hf s.engine).1 }
  standby {s n} _ hs := hs.trans { LoadedAgrees.refl k s with }
  level _ hs := hs.trans .setLevelOf
  snaps {s f} hs := hs.trans { LoadedAgrees.refl k s with }
  filterPool {s p} hs := hs.trans { LoadedAgrees.refl k s with }
  mapPool {s g} _ hs := hs.trans { LoadedAgrees.refl k s with }
  replaceFade {s x} _ _ hs := hs.trans { LoadedAgrees.refl k s with }
  addFade {s x} _ _ _ _ hs := hs.trans { LoadedAgrees.refl k s with }
  fetch {s f} hf hs := hs.trans (.onFetch (fun _ => (hf s.fetch).sounds) fun _ => (hf s.fetch).refill)
  router {s f} hf _ hs := hs.trans (.onRouter (fun _ => (hf s.router).loaded) fun _ => (hf s.router).presets)
  cast {s f} hf hs := hs.trans (.onCast (fun _ => (hf s.cast).names) (fun _ => (hf s.cast).uses.1) (fun _ => (hf s.cast).loaded)
    (fun _ => (hf s.cast).uses.2.1) fun _ => (hf s.cast).uses.2.2)
  mic {s f} hf hs := hs.trans { LoadedAgrees.refl k s with sup := fun _ => hf s.mic }
  clips hs := hs.trans (.onMatrix fun _ => rfl)
  foldback {s f} hf hs := hs.trans (.onFoldback (fun _ => (hf s.foldback).talk) (fun _ q => ((hf s.foldback).settings q).2.2.1)
    fun _ => (hf s.foldback).loaded)
  lines {s f} hf hs := hs.trans (.onLines fun _ => hf s.lines)
  tick {s} hs := hs.trans { LoadedAgrees.refl k s with }

theorem loaded_settable (k : Option Setting) (s₀ : State) : Settable anyLevel (fun x => k = some x) (LoadedAgrees k s₀) where
  toBase := (loaded_closed k s₀).base
  trim hk {s i x} _ _ hs := hs.trans (.onMatrix fun e => absurd hk e)
  castSettings {x} hk {s f} hf hs :=
    have hNe : ∀ y, k ≠ some y → x ≠ y := fun y e hxy => e (hxy ▸ hk)
    hs.trans (.onCast (fun e => (hf s.cast).names (hNe _ e)) (fun e => (hf s.cast).claims (hNe _ e))
      (fun e => (hf s.cast).fields (hNe _ e)) (fun e => (hf s.cast).pages (hNe _ e)) fun e => (hf s.cast).talkin (hNe _ e))
  castRole _ hs := hs.trans .castRole
  micSettings hk {s _} hs := hs.trans { LoadedAgrees.refl k s with sup := fun e => absurd hk e }
  engineSettings hk {s _} _ hs := hs.trans { LoadedAgrees.refl k s with stopAllMs := fun e => absurd hk e }
  fetchSettings {x} hk {s f} hf hs :=
    have hNe : ∀ y, k ≠ some y → x ≠ y := fun y e hxy => e (hxy ▸ hk)
    hs.trans (.onFetch (fun e => (hf s.fetch).sounds (hNe _ e)) fun e => (hf s.fetch).refill (hNe _ e))
  foldbackSettings {x} hk {s f} hf hs :=
    have hNe : ∀ y, k ≠ some y → x ≠ y := fun y e hxy => e (hxy ▸ hk)
    hs.trans (.onFoldback (fun e => (hf s.foldback).talk (hNe _ e)) (fun e => (hf s.foldback).members (hNe _ e))
      fun e => (hf s.foldback).buses (hNe _ e))
  routerSettings {x} hk {s f} hf hs :=
    have hNe : ∀ y, k ≠ some y → x ≠ y := fun y e hxy => e (hxy ▸ hk)
    hs.trans (.onRouter (fun e => (hf s.router).zones (hNe _ e)) fun e => (hf s.router).presets (hNe _ e))
  lineSettings hk {s _} hs := hs.trans (.onLines fun e => absurd hk e)
  newCue hk {s _ _ _} _ _ hs := hs.trans { LoadedAgrees.refl k s with cues := fun e => absurd hk e }
  newAction hk {s _ _ _} _ _ _ _ hs := hs.trans { LoadedAgrees.refl k s with cues := fun e => absurd hk e }
  oldAction hk {s _ _} hs := hs.trans { LoadedAgrees.refl k s with cues := fun e => absurd hk e }
  oldCue hk {s _} _ hs := hs.trans { LoadedAgrees.refl k s with cues := fun e => absurd hk e }
  oldStandby hk {s _} _ hs := hs.trans { LoadedAgrees.refl k s with cues := fun e => absurd hk e }
  mask hk {s _} hs := hs.trans (.onLink (fun e => absurd hk e) rfl)
  showReset hs := hs.trans .showReset

theorem loaded_linked (k : Option Setting) (s₀ : State) : Linked anyLevel (LoadedAgrees k s₀) where
  toBase := (loaded_settable k s₀).toBase
  ports {s _} _ hs := hs.trans { LoadedAgrees.refl k s with }
  clock {s _} hs := hs.trans { LoadedAgrees.refl k s with }
  queues {s _} hf hs := hs.trans (.onLink (fun _ => (hf s.link).2.1) (hf s.link).2.2)
  beginLine {s} hs := hs.trans (.onLink (fun _ => s.link.beginLine_settings.1) s.link.beginLine_settings.2)

/-- What was loaded stands but for what the command sets. -/
theorem exec_loaded {c : Instr} {s t : State} (e : exec c s = .next t) (hEnd : ∀ baud1 baud0, c ≠ .resetEnd baud1 baud0) :
    LoadedAgrees (settingOf c) s t := by
  have hLinked := loaded_linked (settingOf c) s
  cases hLine : c.isLine with
  | true =>
    exact hLinked.queued.line hLine (fun u hu => (loaded_settable (settingOf c) s).answerOf hLine (fun _ hx => hx) hu)
      (.refl _ s) e
  | false =>
    cases hPin : c.isPinEvent with
    | false => exact hLinked.queued.event hLine hPin (fun u hu => hLinked.effect hLine hu) (.refl _ s) e
    | true =>
      cases c
      case pause asserted => cases e; exact .onLink (fun _ => rfl) rfl
      case fullReset =>
        cases e
        refine { LoadedAgrees.refl _ s with lines := fun _ n => ?_ }
        show ((Vector.map (fun r : LineRec => { r with drive := none }) s.lines.recs).get n).fn = _ ∧
          ((Vector.map (fun r : LineRec => { r with drive := none }) s.lines.recs).get n).activeHigh = _
        rw [get_map]; exact ⟨rfl, rfl⟩
      case resetEnd baud1 baud0 => exact absurd rfl (hEnd baud1 baud0)
      all_goals exact Bool.noConfusion hPin

/-! ### The ports and the clock -/

theorem ports_closed (p : PortBlock) : Closed anyLevel fun s => s.ports = p where
  raise hs := by simpa using hs
  level _ hs := by simpa [setLevelOf_ports] using hs

theorem ports_settable (p : PortBlock) : Settable anyLevel (fun _ => True) fun s => s.ports = p where
  toBase := (ports_closed p).base
  castRole {s r q} _ hs := by rw [kept_ports (State.castRole_frame s r q).1]; exact hs

theorem setLevelOf_clock (s : State) (t : Target) (c : LevelCode) : (s.setLevelOf t c).clock = s.clock := by
  cases t <;> rfl

theorem clock_closed (q : ClockBlock → Prop) : Closed anyLevel fun s => q s.clock where
  raise hs := by simpa using hs
  level _ hs := by simpa [setLevelOf_clock] using hs

theorem clock_settable (q : ClockBlock → Prop) : Settable anyLevel (fun _ => True) fun s => q s.clock where
  toBase := (clock_closed q).base
  castRole {s r p} _ hs := by rw [kept_clock (State.castRole_frame s r p).1]; exact hs

theorem lockClock_ports (s : State) : s.lockClock.ports = s.ports := by
  unfold State.lockClock
  split
  · exact (ports_settable s.ports).raise (s := s.onClock _) rfl
  · rfl

theorem loseClock_ports (s : State) : s.loseClock.ports = s.ports := by
  unfold State.loseClock
  split
  · exact (ports_settable s.ports).raise (s := s.onClock _) rfl
  · rfl

theorem dropQualifying_ports (s : State) : s.dropQualifying.ports = s.ports := by
  unfold State.dropQualifying
  split <;> rfl

theorem clockEdge_ports (s : State) (n : Nat) : (s.clockEdge n).ports = s.ports := by
  unfold State.clockEdge
  repeat' split
  all_goals first
    | rfl
    | exact lockClock_ports s

theorem exec_ports {c : Instr} {s t : State} (e : exec c s = .next t) (hEnd : ∀ baud1 baud0, c ≠ .resetEnd baud1 baud0)
    (hFrame : ∀ slots pins, c ≠ .frame slots pins) (hReset : c ≠ .fullReset) : t.ports = s.ports := by
  have hBase := (ports_settable s.ports).toBase
  have hQueued : Queued (fun t => t.ports = s.ports) (fun t => t.ports = s.ports) :=
    { hBase.surrounded with queues := fun _ hs => hs }
  cases hLine : c.isLine with
  | true => exact hQueued.line hLine (fun u hu => (ports_settable s.ports).answerOf hLine (fun _ _ => trivial) hu) rfl e
  | false =>
    cases hPin : c.isPinEvent with
    | false =>
      refine hQueued.event hLine hPin (fun u hu => hBase.effect hLine (fun hOutside => ?_) hu) rfl e
      cases c
      case lineReceived chars metFull => exact hQueued.receiveLine hu _ _
      case transmitLine => exact hu
      case frame slots pins => exact absurd rfl (hFrame slots pins)
      case clockLost => exact (loseClock_ports u).trans hu
      case qualifyingTimeout => exact (dropQualifying_ports u).trans hu
      case clockRestored => exact (lockClock_ports u).trans hu
      case wclkRisingEdge n => exact (clockEdge_ports u n).trans hu
      all_goals exact Bool.noConfusion hOutside
    | true =>
      cases c
      case pause asserted => cases e; rfl
      case fullReset => exact absurd rfl hReset
      case resetEnd baud1 baud0 => exact absurd rfl (hEnd baud1 baud0)
      all_goals exact Bool.noConfusion hPin

/-- The clock but for the count of frames begun (log 9). -/
def ClockBlock.SameMonitor (b b' : ClockBlock) : Prop := b' = { b with begun := b'.begun }

theorem ClockBlock.SameMonitor.setBegun {b b' : ClockBlock} (h : b.SameMonitor b') (n : Nat) :
    b.SameMonitor { b' with begun := n } := by
  unfold ClockBlock.SameMonitor at h ⊢
  rw [h]

/-- The events of the clock monitor. -/
def isClockEvent : Instr → Bool
  | .clockLost | .qualifyingTimeout | .clockRestored | .wclkRisingEdge _ => true
  | _ => false

theorem exec_clock {c : Instr} {s t : State} (e : exec c s = .next t) (hEnd : ∀ baud1 baud0, c ≠ .resetEnd baud1 baud0)
    (hClock : isClockEvent c = false) {q : ClockBlock → Prop} (hs : q s.clock)
    (hFrame : ∀ slots pins, c = .frame slots pins → ∀ b, q b → q { b with begun := b.begun - 1 }) : q t.clock := by
  have hBase := (clock_settable q).toBase
  have hQueued : Queued (fun t => q t.clock) (fun t => q t.clock) := { hBase.surrounded with queues := fun _ hs => hs }
  cases hLine : c.isLine with
  | true => exact hQueued.line hLine (fun u hu => (clock_settable q).answerOf hLine (fun _ _ => trivial) hu) hs e
  | false =>
    cases hPin : c.isPinEvent with
    | false =>
      refine hQueued.event hLine hPin (fun u hu => hBase.effect hLine (fun hOutside => ?_) hu) hs e
      cases c
      case lineReceived chars metFull => exact hQueued.receiveLine hu _ _
      case transmitLine => exact hu
      case frame slots pins =>
        exact hBase.surrounded.frame (fun c hc s hs => hBase.timer hc hs)
          (fun s _ _ hs => hBase.computeFrame (fun _ _ _ ht => ht) hs) (fun u hu => hFrame _ _ rfl _ hu) hu slots pins
      all_goals first
        | exact Bool.noConfusion hOutside
        | exact Bool.noConfusion hClock
    | true =>
      cases c
      case pause asserted => cases e; exact hs
      case fullReset => cases e; exact hs
      case resetEnd baud1 baud0 => exact absurd rfl (hEnd baud1 baud0)
      all_goals exact Bool.noConfusion hPin

/-! ### The commands of the settings -/

/-- The commands of a setting. -/
def Setting.commands (c : Instr) : Setting → Prop
  | .input => ∃ tag a, c = .input tag a
  | .role => ∃ tag a, c = .role tag a
  | .perf => ∃ tag a, c = .perf tag a
  | .page => ∃ tag a, c = .page tag a
  | .talkin => ∃ tag a, c = .talkin tag a
  | .supv => ∃ tag a, c = .supv tag a
  | .cue => (∃ tag a, c = .cue tag a) ∨ (∃ tag a, c = .act tag a) ∨ (∃ tag a, c = .actDel tag a) ∨ ∃ tag a, c = .cueDel tag a
  | .sound => ∃ tag a, c = .sound tag a
  | .fetch => ∃ tag a, c = .fetch tag a
  | .talkback => ∃ tag a, c = .talkback tag a
  | .fb => ∃ tag a, c = .fb tag a
  | .zone => ∃ tag a, c = .zone tag a
  | .lineset => ∃ tag a, c = .lineset tag a
  | .engine => ∃ tag a, c = .engine tag a
  | .presetDef => ∃ tag a, c = .presetDef tag a
  | .report => ∃ tag a, c = .report tag a

theorem commands_of_settingOf {c : Instr} {k : Setting} (e : settingOf c = some k) : k.commands c := by
  cases c <;> cases e
  case cue tag a => exact .inl ⟨tag, a, rfl⟩
  case act tag a => exact .inr (.inl ⟨tag, a, rfl⟩)
  case actDel tag a => exact .inr (.inr (.inl ⟨tag, a, rfl⟩))
  case cueDel tag a => exact .inr (.inr (.inr ⟨tag, a, rfl⟩))
  all_goals exact ⟨_, _, rfl⟩

theorem settingOf_ne {c : Instr} {k : Setting} {α : Type} {f : Tag → α → Instr} (hc : ∀ tag a, c ≠ f tag a)
    (hk : k.commands c → ∃ tag a, c = f tag a) : settingOf c ≠ some k := fun e =>
  (hk (commands_of_settingOf e)).elim fun tag h => h.elim fun a ha => hc tag a ha

theorem settingOf_ne_cue {c : Instr} (hCue : ∀ tag a, c ≠ .cue tag a) (hAct : ∀ tag a, c ≠ .act tag a)
    (hActDel : ∀ tag a, c ≠ .actDel tag a) (hCueDel : ∀ tag a, c ≠ .cueDel tag a) : settingOf c ≠ some .cue := fun e => by
  rcases commands_of_settingOf e with ⟨tag, a, ha⟩ | ⟨tag, a, ha⟩ | ⟨tag, a, ha⟩ | ⟨tag, a, ha⟩
  · exact hCue tag a ha
  · exact hAct tag a ha
  · exact hActDel tag a ha
  · exact hCueDel tag a ha

theorem isClockEvent_eq_false {c : Instr} (hLost : c ≠ .clockLost) (hTimeout : c ≠ .qualifyingTimeout)
    (hRestored : c ≠ .clockRestored) (hEdge : ∀ n, c ≠ .wclkRisingEdge n) : isClockEvent c = false := by
  cases c
  case clockLost => exact absurd rfl hLost
  case qualifyingTimeout => exact absurd rfl hTimeout
  case clockRestored => exact absurd rfl hRestored
  case wclkRisingEdge n => exact absurd rfl (hEdge n)
  all_goals rfl

theorem Perf.loaded_eq {x y : Perf} : x.loaded = y.loaded ↔ x.name = y.name ∧ x.main = y.main ∧ x.spares = y.spares ∧
    x.trim = y.trim ∧ x.zone = y.zone ∧ x.revertAuto = y.revertAuto := by simp [Perf.loaded]

theorem FbBus.loaded_eq {x y : FbBus} : x.loaded = y.loaded ↔
    x.lock = y.lock ∧ x.ceiling = y.ceiling ∧ (x.guard = .off ↔ y.guard = .off) := by simp [FbBus.loaded]

theorem Zone.loaded_eq {x y : Zone} : x.loaded = y.loaded ↔ x.name = y.name ∧ x.relay = y.relay ∧ x.level = y.level ∧
    x.trim = y.trim ∧ x.quiet = y.quiet ∧ x.groups = y.groups := by simp [Zone.loaded]

end Sys2Proof.Machine

namespace Sys2Proof.Proofs

open Sys2Proof Sys2Proof.Machine

/-- Settles O15: of what was loaded a command changes what it sets, and the operations of the blocks change none of it. -/
theorem loadedDataStands : Obligations.LoadedDataStands := by
  intro c s t e hEnd
  have h := exec_loaded e hEnd
  refine ⟨fun hc => h.trims (settingOf_ne hc id), fun hc => h.names (settingOf_ne hc id),
    fun hc => ⟨h.claims (settingOf_ne hc id), fun p => Perf.loaded_eq.mp (h.perfs (settingOf_ne hc id) p)⟩,
    fun hc => h.pages (settingOf_ne hc id), fun hc => h.talkin (settingOf_ne hc id), fun hc => h.sup (settingOf_ne hc id),
    fun hCue hAct hActDel hCueDel => h.cues (settingOf_ne_cue hCue hAct hActDel hCueDel),
    fun hc => h.sounds (settingOf_ne hc id), fun hc => h.refill (settingOf_ne hc id), fun hc => h.talk (settingOf_ne hc id),
    fun hc => h.members (settingOf_ne hc id), fun hc q => FbBus.loaded_eq.mp (h.buses (settingOf_ne hc id) q),
    fun hc z => Zone.loaded_eq.mp (h.zones (settingOf_ne hc id) z), fun hc => h.lines (settingOf_ne hc id),
    fun hc => h.stopAllMs (settingOf_ne hc id), fun hc => h.presets (settingOf_ne hc id),
    fun hc => h.disabled (settingOf_ne hc id), h.baud, fun hFrame hReset => exec_ports e hEnd hFrame hReset,
    fun hLost hTimeout hRestored hEdge => ?_⟩
  have hClock := isClockEvent_eq_false hLost hTimeout hRestored hEdge
  exact ⟨exec_clock (q := s.clock.SameMonitor) e hEnd hClock rfl fun _ _ _ _ hb => hb.setBegun _,
    fun hFrame => exec_clock (q := fun b => b = s.clock) e hEnd hClock rfl fun slots pins hc => absurd hc (hFrame slots pins)⟩

end Sys2Proof.Proofs
end

section
/-! PROOFS. The accounting of instances within an operation (R24, R100, R108, R109, R110, R126): between a record's end and the moment its
owner is told, and while a voice is in hand, the counts differ from what the slots own by what is owed. -/

namespace Sys2Proof.Machine

open Sys2Proof

/-! ### What a slot owns -/

/-- The fades a slot owns. -/
def State.fadesOwned (s : State) (slot : InstSlot) : Nat := s.fades.pool.countP fun f => f.owner = some slot

/-- The starts a slot owns, on other readers than the one in hand. -/
def State.startsOwned (s : State) (x : Option ReaderId) (slot : InstSlot) : Nat :=
  ∑ r : ReaderId, if x ≠ some r ∧ (s.reader r).owner = some slot then 1 else 0

/-- One item owed by an owner. -/
def owes (o : Option InstSlot) (slot : InstSlot) : Int := if o = some slot then 1 else 0

theorem owes_none : owes none = fun _ => 0 := rfl

theorem owes_nonneg (o : Option InstSlot) (slot : InstSlot) : 0 ≤ owes o slot := by
  unfold owes; split <;> decide

theorem owes_self (slot : InstSlot) : owes (some slot) slot = 1 := if_pos rfl

theorem owes_ne {o : Option InstSlot} {slot : InstSlot} (h : o ≠ some slot) : owes o slot = 0 := if_neg h

theorem countP_eq_sum {α : Type} (p : α → Bool) (l : List α) : l.countP p = (l.map fun a => if p a then 1 else 0).sum := by
  induction l with
  | nil => rfl
  | cons a l ih => rw [List.countP_cons, ih, List.map_cons, List.sum_cons, Nat.add_comm]

theorem State.owned_eq (s : State) (slot : InstSlot) : s.owned slot = s.fadesOwned slot + s.startsOwned none slot := by
  unfold State.owned State.fadesOwned State.startsOwned
  rw [toList_countP, countP_eq_sum _ (List.finRange 26), Fin.sum_univ_def]
  simp [State.reader]

/-- A reader is taken in hand: what it owes is apart. -/
theorem State.startsOwned_none (s : State) (r : ReaderId) (slot : InstSlot) :
    (s.startsOwned none slot : Int) = s.startsOwned (some r) slot + owes (s.reader r).owner slot := by
  have hEach : ∀ q : ReaderId, (if (none : Option ReaderId) ≠ some q ∧ (s.reader q).owner = some slot then 1 else 0) =
      (if some r ≠ some q ∧ (s.reader q).owner = some slot then 1 else 0) +
        if q = r then (if (s.reader r).owner = some slot then 1 else 0) else 0 := fun q => by
    by_cases hq : q = r
    · subst hq; simp
    · simp [hq, Ne.symm hq]
  unfold State.startsOwned
  rw [Finset.sum_congr rfl fun q _ => hEach q, Finset.sum_add_distrib, Finset.sum_ite_eq' Finset.univ r, if_pos (Finset.mem_univ r)]
  unfold owes
  push_cast
  split <;> rfl

theorem State.startsOwned_congr {s t : State} {x : Option ReaderId} {slot : InstSlot}
    (h : ∀ r, x ≠ some r → (t.reader r).owner = (s.reader r).owner) : t.startsOwned x slot = s.startsOwned x slot := by
  unfold State.startsOwned
  refine Finset.sum_congr rfl fun r _ => ?_
  by_cases hr : x ≠ some r
  · rw [h r hr]
  · simp [hr]

/-! ### The accounting -/

/-- Whether a reader sounds (R28). -/
def Reader.sounds (r : Reader) : Prop := r.state = .playing ∨ r.state = .stalled

/-- The accounting of instances within an operation: `F` the `Inst` that fires, `d` what is owed to each slot over what it owns, `x`
the reader in hand, and `L` whether the owners are of the table, which they are but within a STOP ALL (R37, R100, R108). -/
structure Accounts (L : Prop) (F : Option InstSlot) (d : InstSlot → Int) (x : Option ReaderId) (s : State) : Prop where
  targets : (s.fades.pool.map (·.target)).Nodup
  slots : (s.engine.insts.map (·.slot)).Nodup
  stamps : (s.engine.insts.map (·.stamp)).Pairwise (· < ·)
  fresh : ∀ i ∈ s.engine.insts, i.stamp < s.engine.nextStamp
  positive : ∀ i ∈ s.engine.insts, 0 < i.count ∨ F = some i.slot
  counts : ∀ i ∈ s.engine.insts, (i.count : Int) = s.fadesOwned i.slot + s.startsOwned x i.slot + d i.slot
  fadeOwners : L → ∀ f ∈ s.fades.pool, ∀ slot, f.owner = some slot → slot ∈ s.engine.insts.map (·.slot)
  startOwners : L → ∀ r slot, x ≠ some r → (s.reader r).owner = some slot → slot ∈ s.engine.insts.map (·.slot)
  starting : ∀ r, x ≠ some r → (s.reader r).owner ≠ none → (s.reader r).state = .starting ∧ ∀ p, r ≠ playerReader p
  voiceFades : ∀ f ∈ s.fades.pool, ∀ v, f.target = .voice v → x ≠ some (voiceReader v) → (s.voice v).sounds
  firing : s.engine.firing = F
  fires : L → ∀ slot, F = some slot → slot ∈ s.engine.insts.map (·.slot)

theorem State.OwnersOk.accounts {s : State} (hPool : s.fades.PoolOk) (h : s.OwnersOk) : Accounts True none (fun _ => 0) none s := by
  obtain ⟨hSlots, hStamps, hInsts, hFades, hStarts, hSound, hFiring⟩ := h
  refine ⟨hPool.2, hSlots, hStamps, fun i hi => (hInsts i hi).1, fun i hi => .inl (hInsts i hi).2.1, fun i hi => ?_,
    fun _ => hFades, fun _ r slot _ ho => (hStarts r slot ho).1, fun r _ ho => ?_, fun f hf v hv _ => hSound f hf v hv, hFiring,
    nofun⟩
  · rw [(hInsts i hi).2.2, State.owned_eq]; push_cast; ring
  · obtain ⟨slot, hslot⟩ := Option.ne_none_iff_exists'.mp ho
    exact (hStarts r slot hslot).2

theorem Accounts.ownersOk {s : State} (h : Accounts True none (fun _ => 0) none s) : s.OwnersOk := by
  refine ⟨h.slots, h.stamps, fun i hi => ⟨h.fresh i hi, (h.positive i hi).resolve_right nofun, ?_⟩, h.fadeOwners trivial,
    fun r slot ho => ?_, fun f hf v hv => h.voiceFades f hf v hv nofun, h.firing⟩
  · have hCount := h.counts i hi
    rw [State.owned_eq]; omega
  · obtain ⟨hState, hVoice⟩ := h.starting r nofun (by rw [ho]; nofun)
    exact ⟨h.startOwners trivial r slot nofun ho, hState, hVoice⟩

section
variable {L : Prop} {F : Option InstSlot} {d : InstSlot → Int} {x : Option ReaderId} {s : State}

theorem Accounts.owed (h : Accounts L F d x s) {d' : InstSlot → Int} (hd : ∀ slot, d' slot = d slot) : Accounts L F d' x s :=
  funext hd ▸ h

/-- The accounting is about the instances, the fade pool and what of the readers says who owns a start and what sounds. -/
theorem Accounts.congr (h : Accounts L F d x s) {t : State} (hInsts : t.engine.insts = s.engine.insts)
    (hStamp : t.engine.nextStamp = s.engine.nextStamp) (hFiring : t.engine.firing = s.engine.firing) (hFades : t.fades.pool = s.fades.pool)
    (hReaders : ∀ r, x ≠ some r → (t.reader r).owner = (s.reader r).owner ∧ (t.reader r).state = (s.reader r).state) :
    Accounts L F d x t := by
  have hOwned : ∀ slot, t.fadesOwned slot = s.fadesOwned slot := fun slot => by unfold State.fadesOwned; rw [hFades]
  refine ⟨hFades ▸ h.targets, hInsts ▸ h.slots, hInsts ▸ h.stamps, by rw [hInsts, hStamp]; exact h.fresh, hInsts ▸ h.positive, ?_, ?_,
    ?_, fun r hr ho => ?_, fun f hf v hv hx => ?_, hFiring ▸ h.firing, hInsts ▸ h.fires⟩
  · rw [hInsts]
    intro i hi
    rw [hOwned, State.startsOwned_congr fun r hr => (hReaders r hr).1]
    exact h.counts i hi
  · rw [hFades, hInsts]; exact h.fadeOwners
  · rw [hInsts]; exact fun hL r slot hr ho => h.startOwners hL r slot hr ((hReaders r hr).1 ▸ ho)
  · rw [(hReaders r hr).1] at ho
    rw [(hReaders r hr).2]; exact h.starting r hr ho
  · rw [hFades] at hf
    have := h.voiceFades f hf v hv hx
    unfold Reader.sounds State.voice at this ⊢
    rwa [(hReaders _ hx).2]

theorem Accounts.raise (h : Accounts L F d x s) (key : ReportKey) (text : String) : Accounts L F d x (s.raise key text) :=
  h.congr (by simp) (by simp) (by simp) (by simp) fun r _ => by simp [State.reader]

theorem Accounts.onEngine (h : Accounts L F d x s) {f : EngineBlock → EngineBlock} (hf : (f s.engine).insts = s.engine.insts ∧
    (f s.engine).nextStamp = s.engine.nextStamp ∧ (f s.engine).firing = s.engine.firing) : Accounts L F d x (s.onEngine f) :=
  h.congr hf.1 hf.2.1 hf.2.2 rfl fun _ _ => ⟨rfl, rfl⟩

theorem Accounts.raiseCue (h : Accounts L F d x s) (e : CueEvent) : Accounts L F d x (s.raiseCue e) := by
  unfold State.raiseCue
  exact (h.onEngine ⟨rfl, rfl, rfl⟩).raise _ _

theorem Accounts.setChain (h : Accounts L F d x s) (c : Chain) : Accounts L F d x (s.setChain c) := by
  unfold State.setChain
  dsimp only
  split
  · exact (h.onEngine ⟨rfl, rfl, rfl⟩).raiseCue _
  · exact ((h.raiseCue _).onEngine ⟨rfl, rfl, rfl⟩).raiseCue _

theorem Accounts.endLink (h : Accounts L F d x s) (i : Inst) : Accounts L F d x (s.endLink i) := by
  unfold State.endLink
  split
  · exact h
  · split
    · split
      · exact h.setChain _
      · exact h.raiseCue _
    · exact h.raiseCue _

/-! ### Instances leave and count -/

/-- An `Inst` that owns nothing leaves the table. -/
theorem Accounts.removeInst (h : Accounts L F d x s) {slot : InstSlot} (hFires : F ≠ some slot)
    (hFades : L → s.fadesOwned slot = 0) (hStarts : L → s.startsOwned x slot = 0) : Accounts L F d x (s.removeInst slot) := by
  have hSub : (s.removeInst slot).engine.insts.Sublist s.engine.insts := List.filter_sublist
  have hStays : ∀ slot', slot' ≠ slot → slot' ∈ s.engine.insts.map (·.slot) →
      slot' ∈ (s.removeInst slot).engine.insts.map (·.slot) := fun slot' hne hm => by
    obtain ⟨i, hi, rfl⟩ := List.mem_map.mp hm
    exact List.mem_map_of_mem (List.mem_filter.mpr ⟨hi, by simpa using hne⟩)
  refine ⟨h.targets, (hSub.map _).nodup h.slots, h.stamps.sublist (hSub.map _), fun i hi => h.fresh i (hSub.subset hi),
    fun i hi => h.positive i (hSub.subset hi), fun i hi => h.counts i (hSub.subset hi), fun hL f hf slot' ho => ?_,
    fun hL r slot' hr ho => ?_, h.starting, h.voiceFades, h.firing, fun hL slot' hF => ?_⟩
  · refine hStays _ (fun e => ?_) (h.fadeOwners hL f hf slot' ho)
    exact List.countP_eq_zero.mp (hFades hL) f hf (by simpa using e ▸ ho)
  · refine hStays _ (fun e => ?_) (h.startOwners hL r slot' hr ho)
    have hZero := Finset.sum_eq_zero_iff.mp (hStarts hL) r (Finset.mem_univ r)
    rw [if_pos ⟨hr, e ▸ ho⟩] at hZero
    cases hZero
  · exact hStays _ (fun e => hFires (e ▸ hF)) (h.fires hL slot' hF)

/-- The count of one `Inst` of the table changed by as much as is owed to it. -/
theorem Accounts.mapCount (h : Accounts L F d x s) {slot : InstSlot} {g : Nat → Nat} {d' : InstSlot → Int}
    (hOwed : ∀ slot', slot' ≠ slot → d' slot' = d slot')
    (hCount : ∀ i ∈ s.engine.insts, i.slot = slot → (0 < g i.count ∨ F = some slot) ∧ (g i.count : Int) = i.count + (d' slot - d slot)) :
    Accounts L F d' x (s.onEngine fun b =>
      { b with insts := b.insts.map fun i => if i.slot = slot then { i with count := g i.count } else i }) := by
  have hSlots : (s.engine.insts.map fun i => if i.slot = slot then { i with count := g i.count } else i).map (·.slot) =
      s.engine.insts.map (·.slot) := by
    rw [List.map_map]; exact List.map_congr_left fun i _ => by dsimp only [Function.comp]; split <;> rfl
  have hStamps : (s.engine.insts.map fun i => if i.slot = slot then { i with count := g i.count } else i).map (·.stamp) =
      s.engine.insts.map (·.stamp) := by
    rw [List.map_map]; exact List.map_congr_left fun i _ => by dsimp only [Function.comp]; split <;> rfl
  refine ⟨h.targets, hSlots.symm ▸ h.slots, hStamps.symm ▸ h.stamps, fun i hi => ?_, fun i hi => ?_, fun i hi => ?_,
    fun hL f hf slot' ho => hSlots.symm ▸ h.fadeOwners hL f hf slot' ho, fun hL r slot' hr ho => hSlots.symm ▸ h.startOwners hL r slot' hr ho,
    h.starting, h.voiceFades, h.firing, fun hL slot' hF => hSlots.symm ▸ h.fires hL slot' hF⟩
  all_goals obtain ⟨j, hj, rfl⟩ := List.mem_map.mp hi
  · have := h.fresh j hj
    split <;> exact this
  · split
    · rename_i hSlot
      dsimp only
      rw [hSlot]; exact (hCount j hj hSlot).1
    · exact h.positive j hj
  · have hOld := h.counts j hj
    split
    · rename_i hSlot
      have := (hCount j hj hSlot).2
      dsimp only
      rw [hSlot] at hOld ⊢
      change (g j.count : Int) = s.fadesOwned slot + s.startsOwned x slot + d' slot
      omega
    · rename_i hSlot
      rw [hOwed _ hSlot]; exact hOld

theorem instAt_eq {slot : InstSlot} {i : Inst} (e : s.instAt slot = some i) : i ∈ s.engine.insts ∧ i.slot = slot :=
  ⟨List.mem_of_find?_eq_some e, by simpa using List.find?_some e⟩

theorem Accounts.inst_unique (h : Accounts L F d x s) {i j : Inst} (hi : i ∈ s.engine.insts) (hj : j ∈ s.engine.insts)
    (e : i.slot = j.slot) : i = j := List.inj_on_of_nodup_map h.slots hi hj e

theorem Accounts.ownerAdd (h : Accounts L F d x s) (o : Option InstSlot) :
    Accounts L F (fun slot => d slot + owes o slot) x (s.ownerAdd o) := by
  cases o with
  | none => exact h.owed fun slot => by simp [owes_none]
  | some slot =>
    refine h.mapCount (g := (· + 1)) (fun slot' hne => ?_) fun i hi hSlot => ⟨.inl (Nat.succ_pos _), ?_⟩
    · rw [owes_ne fun e => hne (Option.some.inj e).symm, add_zero]
    · rw [owes_self]; push_cast; ring

/-- An owner is told of an item that is done: it is owed one item less, and completes with the last. -/
theorem Accounts.ownerDone (h : Accounts L F d x s) (o : Option InstSlot)
    (hOwed : ∀ slot, o = some slot → owes o slot ≤ s.fadesOwned slot + s.startsOwned x slot + d slot ∧ (F ≠ some slot → 1 ≤ d slot)) :
    Accounts L F (fun slot => d slot - owes o slot) x (s.ownerDone o) := by
  cases o with
  | none => exact h.owed fun slot => by simp [owes_none]
  | some slot =>
    obtain ⟨hLeast, hDebt⟩ := hOwed slot rfl
    rw [owes_self] at hLeast
    have hElse : ∀ slot', slot' ≠ slot → d slot' - owes (some slot) slot' = d slot' := fun slot' hne => by
      rw [owes_ne fun e => hne (Option.some.inj e).symm, sub_zero]
    show Accounts L F _ x (s.instDone slot)
    unfold State.instDone
    split
    · rename_i hNone
      refine h.congr rfl rfl rfl rfl (fun _ _ => ⟨rfl, rfl⟩) |> fun h => ?_
      have hAbsent : ∀ i ∈ s.engine.insts, i.slot ≠ slot := by simpa [State.instAt] using hNone
      exact { h with counts := fun i hi => by rw [hElse _ (hAbsent i hi)]; exact h.counts i hi }
    · rename_i i hAt
      obtain ⟨hi, hSlot⟩ := instAt_eq hAt
      have hCount := h.counts i hi
      rw [hSlot] at hCount
      have hSet : ∀ hPos : 0 < i.count - 1 ∨ F = some slot, Accounts L F (fun slot' => d slot' - owes (some slot) slot') x
          (s.setCount slot (i.count - 1)) := fun hPos =>
        h.mapCount (g := fun _ => i.count - 1) hElse fun j hj hj' => ⟨hPos, by
          rw [h.inst_unique hj hi (hj'.trans hSlot.symm), owes_self]; omega⟩
      dsimp only
      split
      · rename_i hDone
        obtain ⟨hZero, hNotFiring⟩ := hDone
        have hFires : F ≠ some slot := fun e => hNotFiring (h.firing.trans e)
        have hOne := hDebt hFires
        unfold State.completeInst
        refine Accounts.endLink (Accounts.raiseCue ?_ _) _
        show Accounts L F _ x ((s.setCount slot (i.count - 1)).removeInst i.slot)
        have hGone : Accounts L F d x (s.removeInst slot) := h.removeInst hFires (fun _ => by omega) fun _ => by omega
        have hInsts : ((s.setCount slot (i.count - 1)).removeInst i.slot).engine.insts = (s.removeInst slot).engine.insts := by
          show (s.engine.insts.map fun j => if j.slot = slot then { j with count := i.count - 1 } else j).filter
            (fun j => j.slot ≠ i.slot) = s.engine.insts.filter fun j => j.slot ≠ slot
          rw [hSlot, List.filter_map]
          have hSame : ((fun j : Inst => decide (j.slot ≠ slot)) ∘ fun j => if j.slot = slot then { j with count := i.count - 1 } else j) =
              fun j => decide (j.slot ≠ slot) := by
            funext j; dsimp only [Function.comp]; split <;> simp [*]
          rw [hSame]
          conv_rhs => rw [← List.map_id (s.engine.insts.filter _)]
          refine List.map_congr_left fun j hj => if_neg ?_
          simpa using (List.mem_filter.mp hj).2
        have hKept := hGone.congr (t := (s.setCount slot (i.count - 1)).removeInst i.slot) hInsts rfl rfl rfl fun _ _ => ⟨rfl, rfl⟩
        refine { hKept with counts := fun j hj => ?_ }
        rw [hElse]
        · exact hKept.counts j hj
        · rw [hInsts] at hj
          simpa using (List.mem_filter.mp hj).2
      · rename_i hGoesOn
        by_cases hFires : F = some slot
        · exact hSet (.inr hFires)
        · have hPos : i.count - 1 ≠ 0 := fun e => hGoesOn ⟨e, by
            show s.engine.firing ≠ some slot
            rw [h.firing]; exact hFires⟩
          exact hSet (.inl (Nat.pos_of_ne_zero hPos))

/-- An owner to whom an item is owed is told of it. -/
theorem Accounts.told {o : Option InstSlot} (h : Accounts L F (fun slot => d slot + owes o slot) x s) (hd : ∀ slot, 0 ≤ d slot) :
    Accounts L F d x (s.ownerDone o) := by
  refine (h.ownerDone o fun slot ho => ?_).owed fun slot => by ring
  subst ho
  have := hd slot
  rw [owes_self]
  exact ⟨by omega, fun _ => by omega⟩

/-! ### Fades -/

theorem countP_erase_key {α β : Type} [DecidableEq β] (key : α → β) (p : α → Bool) {l : List α} (hl : (l.map key).Nodup) {a : α}
    (ha : a ∈ l) : l.countP p = (l.filter fun b => key b ≠ key a).countP p + if p a then 1 else 0 := by
  induction l with
  | nil => cases ha
  | cons b l ih =>
    obtain ⟨hHead, hTail⟩ := List.nodup_cons.mp hl
    by_cases hb : key b = key a
    · have hSame : a = b := by
        rcases List.mem_cons.mp ha with rfl | ha
        · rfl
        · exact absurd (List.mem_map.mpr ⟨a, ha, hb.symm⟩) hHead
      subst hSame
      have hRest : (l.filter fun b => key b ≠ key a) = l :=
        List.filter_eq_self.mpr fun c hc => by simpa using fun e => hHead (List.mem_map.mpr ⟨c, hc, e⟩)
      rw [List.filter_cons_of_neg (by simp), hRest, List.countP_cons]
    · have ha : a ∈ l := by
        rcases List.mem_cons.mp ha with rfl | ha
        · exact absurd rfl hb
        · exact ha
      rw [List.filter_cons_of_pos (by simpa using hb), List.countP_cons, List.countP_cons, ih hTail ha]
      omega

/-- The record on a target leaves the pool: its owner is owed one item. -/
theorem Accounts.dropFade (h : Accounts L F d x s) {t : Target} {f : Fade} (e : s.fadeOf t = some f) :
    Accounts L F (fun slot => d slot + owes f.owner slot) x (s.dropFade t) := by
  have hMem : f ∈ s.fades.pool := List.mem_of_find?_eq_some e
  have hTarget : f.target = t := by simpa using List.find?_some e
  have hSub : (s.dropFade t).fades.pool.Sublist s.fades.pool := List.filter_sublist
  refine ⟨(hSub.map _).nodup h.targets, h.slots, h.stamps, h.fresh, h.positive, fun i hi => ?_,
    fun hL f hf => h.fadeOwners hL f (hSub.subset hf), h.startOwners, h.starting, fun f hf => h.voiceFades f (hSub.subset hf), h.firing,
    h.fires⟩
  have hCount := countP_erase_key (·.target) (fun f => decide (f.owner = some i.slot)) h.targets hMem
  have hOld := h.counts i hi
  change (i.count : Int) = ((s.fades.pool.filter fun g => g.target ≠ t).countP fun f => decide (f.owner = some i.slot)) +
    s.startsOwned x i.slot + (d i.slot + owes f.owner i.slot)
  unfold State.fadesOwned at hOld
  rw [hTarget] at hCount
  rw [hCount] at hOld
  unfold owes
  by_cases ho : f.owner = some i.slot <;> simp only [ho, decide_true, decide_false, if_true, if_false, Bool.false_eq_true] at hOld ⊢ <;>
    push_cast at hOld ⊢ <;> omega

theorem Accounts.removeFade (h : Accounts L F d x s) (hd : ∀ slot, 0 ≤ d slot) (t : Target) : Accounts L F d x (s.removeFade t) := by
  unfold State.removeFade
  split
  · exact h
  · rename_i f e; exact (h.dropFade e).told hd

end

end Sys2Proof.Machine
end

section
/-! PROOFS. The accounting of instances through the operations of the fade engine and of the readers (R25, R31, R130 to R142). -/

namespace Sys2Proof.Machine

open Sys2Proof

section
variable {L : Prop} {F : Option InstSlot} {d : InstSlot → Int} {x : Option ReaderId} {s : State}

/-! ### Levels and fades -/

/-- A change of the readers that leaves who owns a start and what sounds. -/
theorem Accounts.onFetch (h : Accounts L F d x s) {f : FetchBlock → FetchBlock}
    (hf : ∀ r, x ≠ some r → ((f s.fetch).readers.get r).owner = (s.reader r).owner ∧
      ((f s.fetch).readers.get r).state = (s.reader r).state) : Accounts L F d x (s.onFetch f) := h.congr rfl rfl rfl rfl hf

theorem Accounts.setLevelOf (h : Accounts L F d x s) (t : Target) (c : LevelCode) : Accounts L F d x (s.setLevelOf t c) := by
  cases t with
  | xpt row bus => exact h.congr rfl rfl rfl rfl fun _ _ => ⟨rfl, rfl⟩
  | voice v =>
    refine h.congr rfl rfl rfl rfl fun r _ => ?_
    show ((s.onReader (voiceReader v) fun y => { y with level := c }).reader r).owner = _ ∧
      ((s.onReader (voiceReader v) fun y => { y with level := c }).reader r).state = _
    rw [reader_onReader]
    split
    · rename_i e; subst e; exact ⟨rfl, rfl⟩
    · exact ⟨rfl, rfl⟩

theorem Accounts.snapLevel (h : Accounts L F d x s) (hd : ∀ slot, 0 ≤ d slot) (t : Target) (c : LevelCode) :
    Accounts L F d x (s.snapLevel t c) := (h.removeFade hd t).setLevelOf t c

theorem Accounts.poolFullSnap (h : Accounts L F d x s) (t : Target) (c : LevelCode) : Accounts L F d x (s.poolFullSnap t c) :=
  ((h.setLevelOf t c).congr (t := (s.setLevelOf t c).onFades fun b => { b with snaps := bump b.snaps }) rfl rfl rfl rfl
    fun _ _ => ⟨rfl, rfl⟩).raise _ _

/-- Records change what is neither their target nor their owner. -/
theorem Accounts.mapPool (h : Accounts L F d x s) {g : Fade → Fade} (hg : ∀ f, (g f).target = f.target ∧ (g f).owner = f.owner) :
    Accounts L F d x (s.onFades fun b => { b with pool := b.pool.map g }) := by
  have hTargets : (s.fades.pool.map g).map (·.target) = s.fades.pool.map (·.target) := by
    rw [List.map_map]; exact List.map_congr_left fun f _ => (hg f).1
  refine ⟨hTargets.symm ▸ h.targets, h.slots, h.stamps, h.fresh, h.positive, fun i hi => ?_, fun hL f hf slot ho => ?_, h.startOwners,
    h.starting, fun f hf v hv => ?_, h.firing, h.fires⟩
  · have hOwned : (s.fades.pool.map g).countP (fun f => decide (f.owner = some i.slot)) = s.fadesOwned i.slot := by
      rw [List.countP_map]
      exact List.countP_congr fun f _ => by simp [(hg f).2]
    change (i.count : Int) = ((s.fades.pool.map g).countP fun f => decide (f.owner = some i.slot)) + s.startsOwned x i.slot + d i.slot
    rw [hOwned]; exact h.counts i hi
  · obtain ⟨f', hf', rfl⟩ := List.mem_map.mp hf
    exact h.fadeOwners hL f' hf' slot ((hg f').2 ▸ ho)
  · obtain ⟨f', hf', rfl⟩ := List.mem_map.mp hf
    exact h.voiceFades f' hf' v ((hg f').1 ▸ hv)

theorem Accounts.fadeFrame (h : Accounts L F d x s) : Accounts L F d x s.fadeFrame := by
  have hSteps : Accounts L F d x (s.fades.pool.foldl State.fadeStep s) := by
    refine foldl_holds (fun t f ht => ?_) _ h
    unfold State.fadeStep
    split
    · exact ht
    · exact ht.setLevelOf _ _
  refine hSteps.mapPool fun f => ?_
  unfold Fade.advance
  repeat' split
  all_goals exact ⟨rfl, rfl⟩

/-- A record takes the place of the one on its target: the old owner is owed an item, and the new one has taken one. -/
theorem Accounts.replaceFade (h : Accounts L F d x s) {f g : Fade} (e : s.fadeOf g.target = some f)
    (hOwner : L → ∀ slot, g.owner = some slot → slot ∈ s.engine.insts.map (·.slot))
    (hVoice : ∀ v, g.target = .voice v → x ≠ some (voiceReader v) → (s.voice v).sounds) :
    Accounts L F (fun slot => d slot + owes f.owner slot - owes g.owner slot) x
      (s.onFades fun b => { b with pool := b.pool.map fun y => if y.target = g.target then g else y }) := by
  have hMem : f ∈ s.fades.pool := List.mem_of_find?_eq_some e
  have hTarget : f.target = g.target := by simpa using List.find?_some e
  have hTargets : (s.fades.pool.map fun y => if y.target = g.target then g else y).map (·.target) = s.fades.pool.map (·.target) := by
    rw [List.map_map]; exact List.map_congr_left fun y _ => by dsimp only [Function.comp]; split <;> simp [*]
  refine ⟨hTargets.symm ▸ h.targets, h.slots, h.stamps, h.fresh, h.positive, fun i hi => ?_, fun hL y hy slot ho => ?_, h.startOwners,
    h.starting, fun y hy v hv hx => ?_, h.firing, h.fires⟩
  · have hBefore := countP_erase_key (·.target) (fun y => decide (y.owner = some i.slot)) h.targets hMem
    have hNew : g ∈ s.fades.pool.map fun y => if y.target = g.target then g else y :=
      List.mem_map.mpr ⟨f, hMem, if_pos hTarget⟩
    have hAfter := countP_erase_key (·.target) (fun y => decide (y.owner = some i.slot)) (hTargets.symm ▸ h.targets) hNew
    have hRest : (s.fades.pool.map fun y => if y.target = g.target then g else y).filter (fun y => y.target ≠ g.target) =
        s.fades.pool.filter fun y => y.target ≠ g.target := by
      rw [List.filter_map]
      have hSame : ((fun y : Fade => decide (y.target ≠ g.target)) ∘ fun y => if y.target = g.target then g else y) =
          fun y => decide (y.target ≠ g.target) := by
        funext y; dsimp only [Function.comp]; split <;> simp [*]
      rw [hSame]
      conv_rhs => rw [← List.map_id (s.fades.pool.filter _)]
      refine List.map_congr_left fun y hy => if_neg ?_
      simpa using (List.mem_filter.mp hy).2
    have hOld := h.counts i hi
    change (i.count : Int) = ((s.fades.pool.map fun y => if y.target = g.target then g else y).countP
      fun y => decide (y.owner = some i.slot)) + s.startsOwned x i.slot + (d i.slot + owes f.owner i.slot - owes g.owner i.slot)
    unfold State.fadesOwned at hOld
    rw [hTarget] at hBefore
    rw [hRest] at hAfter
    rw [hBefore] at hOld
    rw [hAfter]
    unfold owes
    by_cases hf : f.owner = some i.slot <;> by_cases hg : g.owner = some i.slot <;>
      simp only [hf, hg, decide_true, decide_false, if_true, if_false, Bool.false_eq_true] at hOld ⊢ <;> push_cast at hOld ⊢ <;> omega
  · obtain ⟨y', hy', rfl⟩ := List.mem_map.mp hy
    split at ho
    · exact hOwner hL slot ho
    · exact h.fadeOwners hL y' hy' slot ho
  · obtain ⟨y', hy', rfl⟩ := List.mem_map.mp hy
    split at hv
    · exact hVoice v hv hx
    · exact h.voiceFades y' hy' v hv hx

/-- A record is made on a target that has none: its owner has taken one item. -/
theorem Accounts.addFade (h : Accounts L F d x s) {g : Fade} (e : s.fadeOf g.target = none)
    (hOwner : L → ∀ slot, g.owner = some slot → slot ∈ s.engine.insts.map (·.slot))
    (hVoice : ∀ v, g.target = .voice v → x ≠ some (voiceReader v) → (s.voice v).sounds) :
    Accounts L F (fun slot => d slot - owes g.owner slot) x (s.onFades fun b => { b with pool := b.pool ++ [g] }) := by
  refine ⟨?_, h.slots, h.stamps, h.fresh, h.positive, fun i hi => ?_, fun hL y hy slot ho => ?_, h.startOwners, h.starting,
    fun y hy v hv hx => ?_, h.firing, h.fires⟩
  · show ((s.fades.pool ++ [g]).map (·.target)).Nodup
    simpa [List.nodup_append] using ⟨h.targets, State.fadeOf_eq_none.mp e⟩
  · have hOld := h.counts i hi
    change (i.count : Int) = ((s.fades.pool ++ [g]).countP fun y => decide (y.owner = some i.slot)) + s.startsOwned x i.slot +
      (d i.slot - owes g.owner i.slot)
    unfold State.fadesOwned at hOld
    rw [List.countP_append, List.countP_singleton]
    unfold owes
    by_cases hg : g.owner = some i.slot <;> simp only [hg, decide_true, decide_false, if_true, if_false, Bool.false_eq_true] <;>
      push_cast <;> omega
  · rcases List.mem_append.mp hy with hy | hy
    · exact h.fadeOwners hL y hy slot ho
    · exact hOwner hL slot (List.mem_singleton.mp hy ▸ ho)
  · rcases List.mem_append.mp hy with hy | hy
    · exact h.voiceFades y hy v hv hx
    · exact hVoice v (List.mem_singleton.mp hy ▸ hv) hx

/-- A fade request of the firing `Inst`, or of none, leaves the accounts. -/
theorem Accounts.requestFade (h : Accounts L F d x s) (hd : ∀ slot, 0 ≤ d slot) {t : Target} {goal : LevelCode} {ms : Nat}
    {owner : Option InstSlot} {stopAtOff : Bool} (hOwner : owner = none ∨ owner = F)
    (hVoice : ∀ v, t = .voice v → x ≠ some (voiceReader v) → (s.voice v).sounds) :
    Accounts L F d x (s.requestFade t goal ms owner stopAtOff) := by
  have hIn : L → ∀ slot, owner = some slot → slot ∈ s.engine.insts.map (·.slot) := fun hL slot ho =>
    h.fires hL slot (hOwner.elim (fun e => by rw [e] at ho; cases ho) fun e => e ▸ ho)
  unfold State.requestFade
  dsimp only
  split
  · rename_i hCase
    obtain ⟨f, e⟩ : ∃ f, s.fadeOf t = some f := by
      unfold State.fadeCase at hCase
      split at hCase
      · exact Option.isSome_iff_exists.mp ‹_›
      · split at hCase
        · cases hCase
        · split at hCase <;> cases hCase
    have hReplaced := h.replaceFade (g := ⟨t, s.levelOf t, goal, ms, 0, owner, stopAtOff⟩) e hIn hVoice
    rw [e]
    refine ((hReplaced.ownerDone f.owner fun slot hf => ?_).ownerAdd owner).owed fun slot => by ring
    have hNonneg := hd slot
    have hOwes : owes f.owner slot = 1 := by rw [hf, owes_self]
    dsimp only
    rw [hOwes]
    by_cases ho : owner = some slot
    · have hOwned : 1 ≤ (s.onFades fun b => { b with pool := b.pool.map fun y =>
          if y.target = t then ⟨t, s.levelOf t, goal, ms, 0, owner, stopAtOff⟩ else y }).fadesOwned slot := by
        refine List.countP_pos_iff.mpr ⟨⟨t, s.levelOf t, goal, ms, 0, owner, stopAtOff⟩, ?_, by simpa using ho⟩
        exact List.mem_map.mpr ⟨f, List.mem_of_find?_eq_some e, if_pos (by simpa using List.find?_some e)⟩
      have hOwesNew : owes owner slot = 1 := by rw [ho, owes_self]
      rw [hOwesNew]
      refine ⟨by omega, fun hF => absurd ?_ hF⟩
      exact hOwner.elim (fun e => by rw [e] at ho; cases ho) fun e => e ▸ ho
    · rw [owes_ne ho]
      exact ⟨by omega, fun _ => by omega⟩
  · exact h
  · rename_i hCase
    exact ((h.addFade (g := ⟨t, s.levelOf t, goal, ms, 0, owner, stopAtOff⟩) (State.fadeCase_made hCase).1 hIn hVoice).ownerAdd
      owner).owed fun slot => by ring
  · exact h.poolFullSnap t goal

/-! ### A reader in hand -/

theorem Accounts.take (h : Accounts L F (fun _ => 0) none s) (r : ReaderId) :
    Accounts L F (fun slot => owes (s.reader r).owner slot) (some r) s :=
  { h with
    counts := fun i hi => by
      have := h.counts i hi
      rw [State.startsOwned_none s r] at this
      omega
    startOwners := fun hL q slot _ => h.startOwners hL q slot nofun
    starting := fun q _ => h.starting q nofun
    voiceFades := fun f hf v hv _ => h.voiceFades f hf v hv nofun }

/-- A reader leaves the hand: what it owns is owed, it is then STARTING, and a fade on it finds it sounding. -/
theorem Accounts.put {r : ReaderId} (h : Accounts L F (fun slot => owes (s.reader r).owner slot) (some r) s)
    (hOwner : ∀ slot, (s.reader r).owner = some slot → (L → slot ∈ s.engine.insts.map (·.slot)) ∧
      (s.reader r).state = .starting ∧ ∀ p, r ≠ playerReader p)
    (hVoice : ∀ v, r = voiceReader v → s.fadeOf (.voice v) = none ∨ (s.reader r).sounds) :
    Accounts L F (fun _ => 0) none s :=
  { h with
    counts := fun i hi => by
      have := h.counts i hi
      rw [State.startsOwned_none s r]
      omega
    startOwners := fun hL q slot _ ho => by
      by_cases hq : r = q
      · subst hq; exact (hOwner slot ho).1 hL
      · exact h.startOwners hL q slot (fun e => hq (Option.some.inj e)) ho
    starting := fun q _ ho => by
      by_cases hq : r = q
      · subst hq
        obtain ⟨slot, hslot⟩ := Option.ne_none_iff_exists'.mp ho
        exact (hOwner slot hslot).2
      · exact h.starting q (fun e => hq (Option.some.inj e)) ho
    voiceFades := fun f hf v hv _ => by
      by_cases hr : r = voiceReader v
      · rcases hVoice v hr with hNone | hSounds
        · exact absurd hv (State.fadeOf_eq_none.mp hNone f hf)
        · subst hr; exact hSounds
      · exact h.voiceFades f hf v hv fun e => hr (Option.some.inj e) }

/-- Whatever is done to the reader in hand leaves the accounts of the others. -/
theorem Accounts.onReader {r : ReaderId} (h : Accounts L F d (some r) s) (f : Reader → Reader) :
    Accounts L F d (some r) (s.onReader r f) :=
  h.congr rfl rfl rfl rfl fun q hq => by
    rw [reader_onReader, if_neg fun e => hq (congrArg some e)]
    exact ⟨rfl, rfl⟩

theorem Accounts.clearRing {r : ReaderId} (h : Accounts L F d (some r) s) : Accounts L F d (some r) (s.clearRing r) :=
  Accounts.onReader (s := s.onFetch fun b => { b with tags := b.tags.map (StoreTag.orphan r) })
    (h.onFetch fun _ _ => ⟨rfl, rfl⟩) Reader.clearRing

theorem Accounts.raiseReader (h : Accounts L F d x s) (r : ReaderId) (event : String) : Accounts L F d x (s.raiseReader r event) := by
  unfold State.raiseReader
  dsimp only
  split <;> exact h.raise _ _

/-- A change of a reader that leaves its owner, a start and a sound. -/
theorem Accounts.changeReader (h : Accounts L F (fun _ => 0) none s) {r : ReaderId} {f : Reader → Reader}
    (hOwner : (f (s.reader r)).owner = (s.reader r).owner)
    (hStarting : (s.reader r).state = .starting → (f (s.reader r)).state = .starting)
    (hSounds : (s.reader r).sounds → (f (s.reader r)).sounds) : Accounts L F (fun _ => 0) none (s.onReader r f) := by
  have hReader : (s.onReader r f).reader r = f (s.reader r) := by rw [reader_onReader, if_pos rfl]
  refine Accounts.put (r := r) ?_ (fun slot ho => ?_) fun v hv => ?_
  · rw [hReader, hOwner]; exact (h.take r).onReader f
  · rw [hReader, hOwner] at ho
    obtain ⟨hState, hPlayer⟩ := h.starting r nofun (by rw [ho]; nofun)
    rw [hReader]
    exact ⟨fun hL => h.startOwners hL r slot nofun ho, hStarting hState, hPlayer⟩
  · rw [hReader]
    cases e : s.fadeOf (.voice v) with
    | none => exact .inl e
    | some f' =>
      have hSounding := h.voiceFades f' (List.mem_of_find?_eq_some e) v (by simpa using List.find?_some e) nofun
      exact .inr (hSounds (by rw [hv]; exact hSounding))

/-! ### What the told owners leave -/

theorem State.removeFade_none (t : Target) : (s.removeFade t).fadeOf t = none := by
  unfold State.removeFade
  split
  · assumption
  · rw [State.fadeOf_eq_none]
    rw [(State.ownerDone_frame _ _).2.2.1]
    intro f hf
    simpa using (List.mem_filter.mp hf).2

theorem State.ownerDone_fadeOf (o : Option InstSlot) (t : Target) : (s.ownerDone o).fadeOf t = s.fadeOf t := by
  unfold State.fadeOf; simp

theorem State.ownerDone_reader (o : Option InstSlot) (r : ReaderId) : (s.ownerDone o).reader r = s.reader r := by
  unfold State.reader; simp

theorem State.ownerAdd_reader (o : Option InstSlot) (r : ReaderId) : (s.ownerAdd o).reader r = s.reader r := by
  unfold State.reader; simp

theorem State.removeFade_reader (t : Target) (r : ReaderId) : (s.removeFade t).reader r = s.reader r := by
  unfold State.reader; simp

theorem State.raiseReader_reader (q : ReaderId) (event : String) (r : ReaderId) : (s.raiseReader q event).reader r = s.reader r := by
  unfold State.reader; simp

theorem readerKind_inl {r : ReaderId} {v : VoiceId} (e : readerKind r = .inl v) : r = voiceReader v := by
  unfold readerKind at e
  split at e
  · cases e; rfl
  · cases e

theorem readerKind_inr {r : ReaderId} {p : PlayerId} (e : readerKind r = .inr p) : r = playerReader p := by
  unfold readerKind at e
  split at e
  · cases e
  · cases e; apply Fin.ext; simp only [playerReader]; omega

theorem voiceReader_injective : Function.Injective voiceReader := fun v w e => by
  have := congrArg Fin.val e
  exact Fin.ext this

theorem voiceReader_ne_playerReader (v : VoiceId) (p : PlayerId) : voiceReader v ≠ playerReader p := fun e => by
  have := congrArg Fin.val e
  simp only [voiceReader, playerReader] at this
  omega

/-- A player owns no start. -/
theorem Accounts.player_owner (h : Accounts L F (fun _ => 0) none s) (p : PlayerId) : (s.reader (playerReader p)).owner = none := by
  by_contra ho
  exact (h.starting _ nofun ho).2 p rfl

end

end Sys2Proof.Machine
end

section
/-! PROOFS. The accounting of instances through what the readers do, through a firing and through STOP ALL (R37, R103, R115, R130 to
R142). -/

namespace Sys2Proof.Machine

open Sys2Proof

section
variable {L : Prop} {F : Option InstSlot} {s : State}

/-! ### Readers that leave what they did -/

/-- A reader loses its start, its record and what else it did, each owner told. -/
theorem Accounts.lose (h : Accounts L F (fun _ => 0) none s) {r : ReaderId} {f : Reader → Reader} (hf : ∀ y, (f y).owner = none)
    (event : String) :
    Accounts L F (fun _ => 0) none (match readerKind r with
      | .inl v => ((((s.clearRing r).onReader r f).raiseReader r event).removeFade (.voice v)).ownerDone (s.reader r).owner
      | .inr _ => ((s.clearRing r).onReader r f).raiseReader r event) := by
  have hLost : Accounts L F (fun slot => owes (s.reader r).owner slot) (some r) (((s.clearRing r).onReader r f).raiseReader r event) :=
    ((h.take r).clearRing.onReader f).raiseReader r event
  have hReader : ((((s.clearRing r).onReader r f).raiseReader r event).reader r).owner = none := by
    rw [State.raiseReader_reader, reader_onReader, if_pos rfl]; exact hf _
  split
  · rename_i v hKind
    have hTold := ((hLost.removeFade (owes_nonneg _) (.voice v)).owed (d' := fun slot => 0 + owes (s.reader r).owner slot)
      fun slot => zero_add _).told fun _ => le_refl _
    have hNone : (((((s.clearRing r).onReader r f).raiseReader r event).removeFade (.voice v)).ownerDone
        (s.reader r).owner).fadeOf (.voice v) = none := (State.ownerDone_fadeOf _ _).trans (State.removeFade_none _)
    have hOwner : ((((((s.clearRing r).onReader r f).raiseReader r event).removeFade (.voice v)).ownerDone
        (s.reader r).owner).reader r).owner = none := by
      rw [State.ownerDone_reader, State.removeFade_reader, hReader]
    refine Accounts.put (hTold.owed fun slot => by rw [hOwner]; rfl) (fun slot ho => by rw [hOwner] at ho; cases ho) fun w hw => .inl ?_
    rw [← voiceReader_injective ((readerKind_inl hKind).symm.trans hw)]; exact hNone
  · rename_i p hKind
    have hNone : (s.reader r).owner = none := by rw [readerKind_inr hKind]; exact h.player_owner p
    refine Accounts.put (hLost.owed fun slot => by rw [hReader, hNone]) (fun slot ho => by rw [hReader] at ho; cases ho) fun w hw => ?_
    exact absurd (hw.symm.trans (readerKind_inr hKind)) (voiceReader_ne_playerReader w p)

theorem Accounts.callEvaluation {d : InstSlot → Int} {x : Option ReaderId} (h : Accounts L F d x s) (v : VoiceId) :
    Accounts L F d x (s.callEvaluation v) := by
  unfold State.callEvaluation
  split
  · exact h.onEngine ⟨rfl, rfl, rfl⟩
  · exact h

theorem Accounts.enterIdle (h : Accounts L F (fun _ => 0) none s) (r : ReaderId) (event : String) :
    Accounts L F (fun _ => 0) none (s.enterIdle r event) := by
  have hLost := h.lose (r := r) (f := Reader.toIdle) (fun _ => rfl) event
  unfold State.enterIdle
  dsimp only
  split <;> rename_i hKind <;> rw [hKind] at hLost
  · exact hLost.callEvaluation _
  · exact hLost

theorem Accounts.enterFaulted (h : Accounts L F (fun _ => 0) none s) (r : ReaderId) :
    Accounts L F (fun _ => 0) none (s.enterFaulted r) :=
  h.lose (f := fun y => { y with state := .faulted, keptFadeIn := none, owner := none, stalledFor := 0 }) (fun _ => rfl) "fault"

/-! ### Readers that start -/

/-- A fade request changes of a reader at most its level. -/
theorem State.requestFade_reader (t : Target) (goal : LevelCode) (ms : Nat) (o : Option InstSlot) (b : Bool) (r : ReaderId) :
    ((s.requestFade t goal ms o b).reader r).owner = (s.reader r).owner ∧
      ((s.requestFade t goal ms o b).reader r).state = (s.reader r).state := by
  have hLevel : ((s.setLevelOf t goal).reader r).owner = (s.reader r).owner ∧ ((s.setLevelOf t goal).reader r).state = (s.reader r).state := by
    cases t with
    | xpt row bus => exact ⟨rfl, rfl⟩
    | voice v =>
      show ((s.onReader (voiceReader v) fun y => { y with level := goal }).reader r).owner = _ ∧
        ((s.onReader (voiceReader v) fun y => { y with level := goal }).reader r).state = _
      rw [reader_onReader]
      split
      · rename_i e; subst e; exact ⟨rfl, rfl⟩
      · exact ⟨rfl, rfl⟩
  unfold State.requestFade
  dsimp only
  split
  · rw [State.ownerAdd_reader, State.ownerDone_reader]; exact ⟨rfl, rfl⟩
  · exact ⟨rfl, rfl⟩
  · rw [State.ownerAdd_reader]; exact ⟨rfl, rfl⟩
  · unfold State.poolFullSnap
    simpa [State.reader] using hLevel

theorem State.fadeIn_reader (v : VoiceId) (kept : Option Nat) (r : ReaderId) :
    ((s.fadeIn v kept).reader r).owner = (s.reader r).owner ∧ ((s.fadeIn v kept).reader r).state = (s.reader r).state := by
  unfold State.fadeIn
  split
  · exact ⟨rfl, rfl⟩
  · exact ⟨rfl, rfl⟩
  · exact State.requestFade_reader _ _ _ _ _ _

/-- A reader in hand enters PLAYING: a voice's start owner is told. -/
theorem Accounts.enterPlaying {r : ReaderId} (h : Accounts L F (fun slot => owes (s.reader r).owner slot) (some r) s)
    (hPlayer : ∀ p, r = playerReader p → (s.reader r).owner = none) (late : Nat) :
    Accounts L F (fun _ => 0) none (s.enterPlaying r late) := by
  have hPlays := h.onReader fun x => { x with state := .playing, late := some late, keptFadeIn := none, owner := none }
  have hReader : (s.onReader r fun x => { x with state := .playing, late := some late, keptFadeIn := none, owner := none }).reader r =
      { s.reader r with state := .playing, late := some late, keptFadeIn := none, owner := none } := by
    rw [reader_onReader, if_pos rfl]
  unfold State.enterPlaying
  dsimp only
  refine Accounts.raiseReader ?_ r "playing"
  split
  · rename_i v hKind
    have hFaded : Accounts L F (fun slot => owes (s.reader r).owner slot) (some r)
        ((s.onReader r fun x => { x with state := .playing, late := some late, keptFadeIn := none, owner := none }).fadeIn v
          (s.reader r).keptFadeIn) := by
      unfold State.fadeIn
      split
      · exact hPlays
      · exact hPlays
      · refine hPlays.requestFade (owes_nonneg _) (.inl rfl) fun w hw hx => absurd ?_ hx
        cases hw; rw [readerKind_inl hKind]
    have hTold := (hFaded.owed (d' := fun slot => 0 + owes (s.reader r).owner slot) fun slot => zero_add _).told fun _ => le_refl _
    obtain ⟨hOwner, hState⟩ := State.fadeIn_reader (s := s.onReader r fun x =>
      { x with state := .playing, late := some late, keptFadeIn := none, owner := none }) v (s.reader r).keptFadeIn r
    rw [hReader] at hOwner hState
    refine Accounts.put (hTold.owed fun slot => by rw [State.ownerDone_reader, hOwner]; rfl) (fun slot ho => ?_) fun w _ => .inr ?_
    · rw [State.ownerDone_reader, hOwner] at ho; cases ho
    · rw [State.ownerDone_reader]; exact .inl hState
  · rename_i p hKind
    refine Accounts.put (hPlays.owed fun slot => by rw [hReader, hPlayer p (readerKind_inr hKind)]) (fun slot ho => ?_) fun w hw => ?_
    · rw [hReader] at ho; cases ho
    · exact absurd (hw.symm.trans (readerKind_inr hKind)) (voiceReader_ne_playerReader w p)

theorem Accounts.testStart (h : Accounts L F (fun _ => 0) none s) (r : ReaderId) : Accounts L F (fun _ => 0) none (s.testStart r) := by
  unfold State.testStart
  dsimp only
  split
  · exact (h.take r).enterPlaying (fun p hp => hp ▸ h.player_owner p) _
  · exact h

/-- A PLAY of the firing `Inst`, or of none, leaves the accounts (R132). -/
theorem Accounts.play (h : Accounts L F (fun _ => 0) none s) (v : VoiceId) (n : SoundId) (d : Sound) (ms : Nat) {owner : Option InstSlot}
    (hOwner : owner = none ∨ owner = F) : Accounts L F (fun _ => 0) none (s.play v n d ms owner) := by
  have hTold : Accounts L F (fun _ => 0) (some (voiceReader v))
      ((s.removeFade (.voice v)).ownerDone (s.reader (voiceReader v)).owner) :=
    (((h.take (voiceReader v)).removeFade (owes_nonneg _) (.voice v)).owed
      (d' := fun slot => 0 + owes (s.reader (voiceReader v)).owner slot) fun slot => zero_add _).told fun _ => le_refl _
  have hNone : ((s.removeFade (.voice v)).ownerDone (s.reader (voiceReader v)).owner).fadeOf (.voice v) = none :=
    (State.ownerDone_fadeOf _ _).trans (State.removeFade_none _)
  have hStarts : ∀ u : State, Accounts L F (fun _ => 0) (some (voiceReader v)) u → (u.reader (voiceReader v)).state = .starting →
      u.fadeOf (.voice v) = none → Accounts L F (fun _ => 0) none
        ((((u.onReader (voiceReader v) fun x => x.takePlay u.now n d ms owner).ownerAdd owner).raiseReader (voiceReader v)
          "starting").testStart (voiceReader v)) := by
    intro u hu hState hFree
    have hReader : ((u.onReader (voiceReader v) fun x => x.takePlay u.now n d ms owner).ownerAdd owner).reader (voiceReader v) =
        (u.reader (voiceReader v)).takePlay u.now n d ms owner := by
      rw [State.ownerAdd_reader, reader_onReader, if_pos rfl]
    have hTaken := (hu.onReader fun x => x.takePlay u.now n d ms owner).ownerAdd owner
    refine ((Accounts.put (hTaken.owed fun slot => ?_) (fun slot ho => ?_) fun w hw => .inl ?_).raiseReader _ _).testStart _
    · rw [hReader]; exact (zero_add _).symm
    · rw [hReader] at ho ⊢
      have ho : owner = some slot := ho
      refine ⟨fun hL => ?_, hState, fun p => voiceReader_ne_playerReader v p⟩
      exact hTaken.fires hL slot (hOwner.elim (fun e => by rw [e] at ho; cases ho) fun e => e ▸ ho)
    · rw [← voiceReader_injective hw]
      unfold State.fadeOf at hFree ⊢
      simpa using hFree
  unfold State.play
  dsimp only
  split
  · refine ((hTold.onReader _).owed fun slot => ?_).enterPlaying (fun p hp => absurd hp (voiceReader_ne_playerReader v p)) 0
    rw [reader_onReader, if_pos rfl]; rfl
  · refine hStarts _ ?_ ?_ ?_
    · split
      · exact hTold.onReader _
      · exact hTold.clearRing.onReader _
    · split
      · rw [reader_onReader, if_pos rfl]
      · rw [reader_onReader, if_pos rfl]; rfl
    · split
      · exact hNone
      · exact hNone

theorem Accounts.stopVoice (h : Accounts L F (fun _ => 0) none s) (v : VoiceId) (ms : Nat) {owner : Option InstSlot}
    (hOwner : owner = none ∨ owner = F) : Accounts L F (fun _ => 0) none (s.stopVoice v ms owner) := by
  have hSounding : (s.reader (voiceReader v)).sounds →
      Accounts L F (fun _ => 0) none (if ms = 0 ∨ (s.reader (voiceReader v)).level = offCode then s.enterIdle (voiceReader v) "stopped"
        else match s.fadeCase (.voice v) offCode with
          | .snapped => (s.poolFullSnap (.voice v) offCode).enterIdle (voiceReader v) "stopped"
          | _ => s.requestFade (.voice v) offCode ms owner true) := by
    intro hSounds
    split
    · exact h.enterIdle _ _
    · split
      · exact (h.poolFullSnap _ _).enterIdle _ _
      · exact h.requestFade (fun _ => le_refl _) hOwner fun w hw _ => by cases hw; exact hSounds
  unfold State.stopVoice
  dsimp only
  split
  case h_1 => exact h
  case h_6 hState => exact hSounding (.inl hState)
  case h_7 hState => exact hSounding (.inr hState)
  all_goals exact h.enterIdle _ _

/-! ### The other changes of readers -/

theorem Accounts.fetchOther (h : Accounts L F (fun _ => 0) none s) {f : FetchBlock → FetchBlock}
    (hf : (f s.fetch).readers = s.fetch.readers) : Accounts L F (fun _ => 0) none (s.onFetch f) :=
  h.onFetch fun r _ => by rw [hf]; exact ⟨rfl, rfl⟩

theorem Accounts.setTag (h : Accounts L F (fun _ => 0) none s) (t : TagId) (x : StoreTag) :
    Accounts L F (fun _ => 0) none (s.setTag t x) := h.fetchOther rfl

theorem Reader.fill_owner (y : Reader) (i : RingSlot) (samples : Vector Sample 256) :
    (y.fill i samples).owner = y.owner ∧ (y.fill i samples).state = y.state := by
  unfold Reader.fill; split <;> exact ⟨rfl, rfl⟩

theorem Reader.request_owner (y : Reader) (t : TagId) (i : RingSlot) (j : Nat) (isRetry : Bool) :
    (y.request t i j isRetry).owner = y.owner ∧ (y.request t i j isRetry).state = y.state := by
  unfold Reader.request; dsimp only; split <;> exact ⟨rfl, rfl⟩

theorem Reader.advance_owner (y : Reader) : y.advance.owner = y.owner ∧ y.advance.state = .playing := by
  unfold Reader.advance; dsimp only; split <;> exact ⟨rfl, rfl⟩

/-- A change of a reader that leaves its owner and its state. -/
theorem Accounts.changeStill (h : Accounts L F (fun _ => 0) none s) {r : ReaderId} {f : Reader → Reader}
    (hf : ∀ y, (f y).owner = y.owner ∧ (f y).state = y.state) : Accounts L F (fun _ => 0) none (s.onReader r f) :=
  h.changeReader (hf _).1 (fun e => (hf _).2.trans e) fun e => by unfold Reader.sounds; rw [(hf _).2]; exact e

theorem Accounts.fill (h : Accounts L F (fun _ => 0) none s) (r : ReaderId) (i : RingSlot) (samples : Vector Sample 256) :
    Accounts L F (fun _ => 0) none (s.onReader r fun y => y.fill i samples) := h.changeStill fun y => y.fill_owner i samples

/-- A reader that neither starts nor sounds is changed. -/
theorem Accounts.changeSilent (h : Accounts L F (fun _ => 0) none s) {r : ReaderId} {f : Reader → Reader}
    (hOwner : (f (s.reader r)).owner = (s.reader r).owner) {st : ReaderState} (hState : (s.reader r).state = st)
    (hStarting : st ≠ .starting) (hPlaying : st ≠ .playing) (hStalled : st ≠ .stalled) :
    Accounts L F (fun _ => 0) none (s.onReader r f) :=
  h.changeReader hOwner (fun e => absurd (hState.symm.trans e) hStarting) fun e =>
    e.elim (fun e => absurd (hState.symm.trans e) hPlaying) fun e => absurd (hState.symm.trans e) hStalled

theorem Accounts.prime (h : Accounts L F (fun _ => 0) none s) {v : VoiceId} (hIdle : (s.voice v).state = .idle) (n : SoundId) :
    Accounts L F (fun _ => 0) none (s.prime v n) := by
  unfold State.prime
  split
  · exact h
  · rename_i d hd
    dsimp only
    refine Accounts.raiseReader ?_ _ _
    have hStamp : Accounts L F (fun _ => 0) none (s.onFetch fun b => { b with nextPrimeStamp := s.fetch.nextPrimeStamp + 1 }) :=
      h.fetchOther rfl
    exact hStamp.changeSilent (r := voiceReader v) (f := fun x => { x.load n d .priming with primeStamp := s.fetch.nextPrimeStamp }) rfl
      hIdle nofun nofun nofun

theorem Accounts.testPrimed (h : Accounts L F (fun _ => 0) none s) (r : ReaderId) :
    Accounts L F (fun _ => 0) none (s.testPrimed r) := by
  unfold State.testPrimed
  dsimp only
  split
  · rename_i hPrimes
    exact (h.changeSilent rfl hPrimes.1 nofun nofun nofun).raiseReader _ _
  · exact h

/-- A player begins again with an empty ring. -/
theorem Accounts.beginPlayer (h : Accounts L F (fun _ => 0) none s) (p : PlayerId) {f : Reader → Reader}
    (hf : ∀ y, (f y).owner = y.owner) :
    Accounts L F (fun _ => 0) none ((s.clearRing (playerReader p)).onReader (playerReader p) f) := by
  have hOwner : (((s.clearRing (playerReader p)).onReader (playerReader p) f).reader (playerReader p)).owner = none := by
    rw [reader_onReader, if_pos rfl, hf]
    unfold State.clearRing
    rw [reader_onReader, if_pos rfl]
    exact h.player_owner p
  refine Accounts.put (((h.take (playerReader p)).clearRing.onReader f).owed fun slot => ?_) (fun slot ho => ?_) fun v hv => ?_
  · rw [hOwner, h.player_owner p]
  · rw [hOwner] at ho; cases ho
  · exact absurd hv.symm (voiceReader_ne_playerReader v p)

theorem Accounts.startPlayer (h : Accounts L F (fun _ => 0) none s) (p : PlayerId) (n : SoundId) :
    Accounts L F (fun _ => 0) none (s.startPlayer p n) := by
  unfold State.startPlayer
  split
  · exact h
  · refine Accounts.raiseReader (h.beginPlayer p ?_) _ _
    exact fun _ => rfl

theorem Accounts.failSlot (h : Accounts L F (fun _ => 0) none s) (r : ReaderId) (i : RingSlot) :
    Accounts L F (fun _ => 0) none (s.failSlot r i) := by
  unfold State.failSlot
  dsimp only
  split
  · refine Accounts.raiseReader (h.changeStill ?_) _ _
    exact fun _ => ⟨rfl, rfl⟩
  · exact h.enterFaulted r

theorem Accounts.grantTag (h : Accounts L F (fun _ => 0) none s) : Accounts L F (fun _ => 0) none s.grantTag := by
  unfold State.grantTag
  split
  · split
    · exact ((h.changeStill fun y => y.request_owner ..).setTag _ _).fetchOther rfl
    · exact h
  · exact h

theorem Accounts.sampleStep (h : Accounts L F (fun _ => 0) none s) (r : ReaderId) :
    Accounts L F (fun _ => 0) none (s.sampleStep r) := by
  have hEnd : ∀ t : State, Accounts L F (fun _ => 0) none t →
      Accounts L F (fun _ => 0) none (if (t.reader r).ended then t.enterIdle r "end" else t) := by
    intro t ht
    split
    · exact ht.enterIdle _ _
    · exact ht
  unfold State.sampleStep
  dsimp only
  split
  · rename_i hSounds
    have hNotStarting : (s.reader r).state ≠ .starting := fun e => by rw [e] at hSounds; rcases hSounds with e | e <;> cases e
    split
    · refine hEnd _ ?_
      split
      · refine (h.changeReader ?_ (fun e => absurd e hNotStarting) fun _ => .inl ?_).raiseReader _ _
        · exact (Reader.advance_owner _).1
        · exact (Reader.advance_owner _).2
      · exact h.changeReader (Reader.advance_owner _).1 (fun e => absurd e hNotStarting) fun _ => .inl (Reader.advance_owner _).2
    · split
      · exact (h.changeReader (f := fun x => { x with state := .stalled, stalledFor := 1 }) rfl (fun e => absurd e hNotStarting)
          fun _ => .inr rfl).raiseReader _ _
      · exact h.changeStill fun _ => ⟨rfl, rfl⟩
  · exact h

theorem Accounts.fadeDone (h : Accounts L F (fun _ => 0) none s) (t : Target) : Accounts L F (fun _ => 0) none (s.fadeDone t) := by
  unfold State.fadeDone
  split
  · exact h
  · rename_i f e
    have hTarget : f.target = t := by simpa using List.find?_some e
    split
    · have hFound : (s.setLevelOf f.target f.goal).fadeOf f.target = some f := by
        unfold State.fadeOf; rw [setLevelOf_fades, hTarget]; exact e
      have hTold : Accounts L F (fun _ => 0) none (((s.setLevelOf f.target f.goal).dropFade f.target).ownerDone f.owner) :=
        ((h.setLevelOf _ _).dropFade hFound).told fun _ => le_refl _
      unfold State.completeFade
      dsimp only
      split
      · split
        · exact hTold.enterIdle _ _
        · exact hTold
      · exact hTold
    · exact h

end

/-- The accounting of an `Inst` that fires, or of none, is kept by the operations of the blocks. -/
theorem accounts_core (F : Option InstSlot) : Core anyLevel (Accounts True F (fun _ => 0) none) where
  raise h := h.raise _ _
  engine {s _} hf h := h.onEngine (hf s.engine).2
  standby _ h := h.onEngine ⟨rfl, rfl, rfl⟩
  allowOff _ := trivial
  snapLevel _ h := h.snapLevel (fun _ => le_refl _) _ _
  fadeXpt _ h := h.requestFade (fun _ => le_refl _) (.inl rfl) fun _ e => nomatch e
  fadeFrame h := h.fadeFrame
  fadeDone h := h.fadeDone _
  setTag h := h.setTag _ _
  counts {s _} hf h := h.fetchOther (hf s.fetch).2.2
  fill h := h.fill _ _ _
  enterIdle h := h.enterIdle _ _
  testStart h := h.testStart _
  testPrimed h := h.testPrimed _
  play h := h.play _ _ _ _ (.inl rfl)
  stopVoice h := h.stopVoice _ _ (.inl rfl)
  prime hIdle h := h.prime hIdle _
  startPlayer h := h.startPlayer _ _
  failSlot h := h.failSlot _ _
  grantTag h := h.grantTag
  sampleStep h := h.sampleStep _
  router _ _ h := h.congr rfl rfl rfl rfl fun _ _ => ⟨rfl, rfl⟩
  cast _ h := h.congr rfl rfl rfl rfl fun _ _ => ⟨rfl, rfl⟩
  mic _ h := h.congr rfl rfl rfl rfl fun _ _ => ⟨rfl, rfl⟩
  clips h := h.congr rfl rfl rfl rfl fun _ _ => ⟨rfl, rfl⟩
  foldback _ h := h.congr rfl rfl rfl rfl fun _ _ => ⟨rfl, rfl⟩
  lines _ h := h.congr rfl rfl rfl rfl fun _ _ => ⟨rfl, rfl⟩
  tick h := h.congr rfl rfl rfl rfl fun _ _ => ⟨rfl, rfl⟩

end Sys2Proof.Machine
end

section
/-! PROOFS. A firing and STOP ALL keep the accounting of instances (R37, R103, R110, R115), and with them every step does. -/

namespace Sys2Proof.Machine

open Sys2Proof

/-! ### An `Inst` is retired -/

section
variable {s : State}

/-- An `Inst` leaves the table and its fades and starts lose their owner. -/
theorem Accounts.forget (h : Accounts True none (fun _ => 0) none s) (slot : InstSlot) :
    Accounts True none (fun _ => 0) none (((s.removeInst slot).disownFades slot).disownStarts slot) := by
  have hFade : ∀ {slot'} (f : Fade), slot' ≠ slot →
      ((if f.owner = some slot then { f with owner := none } else f).owner = some slot' ↔ f.owner = some slot') := by
    intro slot' f hne
    split
    · rename_i ho; simp [ho, Ne.symm hne]
    · rfl
  have hLost : ∀ {slot'} {f : Fade}, (if f.owner = some slot then { f with owner := none } else f).owner = some slot' → slot' ≠ slot := by
    intro slot' f ho e
    split at ho
    · cases ho
    · exact absurd (e ▸ ho) ‹_›
  have hReader : ∀ r, (((s.removeInst slot).disownFades slot).disownStarts slot).reader r =
      if (s.reader r).owner = some slot then { s.reader r with owner := none } else s.reader r := fun r => by
    show (s.fetch.readers.map _).get r = _
    rw [get_map]; rfl
  have hState : ∀ r, ((((s.removeInst slot).disownFades slot).disownStarts slot).reader r).state = (s.reader r).state := fun r => by
    rw [hReader]; split <;> rfl
  have hOwner : ∀ {slot'} r, ((((s.removeInst slot).disownFades slot).disownStarts slot).reader r).owner = some slot' →
      (s.reader r).owner = some slot' ∧ slot' ≠ slot := by
    intro slot' r ho
    rw [hReader] at ho
    split at ho
    · cases ho
    · rename_i hne
      exact ⟨ho, fun e => hne (e ▸ ho)⟩
  have hStays : ∀ {slot'}, slot' ≠ slot → slot' ∈ s.engine.insts.map (·.slot) →
      slot' ∈ (s.engine.insts.filter fun i => i.slot ≠ slot).map (·.slot) := by
    intro slot' hne hm
    obtain ⟨i, hi, rfl⟩ := List.mem_map.mp hm
    exact List.mem_map_of_mem (List.mem_filter.mpr ⟨hi, by simpa using hne⟩)
  have hSub : (s.engine.insts.filter fun i => i.slot ≠ slot).Sublist s.engine.insts := List.filter_sublist
  have hTargets : (s.fades.pool.map fun f => if f.owner = some slot then { f with owner := none } else f).map (·.target) =
      s.fades.pool.map (·.target) := by
    rw [List.map_map]; exact List.map_congr_left fun f _ => by dsimp only [Function.comp]; split <;> rfl
  refine ⟨hTargets.symm ▸ h.targets, (hSub.map _).nodup h.slots, h.stamps.sublist (hSub.map _), fun i hi => h.fresh i (hSub.subset hi),
    fun i hi => h.positive i (hSub.subset hi), fun i hi => ?_, fun _ f hf slot' ho => ?_, fun _ r slot' _ ho => ?_, fun r _ ho => ?_,
    fun f hf v hv _ => ?_, h.firing, nofun⟩
  · obtain ⟨hi, hne⟩ := List.mem_filter.mp hi
    have hne : i.slot ≠ slot := by simpa using hne
    have hFades : (((s.removeInst slot).disownFades slot).disownStarts slot).fadesOwned i.slot = s.fadesOwned i.slot := by
      show (s.fades.pool.map _).countP _ = _
      rw [List.countP_map]
      exact List.countP_congr fun f _ => by simpa using hFade f hne
    have hStarts : (((s.removeInst slot).disownFades slot).disownStarts slot).startsOwned none i.slot = s.startsOwned none i.slot := by
      unfold State.startsOwned
      refine Finset.sum_congr rfl fun r _ => if_congr (and_congr_right' ?_) rfl rfl
      refine ⟨fun ho => (hOwner r ho).1, fun ho => ?_⟩
      rw [hReader, if_neg fun e => hne (Option.some.inj (ho.symm.trans e))]; exact ho
    rw [hFades, hStarts]; exact h.counts i hi
  · obtain ⟨f', hf', rfl⟩ := List.mem_map.mp hf
    have hne := hLost ho
    exact hStays hne (h.fadeOwners trivial f' hf' slot' ((hFade f' hne).mp ho))
  · obtain ⟨ho, hne⟩ := hOwner r ho
    exact hStays hne (h.startOwners trivial r slot' nofun ho)
  · obtain ⟨slot', hslot⟩ := Option.ne_none_iff_exists'.mp ho
    rw [hState]
    exact h.starting r nofun (by rw [(hOwner r hslot).1]; nofun)
  · obtain ⟨f', hf', rfl⟩ := List.mem_map.mp hf
    have hTarget : f'.target = .voice v := by rw [← hv]; split <;> rfl
    unfold Reader.sounds State.voice
    rw [hState]
    exact h.voiceFades f' hf' v hTarget nofun

theorem Accounts.retire (h : Accounts True none (fun _ => 0) none s) (i : Inst) : Accounts True none (fun _ => 0) none (s.retire i) :=
  ((h.forget i.slot).raiseCue _).endLink i

theorem State.endLink_insts (s : State) (i : Inst) : (s.endLink i).engine.insts = s.engine.insts := by
  unfold State.endLink
  split
  · rfl
  · split
    · split
      · unfold State.setChain
        dsimp only
        split <;> simp [State.raiseCue]
      · simp [State.raiseCue]
    · simp [State.raiseCue]

theorem State.retire_insts (s : State) (i : Inst) : (s.retire i).engine.insts = s.engine.insts.filter fun j => j.slot ≠ i.slot := by
  unfold State.retire
  rw [State.endLink_insts]
  unfold State.raiseCue
  simp [State.removeInst]

/-- Step 1 of a firing leaves a free slot. -/
theorem Accounts.makeRoom (h : Accounts True none (fun _ => 0) none s) :
    Accounts True none (fun _ => 0) none s.makeRoom ∧ s.makeRoom.engine.insts.length < Config.maxInstances := by
  have hLength : s.engine.insts.length ≤ Config.maxInstances := by
    have := h.slots.length_le_card
    simpa [Config.maxInstances] using this
  unfold State.makeRoom
  split
  · rename_i i rest hInsts
    split
    · refine ⟨h.retire i, ?_⟩
      rw [State.retire_insts, hInsts, List.filter_cons_of_neg (by simp)]
      refine lt_of_le_of_lt (List.length_filter_le _ _) ?_
      rw [hInsts] at hLength
      exact hLength
    · rename_i hLess
      exact ⟨h, Nat.lt_of_not_le hLess⟩
  · rename_i hInsts
    exact ⟨h, by rw [hInsts]; decide⟩

theorem Accounts.cancelChain {F : Option InstSlot} (h : Accounts True F (fun _ => 0) none s) (n : Nat) :
    Accounts True F (fun _ => 0) none (s.cancelChain n) := by
  unfold State.cancelChain
  split
  · exact h
  · split
    · exact (h.onEngine ⟨rfl, rfl, rfl⟩).raiseCue _
    · exact h

theorem State.cancelChain_insts (s : State) (n : Nat) : (s.cancelChain n).engine.insts = s.engine.insts := by
  unfold State.cancelChain
  split
  · rfl
  · split
    · simp [State.raiseCue]
    · rfl

/-! ### An `Inst` opens -/

theorem mem_pick {n : Nat} {p : Fin n → Bool} {i : Fin n} : i ∈ pick p ↔ p i = true := by simp [pick]

/-- With fewer than eight instances the slot a new one takes is no other's (R100). -/
theorem EngineBlock.freeSlot_fresh {b : EngineBlock} (h : b.insts.length < Config.maxInstances) :
    b.freeSlot ∉ b.insts.map (·.slot) := by
  obtain ⟨slot, hslot⟩ : ∃ slot : InstSlot, slot ∉ b.insts.map (·.slot) := by
    by_contra hAll
    have hAll : ∀ slot : InstSlot, slot ∈ b.insts.map (·.slot) := by simpa using hAll
    have hCard : (Finset.univ : Finset InstSlot) ⊆ (b.insts.map (·.slot)).toFinset := fun slot _ => List.mem_toFinset.mpr (hAll slot)
    have := (Finset.card_le_card hCard).trans (List.toFinset_card_le _)
    simp [Config.maxInstances] at this h
    omega
  have hFree : ∀ slot : InstSlot, (b.insts.all fun i => i.slot ≠ slot) = true ↔ slot ∉ b.insts.map (·.slot) := fun slot => by simp
  have hPick : slot ∈ pick fun slot => b.insts.all fun i => i.slot ≠ slot := mem_pick.mpr ((hFree slot).mpr hslot)
  unfold EngineBlock.freeSlot
  cases e : pick fun slot => b.insts.all fun i => i.slot ≠ slot with
  | nil => rw [e] at hPick; cases hPick
  | cons free rest =>
    exact (hFree free).mp (mem_pick.mp (by rw [e]; exact List.mem_cons_self))

/-- Steps 3 and 4 of a firing open an `Inst` that owns nothing yet and fires. -/
theorem Accounts.openInst (h : Accounts True none (fun _ => 0) none s) (hRoom : s.engine.insts.length < Config.maxInstances) (c : Cue) :
    Accounts True (some s.engine.freeSlot) (fun _ => 0) none (s.openInst c) := by
  have hFresh := EngineBlock.freeSlot_fresh hRoom
  have hInsts : (s.openInst c).engine.insts = s.engine.insts ++ [⟨s.engine.freeSlot, c.number, s.engine.nextStamp, 0,
      s.cueAfter c.number, c.endLink⟩] := rfl
  have hOwns : s.fadesOwned s.engine.freeSlot = 0 ∧ s.startsOwned none s.engine.freeSlot = 0 := by
    refine ⟨List.countP_eq_zero.mpr fun f hf => ?_, Finset.sum_eq_zero fun r _ => if_neg fun ho => ?_⟩
    · simpa using fun ho => hFresh (h.fadeOwners trivial f hf _ ho)
    · exact hFresh (h.startOwners trivial r _ nofun ho.2)
  refine ⟨h.targets, ?_, ?_, fun i hi => ?_, fun i hi => ?_, fun i hi => ?_, fun _ f hf slot ho => ?_, fun _ r slot hr ho => ?_,
    h.starting, h.voiceFades, rfl, fun _ slot hF => ?_⟩
  · rw [hInsts, List.map_append]
    simpa [List.nodup_append] using ⟨h.slots, fun i hi e => hFresh (List.mem_map.mpr ⟨i, hi, e⟩)⟩
  · rw [hInsts, List.map_append, List.pairwise_append]
    refine ⟨h.stamps, List.pairwise_singleton _ _, fun a ha b hb => ?_⟩
    obtain ⟨i, hi, rfl⟩ := List.mem_map.mp ha
    rw [List.mem_singleton.mp hb]
    exact h.fresh i hi
  · rw [hInsts] at hi
    show i.stamp < s.engine.nextStamp + 1
    rcases List.mem_append.mp hi with hi | hi
    · exact Nat.lt_succ_of_lt (h.fresh i hi)
    · rw [List.mem_singleton.mp hi]; exact Nat.lt_succ_self _
  · rw [hInsts] at hi
    rcases List.mem_append.mp hi with hi | hi
    · exact .inl ((h.positive i hi).resolve_right nofun)
    · rw [List.mem_singleton.mp hi]; exact .inr rfl
  · rw [hInsts] at hi
    rcases List.mem_append.mp hi with hi | hi
    · exact h.counts i hi
    · rw [List.mem_singleton.mp hi]
      change ((0 : Nat) : Int) = s.fadesOwned s.engine.freeSlot + s.startsOwned none s.engine.freeSlot + 0
      rw [hOwns.1, hOwns.2]; rfl
  · rw [hInsts, List.map_append]
    exact List.mem_append_left _ (h.fadeOwners trivial f hf slot ho)
  · rw [hInsts, List.map_append]
    exact List.mem_append_left _ (h.startOwners trivial r slot hr ho)
  · rw [hInsts, List.map_append]
    cases hF
    exact List.mem_append_right _ (List.mem_singleton.mpr rfl)

/-! ### The actions of a firing -/

theorem Accounts.fireAction {slot : InstSlot} {acc : State × FireCounts} {a : Action}
    (h : Accounts True (some slot) (fun _ => 0) none acc.1) : Accounts True (some slot) (fun _ => 0) none (State.fireAction slot acc a).1 := by
  obtain ⟨s, n⟩ := acc
  have hCore := accounts_core (some slot)
  cases a with
  | level row bus code ms =>
    show Accounts _ _ _ _ (s.fireLevel n slot row bus code ms).1
    unfold State.fireLevel
    split
    · exact hCore.countSkip h
    · split
      · exact h
      · split
        · show Accounts _ _ _ _ (s.snapLevel (.xpt row bus) code)
          exact Accounts.snapLevel h (fun _ => le_refl _) _ _
        · show Accounts _ _ _ _ (s.requestFade (.xpt row bus) code ms (some slot) false)
          exact Accounts.requestFade h (fun _ => le_refl _) (.inr rfl) nofun
  | play v n ms =>
    unfold State.fireAction
    dsimp only
    split
    · exact h
    · exact h.play _ _ _ _ (.inr rfl)
  | stop v ms => exact h.stopVoice _ _ (.inr rfl)
  | call k => exact hCore.fireCall h
  | line l on => exact hCore.onLine (fun _ => ⟨rfl, rfl⟩) h

theorem Accounts.fireActions {slot : InstSlot} (l : List Action) {acc : State × FireCounts}
    (h : Accounts True (some slot) (fun _ => 0) none acc.1) :
    Accounts True (some slot) (fun _ => 0) none (l.foldl (State.fireAction slot) acc).1 := by
  induction l generalizing acc with
  | nil => exact h
  | cons a l ih => exact ih h.fireAction

theorem Accounts.startLink {F : Option InstSlot} (h : Accounts True F (fun _ => 0) none s) (c : Cue) :
    Accounts True F (fun _ => 0) none (s.startLink c) := by
  unfold State.startLink
  split
  · exact h.setChain _
  · exact h

/-! ### A firing closes -/

/-- The `Inst` that fired, with nothing outstanding, leaves the table; else it stays with its count. -/
theorem Accounts.closed {slot : InstSlot} (h : Accounts True (some slot) (fun _ => 0) none s)
    (hCount : ∀ i ∈ s.engine.insts, i.slot = slot → 0 < i.count) :
    Accounts True none (fun _ => 0) none (s.onEngine fun b => { b with firing := none }) := by
  refine ⟨h.targets, h.slots, h.stamps, h.fresh, fun i hi => .inl ?_, h.counts, h.fadeOwners, h.startOwners, h.starting, h.voiceFades,
    rfl, nofun⟩
  rcases h.positive i hi with hPos | hFires
  · exact hPos
  · exact hCount i hi (Option.some.inj hFires).symm

theorem Accounts.completeFired {slot : InstSlot} (h : Accounts True (some slot) (fun _ => 0) none s) {i : Inst}
    (hi : i ∈ s.engine.insts) (hSlot : i.slot = slot) (hCount : i.count = 0) :
    Accounts True none (fun _ => 0) none ((s.onEngine fun b => { b with firing := none }).completeInst i true) := by
  have hZero := h.counts i hi
  rw [hCount, hSlot] at hZero
  have hSub : (s.engine.insts.filter fun j => j.slot ≠ i.slot).Sublist s.engine.insts := List.filter_sublist
  have hStays : ∀ {slot'}, slot' ≠ slot → slot' ∈ s.engine.insts.map (·.slot) →
      slot' ∈ (s.engine.insts.filter fun j => j.slot ≠ i.slot).map (·.slot) := by
    intro slot' hne hm
    obtain ⟨j, hj, rfl⟩ := List.mem_map.mp hm
    exact List.mem_map_of_mem (List.mem_filter.mpr ⟨hj, by simpa [hSlot] using hne⟩)
  refine Accounts.endLink ?_ i
  show Accounts True none (fun _ => 0) none ((s.onEngine fun b => { b with firing := none }).removeInst i.slot)
  refine ⟨h.targets, (hSub.map _).nodup h.slots, h.stamps.sublist (hSub.map _), fun j hj => h.fresh j (hSub.subset hj), fun j hj => ?_,
    fun j hj => h.counts j (hSub.subset hj), fun _ f hf slot' ho => hStays (fun e => ?_) (h.fadeOwners trivial f hf slot' ho),
    fun _ r slot' hr ho => hStays (fun e => ?_) (h.startOwners trivial r slot' hr ho), h.starting, h.voiceFades, rfl, nofun⟩
  · obtain ⟨hj, hne⟩ := List.mem_filter.mp hj
    refine .inl ((h.positive j hj).resolve_right fun e => ?_)
    rw [hSlot] at hne
    simp [Option.some.inj e] at hne
  · have hNone : s.fadesOwned slot = 0 := by omega
    exact List.countP_eq_zero.mp hNone f hf (by simpa using e ▸ ho)
  · have hNone : s.startsOwned none slot = 0 := by omega
    have := Finset.sum_eq_zero_iff.mp hNone r (Finset.mem_univ r)
    rw [if_pos ⟨hr, e ▸ ho⟩] at this
    cases this

theorem Accounts.closeFiring {slot : InstSlot} (h : Accounts True (some slot) (fun _ => 0) none s) (c : Cue) (n : FireCounts) :
    Accounts True none (fun _ => 0) none (s.closeFiring c slot n).1 := by
  unfold State.closeFiring
  dsimp only
  generalize hEvent : (CueEvent.mk _ _ _ _) = e
  have hRaised := h.raiseCue e
  split
  · rename_i i hAt
    obtain ⟨hi, hSlot⟩ := instAt_eq hAt
    split
    · exact hRaised.completeFired hi hSlot ‹_›
    · refine hRaised.closed fun j hj hj' => ?_
      rw [hRaised.inst_unique hj hi (hj'.trans hSlot.symm)]
      exact Nat.pos_of_ne_zero ‹_›
  · rename_i hNone
    refine hRaised.closed fun j hj hj' => absurd hj' ?_
    have hAbsent : ∀ j ∈ (s.raiseCue e).engine.insts, j.slot ≠ slot := by simpa [State.instAt] using hNone
    exact hAbsent j hj

/-- A firing keeps the accounts (R103). -/
theorem Accounts.fire (h : Accounts True none (fun _ => 0) none s) (c : Cue) : Accounts True none (fun _ => 0) none (s.fire c).1 := by
  obtain ⟨hRoom, hLess⟩ := h.makeRoom
  have hOpen := (hRoom.cancelChain c.number).openInst (by rw [State.cancelChain_insts]; exact hLess) c
  unfold State.fire
  dsimp only
  refine Accounts.closeFiring ?_ c _
  exact (accounts_core _).evaluatePriming ((hOpen.fireActions (acc := (_, {})) c.actions).startLink c)

/-! ### STOP ALL -/

/-- Neither the end of a reader nor a stop that none owns gives a reader an owner. -/
theorem State.lose_owner (s : State) (r q : ReaderId) {f : Reader → Reader} (hf : ∀ y, (f y).owner = none) (event : String) :
    ((((s.clearRing r).onReader r f).raiseReader r event).reader q).owner = if q = r then none else (s.reader q).owner := by
  rw [State.raiseReader_reader, reader_onReader]
  split
  · rename_i e; subst e
    rw [if_pos rfl]; exact hf _
  · rename_i hne
    rw [if_neg (Ne.symm hne)]
    unfold State.clearRing
    rw [reader_onReader, if_neg hne]
    rfl

theorem State.callEvaluation_reader (s : State) (v : VoiceId) (r : ReaderId) : (s.callEvaluation v).reader r = s.reader r := by
  unfold State.callEvaluation; split <;> rfl

theorem State.enterIdle_owner (s : State) (r q : ReaderId) (event : String) :
    ((s.enterIdle r event).reader q).owner = if q = r then none else (s.reader q).owner := by
  have hLost := s.lose_owner r q (f := Reader.toIdle) (fun _ => rfl) event
  unfold State.enterIdle
  dsimp only
  split
  · rw [State.callEvaluation_reader, State.ownerDone_reader, State.removeFade_reader]; exact hLost
  · exact hLost

theorem State.stopVoice_owner {s : State} {r : ReaderId} (h : (s.reader r).owner = none) (v : VoiceId) (ms : Nat) :
    ((s.stopVoice v ms none).reader r).owner = none := by
  have hIdle : ∀ t : State, (t.reader r).owner = none → ∀ q event, ((t.enterIdle q event).reader r).owner = none := by
    intro t ht q event
    rw [State.enterIdle_owner, ht, ite_self]
  have hSounding : ((if ms = 0 ∨ (s.reader (voiceReader v)).level = offCode then s.enterIdle (voiceReader v) "stopped"
      else match s.fadeCase (.voice v) offCode with
        | .snapped => (s.poolFullSnap (.voice v) offCode).enterIdle (voiceReader v) "stopped"
        | _ => s.requestFade (.voice v) offCode ms none true).reader r).owner = none := by
    split
    · exact hIdle _ h _ _
    · have hRequested := (s.requestFade_reader (.voice v) offCode ms none true r).1.trans h
      split
      · rename_i hCase
        refine hIdle _ ?_ _ _
        unfold State.requestFade at hRequested
        rw [hCase] at hRequested
        exact hRequested
      · exact hRequested
  unfold State.stopVoice
  dsimp only
  split
  case h_1 => exact h
  case h_6 => exact hSounding
  case h_7 => exact hSounding
  all_goals exact hIdle _ h _ _

/-- The voices sent to IDLE own no start, and no other reader gains one. -/
theorem State.enterIdles_owner (l : List VoiceId) {s : State} {r : ReaderId}
    (h : (s.reader r).owner = none ∨ ∃ v ∈ l, r = voiceReader v) :
    ((l.foldl (fun s v => s.enterIdle (voiceReader v) "stopped") s).reader r).owner = none := by
  induction l generalizing s with
  | nil => exact h.resolve_right fun ⟨v, hv, _⟩ => nomatch hv
  | cons w l ih =>
    refine ih ?_
    rw [State.enterIdle_owner]
    split
    · exact .inl rfl
    · rename_i hne
      refine h.imp_right fun ⟨v, hv, e⟩ => ⟨v, ?_, e⟩
      exact (List.mem_cons.mp hv).resolve_left fun e' => hne (by rw [e, e'])

/-- With no `Inst` there is none to tell. -/
theorem State.ownerDone_vacant {s : State} (h : s.engine.insts = []) (o : Option InstSlot) : s.ownerDone o = s := by
  cases o with
  | none => rfl
  | some slot =>
    show s.instDone slot = s
    unfold State.instDone State.instAt
    rw [h]; rfl

theorem State.removeFade_vacant {s : State} (h : s.engine.insts = []) (t : Target) : (s.removeFade t).engine.insts = [] := by
  unfold State.removeFade
  split
  · exact h
  · rw [State.ownerDone_vacant (s := s.dropFade t) h]; exact h

theorem State.enterIdle_vacant {s : State} (h : s.engine.insts = []) (r : ReaderId) (event : String) :
    (s.enterIdle r event).engine.insts = [] := by
  have hLost : (((s.clearRing r).onReader r Reader.toIdle).raiseReader r event).engine.insts = [] := by
    simpa [State.clearRing] using h
  unfold State.enterIdle
  dsimp only
  split
  · have hRemoved := State.removeFade_vacant hLost (.voice (by assumption))
    rw [State.ownerDone_vacant hRemoved]
    unfold State.callEvaluation
    split <;> exact hRemoved
  · exact hLost

theorem State.stopVoice_vacant {s : State} (h : s.engine.insts = []) (v : VoiceId) (ms : Nat) :
    (s.stopVoice v ms none).engine.insts = [] := by
  have hSnap : (s.poolFullSnap (.voice v) offCode).engine.insts = [] := by
    unfold State.poolFullSnap; simpa using h
  have hRequest : (s.requestFade (.voice v) offCode ms none true).engine.insts = [] := by
    unfold State.requestFade
    dsimp only
    split
    · show (State.ownerDone _ _).engine.insts = []
      rw [State.ownerDone_vacant (by exact h)]; exact h
    · exact h
    · exact h
    · exact hSnap
  have hSounding : (if ms = 0 ∨ (s.reader (voiceReader v)).level = offCode then s.enterIdle (voiceReader v) "stopped"
      else match s.fadeCase (.voice v) offCode with
        | .snapped => (s.poolFullSnap (.voice v) offCode).enterIdle (voiceReader v) "stopped"
        | _ => s.requestFade (.voice v) offCode ms none true).engine.insts = [] := by
    split
    · exact State.enterIdle_vacant h _ _
    · split
      · exact State.enterIdle_vacant hSnap _ _
      · exact hRequest
  unfold State.stopVoice
  dsimp only
  split
  case h_1 => exact h
  case h_6 => exact hSounding
  case h_7 => exact hSounding
  all_goals exact State.enterIdle_vacant h _ _

/-- With no `Inst` and no start owned, the records that stay lose their owners. -/
theorem Accounts.ownerless (h : Accounts False none (fun _ => 0) none s) (hInsts : s.engine.insts = [])
    (hFree : ∀ r, (s.reader r).owner = none) (p : Fade → Bool) :
    Accounts True none (fun _ => 0) none (s.onFades fun b =>
      { b with pool := (b.pool.filter p).map fun f => { f with owner := none } }) := by
  have hTargets : ((s.fades.pool.filter p).map fun f => { f with owner := none }).map (·.target) =
      (s.fades.pool.filter p).map (·.target) := by rw [List.map_map]; rfl
  refine ⟨?_, h.slots, h.stamps, h.fresh, h.positive, ?_, fun _ f hf slot ho => ?_, fun _ r slot _ ho => ?_, fun r _ ho => ?_,
    fun f hf v hv _ => ?_, h.firing, nofun⟩
  · exact hTargets.symm ▸ (List.filter_sublist.map _).nodup h.targets
  · show ∀ i ∈ s.engine.insts, _
    rw [hInsts]; nofun
  · obtain ⟨f', _, rfl⟩ := List.mem_map.mp hf
    cases ho
  · exact absurd ((hFree r).symm.trans ho) nofun
  · exact absurd (hFree r) ho
  · obtain ⟨f', hf', rfl⟩ := List.mem_map.mp hf
    exact h.voiceFades f' (List.mem_of_mem_filter hf') v hv nofun

/-- A start is owned by a voice that is STARTING alone. -/
theorem Accounts.owner_starting (h : Accounts True none (fun _ => 0) none s) (r : ReaderId) :
    (s.reader r).owner = none ∨ ∃ v ∈ s.startingVoices, r = voiceReader v := by
  by_cases ho : (s.reader r).owner = none
  · exact .inl ho
  · obtain ⟨hState, hVoice⟩ := h.starting r nofun ho
    cases hKind : readerKind r with
    | inl v =>
      have hr := readerKind_inl hKind
      rw [hr] at hState
      exact .inr ⟨v, mem_pick.mpr (decide_eq_true hState), hr⟩
    | inr p => exact absurd (readerKind_inr hKind) (hVoice p)

/-- STOP ALL keeps the accounts: the table is empty, and neither fade nor start has an owner (R115). -/
theorem Accounts.stopAll (h : Accounts True none (fun _ => 0) none s) (ms : Nat) :
    Accounts True none (fun _ => 0) none (s.stopAll ms) := by
  have hEmpty : Accounts False none (fun _ => 0) none (s.onEngine fun b => { b with insts := [] }) :=
    ⟨h.targets, List.nodup_nil, List.Pairwise.nil, nofun, nofun, nofun, nofun, nofun, h.starting, h.voiceFades, h.firing, nofun⟩
  have hIdle : ∀ {t : State} (l : List VoiceId),
      Accounts False none (fun _ => 0) none t ∧ t.engine.insts = [] →
      Accounts False none (fun _ => 0) none (l.foldl (fun s v => s.enterIdle (voiceReader v) "stopped") t) ∧
        (l.foldl (fun s v => s.enterIdle (voiceReader v) "stopped") t).engine.insts = [] := fun l ht =>
    foldl_holds (P := fun t : State => Accounts False none (fun _ => 0) none t ∧ t.engine.insts = [])
      (fun _ _ ht => ⟨ht.1.enterIdle _ _, State.enterIdle_vacant ht.2 _ _⟩) l ht
  have hStop : ∀ {t : State} (l : List VoiceId),
      (Accounts False none (fun _ => 0) none t ∧ t.engine.insts = []) ∧ (∀ r, (t.reader r).owner = none) →
      (Accounts False none (fun _ => 0) none (l.foldl (fun s v => s.stopVoice v ms none) t) ∧
        (l.foldl (fun s v => s.stopVoice v ms none) t).engine.insts = []) ∧
        ∀ r, ((l.foldl (fun s v => s.stopVoice v ms none) t).reader r).owner = none := fun l ht =>
    foldl_holds (P := fun t : State => (Accounts False none (fun _ => 0) none t ∧ t.engine.insts = []) ∧ ∀ r, (t.reader r).owner = none)
      (fun _ _ ht => ⟨⟨ht.1.1.stopVoice _ _ (.inl rfl), State.stopVoice_vacant ht.1.2 _ _⟩,
        fun r => State.stopVoice_owner (ht.2 r) _ _⟩) l ht
  have hStopped := hStop s.soundingVoices
    ⟨hIdle s.startingVoices ⟨hEmpty, rfl⟩, fun r => State.enterIdles_owner _ (h.owner_starting r)⟩
  have hOwnerless := hStopped.1.1.ownerless hStopped.1.2 hStopped.2 fun f => !f.ownedCrosspoint
  unfold State.stopAll
  exact (hOwnerless.onEngine ⟨rfl, rfl, rfl⟩).raiseCue _

end

/-! ### Every step -/

theorem accounts_base : Base anyLevel (Accounts True none (fun _ => 0) none) where
  toCore := accounts_core none
  fireListed _ h := h.fire _
  stopAll h := h.stopAll _

/-- With no `Inst`, no fade and every reader reset, there is nothing to account. -/
theorem Accounts.start {t : State} (hInsts : t.engine.insts = []) (hFiring : t.engine.firing = none) (hFades : t.fades.pool = [])
    (hReaders : t.fetch.readers = .replicate 26 {}) : Accounts True none (fun _ => 0) none t := by
  have hReader : ∀ r, t.reader r = {} := fun r => by
    unfold State.reader; rw [hReaders, get_replicate]
  refine ⟨hFades ▸ List.nodup_nil, hInsts ▸ List.nodup_nil, hInsts ▸ List.Pairwise.nil, hInsts ▸ nofun, hInsts ▸ nofun, hInsts ▸ nofun,
    fun _ => hFades ▸ nofun, fun _ r slot _ ho => ?_, fun r _ ho => ?_, hFades ▸ nofun, hFiring, nofun⟩
  · rw [hReader] at ho; cases ho
  · rw [hReader] at ho; exact absurd rfl ho

theorem accounts_stepped : Stepped anyLevel (Accounts True none (fun _ => 0) none) where
  toBase := accounts_base
  castRole _ h := h.congr (by simp) (by simp) (by simp) (by simp) fun _ _ => by simp [State.reader]
  trim _ {_ _ _} _ _ h := h.congr rfl rfl rfl rfl fun _ _ => ⟨rfl, rfl⟩
  castSettings {_} _ {_ _} _ h := h.congr rfl rfl rfl rfl fun _ _ => ⟨rfl, rfl⟩
  micSettings _ {_ _} h := h.congr rfl rfl rfl rfl fun _ _ => ⟨rfl, rfl⟩
  engineSettings _ {s f} hf h := h.onEngine (by rw [hf]; exact ⟨rfl, rfl, rfl⟩)
  fetchSettings {_} _ {_ _} hf h := h.fetchOther (hf _).readers
  foldbackSettings {_} _ {_ _} _ h := h.congr rfl rfl rfl rfl fun _ _ => ⟨rfl, rfl⟩
  routerSettings {_} _ {_ _} _ h := h.congr rfl rfl rfl rfl fun _ _ => ⟨rfl, rfl⟩
  lineSettings _ {_ _} h := h.congr rfl rfl rfl rfl fun _ _ => ⟨rfl, rfl⟩
  newCue _ {_ _ _ _} _ _ h := h.congr rfl rfl rfl rfl fun _ _ => ⟨rfl, rfl⟩
  newAction _ {_ _ _ _} _ _ _ _ h := h.congr rfl rfl rfl rfl fun _ _ => ⟨rfl, rfl⟩
  oldAction _ {_ _ _} h := h.congr rfl rfl rfl rfl fun _ _ => ⟨rfl, rfl⟩
  oldCue _ {_ _} _ h := h.congr rfl rfl rfl rfl fun _ _ => ⟨rfl, rfl⟩
  oldStandby _ {_ _} _ h := h.congr rfl rfl rfl rfl fun _ _ => ⟨rfl, rfl⟩
  mask _ {_ _} h := h.congr rfl rfl rfl rfl fun _ _ => ⟨rfl, rfl⟩
  showReset _ := .start rfl rfl rfl rfl
  ports _ h := h.congr rfl rfl rfl rfl fun _ _ => ⟨rfl, rfl⟩
  clock h := h.congr rfl rfl rfl rfl fun _ _ => ⟨rfl, rfl⟩
  queues _ h := h.congr rfl rfl rfl rfl fun _ _ => ⟨rfl, rfl⟩
  beginLine h := h.congr rfl rfl rfl rfl fun _ _ => ⟨rfl, rfl⟩
  enterReset h := h.congr rfl rfl rfl rfl fun _ _ => ⟨rfl, rfl⟩
  leaveReset _ := .start rfl rfl rfl rfl
  pending h := h.congr rfl rfl rfl rfl fun _ _ => ⟨rfl, rfl⟩

end Sys2Proof.Machine

namespace Sys2Proof.Proofs

open Sys2Proof Sys2Proof.Machine

/-- Settles O60: between the end of an item and the moment its owner is told the counts differ by what is owed, and every operation pays
what it owes. -/
theorem ownersKept : Obligations.OwnersKept := fun _ _ hPool hOwners e => (accounts_stepped.step (hOwners.accounts hPool) e).ownersOk

end Sys2Proof.Proofs
end

section
/-! PROOFS. The step, the resets, and what every line and event has in common (R111, R192 to R197, R203). -/

namespace Sys2Proof.Machine

open Sys2Proof

/-! ### The state after full reset -/

theorem idle_start : ({} : Reader).Idle ∧ ({} : Reader).level = -180 ∧ ({} : Reader).underruns = 0 ∧ ({} : Reader).retries = 0 :=
  ⟨⟨rfl, rfl, rfl, rfl, rfl, rfl, rfl, rfl, rfl⟩, rfl, rfl, rfl⟩

theorem reader_reset (r : ReaderId) : State.reset.reader r = {} := get_replicate _ _

theorem line_reset (n : LineId) : State.reset.line n = {} := get_replicate _ _

theorem xpt_reset (row : Row) (bus : Bus) : State.reset.xpt row bus = -180 := by
  show ((Vector.replicate 128 (Vector.replicate 25 (-180 : LevelCode))).get (rowPos row)).get (colPos bus) = -180
  rw [get_replicate, get_replicate]

/-- A state of which nothing is loaded is settled. -/
theorem settled_reset : State.reset.Settled := ⟨rfl, rfl, rfl⟩

/-! ### What a taken line leaves -/

theorem State.wires_eventsOwed (s : State) : s.eventsOwed.wires = s.wires := wires_of_kept (by simp)

/-- A line whose turn it is, with a place for its reply, is carried out behind the part's own events. -/
theorem commandLine_taken {s : State} {c : Instr} {rest : List Instr} (hReset : s.inReset = false) (hRoom : s.link.replies.length < 8)
    (hTurn : s.link.rxq = [] ∧ rest = [] ∨ s.link.rxq = c :: rest) (f : State → State) :
    ∃ u : State, s.commandLine c f = f u ∧ u.wires = { s.wires with rxq := rest } := by
  have hReply : s.replyRoom = true := decide_eq_true hRoom
  rcases hTurn with ⟨hEmpty, rfl⟩ | hFront
  · refine ⟨s.eventsOwed, by simp [State.commandLine, hReset, hEmpty, hReply], ?_⟩
    rw [State.wires_eventsOwed]
    unfold State.wires
    rw [hEmpty]
  · refine ⟨s.dropLine.eventsOwed, by simp [State.commandLine, hReset, hFront, hReply], ?_⟩
    rw [State.wires_eventsOwed]
    have hRest : s.dropLine.link.rxq = rest := by show s.link.rxq.tail = rest; rw [hFront]; rfl
    unfold State.wires
    rw [hRest]
    rfl

/-- The wires with one reply more, behind those that wait. -/
def Wires.reply (w : Wires) (text : String) : Wires := { w with replies := w.replies ++ [text] }

/-- Exactly one reply is placed, `OK` with fields or `ERR` with a code, and no other wire is moved but the counts. -/
def State.RepliedOnce (u t : State) (tag : Tag) : Prop :=
  ∃ text, ({ t.wires with counts := u.wires.counts } = u.wires.reply (tagText tag ++ text)) ∧
    ((∃ fields, text = "OK " ++ fields) ∨ ∃ e : ErrCode, text = "ERR " ++ e.text)

theorem answer_repliedOnce (u : State) (tag : Tag) {run : State → Answer} (h : Answer.LeavesWires u (run u)) :
    u.RepliedOnce (u.answer tag run) tag := by
  unfold State.answer
  split
  · rename_i e _
    exact ⟨"ERR " ++ e.text, rfl, .inr ⟨e, rfl⟩⟩
  · rename_i t text hOk
    have hWires : t.finish.wires = u.wires := (State.wires_finish t).trans (h t text hOk)
    refine ⟨"OK " ++ text t.finish, ?_, .inl ⟨_, rfl⟩⟩
    rw [← hWires]
    rfl

theorem linkFailure_repliedOnce (u : State) (tag : Tag) (why : LinkFail) : u.RepliedOnce (u.linkFailure tag why) tag := by
  cases why
  · exact ⟨_, rfl, .inr ⟨.long, rfl⟩⟩
  · exact ⟨_, rfl, .inr ⟨.syntaxErr, rfl⟩⟩
  · exact ⟨_, rfl, .inr ⟨.unknown, rfl⟩⟩

/-- Every line is carried out with one reply. -/
theorem exec_takenLine (c : Instr) (hLine : c.isLine = true) :
    ∃ f : State → State, (∀ s, exec c s = .next (s.commandLine c f)) ∧ ∀ u : State, u.RepliedOnce (f u) c.tag := by
  by_cases hUnknown : ∃ tag why, c = .unknown tag why
  · obtain ⟨tag, why, rfl⟩ := hUnknown
    exact ⟨fun s => s.linkFailure tag why, fun _ => rfl, fun u => linkFailure_repliedOnce u tag why⟩
  · obtain ⟨run, hExec, hLeaves, _⟩ := exec_command c hLine fun tag why e => hUnknown ⟨tag, why, e⟩
    exact ⟨fun s => s.answer c.tag run, hExec, fun u => answer_repliedOnce u c.tag (hLeaves u)⟩

/-- A line that finds the queue of received lines taken by another, or no place for its reply, waits. -/
theorem commandLine_waits {s : State} {c : Instr} (hReset : s.inReset = false) (hRoom : s.link.rxq.length < 8)
    (hWait : s.link.rxq = [] ∧ 8 ≤ s.link.replies.length ∨ ∃ h rest, s.link.rxq = h :: rest ∧ h ≠ c) (f : State → State) :
    s.commandLine c f = { s with link := { s.link with rxq := s.link.rxq ++ [c] } } := by
  have hPlace : s.enqueueLine c = { s with link := { s.link with rxq := s.link.rxq ++ [c] } } := by
    unfold State.enqueueLine
    rw [if_neg (by simpa [Config.rxLines] using hRoom)]
    rfl
  rcases hWait with ⟨hEmpty, hFull⟩ | ⟨h, rest, hFront, hOther⟩
  · have hReply : s.replyRoom = false := decide_eq_false (Nat.not_lt.mpr hFull)
    simp [State.commandLine, hReset, hEmpty, hReply, hPlace]
  · simp [State.commandLine, hReset, hFront, hOther, hPlace]

theorem exec_inReset {c : Instr} {s : State} (hReset : s.inReset = true) (hPin : c.isPinEvent = false) : exec c s = .next s := by
  by_cases hLine : c.isLine = true
  · obtain ⟨f, hExec, _⟩ := exec_takenLine c hLine
    rw [hExec, commandLine_inReset hReset]
  · obtain ⟨f, hExec⟩ := exec_event c (by simpa using hLine) hPin
    rw [hExec, event_inReset hReset]

/-! ### Refusals -/

/-- The reply texts of an acceptance and of a refusal differ. -/
theorem ok_ne_err (tag : Tag) (x y : String) : tagText tag ++ ("OK " ++ x) ≠ tagText tag ++ ("ERR " ++ y) := by
  intro h
  have hList := congrArg String.toList h
  simp at hList

/-- What a taken line answers, where it answers a refusal, is the refusal. -/
theorem answer_refused {s : State} {tag : Tag} {run : State → Answer} {e : ErrCode} (hLeaves : Answer.LeavesWires s (run s))
    (h : (s.answer tag run).link.replies = s.link.replies ++ [tagText tag ++ ("ERR " ++ e.text)]) :
    s.answer tag run = s.refused tag e := by
  unfold State.answer at h ⊢
  split at h
  · rename_i e' hRun
    have hText : tagText tag ++ ("ERR " ++ e'.text) = tagText tag ++ ("ERR " ++ e.text) := by
      simpa [State.placeReply] using h
    show s.answered tag ("ERR " ++ e'.text) = s.answered tag ("ERR " ++ e.text)
    unfold State.answered
    rw [hText]
  · rename_i t text hRun
    have hWires : t.finish.link.replies = s.link.replies :=
      congrArg Wires.replies ((State.wires_finish t).trans (hLeaves t text hRun))
    have hText : tagText tag ++ ("OK " ++ text t.finish) = tagText tag ++ ("ERR " ++ e.text) := by
      have h' : t.finish.link.replies ++ [tagText tag ++ ("OK " ++ text t.finish)] = _ := h
      rw [hWires] at h'
      simpa using h'
    exact absurd hText (ok_ne_err _ _ _)

theorem linkFailure_refused {s : State} {tag : Tag} {why : LinkFail} {e : ErrCode} (hWhy : why ≠ .long)
    (h : (s.linkFailure tag why).link.replies = s.link.replies ++ [tagText tag ++ ("ERR " ++ e.text)]) :
    s.linkFailure tag why = s.refused tag e := by
  have hPlaced : ∀ e' : ErrCode, (s.placeReply tag ("ERR " ++ e'.text)).link.replies = s.link.replies ++ [tagText tag ++ ("ERR " ++ e.text)] →
      s.placeReply tag ("ERR " ++ e'.text) = s.refused tag e := fun e' h' => by
    have hText : tagText tag ++ ("ERR " ++ e'.text) = tagText tag ++ ("ERR " ++ e.text) := by simpa [State.placeReply] using h'
    unfold State.placeReply State.refused State.answered
    rw [hText]
    rfl
  cases why
  · exact absurd rfl hWhy
  · exact hPlaced _ h
  · exact hPlaced _ h

/-- A malformed line is refused with SYNTAX. -/
theorem exec_malformed {c : Instr} {s : State} (hMalformed : c.isMalformed = true) (h : s.Takes) :
    exec c s = .next (s.refused c.tag .syntaxErr) := by
  cases c
  all_goals first
    | exact Bool.noConfusion hMalformed
    | (rename_i tag a
       cases a with
       | given a => exact Bool.noConfusion hMalformed
       | malformed => exact congrArg Host.Outcome.next (commandLine_of_takes h _ _))

end Sys2Proof.Machine

namespace Sys2Proof.Proofs

open Sys2Proof Sys2Proof.Machine

/-- Settles O1: a step looks at the front of the queue first. -/
theorem stepTakesFront : Obligations.StepTakesFront := by
  intro c rest s h
  unfold step
  rw [h]

/-- Settles O2: a line waits where the queue of received lines says so, and an empty queue leaves the part's own events in their order. -/
theorem linesWaitTheirTurn : Obligations.LinesWaitTheirTurn := by
  intro s
  have hSome : ∀ {c}, s.pending = [] → s.ownEvent = some c → step s = exec c s := fun h e => by simp only [step, h, e]
  have hNone : s.pending = [] → s.ownEvent = none → step s = .next s := fun h e => by simp only [step, h, e]
  refine ⟨fun c hLine hReset hRoom hWait => ?_, fun hEmpty => ⟨fun hReset => ?_, fun hReset => ⟨fun hChain => ?_, fun hChain hDue => ?_,
    fun hChain hDue => ⟨fun c rest hFront hReply => ?_, fun hIdle => ?_⟩⟩⟩⟩
  · obtain ⟨f, hExec, _⟩ := exec_takenLine c hLine
    rw [hExec, commandLine_waits hReset hRoom hWait]
  · exact hNone hEmpty (by simp [State.ownEvent, hReset])
  · exact hSome hEmpty (by simp [State.ownEvent, hReset, hChain])
  · exact hSome hEmpty (by simp [State.ownEvent, hReset, hChain, hDue])
  · have hTake : s.lineToTake = some c := by
      have hRoom : s.replyRoom = true := decide_eq_true hReply
      simp [State.lineToTake, hRoom, hFront]
    exact hSome hEmpty (by simp [State.ownEvent, hReset, hChain, hDue, hTake])
  · have hNoLine : s.lineToTake = none := by
      unfold State.lineToTake
      rcases hIdle with hNoLine | hFull
      · rw [hNoLine]; simp
      · have hRoom : s.replyRoom = false := decide_eq_false (Nat.not_lt.mpr hFull)
        rw [hRoom]; rfl
    exact hNone hEmpty (by simp [State.ownEvent, hReset, hChain, hDue, hNoLine])

/-- Settles O3: each block starts with the chapters' values, and every entry of a table with those of its kind. -/
theorem resetState : Obligations.ResetState := by
  refine ⟨fun i => get_replicate _ _, xpt_reset, rfl, rfl, fun bus => get_replicate _ _, fun r => get_replicate _ _,
    fun p => get_replicate _ _, fun i => ⟨get_replicate _ _, get_replicate _ _⟩, get_replicate _ _, get_replicate _ _, rfl, rfl, rfl, rfl,
    rfl, rfl, rfl, rfl, rfl, rfl, rfl, rfl, rfl, rfl, rfl, fun r => ?_, fun t => get_replicate _ _, fun n => get_replicate _ _, rfl, rfl,
    rfl, rfl, fun k => get_replicate _ _, rfl, rfl, rfl, fun n => get_replicate _ _, rfl, fun z => get_replicate _ _, rfl, rfl,
    fun k => get_replicate _ _, fun n => ?_, rfl, rfl, rfl, rfl, rfl, rfl, rfl, rfl⟩
  · rw [reader_reset]; exact idle_start
  · rw [line_reset]; exact ⟨rfl, rfl, rfl, rfl, rfl, rfl, rfl⟩

/-- Settles O4: with empty lists there is nothing to hold, and each table holds the values of its kind. -/
theorem resetMeetsInvariants : Obligations.ResetMeetsInvariants := by
  refine ⟨settled_reset, ⟨Nat.zero_le _, Nat.zero_le _⟩, ⟨List.nodup_nil, nofun⟩, ⟨Nat.zero_le _, List.nodup_nil⟩,
    ⟨List.Pairwise.nil, Nat.zero_le _, nofun, Nat.zero_le _⟩, nofun, fun r p => ?_, slotsOk_start, ⟨fun i => ?_, fun p => ?_⟩,
    .cleared rfl rfl rfl nofun, guardOk_start, (Accounts.start rfl rfl rfl rfl).ownersOk, .of_empty rfl⟩
  · show ((Vector.replicate 40 ({} : Role)).get r).holder = some p ↔ ((Vector.replicate 48 ({} : Perf)).get p).role = some r
    rw [get_replicate, get_replicate]; simp
  · show -80 ≤ (Vector.replicate 64 (0 : LevelCode)).get i ∧ (Vector.replicate 64 (0 : LevelCode)).get i ≤ 20
    rw [get_replicate]; decide
  · show -80 ≤ ((Vector.replicate 48 ({} : Perf)).get p).trim ∧ ((Vector.replicate 48 ({} : Perf)).get p).trim ≤ 20
    rw [get_replicate]; decide

/-- Settles O5: the two ends of a full reset, by the state each leaves. -/
theorem fullReset : Obligations.FullReset := by
  intro s
  refine ⟨⟨s.enterReset, rfl, rfl, fun i => ?_, fun n => ?_, rfl, rfl, rfl⟩, fun hReset baud1 baud0 => ?_, fun hReset baud1 baud0 => ?_⟩
  · exact get_replicate _ _
  · show ((s.lines.recs.map fun r : LineRec => { r with drive := none }).get n).drive = none
    rw [get_map]
  · rw [exec_resetEnd, if_pos hReset]
    cases baud1 <;> cases baud0 <;> rfl
  · rw [exec_resetEnd, if_neg (by simp [hReset])]

/-- Settles O6: a line is not taken and an event not carried out while the reset is in force. -/
theorem resetHoldsThePart : Obligations.ResetHoldsThePart := fun _ _ hReset hPin => exec_inReset hReset hPin

/-- Settles O7: taking a line places one reply, and no line's answer moves another wire. -/
theorem oneReplyPerLine : Obligations.OneReplyPerLine := by
  intro c rest s hLine hReset hRoom hTurn
  obtain ⟨f, hExec, hReplied⟩ := exec_takenLine c hLine
  obtain ⟨u, hTaken, hWires⟩ := commandLine_taken hReset hRoom hTurn f
  obtain ⟨text, hReply, hText⟩ := hReplied u
  rw [hWires] at hReply
  refine ⟨f u, text, by rw [hExec, hTaken], congrArg Wires.rxq hReply, congrArg Wires.replies hReply, hText, congrArg Wires.ports hReply,
    congrArg Wires.clock hReply, congrArg Wires.inReset hReply, congrArg Wires.now hReply, congrArg Wires.pending hReply⟩

/-- Settles O8: an accepted line's reply begins with `OK`, and a refused one is answered at once. -/
theorem refusedChangesNothing : Obligations.RefusedChangesNothing := by
  refine ⟨fun c s t e hLine hLong hTakes hExec hReply => ?_, fun c s hMalformed hTakes => exec_malformed hMalformed hTakes⟩
  by_cases hUnknown : ∃ tag why, c = .unknown tag why
  · obtain ⟨tag, why, rfl⟩ := hUnknown
    rw [exec_unknown, commandLine_of_takes hTakes] at hExec
    cases hExec
    exact linkFailure_refused (fun e => hLong tag (by rw [e])) hReply
  · obtain ⟨run, hRun, hLeaves, _⟩ := exec_command c hLine fun tag why e => hUnknown ⟨tag, why, e⟩
    rw [hRun, commandLine_of_takes hTakes] at hExec
    cases hExec
    exact answer_refused (hLeaves s) hReply

end Sys2Proof.Proofs
end

section
/-! PROOFS. What each query answers (R19, R22, R23, R40, R59, R63, R64, R73, R95, R120, R123, R144, R145, R148, R154, R162, R179,
R181, R190, R200, R201, R202, R207). -/

namespace Sys2Proof.Machine

open Sys2Proof

/-! ### Accepted and refused checks of a command -/

@[simp] theorem ok_bind {ε α β : Type} (a : α) (f : α → Except ε β) : (Except.ok a >>= f) = f a := rfl

@[simp] theorem error_bind {ε α β : Type} (e : ε) (f : α → Except ε β) : ((Except.error e : Except ε α) >>= f) = .error e := rfl

@[simp] theorem need_some {α : Type} (e : ErrCode) (a : α) : need e (some a) = .ok a := rfl

@[simp] theorem need_none {α : Type} (e : ErrCode) : need e (none : Option α) = .error e := rfl

@[simp] theorem refuseIf_false (e : ErrCode) : refuseIf false e = .ok () := rfl

@[simp] theorem refuseIf_true (e : ErrCode) : refuseIf true e = .error e := rfl

section
variable {s : State}

/-- A query's answer is the whole of what it does. -/
theorem State.Ready.tells (hs : s.Ready) {c : Instr} {α : Type} {a : α} {f : α → State → Answer} {x : String}
    (hExec : exec c s = command c c.tag (.given a) f s) (h : f a s = s.tells x) : s.Tells c x :=
  hExec.trans (command_tells hs.1 hs.2 c c.tag a f h)

/-- A refusal is the whole of what a refused line does. -/
theorem State.Ready.refuses (hs : s.Ready) {c : Instr} {α : Type} {a : α} {f : α → State → Answer} {e : ErrCode}
    (hExec : exec c s = command c c.tag (.given a) f s) (h : f a s = .error e) : exec c s = .next (s.refused c.tag e) :=
  hExec.trans (command_error hs.1 c c.tag a f h)

/-- Every query is answered, or refused, and nothing else happens. -/
theorem exec_query (c : Instr) (hQuery : c.isQuery = true) (hs : s.Ready) : ∃ text, exec c s = .next (s.answered c.tag text) := by
  have hLine : c.isLine = true := by
    cases c <;> first | rfl | exact Bool.noConfusion hQuery
  obtain ⟨run, hExec, -, hAsks⟩ := exec_command c hLine fun tag why e => by rw [e] at hQuery; exact Bool.noConfusion hQuery
  rw [hExec, commandLine_of_takes hs.1]
  unfold State.answer
  rcases hAsks hQuery s with ⟨e, h⟩ | ⟨text, h⟩
  · rw [h]; exact ⟨_, rfl⟩
  · rw [h]
    refine ⟨"OK " ++ text, ?_⟩
    show Host.Outcome.next (s.finish.placeReply c.tag ("OK " ++ text)) = _
    rw [finish_of_settled hs.2]; rfl

/-! ### Arguments that name an action of a cue -/

theorem actIndex_inRange {a : ActIndexArgs} (hCue : cueInRange a.cue = true) (hLow : 1 ≤ a.index) (hHigh : a.index ≤ 32) :
    (!cueInRange a.cue || a.index < 1 || Config.actionsPerCue < a.index) = false := by
  have hBelow : ¬a.index < 1 := Nat.not_lt.mpr hLow
  have hAbove : ¬Config.actionsPerCue < a.index := Nat.not_lt.mpr hHigh
  rw [hCue, decide_eq_false hBelow, decide_eq_false hAbove]; rfl

theorem State.actAt_ok {a : ActIndexArgs} {c : Cue} {act : Action} (hCue : cueInRange a.cue = true) (hLow : 1 ≤ a.index)
    (hHigh : a.index ≤ 32) (hAt : s.cueAt a.cue = some c) (hAct : c.actions[a.index - 1]? = some act) : s.actAt a = .ok (c, act) := by
  unfold State.actAt
  rw [actIndex_inRange hCue hLow hHigh, hAt]
  simp [hAct]

theorem State.actAt_range {a : ActIndexArgs} (h : cueInRange a.cue = false ∨ a.index = 0 ∨ 32 < a.index) :
    s.actAt a = .error .range := by
  have hIndex : (!cueInRange a.cue || a.index < 1 || Config.actionsPerCue < a.index) = true := by
    rcases h with h | h | h
    · simp [h]
    · simp [h]
    · simp [Config.actionsPerCue, h]
  unfold State.actAt
  rw [hIndex]; rfl

theorem State.actAt_noSuch {a : ActIndexArgs} (hCue : cueInRange a.cue = true) (hLow : 1 ≤ a.index) (hHigh : a.index ≤ 32)
    (h : s.cueAt a.cue = none ∨ ∃ c, s.cueAt a.cue = some c ∧ c.actions.length < a.index) : s.actAt a = .error .noSuch := by
  unfold State.actAt
  rw [actIndex_inRange hCue hLow hHigh]
  rcases h with h | ⟨c, h, hLength⟩
  · rw [h]; rfl
  · have hNone : c.actions[a.index - 1]? = none := List.getElem?_eq_none (by omega)
    rw [h]
    simp [hNone]

end

end Sys2Proof.Machine

namespace Sys2Proof.Proofs

open Sys2Proof Sys2Proof.Machine

/-- Settles O9: each query asks for the objects its arguments name and tells the text of its rule. -/
theorem queriesChangeNothing : Obligations.QueriesChangeNothing := by
  refine ⟨fun c s hQuery hs => exec_query c hQuery hs, fun s tag hs => ⟨?_, ?_, ?_, ?_, ?_, ?_, ?_, ?_, ?_, ?_, ?_, ?_, ?_, ?_, ?_, ?_, ?_,
    ?_, ?_, ?_, ?_, ?_, ?_, ?_, ?_, ?_, ?_, ?_, ?_, ?_, ?_, ?_, ?_, ?_, ?_, ?_, ?_, ?_, ?_, ?_, ?_, ?_, ?_⟩⟩
  · exact fun a row hRow hBus => hs.tells (exec_levelQuery s tag _) (by simp [readLevel, hRow, hBus])
  · intro a row b bus hRow hBus hName
    have hText : readLevel a s = s.tells (s.xptText row bus) := by simp [readLevel, hRow, hBus, hName]
    refine ⟨fun hFade => hs.tells (exec_levelQuery s tag _) ?_, fun f hFade => hs.tells (exec_levelQuery s tag _) ?_⟩
    · rw [hText]; unfold State.xptText; rw [hFade]; simp
    · rw [hText]; unfold State.xptText; rw [hFade]; simp [Fade.left, Config.framesPerMs, String.append_assoc]
  · exact fun n i hn => hs.tells (exec_inputQuery s tag _) (by simp [readInput, hn, State.inputText])
  · exact fun b bus hb => hs.tells (exec_clipQuery s tag _) (by simp [readClip, hb, clipText])
  · exact hs.tells (exec_fadeQuery s tag _) rfl
  · exact fun n p hn => hs.tells (exec_perfQuery s tag _) (by simp [readPerf, hn])
  · exact hs.tells (exec_pageQuery s tag _) rfl
  · exact hs.tells (exec_talkinQuery s tag _) rfl
  · exact hs.tells (exec_castQuery s tag _) rfl
  · exact fun n r hn => hs.tells (exec_castQuery s tag _) (by simp [readCast, hn])
  · exact hs.tells (exec_supvQuery s tag _) rfl
  · exact hs.tells (exec_tlmQuery s tag _) rfl
  · exact hs.tells (exec_micQuery s tag _) rfl
  · exact fun n i hn => hs.tells (exec_micQuery s tag _) (by simp [readMic, hn])
  · exact hs.tells (exec_cueQuery s tag _) rfl
  · exact fun n c hn hc => hs.tells (exec_cueQuery s tag _) (by simp [readCue, hn, hc, State.cueLine])
  · exact fun a c act hCue hLow hHigh hc hAct => hs.tells (exec_actQuery s tag _) (by simp [readAct, State.actAt_ok hCue hLow hHigh hc hAct])
  · exact hs.tells (exec_engineQuery s tag _) rfl
  · exact hs.tells (exec_instQuery s tag _) rfl
  · exact fun n i d hn hd => hs.tells (exec_soundQuery s tag _) (by simp [readSound, hn, State.soundRec, hd])
  · exact hs.tells (exec_voiceQuery s tag _) rfl
  · exact fun n v hn => hs.tells (exec_voiceQuery s tag _) (by simp [readVoice, hn])
  · exact fun n p hn => hs.tells (exec_playerQuery s tag _) (by simp [readPlayer, hn])
  · exact hs.tells (exec_fetchQuery s tag _) rfl
  · exact hs.tells (exec_fbQuery s tag _) rfl
  · exact fun n k hn => hs.tells (exec_fbQuery s tag _) (by simp [readFb, hn])
  · exact hs.tells (exec_talkbackQuery s tag _) rfl
  · exact fun n z hn => hs.tells (exec_zoneQuery s tag _) (by simp [readZone, hn])
  · exact fun n g hn => hs.tells (exec_groupQuery s tag _) (by simp [readGroup, hn])
  · exact hs.tells (exec_callQuery s tag _) rfl
  · exact fun id c hc => hs.tells (exec_callQuery s tag _) (by simp [readCall, hc])
  · exact fun n k hn => hs.tells (exec_presetDefQuery s tag _) (by simp [readPreset, hn])
  · exact hs.tells (exec_lineQuery s tag _) rfl
  · exact fun n l hn => hs.tells (exec_lineQuery s tag _) (by simp [readLine, hn])
  · exact hs.tells (exec_reportQuery s tag _) rfl
  · exact hs.tells (exec_linkQuery s tag _) rfl
  · exact hs.tells (exec_statusQuery s tag _) rfl
  · exact hs.tells (exec_clockQuery s tag _) rfl
  · rintro c (⟨n, rfl | rfl, hn⟩ | ⟨n, rfl, hn⟩ | ⟨n, rfl, hn⟩ | ⟨n, rfl | rfl, hn⟩ | ⟨n, rfl | rfl | rfl, hn⟩ | ⟨n, rfl, hn⟩ | ⟨n, rfl, hn⟩ |
      ⟨n, rfl, hn⟩ | ⟨n, rfl, hn⟩ | ⟨a, rfl, hn⟩ | ⟨b, rfl, hn⟩ | ⟨a, rfl, hn⟩)
    · exact hs.refuses (exec_inputQuery s tag _) (by simp [readInput, hn])
    · exact hs.refuses (exec_micQuery s tag _) (by simp [readMic, hn])
    · exact hs.refuses (exec_perfQuery s tag _) (by simp [readPerf, hn])
    · exact hs.refuses (exec_castQuery s tag _) (by simp [readCast, hn])
    · exact hs.refuses (exec_voiceQuery s tag _) (by simp [readVoice, hn])
    · exact hs.refuses (exec_zoneQuery s tag _) (by simp [readZone, hn])
    · exact hs.refuses (exec_fbQuery s tag _) (by simp [readFb, hn])
    · exact hs.refuses (exec_presetDefQuery s tag _) (by simp [readPreset, hn])
    · exact hs.refuses (exec_lineQuery s tag _) (by simp [readLine, hn])
    · exact hs.refuses (exec_playerQuery s tag _) (by simp [readPlayer, hn])
    · exact hs.refuses (exec_groupQuery s tag _) (by simp [readGroup, hn])
    · exact hs.refuses (exec_soundQuery s tag _) (by simp [readSound, hn])
    · exact hs.refuses (exec_cueQuery s tag _) (by simp [readCue, hn])
    · refine hs.refuses (exec_levelQuery s tag _) ?_
      rcases hn with hRow | ⟨b, hBus, hName⟩
      · simp [readLevel, hRow]
      · cases hRow : rowOf a.row <;> simp [readLevel, hRow, hBus, hName]
    · exact hs.refuses (exec_clipQuery s tag _) (by simp [readClip, hn])
    · exact hs.refuses (exec_actQuery s tag _) (by simp [readAct, State.actAt_range hn])
  · exact fun n hn hc => hs.refuses (exec_cueQuery s tag _) (by simp [readCue, hn, hc])
  · exact fun n i hn hd => hs.refuses (exec_soundQuery s tag _) (by simp [readSound, hn, State.soundRec, hd])
  · exact fun a hCue hLow hHigh h => hs.refuses (exec_actQuery s tag _) (by simp [readAct, State.actAt_noSuch hCue hLow hHigh h])
  · exact fun id hc => hs.refuses (exec_callQuery s tag _) (by simp [readCall, hc])

end Sys2Proof.Proofs
end

section
/-! PROOFS. The fields as held, and the commands that store a setting alone (R2 to R4, R10, R42, R50, R51, R64, R65, R115, R123, R145,
R179, R189). -/

namespace Sys2Proof.Machine

open Sys2Proof

/-! ### Fields as held (R2, R3, R4) -/

theorem halfDecibels_nearest (x : Int) : -250 < x - 500 * halfDecibels x ∧ x - 500 * halfDecibels x ≤ 250 := by
  unfold halfDecibels; omega

theorem heldDepth_cast (hi : Nat) (x : Int) : (heldDepth hi x : Int) = max 0 (min (hi : Int) (halfDecibels x)) := by
  unfold heldDepth clampInt
  exact Int.toNat_of_nonneg (le_max_left _ _)

theorem heldNumber_cast (lo hi : Nat) (x : Int) : (heldNumber lo hi x : Int) = max (lo : Int) (min (hi : Int) x) := by
  unfold heldNumber clampInt
  exact Int.toNat_of_nonneg (le_trans (Int.natCast_nonneg lo) (le_max_left _ _))

theorem setting_clamped (lo hi : Nat) (field : Option Int) (old : Nat) :
    clamped (lo : Int) (hi : Int) field old (setting lo hi field old) := by
  refine ⟨fun h => by rw [h]; rfl, fun x h => ?_⟩
  rw [h]; exact heldNumber_cast lo hi x

/-- A change of the reference channel changes of the supervisor its settings and the reference record alone. -/
theorem MicBlock.setRef_frame (b : MicBlock) (ref : Option InputId) (x : Supervision) :
    ({ b.setRef ref with sup := x } : MicBlock) = { b with
      sup := x, refRf := (b.setRef ref).refRf, refStaleAt := (b.setRef ref).refStaleAt } := by
  unfold MicBlock.setRef
  split <;> rfl

/-! ### A line that is accepted -/

section
variable {s : State}

/-- An accepted line that leaves the state settled is its change, and its reply. -/
theorem State.Ready.accepts (hs : s.Ready) {c : Instr} {α : Type} {a : α} {f : α → State → Answer} {t : State} {x : State → String}
    (hExec : exec c s = command c c.tag (.given a) f s) (h : f a s = t.replies x) (hSettled : t.Settled) :
    exec c s = .next (t.answered c.tag ("OK " ++ x t)) := by
  rw [hExec, command_ok hs.1 c c.tag a f h, finish_of_settled hSettled]

/-- A change that leaves what STANDBY_READY depends on, and what the end of an operation looks at. -/
theorem State.Ready.settled (hs : s.Ready) {t : State} (hEngine : t.engine = s.engine) (hCues : t.cues = s.cues)
    (hReaders : t.fetch.readers = s.fetch.readers) : t.Settled := settled_congr hs.2 hEngine hCues hReaders

theorem settled_stopAllMs (h : s.Settled) (n : Nat) : (s.onEngine fun b => { b with stopAllMs := n }).Settled := by
  obtain ⟨hDue, hEvent, hShown⟩ := h
  exact ⟨hDue, hEvent, hShown.trans (standbyReady_congr (s := s.onEngine fun b => { b with stopAllMs := n }) rfl rfl rfl)⟩

/-! ### Checks that pass -/

theorem pageForbidden_iff {n : PageId} {j : InputId} : s.pageForbidden n j = false ↔ s.use j = .free ∨ s.use j = .paging n := by
  unfold State.pageForbidden
  split <;> rename_i h <;> simp [h]

theorem talkinForbidden_iff {j : InputId} : s.talkinForbidden j = false ↔ s.use j = .free ∨ s.use j = .talkback := by
  unfold State.talkinForbidden
  split <;> rename_i h <;> simp [h]

theorem soundOf_inRange {a : SoundArgs} (hBlock : a.block ≤ 16777215) (hLow : 1 ≤ a.len) (hHigh : a.len ≤ 2147483647)
    (hLoop : ∀ b e, a.loop = some (b, e) → b < e ∧ e ≤ a.len ∧ 256 ∣ b ∧ 256 ∣ e)
    (hEnd : a.block + (((a.loop.map (·.2)).getD a.len) + 255) / 256 ≤ 16777216) : (soundOf a).outOfRange = false := by
  have hLoopOk : (a.loop.any fun l => l.2 ≤ l.1 || a.len < l.2) = false := by
    cases e : a.loop with
    | none => rfl
    | some l =>
      obtain ⟨hOrder, hLen, _⟩ := hLoop l.1 l.2 e
      simp [hOrder, hLen]
  have hBlocks : (soundOf a).first + (soundOf a).blocks ≤ Config.maxBlock + 1 := by
    unfold Sound.blocks Sound.extent soundOf
    cases e : a.loop <;> rw [e] at hEnd <;> simpa [Config.maxBlock, Config.blockSamples] using hEnd
  have hFirst : ¬Config.maxBlock < a.block := Nat.not_lt.mpr hBlock
  have hLen : ¬Config.maxSoundLen < a.len := Nat.not_lt.mpr hHigh
  have hZero : a.len ≠ 0 := by omega
  unfold Sound.outOfRange
  show (decide (Config.maxBlock < a.block) || decide (a.len = 0) || decide (Config.maxSoundLen < a.len) ||
    (a.loop.any fun l => l.2 ≤ l.1 || a.len < l.2) || decide (Config.maxBlock + 1 < (soundOf a).first + (soundOf a).blocks)) = false
  rw [hLoopOk, decide_eq_false hFirst, decide_eq_false hZero, decide_eq_false hLen, decide_eq_false (Nat.not_lt.mpr hBlocks)]
  rfl

theorem soundOf_aligned {a : SoundArgs} (hLoop : ∀ b e, a.loop = some (b, e) → b < e ∧ e ≤ a.len ∧ 256 ∣ b ∧ 256 ∣ e) :
    (soundOf a).misaligned = false := by
  unfold Sound.misaligned soundOf
  cases e : a.loop with
  | none => rfl
  | some l =>
    obtain ⟨_, _, hFirst, hLast⟩ := hLoop l.1 l.2 e
    simp [Config.blockSamples, Nat.mod_eq_zero_of_dvd hFirst, Nat.mod_eq_zero_of_dvd hLast]

theorem soundInUse_false {n : SoundId} (h : ∀ r, (s.reader r).state ≠ .idle → (s.reader r).soundId ≠ some n) :
    s.soundInUse n = false := by
  unfold State.soundInUse
  rw [List.any_eq_false]
  intro x hx
  obtain ⟨i, hi, rfl⟩ := List.getElem_of_mem hx
  have hi' : i < 26 := by simpa using hi
  have := h ⟨i, hi'⟩
  have hReader : s.reader ⟨i, hi'⟩ = s.fetch.readers.toList[i] := by simp [State.reader, Vector.get_eq_getElem]
  rw [hReader] at this
  simpa using this

theorem presetRequest_of_check {k : PresetId} {r : CallArgs} {x : CallRequest} (h : s.checkRequest r = .ok x) :
    s.presetRequest (some k) (some r) = .ok (some x) := by
  unfold State.checkRequest at h
  unfold State.presetRequest
  dsimp only
  cases e : requestOf r with
  | error e' => rw [e] at h; cases h
  | ok q =>
    rw [e] at h
    rw [ok_bind] at h ⊢
    cases hDup : !decide q.targets.Nodup
    · rw [hDup] at h
      cases hMissing : s.sourceMissing q
      · rw [hMissing] at h
        cases h; rfl
      · rw [hMissing] at h; cases h
    · rw [hDup] at h; cases h

end

end Sys2Proof.Machine

namespace Sys2Proof.Proofs

open Sys2Proof Sys2Proof.Machine

/-- Settles O18: rounding is the nearest half-decibel, and each field is brought into its range. -/
theorem levelFieldsHeld : Obligations.LevelFieldsHeld :=
  ⟨halfDecibels_nearest, fun x => ⟨rfl, rfl, rfl, rfl, rfl, rfl, rfl, heldDepth_cast 80 x, heldDepth_cast 120 x⟩, rfl, rfl, rfl, rfl, rfl,
    rfl, rfl, fun t => heldNumber_cast 0 Config.maxTimeMs t, rfl⟩

/-- Settles O25: an input free or already used so passes the check, and any other is refused. -/
theorem roleAndAssignments : Obligations.RoleAndAssignments := by
  intro s tag hs
  refine ⟨fun a r hr hName hLength => ?_, fun a n i hn hi hUse => ?_, fun n i hi hUse => ?_, fun j => ⟨fun a n hn hj hFree hPaging => ?_,
    fun n hj hFree hTalkback => ?_⟩⟩
  · have hShort : decide (Config.nameChars < a.name.length) = false := decide_eq_false (Nat.not_lt.mpr hLength)
    have hAllowed : (!nameAllowed a.name) = false := by rw [show nameAllowed a.name = true from hName]; rfl
    have hAnswer : setRole a s = (s.onRole r fun x => { x with name := a.name }).replies fun _ =>
        roleText r ++ " name=" ++ nameText a.name := by
      simp only [setRole, hAllowed, hShort, hr, need_some, ok_bind, refuseIf_false]
    rw [hs.accepts (exec_role s tag _) hAnswer (hs.settled rfl rfl rfl)]
    rfl
  · have hFree : i.any (s.pageForbidden n) = false := by
      cases i with
      | none => rfl
      | some j => exact pageForbidden_iff.mpr (hUse j rfl)
    have hAnswer : setPage a s = (s.onCast fun b => { b with pages := put b.pages n i }).replies fun _ =>
        pageText n ++ " in=" ++ optText inText i := by simp only [setPage, hn, hi, hFree, need_some, ok_bind, refuseIf_false]
    rw [hs.accepts (exec_page s tag _) hAnswer (hs.settled rfl rfl rfl)]
    rfl
  · have hFree : i.any s.talkinForbidden = false := by
      cases i with
      | none => rfl
      | some j => exact talkinForbidden_iff.mpr (hUse j rfl)
    have hAnswer : setTalkin n s = (s.onCast fun b => { b with talkin := i }).replies State.talkinText := by
      simp only [setTalkin, hi, hFree, need_some, ok_bind, refuseIf_false]
    rw [hs.accepts (exec_talkin s tag _) hAnswer (hs.settled rfl rfl rfl)]
    rfl
  · have hUsed : s.pageForbidden n j = true := by
      by_contra h
      exact (pageForbidden_iff.mp (Bool.eq_false_iff.mpr h)).elim hFree hPaging
    exact hs.refuses (exec_page s tag _) (by simp [setPage, hn, hj, hUsed])
  · have hUsed : s.talkinForbidden j = true := by
      by_contra h
      exact (talkinForbidden_iff.mp (Bool.eq_false_iff.mpr h)).elim hFree hTalkback
    exact hs.refuses (exec_talkin s tag _) (by simp [setTalkin, hj, hUsed])

/-- Settles O28: each field of the line is brought into its range, and the reference record stands or falls with its channel. -/
theorem supvSettings : Obligations.SupvSettings := by
  intro s tag a ref hs hField hRef
  have hAnswer : setSupv a s = (s.onMic fun b => { b.setRef ref with sup := applySupv a ref b.sup }).replies State.supvText := by
    unfold setSupv
    rw [hField]
    rcases hRef with ⟨hNone, rfl⟩ | ⟨n, hSome, hn⟩
    · rw [hNone]; rfl
    · rw [hSome]; simp only [hn, need_some]; rfl
  have hRecord : ref ≠ s.mic.sup.ref ∧ s.mic.setRef ref = { s.mic with refRf := none, refStaleAt := none } ∨
      ref = s.mic.sup.ref ∧ s.mic.setRef ref = s.mic := by
    by_cases h : ref = s.mic.sup.ref
    · exact .inr ⟨h, if_pos h⟩
    · exact .inl ⟨h, if_neg h⟩
  refine ⟨_, hs.accepts (exec_supv s tag _) hAnswer (hs.settled rfl rfl rfl), rfl, rfl, rfl, ?_, rfl, fun hNew => ?_, fun hOld => ?_,
    setting_clamped .., setting_clamped .., setting_clamped .., setting_clamped .., setting_clamped .., setting_clamped ..,
    setting_clamped .., setting_clamped ..⟩
  · exact s.mic.setRef_frame ref (applySupv a ref s.mic.sup)
  · have h := (hRecord.resolve_right fun h => hNew h.1).2
    exact ⟨congrArg MicBlock.refRf h, congrArg MicBlock.refStaleAt h⟩
  · have h := (hRecord.resolve_left fun h => h.1 hOld).2
    have hRf : (s.mic.setRef ref).refRf = s.mic.refRf := congrArg MicBlock.refRf h
    have hStale : (s.mic.setRef ref).refStaleAt = s.mic.refStaleAt := congrArg MicBlock.refStaleAt h
    exact ⟨hRf, hStale⟩

/-- Settles O54: each of the six lines passes its checks and stores one value. -/
theorem settingsStored : Obligations.SettingsStored := by
  intro s tag hs
  refine ⟨fun a i hi => ?_, fun x => ?_, fun x => ?_, fun a n hn hBlock hLow hHigh hLoop hEnd hNew hReplace => ?_, fun a k q hk hq => ?_,
    fun a n hn => ?_⟩
  · have hAnswer : setInput a s = (s.onMatrix fun b => { b with trims := put b.trims i (trimLevel a.trim) }).replies
        fun s => s.inputText i := by simp only [setInput, hi, need_some, ok_bind]
    rw [hs.accepts (exec_input s tag _) hAnswer (hs.settled rfl rfl rfl)]
    unfold State.inputText
    rw [show (s.onMatrix fun b => { b with trims := put b.trims i (trimLevel a.trim) }).matrix.trims.get i = trimLevel a.trim from
      get_put_same _ _ _]
    rfl
  · exact ⟨_, hs.accepts (exec_engine s tag _) rfl (settled_stopAllMs hs.2 _), rfl⟩
  · exact ⟨_, hs.accepts (exec_fetch s tag _) rfl (hs.settled rfl rfl rfl), rfl⟩
  · have hFree : (if a.replace then s.soundInUse n else (s.soundRec n).isSome) = false := by
      cases h : a.replace
      · rw [State.soundRec, hNew h]; rfl
      · exact soundInUse_false (hReplace h)
    have hAnswer : setSound a s = (s.onFetch fun b => { b with sounds := put b.sounds n (some (soundOf a)) }).replies
        fun _ => soundLine n (soundOf a) := by
      simp only [setSound, hn, soundOf_inRange hBlock hLow hHigh hLoop hEnd, soundOf_aligned hLoop, hFree, need_some, ok_bind,
        refuseIf_false]
    rw [hs.accepts (exec_sound s tag _) hAnswer (hs.settled rfl rfl rfl)]
    rfl
  · have hRequest : s.presetRequest (some k) a.request = .ok q := by
      rcases hq with ⟨hNone, rfl⟩ | ⟨r, x, hSome, hCheck, rfl⟩
      · rw [hNone]; rfl
      · rw [hSome]; exact presetRequest_of_check hCheck
    have hAnswer : definePreset a s = (s.storePreset k q).replies fun s => s.presetLine k := by
      simp only [definePreset, hk, hRequest, need_some, ok_bind]
    exact ⟨_, hs.accepts (exec_presetDef s tag _) hAnswer (hs.settled rfl rfl rfl), rfl⟩
  · have hAnswer : setCueLine a s = (s.onLine n fun r => { r with cueLine := a.on }).replies fun s =>
        lineText n ++ " cue=" ++ onOff (s.line n).cueLine ++ " fn=" ++ fnText (s.line n).fn := by
      simp only [setCueLine, hn, need_some, ok_bind]
    rw [hs.accepts (exec_line s tag _) hAnswer (hs.settled rfl rfl rfl)]
    rw [show (s.onLine n fun r => { r with cueLine := a.on }).line n = { s.line n with cueLine := a.on } from get_update_same _ _ _]
    rfl

end Sys2Proof.Proofs
end

section
/-! PROOFS. Which reports an operation may replace, and which stand (R199). -/

namespace Sys2Proof.Machine

open Sys2Proof

/-- Every report of `s` whose key is none of `K` is a report of `t`. -/
def State.StandsBut (K : ReportKey → Prop) (s t : State) : Prop := ∀ r ∈ s.link.reports, ¬K r.key → r ∈ t.link.reports

section
variable {K : ReportKey → Prop} {s t u : State}

theorem State.StandsBut.refl (s : State) : s.StandsBut K s := fun _ hr _ => hr

theorem State.StandsBut.trans (h : s.StandsBut K t) (h' : t.StandsBut K u) : s.StandsBut K u := fun r hr hk => h' r (h r hr hk) hk

/-- A change that leaves the report set. -/
theorem State.StandsBut.congr (h : s.StandsBut K t) (hu : u.link.reports = t.link.reports) : s.StandsBut K u :=
  fun r hr hk => hu ▸ h r hr hk

theorem State.StandsBut.mono {K' : ReportKey → Prop} (h : s.StandsBut K t) (hK : ∀ key, K key → K' key) : s.StandsBut K' t :=
  fun r hr hk => h r hr fun hk' => hk (hK _ hk')

theorem State.StandsBut.raise (h : s.StandsBut K t) {key : ReportKey} (hKey : K key) (text : String) : s.StandsBut K (t.raise key text) := by
  intro r hr hk
  unfold State.raise
  split
  · exact h r hr hk
  · exact mem_upsert_of_ne text (h r hr hk) fun e => hk (e ▸ hKey)

/-- A report raised stands where its key may not be replaced. -/
theorem State.Raised.stands {key : ReportKey} {part : String} (h : u.Raised s key part) (hs : s.StandsBut K t) (hKey : ¬K key) :
    u.Raised t key part := fun hd => by
  obtain ⟨before, after, hm⟩ := h hd
  exact ⟨before, after, hs _ hm hKey⟩

/-- A list of operations leaves standing what each of them does. -/
theorem State.StandsBut.foldl {α : Type} {f : State → α → State} {l : List α} (h : s.StandsBut K t)
    (hf : ∀ (a : α) (t : State), a ∈ l → t.StandsBut K (f t a)) : s.StandsBut K (l.foldl f t) := by
  induction l generalizing t with
  | nil => exact h
  | cons a l ih => exact ih (h.trans (hf a t List.mem_cons_self)) fun b t hb => hf b t (List.mem_cons_of_mem _ hb)

/-! ### The instances and the fades -/

section
variable (hCue : K .cue)
include hCue

theorem State.StandsBut.raiseCue (h : s.StandsBut K t) (e : CueEvent) : s.StandsBut K (t.raiseCue e) := by
  unfold State.raiseCue
  exact (h.congr (u := t.onEngine fun b => { b with opEvent := some (t.cueReport e) }) rfl).raise hCue _

theorem State.StandsBut.setChain (h : s.StandsBut K t) (c : Chain) : s.StandsBut K (t.setChain c) := by
  unfold State.setChain
  dsimp only
  split
  · exact (h.congr (u := t.onEngine fun b => { b with chain := some c }) rfl).raiseCue hCue _
  · rename_i old _
    refine State.StandsBut.raiseCue hCue ?_ _
    exact State.StandsBut.congr (h.raiseCue hCue _) rfl

theorem State.StandsBut.endLink (h : s.StandsBut K t) (i : Inst) : s.StandsBut K (t.endLink i) := by
  unfold State.endLink
  split
  · exact h
  · split
    · split
      · exact h.setChain hCue _
      · exact h.raiseCue hCue _
    · exact h.raiseCue hCue _

theorem State.StandsBut.ownerDone (h : s.StandsBut K t) (o : Option InstSlot) : s.StandsBut K (t.ownerDone o) := by
  cases o with
  | none => exact h
  | some slot =>
    show s.StandsBut K (t.instDone slot)
    unfold State.instDone
    split
    · exact h
    · rename_i i _
      dsimp only
      split
      · unfold State.completeInst
        dsimp only
        exact ((h.congr (u := (t.setCount slot (i.count - 1)).removeInst i.slot) rfl).raiseCue hCue _).endLink hCue _
      · exact h.congr rfl

theorem State.StandsBut.removeFade (h : s.StandsBut K t) (x : Target) : s.StandsBut K (t.removeFade x) := by
  unfold State.removeFade
  split
  · exact h
  · exact (h.congr (u := t.dropFade x) rfl).ownerDone hCue _

omit hCue in
theorem State.setLevelOf_link (s : State) (x : Target) (c : LevelCode) : (s.setLevelOf x c).link = s.link := by
  cases x <;> rfl

theorem State.StandsBut.snapLevel (h : s.StandsBut K t) (x : Target) (c : LevelCode) : s.StandsBut K (t.snapLevel x c) :=
  (h.removeFade hCue x).congr (congrArg LinkBlock.reports (State.setLevelOf_link _ x c))

omit hCue in
theorem State.StandsBut.poolFullSnap (hFade : K .fade) (h : s.StandsBut K t) (x : Target) (c : LevelCode) :
    s.StandsBut K (t.poolFullSnap x c) := by
  unfold State.poolFullSnap
  exact (h.congr (u := (t.setLevelOf x c).onFades fun b => { b with snaps := bump b.snaps })
    (congrArg LinkBlock.reports (State.setLevelOf_link _ x c))).raise hFade _

omit hCue in
theorem State.ownerAdd_link (s : State) (o : Option InstSlot) : (s.ownerAdd o).link = s.link := by
  cases o <;> rfl

theorem State.StandsBut.requestFade (hFade : K .fade) (h : s.StandsBut K t) (x : Target) (c : LevelCode) (ms : Nat)
    (o : Option InstSlot) (b : Bool) : s.StandsBut K (t.requestFade x c ms o b) := by
  unfold State.requestFade
  dsimp only
  split
  · refine State.StandsBut.congr ?_ (congrArg LinkBlock.reports (State.ownerAdd_link _ _))
    refine State.StandsBut.ownerDone hCue ?_ _
    exact h.congr rfl
  · exact h
  · exact h.congr (congrArg LinkBlock.reports (State.ownerAdd_link _ _))
  · exact h.poolFullSnap hFade _ _

/-! ### The readers -/

omit hCue in
theorem State.StandsBut.raiseReader (h : s.StandsBut K t) {r : ReaderId} (hReader : K (readerKey r)) (event : String) :
    s.StandsBut K (t.raiseReader r event) := by
  unfold State.raiseReader readerKey at *
  dsimp only at *
  split <;> rename_i hKind <;> rw [hKind] at hReader <;> exact h.raise hReader _

omit hCue in
theorem State.callEvaluation_link (s : State) (v : VoiceId) : (s.callEvaluation v).link = s.link := by
  unfold State.callEvaluation; split <;> rfl

theorem State.StandsBut.enterIdle (h : s.StandsBut K t) {r : ReaderId} (hReader : K (readerKey r)) (event : String) :
    s.StandsBut K (t.enterIdle r event) := by
  have hIdle : s.StandsBut K (((t.clearRing r).onReader r Reader.toIdle).raiseReader r event) :=
    (h.congr (u := (t.clearRing r).onReader r Reader.toIdle) rfl).raiseReader hReader event
  unfold State.enterIdle
  dsimp only
  split
  · refine State.StandsBut.congr ?_ (congrArg LinkBlock.reports (State.callEvaluation_link _ _))
    exact (hIdle.removeFade hCue _).ownerDone hCue _
  · exact hIdle

omit hCue in
theorem State.StandsBut.prime (h : s.StandsBut K t) {v : VoiceId} (hVoice : K (readerKey (voiceReader v))) (n : SoundId) :
    s.StandsBut K (t.prime v n) := by
  unfold State.prime
  split
  · exact h
  · dsimp only
    refine State.StandsBut.raiseReader ?_ hVoice _
    exact h.congr rfl

/-! ### The end of an operation -/

variable (hVoices : ∀ v, K (.voice v))

omit hCue hVoices in
theorem readerKey_voice (v : VoiceId) : readerKey (voiceReader v) = .voice v := by
  unfold readerKey
  rw [readerKind_voiceReader]

include hVoices

theorem State.StandsBut.evaluatePriming (h : s.StandsBut K t) : s.StandsBut K t.evaluatePriming := by
  have hReader : ∀ v, K (readerKey (voiceReader v)) := fun v => readerKey_voice v ▸ hVoices v
  have hEnd : ∀ u : State, s.StandsBut K u → s.StandsBut K (u.onEngine fun b => { b with evalDue := false }) := fun u hu => hu.congr rfl
  unfold State.evaluatePriming
  refine hEnd _ (State.StandsBut.foldl (State.StandsBut.foldl h fun v t _ => ?_) fun e t _ => ?_)
  · unfold State.releaseUnwanted
    split
    · exact (State.StandsBut.refl t).enterIdle hCue (hReader v) _
    · exact .refl t
  · unfold State.primeWanted
    split
    · exact (State.StandsBut.refl t).prime (hReader e.1) _
    · exact .refl t

omit hVoices in
theorem State.StandsBut.settleReady (h : s.StandsBut K t) : s.StandsBut K t.settleReady := by
  have hEnd : ∀ u : State, s.StandsBut K u → s.StandsBut K (u.onEngine fun b => { b with readyShown := t.standbyReady, opEvent := none }) :=
    fun u hu => hu.congr rfl
  unfold State.settleReady
  refine hEnd _ ?_
  split
  · split
    · exact h
    · exact h.raise hCue _
  · split
    · exact h
    · exact h.raiseCue hCue _

theorem State.StandsBut.finish (h : s.StandsBut K t) : s.StandsBut K t.finish := by
  unfold State.finish
  refine State.StandsBut.settleReady hCue ?_
  split
  · exact h.evaluatePriming hCue hVoices
  · exact h

end

end

/-- The keys of CUE and VOICE reports, which the end of an operation may replace. -/
def ReportKey.ofPlayback : ReportKey → Prop
  | .cue => True
  | .voice _ => True
  | _ => False

/-- The end of an operation leaves every report but those of CUE and VOICE. -/
theorem State.finish_stands (s : State) : s.StandsBut ReportKey.ofPlayback s.finish :=
  (State.StandsBut.refl s).finish trivial fun _ => trivial

end Sys2Proof.Machine
end

section
/-! PROOFS. What FRAME computes from the state it finds, block by block (R9, R11 to R13, R16 to R20, R150, R151, R157, R158, R163,
R188, R205). -/

namespace Sys2Proof.Machine

open Sys2Proof

/-! ### Lists of values by place -/

theorem getD_map_finRange {n : Nat} (f : Fin n → Sample) (i : Fin n) (d : Sample) : ((List.finRange n).map f).getD i.val d = f i := by
  simp [List.getD_eq_getElem?_getD]

theorem getD_append_add {l l' : List Sample} {n k : Nat} (h : l.length = n) (d : Sample) : (l ++ l').getD (n + k) d = l'.getD k d := by
  simp only [List.getD_eq_getElem?_getD]
  rw [List.getElem?_append_right (by omega), h, Nat.add_sub_cancel_left]

theorem getD_append_left {l l' : List Sample} {k : Nat} (h : k < l.length) (d : Sample) : (l ++ l').getD k d = l.getD k d := by
  simp [List.getD_eq_getElem?_getD, List.getElem?_append_left h]

theorem getD_map_zero (l : List Sample) (f : Sample → Sample) (hf : f 0 = 0) (k : Nat) : (l.map f).getD k 0 = f (l.getD k 0) := by
  simp only [List.getD_eq_getElem?_getD, List.getElem?_map]
  cases l[k]? <;> simp [hf]

section
variable (s : State) (slots : Vector Word32 64)

/-! ### Row signals (R11 to R13) -/

theorem rowSignals_input (i : InputId) : (s.rowSignals slots).getD i.val 0 = s.inputSignal slots i := by
  unfold State.rowSignals
  rw [getD_append_left (by simp), getD_map_finRange]

theorem rowSignals_role (r : RoleId) : (s.rowSignals slots).getD (64 + r.val) 0 = s.roleSignal slots r := by
  unfold State.rowSignals
  rw [getD_append_add (by simp), getD_append_left (by simp), getD_map_finRange]

theorem rowSignals_voice (v : VoiceId) : (s.rowSignals slots).getD (104 + v.val) 0 = s.voiceSignal v := by
  unfold State.rowSignals
  rw [show 104 + v.val = 64 + (40 + v.val) by omega, getD_append_add (by simp), getD_append_add (by simp), getD_map_finRange]

theorem rowSignals_length : (s.rowSignals slots).length = 128 := by simp [State.rowSignals]

/-! ### Bus values (R16) -/

theorem zipWith_finRange {n : Nat} (f : Fin n → Sample → Int) {l : List Sample} (h : l.length = n) :
    (List.finRange n).zipWith f l = (List.finRange n).map fun p => f p (l.getD p.val 0) := by
  refine List.ext_getElem (by simp [h]) fun k h1 h2 => ?_
  have hk : k < l.length := by simp at h1; omega
  simp [List.getD_eq_getElem?_getD, List.getElem?_eq_getElem hk]

theorem busValue_rowSignals (bus : Bus) : s.busValue (s.rowSignals slots) (colPos bus) = s.busSum slots bus := by
  unfold State.busValue State.accumulator State.busSum
  rw [zipWith_finRange _ (rowSignals_length s slots)]

/-- The pre-output value of a column (R16, R18, R158). -/
def State.preOutput (bus : Bus) : Sample :=
  match bus with
  | .fb k => s.foldbackValue k (s.busSum slots bus) (s.talkAudio slots k)
  | _ => s.busSum slots bus

theorem zipWith_map_finRange {n : Nat} {α : Type} (f : Fin n → Sample → α) (g : Fin n → Sample) :
    (List.finRange n).zipWith f ((List.finRange n).map g) = (List.finRange n).map fun k => f k (g k) := by
  refine List.ext_getElem (by simp) fun k h1 h2 => by simp

/-- The bus values of a frame as their sums. -/
theorem audio_eq : s.audio slots = {
    clip := allBuses.map (s.preOutput slots)
    foldback := (List.finRange 16).map fun k => s.busSum slots (.fb k)
    outputs := ((List.finRange 8).map (fun h => s.busSum slots (.house h)) ++
      ((List.finRange 16).map (fun k => s.preOutput slots (.fb k)) ++
        (List.finRange 24).map (s.zoneValue slots (saturate (s.busSum slots .relay))))).map saturate } := by
  unfold State.audio
  simp only [busValue_rowSignals, zipWith_map_finRange]
  unfold allBuses
  simp only [List.map_append, List.map_map]
  rfl

theorem audio_foldback (k : FbId) : (s.audio slots).foldback.getD k.val 0 = s.busSum slots (.fb k) := by
  rw [audio_eq]; exact getD_map_finRange _ _ _

theorem saturate_zero : saturate 0 = 0 := by decide

theorem outputs_house (h : HouseId) : (s.audio slots).outputs.getD h.val 0 = saturate (s.busSum slots (.house h)) := by
  rw [audio_eq, getD_map_zero _ _ saturate_zero, getD_append_left (by simp), getD_map_finRange]

theorem outputs_foldback (k : FbId) : (s.audio slots).outputs.getD (8 + k.val) 0 = saturate (s.preOutput slots (.fb k)) := by
  rw [audio_eq, getD_map_zero _ _ saturate_zero, getD_append_add (by simp), getD_append_left (by simp), getD_map_finRange]

theorem outputs_zone (z : ZoneId) : (s.audio slots).outputs.getD (24 + z.val) 0 =
    saturate (s.zoneValue slots (saturate (s.busSum slots .relay)) z) := by
  rw [audio_eq, getD_map_zero _ _ saturate_zero, show 24 + z.val = 8 + (16 + z.val) by omega, getD_append_add (by simp),
    getD_append_add (by simp), getD_map_finRange]

/-! ### The counts and the sample steps leave the other blocks -/

/-- The state of a frame whose counts and sample steps are done (R129). -/
def State.counted (s : State) (pins : Vector Bool 16) : State := (List.finRange 26).foldl State.readerFrame (s.driveLamps.countFrame pins)

variable (pins : Vector Bool 16)

/-- The fade step of a frame leaves what the move of a level leaves. -/
theorem fadeFrame_leaves {β : Type} (p : State → β) (hStep : ∀ t f, p (State.fadeStep t f) = p t)
    (hFades : ∀ (t : State) (f : FadeBlock → FadeBlock), p (t.onFades f) = p t) : p s.fadeFrame = p s := by
  unfold State.fadeFrame
  exact (hFades _ _).trans (foldl_keeps p State.fadeStep hStep _ s)

theorem fadeFrame_blocks : s.fadeFrame.kept = s.kept ∧ s.fadeFrame.cast = s.cast ∧ s.fadeFrame.mic = s.mic ∧
    s.fadeFrame.engine = s.engine ∧ s.fadeFrame.foldback = s.foldback ∧ s.fadeFrame.router = s.router ∧ s.fadeFrame.lines = s.lines :=
  ⟨fadeFrame_leaves s State.kept (by simp) (by simp), fadeFrame_leaves s State.cast (by simp) (by simp),
    fadeFrame_leaves s State.mic (by simp) (by simp), fadeFrame_leaves s State.engine (by simp) (by simp),
    fadeFrame_leaves s State.foldback (by simp) (by simp), fadeFrame_leaves s State.router (by simp) (by simp),
    fadeFrame_leaves s State.lines (by simp) (by simp)⟩

theorem readerFrames_blocks : ((List.finRange 26).foldl State.readerFrame s).kept = s.kept ∧
    ((List.finRange 26).foldl State.readerFrame s).matrix = s.matrix ∧ ((List.finRange 26).foldl State.readerFrame s).cast = s.cast ∧
    ((List.finRange 26).foldl State.readerFrame s).mic = s.mic ∧
    ((List.finRange 26).foldl State.readerFrame s).foldback = s.foldback ∧
    ((List.finRange 26).foldl State.readerFrame s).lines = s.lines :=
  ⟨foldl_keeps State.kept _ (by simp) _ _, foldl_keeps State.matrix _ (by simp) _ _, foldl_keeps State.cast _ (by simp) _ _,
    foldl_keeps State.mic _ (by simp) _ _, foldl_keeps State.foldback _ (by simp) _ _, foldl_keeps State.lines _ (by simp) _ _⟩

theorem counted_foldback : (s.counted pins).foldback =
    { s.foldback with buses := s.foldback.buses.map FbBus.frame, window := s.foldback.window + 1 } := by
  unfold State.counted
  rw [(readerFrames_blocks _).2.2.2.2.1]
  unfold State.countFrame
  simp [(fadeFrame_blocks _).2.2.2.2.1, State.driveLamps]

theorem counted_cast : (s.counted pins).cast = { s.cast with roles := s.cast.roles.map Role.frame } := by
  unfold State.counted
  rw [(readerFrames_blocks _).2.2.1]
  unfold State.countFrame
  simp [(fadeFrame_blocks _).2.1, State.driveLamps]

theorem counted_lines : (s.counted pins).lines = { s.lines with
    recs := Vector.ofFn (fun n => ({ s.line n with drive := s.lampOf (s.line n) } : LineRec).frame (pins.get n)), pins := pins } := by
  have hLamps : ∀ n : LineId, s.driveLamps.lines.recs.get n = { s.line n with drive := s.lampOf (s.line n) } := fun n => get_map _ _ _
  have hRecs : (Vector.ofFn fun n => (s.driveLamps.lines.recs.get n).frame (pins.get n)) =
      Vector.ofFn fun n => ({ s.line n with drive := s.lampOf (s.line n) } : LineRec).frame (pins.get n) :=
    congrArg Vector.ofFn (funext fun n => by rw [hLamps])
  unfold State.counted
  rw [(readerFrames_blocks _).2.2.2.2.2, ← hRecs]
  unfold State.countFrame
  simp [(fadeFrame_blocks _).2.2.2.2.2.2]

/-- The fade step looks at neither the lines nor the clock of the state. -/
theorem fadeFrame_at (l : LineBlock) (n : Nat) :
    ({ s with lines := l, now := n } : State).fadeFrame = { s.fadeFrame with lines := l, now := n } := by
  have hStep : ∀ (t : State) (f : Fade), ({ t with lines := l, now := n } : State).fadeStep f = { t.fadeStep f with lines := l, now := n } := by
    intro t f
    unfold State.fadeStep
    split
    · rename_i h
      rw [if_pos (by exact h)]
    · rename_i h
      rw [if_neg (by exact h)]
      cases f.target <;> rfl
  have hSteps : ∀ (k : List Fade) (t : State), k.foldl State.fadeStep { t with lines := l, now := n } =
      { k.foldl State.fadeStep t with lines := l, now := n } := by
    intro k
    induction k with
    | nil => exact fun _ => rfl
    | cons f k ih => intro t; rw [List.foldl_cons, hStep, ih, List.foldl_cons]
  unfold State.fadeFrame
  dsimp only
  rw [hSteps]
  rfl

theorem counted_matrix : (s.counted pins).matrix = s.fadeFrame.matrix := by
  unfold State.counted
  rw [(readerFrames_blocks _).2.1]
  unfold State.countFrame
  have hFade : State.matrix { s.driveLamps with now := s.driveLamps.now + 1 }.fadeFrame = s.fadeFrame.matrix := by
    have hAt := fadeFrame_at s s.driveLamps.lines (s.now + 1)
    exact (congrArg State.matrix hAt).trans rfl
  simp [hFade]

theorem counted_kept : (s.counted pins).kept = { s.kept with now := s.now + 1, pins := pins } := by
  unfold State.counted
  rw [(readerFrames_blocks _).1]
  have hFade := (fadeFrame_blocks { s.driveLamps with now := s.driveLamps.now + 1 }).1
  have hChain : (State.chainFrame { s.driveLamps with now := s.driveLamps.now + 1 }.fadeFrame).kept = { s.kept with now := s.now + 1 } := by
    simp [hFade]; rfl
  exact congrArg (fun k : Kept => { k with pins := pins }) hChain

/-! ### The clip records and the meters -/

theorem clip_setClip (b c : Bus) (x : Clip) : (s.setClip b x).clip c = if b = c then x else s.clip c := by
  have hPos : colPos b = colPos c ↔ b = c := by
    exact ⟨fun h => colPos_injective h, congrArg colPos⟩
  show (put s.matrix.clips (colPos b) x).get (colPos c) = _
  rw [get_put]
  simp only [hPos]
  rfl

theorem clip_feedClip (e : Bus × Sample) (c : Bus) : (s.feedClip e).clip c = if e.1 = c then (s.clip e.1).feed e.2 else s.clip c := by
  have hRaised : (s.feedClip e).clip c = (s.setClip e.1 ((s.clip e.1).feed e.2)).clip c := by
    unfold State.feedClip
    dsimp only
    split
    · unfold State.clip State.raiseClip; simp
    · rfl
  rw [hRaised, clip_setClip]

/-- Each column's record is fed with its own value, once. -/
theorem clip_feedClips {l : List Bus} (hl : l.Nodup) (v : Bus → Sample) (c : Bus) (s : State) :
    ((l.map fun b => (b, v b)).foldl State.feedClip s).clip c = if c ∈ l then (s.clip c).feed (v c) else s.clip c := by
  induction l generalizing s with
  | nil => rfl
  | cons b l ih =>
    obtain ⟨hHead, hTail⟩ := List.nodup_cons.mp hl
    rw [List.map_cons, List.foldl_cons, ih hTail, clip_feedClip]
    by_cases hc : b = c
    · subst hc; simp [hHead]
    · simp [hc, Ne.symm hc]

theorem allBuses_nodup : allBuses.Nodup := by decide

theorem mem_allBuses (b : Bus) : b ∈ allBuses := by
  cases b <;> simp [allBuses]

/-- The clip records and the meters alone take a frame's values. -/
theorem meterFrame_blocks (a : Audio) : (s.meterFrame a).kept = s.kept ∧ (s.meterFrame a).fades = s.fades ∧
    (s.meterFrame a).cast = s.cast ∧ (s.meterFrame a).mic = s.mic ∧ (s.meterFrame a).engine = s.engine ∧ (s.meterFrame a).fetch = s.fetch ∧
    (s.meterFrame a).router = s.router ∧ (s.meterFrame a).lines = s.lines ∧ (s.meterFrame a).matrix.xpts = s.matrix.xpts := by
  have hXpts : ∀ (t : State) (e : Bus × Sample), (t.feedClip e).matrix.xpts = t.matrix.xpts := fun t e => by
    unfold State.feedClip
    dsimp only
    split
    · unfold State.raiseClip; simp [State.setClip]
    · rfl
  unfold State.meterFrame
  generalize allBuses.zip a.clip = l
  have hFades := foldl_keeps State.fades State.feedClip (by simp) l s
  have hCast := foldl_keeps State.cast State.feedClip (by simp) l s
  have hMic := foldl_keeps State.mic State.feedClip (by simp) l s
  have hEngine := foldl_keeps State.engine State.feedClip (by simp) l s
  have hFetch := foldl_keeps State.fetch State.feedClip (by simp) l s
  have hRouter := foldl_keeps State.router State.feedClip (by simp) l s
  have hLines := foldl_keeps State.lines State.feedClip (by simp) l s
  have hMatrix := foldl_keeps (fun t => t.matrix.xpts) State.feedClip hXpts l s
  refine ⟨(State.kept_onFoldback _ _ rfl rfl rfl).trans (foldl_keeps State.kept State.feedClip (by simp) l s), ?_⟩
  simp [hFades, hCast, hMic, hEngine, hFetch, hRouter, hLines, hMatrix]

theorem meterFrame_foldback (a : Audio) : (s.meterFrame a).foldback =
    { s.foldback with buses := Vector.ofFn fun k => (s.bus k).meter (a.foldback.getD k.val 0) } := by
  have hFed : ((allBuses.zip a.clip).foldl State.feedClip s).foldback = s.foldback := foldl_keeps State.foldback State.feedClip (by simp) _ _
  unfold State.meterFrame
  simp only [State.onFoldback_foldback, hFed]
  rfl

theorem zip_map_self {α β : Type} (l : List α) (f : α → β) : l.zip (l.map f) = l.map fun a => (a, f a) := by
  induction l with
  | nil => rfl
  | cons a l ih => simp [ih]

theorem meterFrame_clip (u : State) (b : Bus) :
    (s.meterFrame (u.audio slots)).clip b = (s.clip b).feed (u.preOutput slots b) := by
  have hFeeds : ∀ (l : List (Bus × Sample)) (f : FoldbackBlock → FoldbackBlock), ((l.foldl State.feedClip s).onFoldback f).clip b =
      (l.foldl State.feedClip s).clip b := fun _ _ => rfl
  unfold State.meterFrame
  rw [hFeeds, audio_eq, zip_map_self, clip_feedClips allBuses_nodup, if_pos (mem_allBuses b)]

/-! ### The state FRAME leaves (R16 to R20, R205) -/

/-- What FRAME computes from a state with nothing outstanding, before its end as an operation. -/
def State.computed : State := (s.computeFrame slots pins).onClock fun b => { b with begun := b.begun - 1 }

theorem computed_eq : s.computed slots pins = ((((s.counted pins).meterFrame (s.audio slots)).onPorts fun b =>
    b.frame (s.audio slots).outputs).onFetch fun b => { b with busReset := false }).onClock fun b => { b with begun := b.begun - 1 } := rfl

theorem computed_foldback : (s.computed slots pins).foldback =
    { s.foldback with buses := Vector.ofFn fun k => ((s.bus k).frame).meter (s.busSum slots (.fb k)), window := s.foldback.window + 1 } := by
  have hBus : ∀ k : FbId, ((s.counted pins).bus k).meter ((s.audio slots).foldback.getD k.val 0) =
      ((s.bus k).frame).meter (s.busSum slots (.fb k)) := fun k => by
    rw [audio_foldback]
    unfold State.bus
    rw [counted_foldback, get_map]
  rw [computed_eq]
  simp only [State.onClock_foldback, State.onFetch_foldback, State.onPorts_foldback, meterFrame_foldback, hBus]
  rw [counted_foldback]

theorem computed_cast : (s.computed slots pins).cast = { s.cast with roles := s.cast.roles.map Role.frame } := by
  rw [computed_eq]
  simp only [State.onClock_cast, State.onFetch_cast, State.onPorts_cast, (meterFrame_blocks _ _).2.2.1, counted_cast]

theorem computed_lines : (s.computed slots pins).lines = { s.lines with
    recs := Vector.ofFn (fun n => ({ s.line n with drive := s.lampOf (s.line n) } : LineRec).frame (pins.get n)), pins := pins } := by
  rw [computed_eq]
  simp only [State.onClock_lines, State.onFetch_lines, State.onPorts_lines, (meterFrame_blocks _ _).2.2.2.2.2.2.2.1, counted_lines]

theorem fadeFrame_clips : s.fadeFrame.matrix.clips = s.matrix.clips :=
  fadeFrame_leaves s (fun t => t.matrix.clips) (fun t f => by
    unfold State.fadeStep
    split
    · rfl
    · cases f.target <;> rfl) (fun _ _ => rfl)

theorem computed_clip (b : Bus) : (s.computed slots pins).clip b = (s.clip b).feed (s.preOutput slots b) := by
  have hMatrix : (s.computed slots pins).matrix = ((s.counted pins).meterFrame (s.audio slots)).matrix := by
    rw [computed_eq]
    simp only [State.onClock_matrix, State.onFetch_matrix, State.onPorts_matrix]
  have hClip := meterFrame_clip (s.counted pins) slots s b
  have hStart : (s.counted pins).clip b = s.clip b := by
    unfold State.clip
    rw [counted_matrix, fadeFrame_clips]
  rw [hStart] at hClip
  rw [← hClip]
  unfold State.clip
  rw [hMatrix]

theorem computed_xpts : (s.computed slots pins).matrix.xpts = s.fadeFrame.matrix.xpts := by
  rw [computed_eq]
  simp only [State.onClock_matrix, State.onFetch_matrix, State.onPorts_matrix, (meterFrame_blocks _ _).2.2.2.2.2.2.2.2, counted_matrix]

theorem computed_kept : (s.computed slots pins).kept = { s.kept with
    now := s.now + 1, pins := pins, ports := s.ports.frame (s.audio slots).outputs, clock := { s.clock with begun := s.clock.begun - 1 } } := by
  have hKept : ((s.counted pins).meterFrame (s.audio slots)).kept = { s.kept with now := s.now + 1, pins := pins } :=
    (meterFrame_blocks _ _).1.trans (counted_kept s pins)
  have hOutside : ∀ t : State, (((t.onPorts fun b => b.frame (s.audio slots).outputs).onFetch fun b =>
      { b with busReset := false }).onClock fun b => { b with begun := b.begun - 1 }).kept =
        { t.kept with ports := t.ports.frame (s.audio slots).outputs, clock := { t.clock with begun := t.clock.begun - 1 } } := fun _ => rfl
  have hPorts : ((s.counted pins).meterFrame (s.audio slots)).ports = s.ports := congrArg Kept.ports hKept
  have hClock : ((s.counted pins).meterFrame (s.audio slots)).clock = s.clock := congrArg Kept.clock hKept
  rw [computed_eq, hOutside, hKept, hPorts, hClock]

end

/-- FRAME takes the events due, computes a frame from the state they leave, and ends. -/
theorem exec_frame_eq {s : State} (hReset : s.inReset = false) (hFrame : s.HasFrame) (slots : Vector Word32 64) (pins : Vector Bool 16) :
    exec (.frame slots pins) s = .next (s.takeDue.computed slots pins).finish := by
  rw [exec_frame, event_running hReset, State.frame_of_hasFrame hFrame]
  rfl

end Sys2Proof.Machine
end

section
/-! PROOFS. The audio of a frame: the peak conversion, the row signals and the 48 outputs (R11 to R13, R16, R17, R20, R55, R128, R129,
R151, R157, R158, R163, R173, R205). -/

namespace Sys2Proof.Machine

open Sys2Proof

/-! ### Peaks and thresholds (R151) -/

theorem thresholdTable_length : thresholdTable.length = 220 := by decide +kernel

theorem thresholdTable_sorted : thresholdTable.Pairwise (· ≤ ·) := by decide +kernel

/-- In a rising list the entries at or below a value are those before their count. -/
theorem getElem_le_iff_lt_countP {l : List Nat} (h : l.Pairwise (· ≤ ·)) (p i : Nat) (hi : i < l.length) :
    l[i] ≤ p ↔ i < l.countP (· ≤ p) := by
  induction l generalizing i with
  | nil => cases hi
  | cons a l ih =>
    obtain ⟨hHead, hTail⟩ := List.pairwise_cons.mp h
    by_cases ha : a ≤ p
    · rw [List.countP_cons_of_pos (by simpa using ha)]
      cases i with
      | zero => simpa using ha
      | succ i => simpa using ih hTail i (by simpa using hi)
    · have hNone : l.countP (· ≤ p) = 0 := List.countP_eq_zero.mpr fun b hb => by
        have := hHead b hb
        simp; omega
      rw [List.countP_cons_of_neg (by simpa using ha), hNone]
      cases i with
      | zero => simpa using ha
      | succ i =>
        have hi' : i < l.length := by simpa using hi
        have := hHead l[i] (List.getElem_mem hi')
        simp; omega

theorem threshold_eq {c : Int} (hLow : -179 ≤ c) (hHigh : c ≤ 40) :
    ∃ h : (c + 179).toNat < thresholdTable.length, threshold c = thresholdTable[(c + 179).toNat] := by
  have h : (c + 179).toNat < thresholdTable.length := by rw [thresholdTable_length]; omega
  exact ⟨h, by unfold threshold; rw [List.getD_eq_getElem?_getD, List.getElem?_eq_getElem h]; rfl⟩

/-- A threshold is reached where its code is at or below the code of the peak. -/
theorem threshold_le_iff {c : Int} (hLow : -179 ≤ c) (hHigh : c ≤ 40) (peak : Nat) : threshold c ≤ peak ↔ c ≤ peakCode peak := by
  obtain ⟨h, hThreshold⟩ := threshold_eq hLow hHigh
  rw [hThreshold, getElem_le_iff_lt_countP thresholdTable_sorted]
  show _ ↔ c ≤ (-180 : Int) + (thresholdTable.countP (· ≤ peak) : Nat)
  omega

theorem peakCode_range (peak : Nat) : (-180 : Int) ≤ peakCode peak ∧ peakCode peak ≤ (40 : Int) := by
  have hCount : thresholdTable.countP (· ≤ peak) ≤ 220 := thresholdTable_length ▸ List.countP_le_length
  show (-180 : Int) ≤ (-180 : Int) + (thresholdTable.countP (· ≤ peak) : Nat) ∧ (-180 : Int) + (thresholdTable.countP (· ≤ peak) : Nat) ≤ 40
  omega

/-- Each entry of the table is the power rounded up, compared to the 40th power. -/
theorem thresholdTable_rounded : ∀ (n : Nat) (h : n < thresholdTable.length),
    8388607 ^ 40 * 10 ^ n ≤ thresholdTable[n] ^ 40 * 10 ^ 179 ∧ (thresholdTable[n] - 1) ^ 40 * 10 ^ 179 < 8388607 ^ 40 * 10 ^ n := by
  have hAll : ∀ e ∈ thresholdTable.zipIdx, 8388607 ^ 40 * 10 ^ e.2 ≤ e.1 ^ 40 * 10 ^ 179 ∧
      (e.1 - 1) ^ 40 * 10 ^ 179 < 8388607 ^ 40 * 10 ^ e.2 := by decide +kernel
  intro n h
  exact hAll (thresholdTable[n], n) (List.mem_zipIdx_iff_getElem?.mpr (List.getElem?_eq_getElem h))

theorem FbBus.meter_frame_peak (b : FbBus) (v : Sample) :
    ((b.frame).meter v).peak = if b.guard = .metering then max b.peak v.natAbs else b.peak := by
  have hGuard : b.frame.guard = b.guard := rfl
  unfold FbBus.meter
  rw [hGuard]
  split <;> rfl

/-! ### Row signals (R11 to R13, R55) -/

theorem blend_eq (old new : Sample) {k : Nat} (h : k < 240) :
    blend old new (k + 1) = (old * (240 - ((k : Int) + 1)) + new * ((k : Int) + 1)).tdiv 240 := by
  unfold blend
  split
  · rename_i hEnd
    have hEnd : 240 ≤ k + 1 := hEnd
    have hk : (k : Int) + 1 = 240 := by omega
    rw [hk, sub_self, mul_zero, zero_add, Int.mul_tdiv_cancel _ (by decide)]
  · push_cast; rfl

theorem roleSignal_of_none {s : State} {r : RoleId} (h : (s.role r).xfade = none) (slots : Vector Word32 64) :
    s.roleSignal slots r = sourceSignal slots (s.rowSource r) := by
  unfold State.roleSignal
  rw [h]

theorem roleSignal_of_some {s : State} {r : RoleId} {x : Crossfade} (h : (s.role r).xfade = some x) (slots : Vector Word32 64) :
    s.roleSignal slots r = blend (sourceSignal slots x.old) (sourceSignal slots (s.rowSource r)) (x.k + 1) := by
  unfold State.roleSignal
  rw [h]

/-! ### Talkback, call and zone audio (R157, R163, R173) -/

theorem toList_any_id {n : Nat} (v : Vector Bool n) : v.toList.any id = true ↔ ∃ i : Fin n, v.get i = true := by
  simp only [List.any_eq_true, Vector.mem_toList_iff, Vector.mem_iff_getElem]
  constructor
  · rintro ⟨x, ⟨i, hi, rfl⟩, hx⟩; exact ⟨⟨i, hi⟩, hx⟩
  · rintro ⟨i, hi⟩; exact ⟨v.get i, ⟨i.val, i.isLt, rfl⟩, hi⟩

theorem talkActive_iff (b : FoldbackBlock) : b.talkActive = true ↔ b.talkCommand = true ∨ ∃ n, b.heldLines.get n = true := by
  unfold FoldbackBlock.talkActive
  rw [Bool.or_eq_true, toList_any_id]

section
variable {s : State} (slots : Vector Word32 64)

theorem talkAudio_member {k : FbId} {i : InputId} (hTalk : s.foldback.talkActive = true) (hMember : (s.bus k).member = true)
    (hInput : s.cast.talkin = some i) : s.talkAudio slots k = s.trimmed slots i := by
  unfold State.talkAudio
  rw [hTalk, hMember, hInput]; rfl

theorem talkAudio_silent {k : FbId} (h : s.foldback.talkActive = false ∨ (s.bus k).member = false ∨ s.cast.talkin = none) :
    s.talkAudio slots k = 0 := by
  unfold State.talkAudio
  rcases h with h | h | h
  · rw [h]; rfl
  · rw [h, Bool.and_false]; rfl
  · rw [h]; split <;> rfl

theorem callAudio_sound {c : Call} {n : SoundId} {p : PlayerId} (hSource : c.req.src = .sound n) (hPlayer : c.player = some p) :
    s.callAudio slots c = (s.reader (playerReader p)).output := by
  unfold State.callAudio
  rw [hSource, hPlayer]

theorem callAudio_page {c : Call} {n : PageId} {i : InputId} (hSource : c.req.src = .page n) (hPage : s.cast.pages.get n = some i) :
    s.callAudio slots c = s.trimmed slots i := by
  unfold State.callAudio
  simp only [hSource, hPage]

theorem callAudio_noPage {c : Call} {n : PageId} (hSource : c.req.src = .page n) (hPage : s.cast.pages.get n = none) :
    s.callAudio slots c = 0 := by
  unfold State.callAudio
  simp only [hSource, hPage]

theorem scale_zero_gain (v : Sample) : scale v 0 = 0 := by
  unfold scale; rw [mul_zero]; rfl

theorem gain_off : gain offCode = 0 := if_pos (le_refl _)

/-- What a zone takes of the relay. -/
theorem scale_relayCode (z : Zone) (relay : Sample) :
    scale relay (gain z.relayCode) = if z.relay = true then scale relay (gain (levelAdd z.level z.duck)) else 0 := by
  unfold Zone.relayCode
  split
  · rfl
  · rw [gain_off, scale_zero_gain]

theorem zoneValue_free {z : ZoneId} (h : s.holdingCall z = none) (relay : Sample) :
    s.zoneValue slots relay z = scale relay (gain (s.zone z).relayCode) := by
  unfold State.zoneValue
  rw [h]

theorem zoneValue_held {z : ZoneId} {c : Call} (h : s.holdingCall z = some c) (relay : Sample) :
    s.zoneValue slots relay z = scale relay (gain (s.zone z).relayCode) +
      scale (s.callAudio slots c) (gain (levelAdd c.req.level (s.zone z).trim)) := by
  unfold State.zoneValue
  rw [h]

end

/-! ### The output slots (R20, R205) -/

/-- What the ports, the clock and the link hold after FRAME. -/
theorem frame_kept {s : State} (slots : Vector Word32 64) (pins : Vector Bool 16) :
    (s.takeDue.computed slots pins).finish.kept = { s.kept with
      now := s.now + 1, pins := pins, ports := s.ports.frame (s.takeDue.audio slots).outputs
      clock := { s.clock with begun := s.clock.begun - 1 } } := by
  have hDue : s.takeDue.kept = s.kept := State.takeDue_kept s
  have hPorts : s.takeDue.ports = s.ports := kept_ports hDue
  have hClock : s.takeDue.clock = s.clock := kept_clock hDue
  have hNow : s.takeDue.now = s.now := kept_now hDue
  rw [(State.finish_frame _).1, computed_kept, hDue, hPorts, hClock, hNow]

/-- FRAME computes a frame, and what the ports, the clock and the link then hold. -/
theorem exec_frame_kept {s : State} (hReset : s.inReset = false) (hFrame : s.HasFrame) (slots : Vector Word32 64) (pins : Vector Bool 16) :
    ∃ t, exec (.frame slots pins) s = .next t ∧ t.kept = { s.kept with
      now := s.now + 1, pins := pins, ports := s.ports.frame (s.takeDue.audio slots).outputs
      clock := { s.clock with begun := s.clock.begun - 1 } } :=
  ⟨_, exec_frame_eq hReset hFrame slots pins, frame_kept slots pins⟩

/-- What FRAME sends, and what it forms (R16, R20, R158, R163). -/
theorem frame_outputs {s : State} (hReset : s.inReset = false) (hFrame : s.HasFrame) (slots : Vector Word32 64) (pins : Vector Bool 16) :
    ∃ t, exec (.frame slots pins) s = .next t ∧ t.now = s.now + 1 ∧ t.lines.pins = pins ∧ t.inReset = false ∧
      t.link.replies = s.link.replies ∧ t.link.rxq = s.link.rxq ∧
      t.ports.slots = s.ports.formedBefore.map slotOf ∧ t.ports.formedBefore = s.ports.formed ∧
      (∀ h : HouseId, t.ports.formed.get ⟨h.val, by omega⟩ = saturate (s.takeDue.busSum slots (.house h))) ∧
      (∀ k : FbId, t.ports.formed.get ⟨8 + k.val, by omega⟩ = saturate (s.takeDue.preOutput slots (.fb k))) ∧
      (∀ z : ZoneId, t.ports.formed.get ⟨24 + z.val, by omega⟩ =
        saturate (s.takeDue.zoneValue slots (saturate (s.takeDue.busSum slots .relay)) z)) := by
  obtain ⟨t, hExec, hKept⟩ := exec_frame_kept hReset hFrame slots pins
  have hReplies : t.link.replies = s.link.replies := congrArg (fun k : Kept => k.link.replies) hKept
  have hQueue : t.link.rxq = s.link.rxq := congrArg (fun k : Kept => k.link.rxq) hKept
  have hPorts : t.ports = s.ports.frame (s.takeDue.audio slots).outputs := congrArg Kept.ports hKept
  have hFormed : ∀ i : Fin 48, t.ports.formed.get i = (s.takeDue.audio slots).outputs.getD i.val 0 := fun i => by
    rw [hPorts]; exact get_ofFn _ _
  refine ⟨t, hExec, congrArg Kept.now hKept, congrArg Kept.pins hKept, (congrArg Kept.inReset hKept).trans hReset,
    hReplies, hQueue, congrArg PortBlock.slots hPorts,
    congrArg PortBlock.formedBefore hPorts, fun h => ?_, fun k => ?_, fun z => ?_⟩
  · rw [hFormed, outputs_house]
  · rw [hFormed, outputs_foldback]
  · rw [hFormed, outputs_zone]

end Sys2Proof.Machine

namespace Sys2Proof.Proofs

open Sys2Proof Sys2Proof.Machine

/-- Settles O19: the thresholds rise, so that the code of a peak counts those it reaches; a metering bus keeps the larger magnitude. -/
theorem peakConversion : Obligations.PeakConversion := by
  refine ⟨thresholdTable_length, fun c hLow hHigh => ?_, by decide +kernel, fun peak => ⟨fun h => ?_, fun h => ?_, fun h => ?_⟩,
    fun s t slots pins k hReset hFrame hExec => ?_⟩
  · obtain ⟨h, hThreshold⟩ := threshold_eq hLow hHigh
    rw [hThreshold]
    exact thresholdTable_rounded _ h
  · have hBelow : ¬(-179 : Int) ≤ peakCode peak := fun hc => Nat.not_le.mpr h ((threshold_le_iff (by decide) (by decide) peak).mpr hc)
    exact le_antisymm (Int.le_sub_one_of_lt (Int.not_le.mp hBelow)) (peakCode_range peak).1
  · exact le_antisymm (peakCode_range peak).2 ((threshold_le_iff (by decide) (by decide) peak).mp h)
  · have hLow := (threshold_le_iff (by decide) (by decide) peak).mp h
    have hHigh := (peakCode_range peak).2
    exact ⟨hLow, hHigh, (threshold_le_iff hLow hHigh peak).mpr (le_refl _), fun c hc hc' => (threshold_le_iff hc hc' peak).mp⟩
  · rw [exec_frame_eq hReset hFrame] at hExec
    obtain rfl := Host.Outcome.next.inj hExec
    unfold State.bus
    rw [(State.finish_frame _).2.2.2.2.1, computed_foldback, get_ofFn, FbBus.meter_frame_peak]
    rfl

/-- Settles O20: each row's place in the list of row signals holds its signal. -/
theorem rowSignals : Obligations.RowSignals := by
  intro s slots
  refine ⟨fun i => rowSignals_input s slots i, fun r hx => ?_, fun r x hx hk => ?_, fun v => ⟨Reader.output_outputs _, rowSignals_voice s slots v⟩⟩
  · rw [rowSignals_role, roleSignal_of_none hx]
    unfold State.rowSource sourceSignal
    cases (s.role r).holder with
    | none => rfl
    | some p =>
      rcases h : (s.perf p).active with _ | i
      · simp [h]
      · simp [h]; rfl
  · rw [rowSignals_role, roleSignal_of_some hx, blend_eq _ _ hk]

/-- Settles O21: the slots are those formed two frames before, and the new ones the saturated values of the state the frame finds. -/
theorem frameOutputs : Obligations.FrameOutputs := by
  refine ⟨fun s slots pins hReset hFrame => ?_, fun s slots => ⟨fun k => ⟨fun i hTalk hMember hInput => ?_, fun h => ?_⟩, fun c =>
    ⟨fun n p hSource hPlayer => ?_, fun n i hSource hPage => ?_, fun n hSource hPage => ?_⟩, fun z relay => ⟨fun h => ?_, fun id c hHolding hCall => ?_⟩⟩⟩
  · exact frame_outputs hReset hFrame slots pins
  · exact talkAudio_member slots ((talkActive_iff _).mpr hTalk) hMember hInput
  · refine talkAudio_silent slots (h.imp_left fun ⟨hCommand, hLines⟩ => ?_)
    rw [← Bool.not_eq_true, talkActive_iff]
    rintro (h | ⟨n, h⟩)
    · rw [hCommand] at h; cases h
    · rw [hLines n] at h; cases h
  · rw [callAudio_sound slots hSource hPlayer]
    exact ⟨rfl, Reader.output_outputs _⟩
  · exact callAudio_page slots hSource hPage
  · exact callAudio_noPage slots hSource hPage
  · have hFree : s.holdingCall z = none := by unfold State.holdingCall; rw [h]; rfl
    rw [zoneValue_free slots hFree, scale_relayCode]
  · have hHeld : s.holdingCall z = some c := by unfold State.holdingCall; rw [hHolding]; exact hCall
    rw [zoneValue_held slots hHeld, scale_relayCode]

end Sys2Proof.Proofs
end

section
/-! PROOFS. The clip records, their reports, and the end of a crossfade (R18, R19, R55). -/

namespace Sys2Proof.Machine

open Sys2Proof

/-! ### The record fed with a value (R19) -/

theorem Clip.feed_inside {c : Clip} {v : Sample} (h : inRange24 v = true) (hClear : c.clipped = false) : c.feed v = c := by
  simp [Clip.feed, h, hClear]

theorem Clip.feed_quiet {c : Clip} {v : Sample} (h : inRange24 v = true) (hOpen : c.clipped = true) :
    c.feed v = { c with quiet := min (c.quiet + 1) 4800 } := by
  simp [Clip.feed, h, hOpen, Config.clipQuiet]

theorem Clip.feed_opens {c : Clip} {v : Sample} (h : inRange24 v = false) (hClear : c.clipped = false) :
    c.feed v = { clipped := true, count := 1, peak := v.natAbs, quiet := 0 } := by
  simp [Clip.feed, h, hClear]

theorem Clip.feed_extends {c : Clip} {v : Sample} (h : inRange24 v = false) (hOpen : c.clipped = true) :
    c.feed v = { clipped := true, count := min (c.count + 1) 65535, peak := max c.peak v.natAbs, quiet := 0 } := by
  obtain ⟨clipped, count, peak, quiet⟩ := c
  obtain rfl : clipped = true := hOpen
  simp [Clip.feed, h, bump, Config.countTop]

/-! ### The CLIP reports of a frame -/

/-- A column's feeding replaces no report of another column. -/
theorem State.feedClip_stands (s : State) (e : Bus × Sample) : s.StandsBut (· = .clip e.1) (s.feedClip e) := by
  have hSet : s.StandsBut (· = .clip e.1) (s.setClip e.1 ((s.clip e.1).feed e.2)) := (State.StandsBut.refl s).congr rfl
  unfold State.feedClip
  dsimp only
  split
  · exact hSet.raise rfl _
  · exact hSet

theorem State.feedClip_disabled (s : State) (e : Bus × Sample) : (s.feedClip e).link.disabled = s.link.disabled :=
  kept_disabled (State.feedClip_frame s e).1

/-- The report of an episode that begins. -/
def clipOpened (bus : Bus) (v : Sample) : String := "!CLIP " ++ busText bus ++ " state=clipped frames=1 peak=" ++ natText v.natAbs

theorem State.feedClip_raised {s s' : State} (hDisabled : s'.link.disabled = s.link.disabled) {bus : Bus} {v : Sample}
    (hOut : inRange24 v = false) (hClear : (s'.clip bus).clipped = false) : s.Raised (s'.feedClip (bus, v)) (.clip bus) (clipOpened bus v) := by
  have hText : "!CLIP " ++ clipText bus { clipped := true, count := 1, peak := v.natAbs, quiet := 0 } = "" ++ (clipOpened bus v ++ "") := by
    simp [clipText, clipOpened, show natText 1 = "1" from rfl, String.append_assoc]
  unfold State.feedClip State.raiseClip
  simp only [Clip.feed_opens hOut hClear, hClear, Bool.not_false, Bool.and_self, if_true, hText]
  exact State.raised_raise (show (s'.setClip bus _).link.disabled = _ from hDisabled) _ _ _ _

/-- The feeding of every column raises CLIP of the one whose episode begins. -/
theorem State.feedClips_raised {s : State} {v : Bus → Sample} {bus : Bus} (hOut : inRange24 (v bus) = false) {l : List Bus} (hl : l.Nodup)
    (hMem : bus ∈ l) {s' : State} (hDisabled : s'.link.disabled = s.link.disabled) (hClear : (s'.clip bus).clipped = false) :
    s.Raised ((l.map fun b => (b, v b)).foldl State.feedClip s') (.clip bus) (clipOpened bus (v bus)) := by
  induction l generalizing s' with
  | nil => cases hMem
  | cons b l ih =>
    obtain ⟨hHead, hTail⟩ := List.nodup_cons.mp hl
    rw [List.map_cons, List.foldl_cons]
    rcases List.mem_cons.mp hMem with rfl | hMem
    · have hRaised := State.feedClip_raised hDisabled hOut hClear
      refine hRaised.stands (State.StandsBut.foldl (K := fun key => ∃ b ∈ l, key = .clip b) (.refl _) fun e t he => ?_) ?_
      · obtain ⟨c, hc, rfl⟩ := List.mem_map.mp he
        exact (State.feedClip_stands t _).mono fun key hKey => ⟨c, hc, hKey⟩
      · rintro ⟨c, hc, hEq⟩
        cases hEq
        exact hHead hc
    · have hOther : b ≠ bus := fun h => hHead (h ▸ hMem)
      refine ih hTail hMem ((State.feedClip_disabled _ _).trans hDisabled) ?_
      rw [clip_feedClip, if_neg hOther]
      exact hClear

theorem counted_clip (s : State) (pins : Vector Bool 16) (bus : Bus) : (s.counted pins).clip bus = s.clip bus := by
  unfold State.clip
  rw [counted_matrix, fadeFrame_clips]

theorem meterFrame_link (s u : State) (slots : Vector Word32 64) :
    (s.meterFrame (u.audio slots)).link = ((allBuses.map fun b => (b, u.preOutput slots b)).foldl State.feedClip s).link := by
  have hFeeds : ∀ (l : List (Bus × Sample)) (f : FoldbackBlock → FoldbackBlock), ((l.foldl State.feedClip s).onFoldback f).link =
      (l.foldl State.feedClip s).link := fun _ _ => rfl
  unfold State.meterFrame
  rw [hFeeds, audio_eq, zip_map_self]

/-- A frame reports an episode that begins in it. -/
theorem computed_raised {s u : State} (hDisabled : u.link.disabled = s.link.disabled) (slots : Vector Word32 64) (pins : Vector Bool 16)
    {bus : Bus} (hOut : inRange24 (u.preOutput slots bus) = false) (hClear : (u.clip bus).clipped = false) :
    s.Raised (u.computed slots pins) (.clip bus) (clipOpened bus (u.preOutput slots bus)) := by
  have hCounted : (u.counted pins).link.disabled = s.link.disabled := by
    have hAll : ∀ t : State, t.link.disabled = t.kept.link.disabled := fun _ => rfl
    rw [hAll, counted_kept]
    exact hDisabled
  have hFeeds := State.feedClips_raised (v := u.preOutput slots) hOut allBuses_nodup (mem_allBuses bus) hCounted
    ((congrArg Clip.clipped (counted_clip u pins bus)).trans hClear)
  refine hFeeds.congr (congrArg LinkBlock.reports ?_)
  rw [computed_eq]
  simp only [State.onClock_link, State.onFetch_link, State.onPorts_link, meterFrame_link]

theorem finish_clip (s : State) (bus : Bus) : s.finish.clip bus = s.clip bus := by
  unfold State.clip
  rw [(State.finish_frame s).2.1]

theorem State.preOutput_of {s : State} {slots : Vector Word32 64} {bus : Bus} {v : Sample}
    (hHouse : ((∃ h, bus = .house h) ∨ bus = .relay) → v = s.busSum slots bus)
    (hFb : ∀ k, bus = .fb k → v = s.foldbackValue k (s.busSum slots bus) (s.talkAudio slots k)) : s.preOutput slots bus = v := by
  cases bus with
  | house h => exact (hHouse (.inl ⟨h, rfl⟩)).symm
  | fb k => exact (hFb k rfl).symm
  | relay => exact (hHouse (.inr rfl)).symm

/-! ### CROSSFADE_END and CLIP_CLEAR -/

theorem State.crossfadeDone_due {s : State} {r : RoleId} {x : Crossfade} (hx : (s.role r).xfade = some x) (hDue : 240 ≤ x.k) :
    s.crossfadeDone r = s.onRole r fun y => { y with xfade := none } := by
  simp only [State.crossfadeDone, hx]
  exact if_pos hDue

theorem State.crossfadeDone_early {s : State} {r : RoleId} (h : ∀ x, (s.role r).xfade = some x → x.k < 240) : s.crossfadeDone r = s := by
  unfold State.crossfadeDone
  split
  · rfl
  · rename_i x hx
    exact if_neg (Nat.not_le.mpr (h x hx))

theorem State.raise_eq (s : State) (k : ReportKey) (x : String) : s.raise k x = { s with link := (s.raise k x).link } := by
  unfold State.raise
  split <;> rfl

theorem State.clearClip_due {s : State} {bus : Bus} (hOpen : (s.clip bus).clipped = true) (hDue : 4800 ≤ (s.clip bus).quiet) :
    s.clearClip bus = (s.setClip bus {}).raise (.clip bus) ("" ++ (("!CLIP " ++ busText bus ++ " state=clear frames=" ++
      natText (s.clip bus).count ++ " peak=" ++ natText (s.clip bus).peak) ++ "")) := by
  unfold State.clearClip State.raiseClip
  rw [if_pos ⟨hOpen, hDue⟩]
  simp [clipText, String.append_assoc]

theorem State.clearClip_early {s : State} {bus : Bus} (h : (s.clip bus).clipped = false ∨ (s.clip bus).quiet < 4800) : s.clearClip bus = s := by
  unfold State.clearClip
  refine if_neg fun hDue => ?_
  obtain ⟨hOpen, hQuiet⟩ := hDue
  rcases h with h | h
  · rw [h] at hOpen; cases hOpen
  · exact Nat.not_lt.mpr hQuiet h

end Sys2Proof.Machine

namespace Sys2Proof.Proofs

open Sys2Proof Sys2Proof.Machine

/-- Settles O24: FRAME feeds each column's record with the value it computes, and the two events end what has run its frames. -/
theorem crossfadeAndClipEnd : Obligations.CrossfadeAndClipEnd := by
  refine ⟨fun s t u slots pins bus v hReset hFrame hu hExec hHouse hFb => ?_, fun s r hReset hCalm => ?_, fun s bus hReset hCalm => ?_⟩
  · obtain rfl := State.preOutput_of hHouse hFb
    rw [exec_frame_eq hReset hFrame, ← hu] at hExec
    obtain rfl := Host.Outcome.next.inj hExec
    have hClip : (u.computed slots pins).finish.clip bus = (u.clip bus).feed (u.preOutput slots bus) := by
      rw [finish_clip, computed_clip]
    have hDisabled : u.link.disabled = s.link.disabled := hu ▸ kept_disabled s.takeDue_kept
    refine ⟨fun hIn hClear => ?_, fun hIn hOpen => ?_, fun hOut hClear => ⟨?_, ?_⟩, fun hOut hOpen => ?_⟩
    · rw [hClip, Clip.feed_inside hIn hClear]
    · rw [hClip, Clip.feed_quiet hIn hOpen]
    · rw [hClip, Clip.feed_opens hOut hClear]
    · exact (computed_raised hDisabled slots pins hOut hClear).stands (State.finish_stands _) id
    · rw [hClip, Clip.feed_extends hOut hOpen]
  · obtain ⟨hSettled, hPrompt⟩ := hCalm
    rw [exec_crossfadeEnd, laterEvent_running hReset hPrompt]
    refine ⟨fun x hx hDue => ?_, fun h => ?_⟩
    · have hDone : (s.onRole r fun y => { y with xfade := none }).Settled := settled_congr hSettled rfl rfl rfl
      rw [State.crossfadeDone_due hx hDue, finish_of_settled hDone]
      rfl
    · rw [State.crossfadeDone_early h, finish_of_settled hSettled]
  · obtain ⟨hSettled, hPrompt⟩ := hCalm
    rw [exec_clipClear, laterEvent_running hReset hPrompt]
    refine ⟨fun hOpen hDue => ?_, fun h => ?_⟩
    · have hCleared : (s.setClip bus {}).Settled := settled_congr hSettled rfl rfl rfl
      rw [State.clearClip_due hOpen hDue, finish_of_settled (raise_settled hCleared _ _)]
      exact ⟨_, rfl, State.raise_link _ _ _, State.raise_eq _ _ _, State.raised_raise (s := s) (t := s.setClip bus {}) rfl _ _ _ _⟩
    · rw [State.clearClip_early h, finish_of_settled hSettled]

end Sys2Proof.Proofs
end

section
/-! PROOFS. The cue engine while fades and starts end: the marks of the engine stand, an `Inst` told of an item's end counts it down,
and a CUE report raised carries STANDBY_READY as it stands (R31, R108 to R110, R118, R119). -/

namespace Sys2Proof.Machine

open Sys2Proof

/-- A state that keeps what the shared operations keep differs in the blocks they change alone. -/
theorem State.eq_at {s t : State} (hKept : t.kept = s.kept) : t = { s with
    link := t.link, matrix := t.matrix, fades := t.fades, cast := t.cast, mic := t.mic, engine := t.engine, fetch := t.fetch,
    foldback := t.foldback, router := t.router, lines := t.lines } := by
  have hPorts := kept_ports hKept
  have hClock := kept_clock hKept
  have hCues := kept_cues hKept
  have hReset := kept_inReset hKept
  have hNow := kept_now hKept
  have hPending := kept_pending hKept
  obtain ⟨⟩ := s
  obtain ⟨⟩ := t
  simp only at *
  simp only [*]

/-! ### The marks of the engine -/

/-- What only the engine's own commands and a firing change. -/
structure Marks where
  halted : Bool
  standby : Option Nat
  lastFired : Option Nat
  stopAllMs : Nat
  fired : Nat
  nextStamp : Nat
  primeDue : Bool
  firing : Option InstSlot

def State.marks (s : State) : Marks :=
  { halted := s.engine.halted, standby := s.engine.standby, lastFired := s.engine.lastFired, stopAllMs := s.engine.stopAllMs,
    fired := s.engine.fired, nextStamp := s.engine.nextStamp, primeDue := s.engine.primeDue, firing := s.engine.firing }

section
variable {s t : State} (h : t.marks = s.marks)
include h

theorem marks_halted : t.engine.halted = s.engine.halted := congrArg Marks.halted h
theorem marks_standby : t.engine.standby = s.engine.standby := congrArg Marks.standby h
theorem marks_lastFired : t.engine.lastFired = s.engine.lastFired := congrArg Marks.lastFired h
theorem marks_stopAllMs : t.engine.stopAllMs = s.engine.stopAllMs := congrArg Marks.stopAllMs h
theorem marks_fired : t.engine.fired = s.engine.fired := congrArg Marks.fired h
theorem marks_nextStamp : t.engine.nextStamp = s.engine.nextStamp := congrArg Marks.nextStamp h
theorem marks_primeDue : t.engine.primeDue = s.engine.primeDue := congrArg Marks.primeDue h
theorem marks_firing : t.engine.firing = s.engine.firing := congrArg Marks.firing h

end

theorem marks_congr {s t : State} (h : t.engine = s.engine) : t.marks = s.marks := by
  unfold State.marks
  rw [h]

section
variable (s : State)

@[simp] theorem State.marks_raise (key : ReportKey) (text : String) : (s.raise key text).marks = s.marks := marks_congr (by simp)
@[simp] theorem State.marks_onFades (f : FadeBlock → FadeBlock) : (s.onFades f).marks = s.marks := rfl
@[simp] theorem State.marks_onFetch (f : FetchBlock → FetchBlock) : (s.onFetch f).marks = s.marks := rfl
@[simp] theorem State.marks_onReader (r : ReaderId) (f : Reader → Reader) : (s.onReader r f).marks = s.marks := rfl

theorem State.marks_onEngine (f : EngineBlock → EngineBlock) (hf : ({ s with engine := f s.engine } : State).marks = s.marks) :
    (s.onEngine f).marks = s.marks := hf

@[simp] theorem State.marks_raiseCue (e : CueEvent) : (s.raiseCue e).marks = s.marks := by
  unfold State.marks
  rw [raiseCue_engine]

@[simp] theorem State.marks_setChain (c : Chain) : (s.setChain c).marks = s.marks := by
  have hSet : ∀ (u : State) (e : CueEvent), ((u.onEngine fun b => { b with chain := some c }).raiseCue e).marks = u.marks := fun u e =>
    (State.marks_raiseCue _ e).trans rfl
  unfold State.setChain
  dsimp only
  split
  · exact hSet _ _
  · exact (hSet _ _).trans (State.marks_raiseCue _ _)

@[simp] theorem State.marks_endLink (i : Inst) : (s.endLink i).marks = s.marks := by
  unfold State.endLink
  split
  · rfl
  · split
    · split
      · exact State.marks_setChain s _
      · exact State.marks_raiseCue s _
    · exact State.marks_raiseCue s _

@[simp] theorem State.marks_completeInst (i : Inst) (atFiring : Bool) : (s.completeInst i atFiring).marks = s.marks := by
  unfold State.completeInst
  dsimp only
  rw [State.marks_endLink]
  split
  · rfl
  · exact (State.marks_raiseCue _ _).trans rfl

@[simp] theorem State.marks_ownerDone (o : Option InstSlot) : (s.ownerDone o).marks = s.marks := by
  cases o with
  | none => rfl
  | some slot =>
    show (s.instDone slot).marks = s.marks
    unfold State.instDone
    split
    · rfl
    · dsimp only
      split
      · exact (State.marks_completeInst _ _ _).trans rfl
      · rfl

@[simp] theorem State.marks_ownerAdd (o : Option InstSlot) : (s.ownerAdd o).marks = s.marks := by
  cases o <;> rfl

@[simp] theorem State.marks_removeFade (x : Target) : (s.removeFade x).marks = s.marks := by
  unfold State.removeFade
  split
  · rfl
  · exact (State.marks_ownerDone _ _).trans rfl

@[simp] theorem State.marks_setLevelOf (x : Target) (c : LevelCode) : (s.setLevelOf x c).marks = s.marks := by
  cases x <;> rfl

@[simp] theorem State.marks_snapLevel (x : Target) (c : LevelCode) : (s.snapLevel x c).marks = s.marks := by
  simp [State.snapLevel]

@[simp] theorem State.marks_poolFullSnap (x : Target) (c : LevelCode) : (s.poolFullSnap x c).marks = s.marks := by
  simp [State.poolFullSnap]

@[simp] theorem State.marks_requestFade (x : Target) (c : LevelCode) (ms : Nat) (o : Option InstSlot) (b : Bool) :
    (s.requestFade x c ms o b).marks = s.marks := by
  unfold State.requestFade
  dsimp only
  split <;> simp

@[simp] theorem State.marks_raiseReader (r : ReaderId) (event : String) : (s.raiseReader r event).marks = s.marks := by
  unfold State.raiseReader
  dsimp only
  split <;> simp

@[simp] theorem State.marks_callEvaluation (v : VoiceId) : (s.callEvaluation v).marks = s.marks := by
  unfold State.callEvaluation
  split <;> rfl

@[simp] theorem State.marks_clearRing (r : ReaderId) : (s.clearRing r).marks = s.marks := rfl

@[simp] theorem State.marks_enterIdle (r : ReaderId) (event : String) : (s.enterIdle r event).marks = s.marks := by
  unfold State.enterIdle
  dsimp only
  split <;> simp

@[simp] theorem State.marks_prime (v : VoiceId) (n : SoundId) : (s.prime v n).marks = s.marks := by
  unfold State.prime
  split <;> simp

@[simp] theorem State.marks_releaseUnwanted (v : VoiceId) : (s.releaseUnwanted v).marks = s.marks := by
  unfold State.releaseUnwanted
  split <;> simp

@[simp] theorem State.marks_primeWanted (e : VoiceId × SoundId) : (s.primeWanted e).marks = s.marks := by
  unfold State.primeWanted
  split <;> simp

@[simp] theorem State.marks_evaluatePriming : s.evaluatePriming.marks = s.marks := by
  have hEnd : ∀ u : State, (u.onEngine fun b => { b with evalDue := false }).marks = u.marks := fun _ => rfl
  unfold State.evaluatePriming
  dsimp only
  rw [hEnd, foldl_keeps State.marks _ (by simp), foldl_keeps State.marks _ (by simp)]

@[simp] theorem State.marks_settleReady : s.settleReady.marks = s.marks := by
  have hEnd : ∀ u : State, (u.onEngine fun b => { b with readyShown := s.standbyReady, opEvent := none }).marks = u.marks := fun _ => rfl
  unfold State.settleReady
  dsimp only
  rw [hEnd]
  (repeat' split) <;> simp

@[simp] theorem State.marks_finish : s.finish.marks = s.marks := by
  unfold State.finish
  split <;> simp

end

/-! ### The standby cue stands with the marks -/

section
variable {s t : State}

theorem standbyPlays_congr (h1 : t.engine.standby = s.engine.standby) (h2 : t.cues = s.cues) : t.standbyPlays = s.standbyPlays := by
  unfold State.standbyPlays State.standbyCue State.cueAt
  rw [h1, h2]

theorem standbyPlays_of (hMarks : t.marks = s.marks) (hKept : t.kept = s.kept) : t.standbyPlays = s.standbyPlays :=
  standbyPlays_congr (marks_standby hMarks) (kept_cues hKept)

theorem standbyReady_of (hMarks : t.marks = s.marks) (hKept : t.kept = s.kept) (hReaders : t.fetch.readers = s.fetch.readers) :
    t.standbyReady = s.standbyReady :=
  standbyReady_congr (marks_standby hMarks) (kept_cues hKept) hReaders

/-! ### An `Inst` told (R108, R109) -/

/-- The chain an END link leaves: its own where its chain target is the standby cue, and otherwise the one there is. -/
def Inst.chainLeft (i : Inst) (b : EngineBlock) : Option Chain :=
  match i.endLink, i.chainTarget with
  | some ms, some n =>
    if b.standby = some n then some { target := n, ms := ms, elapsed := 0, fromStart := false, setBy := i.cue } else b.chain
  | _, _ => b.chain

theorem setChain_engine (s : State) (c : Chain) :
    (s.setChain c).engine = { s.engine with chain := some c, opEvent := (s.setChain c).engine.opEvent } := by
  have hSet : ∀ (u : State) (e : CueEvent), ((u.onEngine fun b => { b with chain := some c }).raiseCue e).engine =
      { u.engine with chain := some c
                      opEvent := ((u.onEngine fun b => { b with chain := some c }).raiseCue e).engine.opEvent } := fun u e => by
    rw [raiseCue_engine]
    rfl
  unfold State.setChain
  dsimp only
  split
  · exact hSet _ _
  · rw [hSet, raiseCue_engine]

theorem endLink_engine (s : State) (i : Inst) :
    (s.endLink i).engine = { s.engine with chain := i.chainLeft s.engine, opEvent := (s.endLink i).engine.opEvent } := by
  unfold Inst.chainLeft
  cases hLink : i.endLink with
  | none =>
    have hEnd : s.endLink i = s := by simp only [State.endLink, hLink]
    rw [hEnd]
  | some ms =>
    cases hTarget : i.chainTarget with
    | none =>
      have hEnd : s.endLink i = s.raiseCue { name := "chainvoid" } := by simp only [State.endLink, hLink, hTarget]
      rw [hEnd, raiseCue_engine]
    | some n =>
      by_cases hStandby : s.engine.standby = some n
      · have hEnd : s.endLink i = s.setChain { target := n, ms := ms, elapsed := 0, fromStart := false, setBy := i.cue } := by
          simp only [State.endLink, hLink, hTarget, hStandby, if_true]
        dsimp only
        rw [if_pos hStandby, hEnd]
        exact setChain_engine s _
      · have hEnd : s.endLink i = s.raiseCue { name := "chainvoid", cue := some n } := by
          simp only [State.endLink, hLink, hTarget, hStandby, if_false]
        dsimp only
        rw [if_neg hStandby, hEnd, raiseCue_engine]

theorem told_of_none {b : EngineBlock} {slot : InstSlot} (h : (b.insts.find? fun i => i.slot = slot) = none) : b.told (some slot) = b := by
  simp only [EngineBlock.told, Option.bind_some, h]

theorem told_of_some {b : EngineBlock} {slot : InstSlot} {i : Inst} (h : (b.insts.find? fun i => i.slot = slot) = some i) :
    b.told (some slot) = if 1 < i.count then
        { b with insts := b.insts.map fun j => if j.slot = i.slot then { j with count := i.count - 1 } else j }
      else { b with insts := b.insts.filter (fun j => j.slot ≠ i.slot), chain := i.chainLeft b } := by
  simp only [EngineBlock.told, Option.bind_some, h, Inst.chainLeft] <;> rfl

/-- The last item of an `Inst` takes its record out of the table, whatever count is set before. -/
theorem filter_setCount (l : List Inst) (slot : InstSlot) (n : Nat) :
    ((l.map fun j => if j.slot = slot then { j with count := n } else j).filter fun j => j.slot ≠ slot) =
      l.filter fun j => j.slot ≠ slot := by
  rw [List.filter_map]
  refine (List.map_congr_left fun j hj => ?_).trans ((List.map_id _).trans (List.filter_congr fun j _ => ?_))
  · have hOther : j.slot ≠ slot := fun h => by simp [h] at hj
    simp [hOther]
  · by_cases h : j.slot = slot <;> simp [h]

theorem completeInst_engine (s : State) (i : Inst) : (s.completeInst i false).engine =
    { s.engine with insts := s.engine.insts.filter (fun j => j.slot ≠ i.slot), chain := i.chainLeft s.engine,
                    opEvent := (s.completeInst i false).engine.opEvent } := by
  unfold State.completeInst
  simp only [Bool.false_eq_true, if_false]
  rw [endLink_engine, raiseCue_engine]
  rfl

/-- An owner told of an item's end changes the engine as R108 and R109 say, but for the report it holds. -/
theorem ownerDone_told (hFiring : s.engine.firing = none) (o : Option InstSlot) :
    (s.ownerDone o).engine = { s.engine.told o with opEvent := (s.ownerDone o).engine.opEvent } := by
  cases o with
  | none => rfl
  | some slot =>
    have hDone : s.ownerDone (some slot) = s.instDone slot := rfl
    rw [hDone]
    cases hInst : s.instAt slot with
    | none =>
      have hStands : s.instDone slot = s := by simp only [State.instDone, hInst]
      rw [hStands, told_of_none hInst]
    | some i =>
      obtain ⟨-, rfl⟩ := instAt_eq hInst
      rw [told_of_some hInst]
      by_cases hMany : 1 < i.count
      · have hStands : s.instDone i.slot = s.setCount i.slot (i.count - 1) := by
          simp only [State.instDone, hInst]
          rw [if_neg (by omega)]
        rw [if_pos hMany, hStands]
        rfl
      · have hLast : s.instDone i.slot = (s.setCount i.slot (i.count - 1)).completeInst { i with count := i.count - 1 } false := by
          have hFires : (s.setCount i.slot (i.count - 1)).engine.firing ≠ some i.slot := by
            show s.engine.firing ≠ _
            rw [hFiring]
            exact fun h => by cases h
          simp only [State.instDone, hInst]
          rw [if_pos ⟨by omega, hFires⟩]
        have hInsts : ((s.setCount i.slot (i.count - 1)).engine.insts.filter fun j => j.slot ≠ i.slot) =
            s.engine.insts.filter fun j => j.slot ≠ i.slot := filter_setCount _ _ _
        rw [if_neg hMany, hLast, completeInst_engine, hInsts]
        rfl

theorem ownerDone_eq (s : State) (o : Option InstSlot) :
    s.ownerDone o = { s with link := (s.ownerDone o).link, engine := (s.ownerDone o).engine } := by
  obtain ⟨hKept, hMatrix, hFades, hCast, hMic, hFetch, hFoldback, hRouter, hLines⟩ := s.ownerDone_frame o
  exact (State.eq_at hKept).trans (by simp only [hMatrix, hFades, hCast, hMic, hFetch, hFoldback, hRouter, hLines])

end

end Sys2Proof.Machine
end

section
/-! PROOFS. The end of an operation that leaves STANDBY_READY as it was, and the fades of crosspoints: LEVEL, a LEVEL action at a
firing, and what each request leaves (R21, R25, R34, R35, R104, R118). -/

namespace Sys2Proof.Machine

open Sys2Proof

/-! ### STANDBY_READY stands as shown (R118) -/

/-- STANDBY_READY is as last reported, in the CUE report held too, and an evaluation is called for or not. -/
structure State.Shown (due : Bool) (s : State) : Prop where
  due : s.engine.evalDue = due
  ready : s.engine.readyShown = s.standbyReady
  event : ∀ r, s.engine.opEvent = some r → r.ready = s.standbyReady

section
variable {s t : State} {due : Bool}

theorem State.Settled.shown (h : s.Settled) : s.Shown false := by
  obtain ⟨hDue, hEvent, hReady⟩ := h
  exact ⟨hDue, hReady, fun r hr => by rw [hEvent] at hr; cases hr⟩

theorem State.Shown.settleReady (h : s.Shown due) : s.settleReady = s.onEngine fun b => { b with opEvent := none } := by
  have hEnd : ∀ b : EngineBlock, b.readyShown = s.standbyReady →
      ({ b with readyShown := s.standbyReady, opEvent := none } : EngineBlock) = { b with opEvent := none } := fun b hb => by rw [← hb]
  have hSettled : s.settleReady = s.onEngine fun b => { b with readyShown := s.standbyReady, opEvent := none } := by
    unfold State.settleReady
    dsimp only
    congr 1
    split
    · rename_i r hr
      rw [if_pos (h.event r hr)]
    · rw [if_pos h.ready.symm]
  exact hSettled.trans (congrArg (fun b : EngineBlock => ({ s with engine := b } : State)) (hEnd _ h.ready))

/-- An operation that leaves STANDBY_READY ends with the CUE report it raised no longer held, and nothing else. -/
theorem State.Shown.finish (h : s.Shown false) : s.finish = s.onEngine fun b => { b with opEvent := none } := by
  unfold State.finish
  rw [h.due, if_neg (by decide), h.settleReady]

theorem State.Shown.congr (h : s.Shown due) (hDue : t.engine.evalDue = s.engine.evalDue) (hShown : t.engine.readyShown = s.engine.readyShown)
    (hEvent : t.engine.opEvent = s.engine.opEvent) (hReady : t.standbyReady = s.standbyReady) : t.Shown due :=
  ⟨hDue.trans h.due, by rw [hShown, hReady]; exact h.ready, fun r hr => by rw [hReady]; exact h.event r (hEvent ▸ hr)⟩

/-- A change outside the engine, the cue list and the readers. -/
theorem State.Shown.outside (h : s.Shown due) (hEngine : t.engine = s.engine) (hCues : t.cues = s.cues)
    (hReaders : t.fetch.readers = s.fetch.readers) : t.Shown due :=
  h.congr (by rw [hEngine]) (by rw [hEngine]) (by rw [hEngine]) (standbyReady_congr (by rw [hEngine]) hCues hReaders)

theorem State.Shown.raise (h : s.Shown due) (key : ReportKey) (text : String) : (s.raise key text).Shown due :=
  h.outside (by simp) (by simp) (by simp)

theorem State.Shown.raiseCue (h : s.Shown due) (e : CueEvent) : (s.raiseCue e).Shown due := by
  refine ⟨?_, ?_, fun r hr => ?_⟩
  · rw [raiseCue_engine]; exact h.due
  · rw [raiseCue_engine, raiseCue_standbyReady]; exact h.ready
  · rw [raiseCue_engine] at hr
    rw [raiseCue_standbyReady, ← Option.some.inj hr]
    rfl

theorem State.Shown.setChain (h : s.Shown due) (c : Chain) : (s.setChain c).Shown due := by
  have hSet : ∀ u : State, u.Shown due → (u.onEngine fun b => { b with chain := some c }).Shown due := fun u hu => hu.congr rfl rfl rfl rfl
  unfold State.setChain
  dsimp only
  split
  · exact (hSet _ h).raiseCue _
  · exact (hSet _ (h.raiseCue _)).raiseCue _

theorem State.Shown.endLink (h : s.Shown due) (i : Inst) : (s.endLink i).Shown due := by
  unfold State.endLink
  split
  · exact h
  · split
    · split
      · exact h.setChain _
      · exact h.raiseCue _
    · exact h.raiseCue _

theorem State.Shown.ownerDone (h : s.Shown due) (o : Option InstSlot) : (s.ownerDone o).Shown due := by
  have hCount : ∀ slot n, (s.setCount slot n).Shown due := fun slot n => h.congr rfl rfl rfl rfl
  have hRemove : ∀ (u : State) slot, u.Shown due → (u.removeInst slot).Shown due := fun u slot hu => hu.congr rfl rfl rfl rfl
  cases o with
  | none => exact h
  | some slot =>
    show (s.instDone slot).Shown due
    unfold State.instDone
    split
    · exact h
    · dsimp only
      split
      · unfold State.completeInst
        dsimp only
        rw [if_neg (by decide)]
        exact ((hRemove _ _ (hCount _ _)).raiseCue _).endLink _
      · exact hCount _ _

theorem State.Shown.ownerAdd (h : s.Shown due) (o : Option InstSlot) : (s.ownerAdd o).Shown due := by
  cases o with
  | none => exact h
  | some slot => exact h.congr rfl rfl rfl rfl

theorem State.Shown.removeFade (h : s.Shown due) (x : Target) : (s.removeFade x).Shown due := by
  have hDrop : (s.dropFade x).Shown due := h.outside rfl rfl rfl
  unfold State.removeFade
  split
  · exact h
  · exact hDrop.ownerDone _

theorem State.Shown.setXpt (h : s.Shown due) (row : Row) (bus : Bus) (c : LevelCode) : (s.setXpt row bus c).Shown due := h.outside rfl rfl rfl

theorem State.Shown.requestXpt (h : s.Shown due) (row : Row) (bus : Bus) (c : LevelCode) (ms : Nat) (o : Option InstSlot) (b : Bool) :
    (s.requestFade (.xpt row bus) c ms o b).Shown due := by
  unfold State.requestFade
  dsimp only
  split
  · refine State.Shown.ownerAdd (State.Shown.ownerDone ?_ _) _
    exact h.outside rfl rfl rfl
  · exact h
  · refine State.Shown.ownerAdd ?_ _
    exact h.outside rfl rfl rfl
  · refine State.Shown.raise ?_ _ _
    exact h.outside rfl rfl rfl

end

/-! ### What an owner told leaves -/

section
variable {s : State}

/-- Any CUE report begins with its event. -/
theorem raiseCue_raised {s t : State} (h : t.link.disabled = s.link.disabled) (e : CueEvent) : s.Raised (t.raiseCue e) .cue "!CUE event=" := by
  have hText : (t.cueReport e).text (t.cueReport e).ready = "" ++ ("!CUE event=" ++ (e.name ++ (" cue=" ++ (optText cueText e.cue ++
      (" slot=" ++ (optText slotText e.slot ++ (" " ++ (t.engineHead ++ (yesNo (t.cueReport e).ready ++ (t.cueReport e).tail))))))))) := by
    simp [CueReport.text, State.cueReport, String.append_assoc]
  unfold State.raiseCue
  dsimp only
  rw [hText]
  exact State.raised_raise (s := s) (t := t.onEngine fun b => { b with opEvent := some (t.cueReport e) }) h _ _ _ _

theorem told_none (b : EngineBlock) : b.told none = b := by
  simp only [EngineBlock.told, Option.bind_none]

/-- The engine told of an item's end differs in its instances and its chain alone. -/
theorem told_eq (b : EngineBlock) (o : Option InstSlot) : b.told o = { b with insts := (b.told o).insts, chain := (b.told o).chain } := by
  cases o with
  | none => rw [told_none]
  | some slot =>
    cases h : b.insts.find? fun i => i.slot = slot with
    | none => rw [told_of_none h]
    | some i =>
      rw [told_of_some h]
      split <;> rfl

theorem told_idle {b : EngineBlock} (h : b.opEvent = none) (o : Option InstSlot) : { b.told o with opEvent := none } = b.told o := by
  rw [told_eq b o, h]

/-! ### The requests of the fade engine (R25, R34, R35) -/

/-- The owner of the record on a target. -/
def State.ownerOf (s : State) (x : Target) : Option InstSlot := (s.fadeOf x).bind (·.owner)

theorem removeFade_eq (x : Target) : s.removeFade x = (s.dropFade x).ownerDone (s.ownerOf x) := by
  have hFree : s.fadeOf x = none → s.dropFade x = s := fun h => by
    have hAll : s.fades.pool.filter (fun f => f.target ≠ x) = s.fades.pool :=
      List.filter_eq_self.mpr fun f hf => decide_eq_true (State.fadeOf_eq_none.mp h f hf)
    unfold State.dropFade State.onFades
    dsimp only
    rw [hAll]
  unfold State.ownerOf State.removeFade
  cases h : s.fadeOf x with
  | none => exact (hFree h).symm
  | some f => rfl

theorem removeFade_fades (x : Target) : (s.removeFade x).fades = (s.dropFade x).fades := by
  rw [removeFade_eq, (State.ownerDone_frame _ _).2.2.1]

theorem snapLevel_fades (x : Target) (c : LevelCode) :
    (s.snapLevel x c).fades = { s.fades with pool := s.fades.pool.filter fun f => f.target ≠ x } := by
  unfold State.snapLevel
  rw [setLevelOf_fades, removeFade_fades]
  rfl

theorem snapLevel_told (hFiring : s.engine.firing = none) (x : Target) (c : LevelCode) :
    (s.snapLevel x c).engine = { s.engine.told (s.ownerOf x) with opEvent := (s.snapLevel x c).engine.opEvent } := by
  have hEngine : (s.snapLevel x c).engine = (s.removeFade x).engine := by
    unfold State.snapLevel
    cases x <;> rfl
  rw [hEngine, removeFade_eq]
  exact ownerDone_told (s := s.dropFade x) hFiring _

section
variable {x : Target} {c : LevelCode} (ms : Nat) (o : Option InstSlot) (b : Bool)

theorem requestFade_replaced (h : (s.fadeOf x).isSome) : s.requestFade x c ms o b =
    ((s.onFades fun p => { p with pool := p.pool.map fun f => if f.target = x then newFade x (s.levelOf x) c ms o b else f }).ownerDone
      (s.ownerOf x)).ownerAdd o := by
  have hCase : s.fadeCase x c = .replaced := if_pos h
  simp only [State.requestFade, hCase]
  rfl

theorem requestFade_ended (h : s.fadeOf x = none) (hLevel : s.levelOf x = c) : s.requestFade x c ms o b = s := by
  have hCase : s.fadeCase x c = .ended := by
    unfold State.fadeCase
    rw [h, if_neg (by decide), if_pos hLevel]
  simp only [State.requestFade, hCase]

theorem requestFade_made (h : s.fadeOf x = none) (hLevel : s.levelOf x ≠ c) (hRoom : s.fades.pool.length < 256) :
    s.requestFade x c ms o b = (s.onFades fun p => { p with pool := p.pool ++ [newFade x (s.levelOf x) c ms o b] }).ownerAdd o := by
  have hCase : s.fadeCase x c = .made := by
    unfold State.fadeCase
    rw [h, if_neg (by decide), if_neg hLevel]
    exact if_pos hRoom
  simp only [State.requestFade, hCase]
  rfl

theorem requestFade_snapped (h : s.fadeOf x = none) (hLevel : s.levelOf x ≠ c) (hFull : 256 ≤ s.fades.pool.length) :
    s.requestFade x c ms o b = s.poolFullSnap x c := by
  have hCase : s.fadeCase x c = .snapped := by
    unfold State.fadeCase
    rw [h, if_neg (by decide), if_neg hLevel]
    exact if_neg (Nat.not_lt.mpr hFull)
  simp only [State.requestFade, hCase]

theorem requestFade_replaced_fades (h : (s.fadeOf x).isSome) : (s.requestFade x c ms o b).fades = { s.fades with
    pool := s.fades.pool.map fun f => if f.target = x then newFade x (s.levelOf x) c ms o b else f } := by
  rw [requestFade_replaced ms o b h]
  simp

theorem requestFade_made_fades (h : s.fadeOf x = none) (hLevel : s.levelOf x ≠ c) (hRoom : s.fades.pool.length < 256) :
    (s.requestFade x c ms o b).fades = { s.fades with pool := s.fades.pool ++ [newFade x (s.levelOf x) c ms o b] } := by
  rw [requestFade_made ms o b h hLevel hRoom]
  simp

/-- The cases of a request, in the order of R25. -/
theorem State.fade_cases (s : State) (x : Target) (c : LevelCode) : (s.fadeOf x).isSome ∨ s.fadeOf x = none ∧ s.levelOf x = c ∨
    s.fadeOf x = none ∧ s.levelOf x ≠ c ∧ s.fades.pool.length < 256 ∨ s.fadeOf x = none ∧ s.levelOf x ≠ c ∧ 256 ≤ s.fades.pool.length := by
  cases h : s.fadeOf x with
  | some f => exact .inl rfl
  | none =>
    by_cases hLevel : s.levelOf x = c
    · exact .inr (.inl ⟨rfl, hLevel⟩)
    · exact .inr (.inr ((Nat.lt_or_ge _ _).imp (fun hRoom => ⟨rfl, hLevel, hRoom⟩) fun hFull => ⟨rfl, hLevel, hFull⟩))

theorem ownerOf_none (h : s.fadeOf x = none) : s.ownerOf x = none := by
  unfold State.ownerOf
  rw [h]
  rfl

/-- An unowned request tells the owner of the record it replaces, and no other. -/
theorem requestFade_told (hFiring : s.engine.firing = none) : (s.requestFade x c ms none b).engine =
    { s.engine.told (s.ownerOf x) with opEvent := (s.requestFade x c ms none b).engine.opEvent } := by
  rcases s.fade_cases x c with h | ⟨h, hLevel⟩ | ⟨h, hLevel, hRoom⟩ | ⟨h, hLevel, hFull⟩
  · rw [requestFade_replaced ms none b h]
    exact ownerDone_told (s := s.onFades _) hFiring _
  · rw [requestFade_ended ms none b h hLevel, ownerOf_none h, told_none]
  · rw [requestFade_made ms none b h hLevel hRoom, ownerOf_none h, told_none]
    rfl
  · rw [requestFade_snapped ms none b h hLevel hFull, ownerOf_none h, told_none, (State.poolFullSnap_frame _ _ _).2.2.2.1]

end

/-- The FADE report of a snap with the pool full. -/
theorem poolFullSnap_raised {s t : State} (h : t.link.disabled = s.link.disabled) (x : Target) (c : LevelCode) :
    s.Raised (t.poolFullSnap x c) .fade ("!FADE used=" ++ natText t.fades.pool.length ++ " snaps=" ++
      natText (min (t.fades.snaps + 1) 65535) ++ " last=" ++ targetText x ++ " level=" ++ levelText c) := by
  have hCounted : ((t.setLevelOf x c).onFades fun b => { b with snaps := bump b.snaps }).fades =
      { t.fades with snaps := min (t.fades.snaps + 1) 65535 } :=
    (congrArg (fun b : FadeBlock => { b with snaps := bump b.snaps }) (setLevelOf_fades t x c))
  have hText : ((t.setLevelOf x c).onFades fun b => { b with snaps := bump b.snaps }).fadeReport x c = "" ++ (("!FADE used=" ++
      natText t.fades.pool.length ++ " snaps=" ++ natText (min (t.fades.snaps + 1) 65535) ++ " last=" ++ targetText x ++ " level=" ++
      levelText c) ++ "") := by
    unfold State.fadeReport
    rw [hCounted]
    simp
  unfold State.poolFullSnap
  dsimp only
  rw [hText]
  exact State.raised_raise (by rw [State.onFades_link, State.setLevelOf_link]; exact h) _ _ _ _

theorem poolFullSnap_fades (x : Target) (c : LevelCode) :
    (s.poolFullSnap x c).fades = { s.fades with snaps := min (s.fades.snaps + 1) 65535 } := by
  unfold State.poolFullSnap
  rw [State.raise_fades]
  exact congrArg (fun b : FadeBlock => { b with snaps := bump b.snaps }) (setLevelOf_fades s x c)

/-! ### Requests on a crosspoint -/

theorem xpt_congr {s t : State} (h : t.matrix = s.matrix) (row : Row) (bus : Bus) : t.xpt row bus = s.xpt row bus := by
  unfold State.xpt
  rw [h]

section
variable (row : Row) (bus : Bus) (c : LevelCode)

theorem snapLevel_matrix : (s.snapLevel (.xpt row bus) c).matrix = (s.setXpt row bus c).matrix := by
  show ((s.removeFade (.xpt row bus)).setXpt row bus c).matrix = _
  unfold State.setXpt
  rw [State.onMatrix_matrix, State.onMatrix_matrix, (State.removeFade_frame _ _).2.1]

theorem snapLevel_xpt (row' : Row) (bus' : Bus) :
    (s.snapLevel (.xpt row bus) c).xpt row' bus' = if row = row' ∧ bus = bus' then c else s.xpt row' bus' := by
  rw [xpt_congr (snapLevel_matrix row bus c), xpt_setXpt]

theorem poolFullSnap_matrix : (s.poolFullSnap (.xpt row bus) c).matrix = (s.setXpt row bus c).matrix := by
  unfold State.poolFullSnap
  rw [State.raise_matrix]
  rfl

theorem poolFullSnap_xpt (row' : Row) (bus' : Bus) :
    (s.poolFullSnap (.xpt row bus) c).xpt row' bus' = if row = row' ∧ bus = bus' then c else s.xpt row' bus' := by
  rw [xpt_congr (poolFullSnap_matrix row bus c), xpt_setXpt]

/-- A request on a crosspoint for which the pool has room leaves every level. -/
theorem requestFade_matrix (ms : Nat) (o : Option InstSlot) (b : Bool)
    (hRoom : (s.fadeOf (.xpt row bus)).isSome ∨ s.fades.pool.length < 256) :
    (s.requestFade (.xpt row bus) c ms o b).matrix = s.matrix := by
  rcases s.fade_cases (.xpt row bus) c with h | ⟨h, hLevel⟩ | ⟨h, hLevel, hRoom'⟩ | ⟨h, hLevel, hFull⟩
  · rw [requestFade_replaced ms o b h]
    simp
  · rw [requestFade_ended ms o b h hLevel]
  · rw [requestFade_made ms o b h hLevel hRoom']
    simp
  · rcases hRoom with h' | h'
    · rw [h] at h'; cases h'
    · exact absurd h' (Nat.not_lt.mpr hFull)

/-- A request on a crosspoint moves at once no level but its own, and of the matrix nothing else. -/
theorem requestFade_trims (ms : Nat) (o : Option InstSlot) (b : Bool) :
    (s.requestFade (.xpt row bus) c ms o b).matrix = { s.matrix with xpts := (s.requestFade (.xpt row bus) c ms o b).matrix.xpts } ∧
      ∀ row' bus', ¬(row' = row ∧ bus' = bus) → (s.requestFade (.xpt row bus) c ms o b).xpt row' bus' = s.xpt row' bus' := by
  have hStands : ∀ t : State, t.matrix = s.matrix → t.matrix = { s.matrix with xpts := t.matrix.xpts } ∧
      ∀ row' bus', ¬(row' = row ∧ bus' = bus) → t.xpt row' bus' = s.xpt row' bus' := fun t h =>
    ⟨by rw [h], fun row' bus' _ => xpt_congr h row' bus'⟩
  rcases s.fade_cases (.xpt row bus) c with h | ⟨h, hLevel⟩ | ⟨h, hLevel, hRoom⟩ | ⟨h, hLevel, hFull⟩
  · exact hStands _ (requestFade_matrix row bus c ms o b (.inl h))
  · rw [requestFade_ended ms o b h hLevel]
    exact hStands _ rfl
  · exact hStands _ (requestFade_matrix row bus c ms o b (.inr hRoom))
  · rw [requestFade_snapped ms o b h hLevel hFull]
    refine ⟨by rw [poolFullSnap_matrix]; rfl, fun row' bus' hOther => ?_⟩
    rw [poolFullSnap_xpt, if_neg fun h => hOther ⟨h.1.symm, h.2.symm⟩]

end

end

/-! ### LEVEL (R21) -/

section
variable {s : State}

/-- A reply placed behind what an operation leaves. -/
theorem State.replied_of {t : State} (h : t.kept = s.kept) (tag : Tag) (text : String) : s.Replied (t.answered tag text) tag text := by
  have hLink := kept_link h
  unfold State.Replied State.answered
  rw [hLink]

/-- The end of an operation that leaves STANDBY_READY, and its reply. -/
def State.closed (s : State) (tag : Tag) (text : String) : State := (s.onEngine fun b => { b with opEvent := none }).answered tag text

/-- An accepted line that leaves STANDBY_READY. -/
theorem State.Ready.closes (hs : s.Ready) {c : Instr} {α : Type} {a : α} {f : α → State → Answer} {t : State} {x : State → String}
    (hExec : exec c s = command c c.tag (.given a) f s) (h : f a s = t.replies x) (hShown : t.Shown false) :
    exec c s = .next (t.closed c.tag ("OK " ++ x (t.onEngine fun b => { b with opEvent := none }))) := by
  rw [hExec, command_ok hs.1 c c.tag a f h, hShown.finish]
  rfl

variable (row : Row) (bus : Bus) (c : LevelCode) (ms : Nat)

theorem moveLevel_snap (h : ms = 0 ∨ s.xpt row bus = c) : s.moveLevel row bus c ms = s.snapLevel (.xpt row bus) c := if_pos h

theorem moveLevel_fade (hTime : ms ≠ 0) (hLevel : s.xpt row bus ≠ c) :
    s.moveLevel row bus c ms = s.requestFade (.xpt row bus) c ms none false := if_neg fun h => h.elim hTime hLevel

theorem moveLevel_shown {due : Bool} (h : s.Shown due) : (s.moveLevel row bus c ms).Shown due := by
  unfold State.moveLevel
  split
  · exact (h.removeFade _).setXpt row bus c
  · exact h.requestXpt row bus c ms none false

theorem moveLevel_told (hFiring : s.engine.firing = none) : (s.moveLevel row bus c ms).engine =
    { s.engine.told (s.ownerOf (.xpt row bus)) with opEvent := (s.moveLevel row bus c ms).engine.opEvent } := by
  unfold State.moveLevel
  split
  · exact snapLevel_told hFiring _ c
  · exact requestFade_told ms false hFiring

theorem moveLevel_frame : (s.moveLevel row bus c ms).kept = s.kept ∧ (s.moveLevel row bus c ms).cast = s.cast ∧
    (s.moveLevel row bus c ms).mic = s.mic ∧ (s.moveLevel row bus c ms).fetch = s.fetch ∧
    (s.moveLevel row bus c ms).foldback = s.foldback ∧ (s.moveLevel row bus c ms).router = s.router ∧
    (s.moveLevel row bus c ms).lines = s.lines := by
  unfold State.moveLevel
  split <;> simp

theorem moveLevel_matrix : (s.moveLevel row bus c ms).matrix = { s.matrix with xpts := (s.moveLevel row bus c ms).matrix.xpts } ∧
    ∀ row' bus', ¬(row' = row ∧ bus' = bus) → (s.moveLevel row bus c ms).xpt row' bus' = s.xpt row' bus' := by
  unfold State.moveLevel
  split
  · refine ⟨by rw [snapLevel_matrix]; rfl, fun row' bus' hOther => ?_⟩
    rw [snapLevel_xpt, if_neg fun h => hOther ⟨h.1.symm, h.2.symm⟩]
  · exact requestFade_trims row bus c ms none false

end

end Sys2Proof.Machine

namespace Sys2Proof.Proofs

open Sys2Proof Sys2Proof.Machine

theorem setLevel_answer {s : State} {a : LevelArgs} {row : Row} {bus : Bus} (hRow : rowOf a.row = some row) (hBus : busOf a.bus = some bus)
    (hFree : s.claimedRow row = false) : setLevel a s = (s.moveLevel row bus (crosspointLevel a.level) (heldTime a.t)).replies fun _ =>
      rowText row ++ " " ++ busText bus ++ " level=" ++ levelText (crosspointLevel a.level) := by
  simp only [setLevel, hRow, hBus, hFree, need_some, ok_bind, refuseIf_false]

/-- LEVEL is refused before it moves anything. -/
theorem setLevel_range {s : State} {a : LevelArgs} (h : rowOf a.row = none ∨ busOf a.bus = none) : setLevel a s = .error .range := by
  cases hRow : rowOf a.row with
  | none => simp only [setLevel, hRow, need_none, error_bind]
  | some row =>
    have hBus : busOf a.bus = none := h.resolve_left fun h => by rw [hRow] at h; cases h
    simp only [setLevel, hRow, hBus, need_some, ok_bind, need_none, error_bind]

theorem setLevel_claimed {s : State} {a : LevelArgs} {i : InputId} {bus : Bus} (hRow : rowOf a.row = some (.inp i))
    (hBus : busOf a.bus = some bus) (hClaim : s.claim i ≠ none) : setLevel a s = .error .claimed := by
  have hClaimed : s.claimedRow (.inp i) = true := Option.isSome_iff_ne_none.mpr hClaim
  simp only [setLevel, hRow, hBus, hClaimed, need_some, ok_bind, refuseIf_true, error_bind]

/-- Settles O22: LEVEL is a snap or an unowned request on its crosspoint, and the two refusals come before it. -/
theorem levelSetsCrosspoint : Obligations.LevelSetsCrosspoint := by
  refine ⟨fun s tag a row bus hs hRow hBus hFree => ?_, fun s tag a hs => ⟨fun h => ?_, fun i bus hRow hBus hClaim => ?_⟩⟩
  · have hAnswer := setLevel_answer hRow hBus hFree
    generalize crosspointLevel a.level = c at *
    generalize heldTime a.t = ms at *
    have hShown : (s.moveLevel row bus c ms).Shown false := moveLevel_shown row bus c ms hs.2.shown
    obtain ⟨hKept, hCast, hMic, hFetch, hFoldback, hRouter, hLines⟩ := moveLevel_frame (s := s) row bus c ms
    obtain ⟨hMatrix, hOthers⟩ := moveLevel_matrix (s := s) row bus c ms
    have hEngine := moveLevel_told (s := s) row bus c ms
    have hSnap := moveLevel_snap (s := s) row bus c ms
    have hFade := moveLevel_fade (s := s) row bus c ms
    generalize s.moveLevel row bus c ms = u at *
    have hTrims : u.matrix.trims = s.matrix.trims := by rw [hMatrix]
    have hClips : u.matrix.clips = s.matrix.clips := by rw [hMatrix]
    refine ⟨_, hs.closes (exec_level s tag _) hAnswer hShown, State.replied_of (t := u.onEngine fun b => { b with opEvent := none }) hKept tag _,
      ?_, hTrims, hClips, fun hFiring => ?_, hOthers, fun h => ?_, fun hTime hLevel => ⟨fun h => ?_, fun h hRoom => ?_, fun h hFull => ?_⟩⟩
    · have hAt : u = { s with link := u.link, matrix := u.matrix, fades := u.fades, engine := u.engine } :=
        (State.eq_at hKept).trans (by simp only [hCast, hMic, hFetch, hFoldback, hRouter, hLines])
      exact congrArg (fun t : State => t.closed tag _) hAt
    · show { u.engine with opEvent := none } = _
      rw [hEngine hFiring]
      exact told_idle hs.2.2.1 _
    · obtain rfl := hSnap h
      have hFades := snapLevel_fades (s := s) (.xpt row bus) c
      have hSnaps : (s.snapLevel (.xpt row bus) c).fades.snaps = s.fades.snaps := by rw [hFades]
      have hPool := congrArg FadeBlock.pool hFades
      exact ⟨(snapLevel_xpt row bus c row bus).trans (if_pos ⟨rfl, rfl⟩), hSnaps, hPool⟩
    · obtain rfl := hFade hTime hLevel
      have hFades := requestFade_replaced_fades (c := c) ms none false h
      have hSnaps : (s.requestFade (.xpt row bus) c ms none false).fades.snaps = s.fades.snaps := by rw [hFades]
      have hPool := congrArg FadeBlock.pool hFades
      exact ⟨xpt_congr (requestFade_matrix row bus c ms none false (.inl h)) row bus, hSnaps, hPool⟩
    · obtain rfl := hFade hTime hLevel
      have hFades := requestFade_made_fades ms none false h hLevel hRoom
      have hSnaps : (s.requestFade (.xpt row bus) c ms none false).fades.snaps = s.fades.snaps := by rw [hFades]
      have hPool := congrArg FadeBlock.pool hFades
      exact ⟨xpt_congr (requestFade_matrix row bus c ms none false (.inr hRoom)) row bus, hSnaps, hPool⟩
    · obtain rfl := hFade hTime hLevel
      rw [requestFade_snapped ms none false h hLevel hFull]
      have hFades := poolFullSnap_fades (s := s) (.xpt row bus) c
      have hSnaps : (s.poolFullSnap (.xpt row bus) c).fades.snaps = min (s.fades.snaps + 1) 65535 := by rw [hFades]
      have hPool : (s.poolFullSnap (.xpt row bus) c).fades.pool = s.fades.pool := by rw [hFades]
      refine ⟨(poolFullSnap_xpt row bus c row bus).trans (if_pos ⟨rfl, rfl⟩), hPool, hSnaps, ?_⟩
      have hRaised := poolFullSnap_raised (s := s) (t := s) rfl (.xpt row bus) c
      rw [← hSnaps] at hRaised
      exact hRaised
  · exact command_error hs _ tag a setLevel (setLevel_range h)
  · exact command_error hs _ tag a setLevel (setLevel_claimed hRow hBus hClaim)

end Sys2Proof.Proofs
end

section
/-! PROOFS. A LEVEL action at a firing, and the record a request leaves on its target (R25, R104, R149). -/

namespace Sys2Proof.Machine

open Sys2Proof

/-- A part of what a report's line holds. -/
theorem State.Raised.part {s t : State} {key : ReportKey} {text part before after : String} (h : s.Raised t key text)
    (hText : text = before ++ (part ++ after)) : s.Raised t key part := fun hd => by
  obtain ⟨b, a, hm⟩ := h hd
  exact ⟨b ++ before, after ++ a, by simpa [hText, String.append_assoc] using hm⟩

section
variable {s : State} {x : Target} {c : LevelCode}

/-! ### The record on a target after a request -/

theorem fadeOf_congr {t : State} (h : t.fades.pool = s.fades.pool) (x : Target) : t.fadeOf x = s.fadeOf x := by
  unfold State.fadeOf
  rw [h]

theorem find_replace {l : List Fade} {g : Fade} (hg : g.target = x) (h : (l.find? fun f => f.target = x).isSome) :
    ((l.map fun f => if f.target = x then g else f).find? fun f => f.target = x) = some g := by
  induction l with
  | nil => cases h
  | cons f l ih =>
    by_cases hf : f.target = x
    · simp [hf, hg]
    · rw [List.map_cons, if_neg hf, List.find?_cons_of_neg (by simpa using hf)]
      exact ih (by rwa [List.find?_cons_of_neg (by simpa using hf)] at h)

theorem find_append {l : List Fade} {g : Fade} (hg : g.target = x) (h : (l.find? fun f => f.target = x) = none) :
    ((l ++ [g]).find? fun f => f.target = x) = some g := by
  rw [List.find?_append, h]
  simp [hg]

/-- A request with room for its record leaves it on the target, from the level as it stands. -/
theorem requestFade_fadeOf (ms : Nat) (o : Option InstSlot) (b : Bool) (hLevel : s.levelOf x ≠ c)
    (hRoom : (s.fadeOf x).isSome ∨ s.fades.pool.length < 256) :
    (s.requestFade x c ms o b).fadeOf x = some (newFade x (s.levelOf x) c ms o b) := by
  unfold State.fadeOf
  rcases s.fade_cases x c with h | ⟨-, hEq⟩ | ⟨h, -, hRoom'⟩ | ⟨h, -, hFull⟩
  · rw [requestFade_replaced_fades ms o b h]
    exact find_replace rfl h
  · exact absurd hEq hLevel
  · rw [requestFade_made_fades ms o b h hLevel hRoom']
    exact find_append rfl h
  · rcases hRoom with h' | h'
    · rw [h] at h'; cases h'
    · exact absurd h' (Nat.not_lt.mpr hFull)

theorem dropFade_fadeOf (y : Target) : (s.dropFade x).fadeOf y = if y = x then none else s.fadeOf y := by
  unfold State.fadeOf State.dropFade
  show ((s.fades.pool.filter fun f => f.target ≠ x).find? fun f => f.target = y) = _
  rw [List.find?_filter]
  by_cases h : y = x
  · subst h
    rw [if_pos rfl]
    exact List.find?_eq_none.mpr fun f _ => by by_cases hf : f.target = y <;> simp [hf]
  · rw [if_neg h]
    refine congrArg (fun p => s.fades.pool.find? p) (funext fun f => ?_)
    by_cases hf : f.target = y
    · subst hf; simp [h]
    · simp [hf]

theorem snapLevel_fadeOf (y : Target) : (s.snapLevel x c).fadeOf y = if y = x then none else s.fadeOf y := by
  rw [← dropFade_fadeOf]
  exact fadeOf_congr (by rw [snapLevel_fades]; rfl) y

end

/-! ### A LEVEL action at a firing (R104) -/

section
variable {s : State} {n : FireCounts} {slot : InstSlot} {row : Row} {bus : Bus} {code : LevelCode} {ms : Nat}

theorem lockedBus_false (h : ∀ k, bus = .fb k → (s.bus k).lock = false) : s.lockedBus bus = false := by
  cases bus with
  | fb k => exact h k rfl
  | house _ => rfl
  | relay => rfl

theorem claimedRow_false (h : ∀ i, row = .inp i → s.claim i = none) : s.claimedRow row = false := by
  cases row with
  | inp i => exact congrArg Option.isSome (h i rfl)
  | role _ => rfl
  | voice _ => rfl

theorem fireLevel_locked {k : FbId} (h : (s.bus k).lock = true) :
    s.fireLevel n slot row (.fb k) code ms = (s.countSkip (.fb k), { n with locked := n.locked + 1 }) := if_pos h

theorem countSkip_fb (k : FbId) : s.countSkip (.fb k) = { s with foldback := { s.foldback with
    buses := put s.foldback.buses k { s.bus k with skips := min ((s.bus k).skips + 1) 65535 } } } := rfl

variable (hOpen : ∀ k, bus = .fb k → (s.bus k).lock = false)
include hOpen

theorem fireLevel_claimed {i : InputId} (hClaim : s.claim i ≠ none) :
    s.fireLevel n slot (.inp i) bus code ms = (s, { n with claimed := n.claimed + 1 }) := by
  have hClaimed : s.claimedRow (.inp i) = true := Option.isSome_iff_ne_none.mpr hClaim
  unfold State.fireLevel
  rw [lockedBus_false hOpen, hClaimed]
  rfl

variable (hFree : ∀ i, row = .inp i → s.claim i = none)
include hFree

theorem fireLevel_snap (h : ms = 0 ∨ s.xpt row bus = code) : s.fireLevel n slot row bus code ms = (s.snapLevel (.xpt row bus) code, n) := by
  unfold State.fireLevel
  rw [lockedBus_false hOpen, claimedRow_false hFree, if_pos h]
  rfl

theorem fireLevel_fade (hTime : ms ≠ 0) (hLevel : s.xpt row bus ≠ code) :
    s.fireLevel n slot row bus code ms = (s.requestFade (.xpt row bus) code ms (some slot) false, n) := by
  unfold State.fireLevel
  rw [lockedBus_false hOpen, claimedRow_false hFree, if_neg (by decide), if_neg (by decide), if_neg fun h => h.elim hTime hLevel]

end

end Sys2Proof.Machine

namespace Sys2Proof.Proofs

open Sys2Proof Sys2Proof.Machine

/-- Settles O38: the cases of R104 in their order, the last an owned request. -/
theorem firingLevelAction : Obligations.FiringLevelAction := by
  refine fun s n slot row bus code ms => ⟨fun k hBus hLock => ?_, fun hOpen => ⟨fun i hRow hClaim => ?_, fun hFree =>
    ⟨?_, fun row' bus' hOther => ?_, fun h => ?_, fun hTime hLevel hRoom => ?_, fun hTime hLevel hNone hFull => ?_⟩⟩⟩
  · subst hBus
    rw [fireLevel_locked hLock]
    exact ⟨countSkip_fb k, rfl⟩
  · subst hRow
    exact fireLevel_claimed hOpen hClaim
  · by_cases h : ms = 0 ∨ s.xpt row bus = code
    · rw [fireLevel_snap hOpen hFree h]
    · rw [fireLevel_fade hOpen hFree (fun e => h (.inl e)) (fun e => h (.inr e))]
  · by_cases h : ms = 0 ∨ s.xpt row bus = code
    · rw [fireLevel_snap hOpen hFree h, snapLevel_xpt, if_neg fun e => hOther ⟨e.1.symm, e.2.symm⟩]
    · rw [fireLevel_fade hOpen hFree (fun e => h (.inl e)) (fun e => h (.inr e))]
      exact (requestFade_trims row bus code ms (some slot) false).2 row' bus' hOther
  · rw [fireLevel_snap hOpen hFree h, snapLevel_xpt, if_pos ⟨rfl, rfl⟩, snapLevel_fadeOf, if_pos rfl]
    exact ⟨rfl, rfl⟩
  · rw [fireLevel_fade hOpen hFree hTime hLevel]
    exact ⟨xpt_congr (requestFade_matrix row bus code ms _ false hRoom) row bus, requestFade_fadeOf ms _ false hLevel hRoom⟩
  · rw [fireLevel_fade hOpen hFree hTime hLevel, requestFade_snapped ms _ false hNone hLevel hFull]
    refine ⟨(poolFullSnap_xpt row bus code row bus).trans (if_pos ⟨rfl, rfl⟩), by rw [poolFullSnap_fades], ?_⟩
    refine (poolFullSnap_raised (s := s) (t := s) rfl (.xpt row bus) code).part (before := "!FADE used=" ++ natText s.fades.pool.length ++
      " snaps=" ++ natText (min (s.fades.snaps + 1) 65535)) (after := "") ?_
    simp [String.append_assoc]

end Sys2Proof.Proofs
end

section
/-! PROOFS. An evaluation of priming, voice by voice, and the end of an operation that sends a voice to IDLE (R117, R118, R134, R144). -/

namespace Sys2Proof.Machine

open Sys2Proof

/-! ### The VOICE and PLAYER reports -/

section
variable {s t u : State}

theorem raiseReader_disabled (r : ReaderId) (event : String) : (s.raiseReader r event).link.disabled = s.link.disabled := by
  unfold State.raiseReader
  dsimp only
  split <;> rw [State.raise_link]

/-- A reader's report gives the event, and its counts after it. -/
theorem raiseReader_raised_counts (h : t.link.disabled = s.link.disabled) (r : ReaderId) (event : String) :
    s.Raised (t.raiseReader r event) (readerKey r) (" event=" ++ event ++ (t.reader r).countFields) := by
  cases hKind : readerKind r with
  | inl v =>
    have hText : "!VOICE " ++ voiceText v ++ " " ++ (t.reader r).stateFields ++ " level=" ++ levelText (t.reader r).level ++ " event=" ++ event ++
        (t.reader r).countFields = ("!VOICE " ++ voiceText v ++ " " ++ (t.reader r).stateFields ++ " level=" ++
          levelText (t.reader r).level) ++ ((" event=" ++ event ++ (t.reader r).countFields) ++ "") := by simp [String.append_assoc]
    simp only [State.raiseReader, readerKey, hKind, hText]
    exact State.raised_raise h _ _ _ _
  | inr p =>
    have hText : "!PLAYER " ++ playerText p ++ " " ++ (t.reader r).stateFields ++ " event=" ++ event ++ (t.reader r).countFields =
        ("!PLAYER " ++ playerText p ++ " " ++ (t.reader r).stateFields) ++ ((" event=" ++ event ++ (t.reader r).countFields) ++ "") := by
      simp [String.append_assoc]
    simp only [State.raiseReader, readerKey, hKind, hText]
    exact State.raised_raise h _ _ _ _

theorem raiseReader_raised (h : t.link.disabled = s.link.disabled) (r : ReaderId) (event : String) :
    s.Raised (t.raiseReader r event) (readerKey r) (" event=" ++ event) :=
  (raiseReader_raised_counts h r event).part (before := "") (after := (t.reader r).countFields) (by simp [String.append_assoc])

/-! ### One voice while others change -/

/-- Of a voice nothing changed, and its VOICE report stands. -/
structure State.VoiceStands (v : VoiceId) (s t : State) : Prop where
  voice : t.voice v = s.voice v
  reports : s.StandsBut (· ≠ .voice v) t

variable {v w : VoiceId}

theorem State.VoiceStands.refl (s : State) : s.VoiceStands v s := ⟨rfl, .refl s⟩

theorem State.VoiceStands.trans (h : s.VoiceStands v t) (h' : t.VoiceStands v u) : s.VoiceStands v u :=
  ⟨h'.voice.trans h.voice, h.reports.trans h'.reports⟩

theorem State.VoiceStands.raised {part : String} (h : t.VoiceStands v u) (hRaised : s.Raised t (.voice v) part) : s.Raised u (.voice v) part :=
  hRaised.stands h.reports fun hKey => hKey rfl

theorem voice_onReader (w v : VoiceId) (f : Reader → Reader) :
    (s.onReader (voiceReader w) f).voice v = if w = v then f (s.voice w) else s.voice v := by
  unfold State.voice
  rw [reader_onReader]
  by_cases h : w = v
  · rw [if_pos h, if_pos (congrArg voiceReader h)]
  · rw [if_neg h, if_neg fun e => h (voiceReader_injective e)]

/-- What the entry of IDLE leaves of each reader. -/
theorem enterIdle_reader (r q : ReaderId) (event : String) :
    (s.enterIdle r event).reader q = if r = q then (s.reader r).toIdle else s.reader q := by
  have hCleared : (((s.clearRing r).onReader r Reader.toIdle).raiseReader r event).reader q =
      if r = q then (s.reader r).toIdle else s.reader q := by
    rw [State.raiseReader_reader, reader_onReader]
    unfold State.clearRing
    rw [reader_onReader, if_pos rfl]
    split
    · rfl
    · rw [reader_onReader, if_neg ‹_›]
      rfl
  unfold State.enterIdle
  dsimp only
  split
  · rw [State.callEvaluation_reader, State.ownerDone_reader, State.removeFade_reader]
    exact hCleared
  · exact hCleared

theorem enterIdle_voice (event : String) :
    (s.enterIdle (voiceReader w) event).voice v = if w = v then (s.voice w).toIdle else s.voice v := by
  unfold State.voice
  rw [enterIdle_reader]
  by_cases h : w = v
  · rw [if_pos h, if_pos (congrArg voiceReader h)]
  · rw [if_neg h, if_neg fun e => h (voiceReader_injective e)]

/-- The VOICE report of a voice that enters IDLE. -/
theorem enterIdle_raised (h : t.link.disabled = s.link.disabled) (event : String) :
    s.Raised (t.enterIdle (voiceReader v) event) (.voice v) (" event=" ++ event) := by
  have hIdle := raiseReader_raised (t := (t.clearRing (voiceReader v)).onReader (voiceReader v) Reader.toIdle) h (voiceReader v) event
  rw [readerKey_voice] at hIdle
  unfold State.enterIdle
  dsimp only
  rw [readerKind_voiceReader]
  dsimp only
  have hCue : ∀ u : State, u.StandsBut (· = .cue) (((u.removeFade (.voice v)).ownerDone (t.reader (voiceReader v)).owner)) := fun u =>
    State.StandsBut.ownerDone (K := (· = .cue)) rfl (State.StandsBut.removeFade (K := (· = .cue)) rfl (.refl u) _) _
  refine hIdle.stands ((hCue _).congr (congrArg LinkBlock.reports (State.callEvaluation_link _ _))) ?_
  exact fun h => by cases h

theorem State.VoiceStands.enterIdle (hOther : w ≠ v) (event : String) : s.VoiceStands v (s.enterIdle (voiceReader w) event) :=
  ⟨by rw [enterIdle_voice, if_neg hOther], (State.StandsBut.refl s).enterIdle (fun h => by cases h)
    (by rw [readerKey_voice]; exact fun h => hOther (ReportKey.voice.inj h)) event⟩

theorem prime_eq {n : SoundId} {d : Sound} (hSound : s.soundRec n = some d) :
    s.prime w n = (((s.onFetch fun b => { b with nextPrimeStamp := s.fetch.nextPrimeStamp + 1 }).onReader (voiceReader w) fun x =>
      { x.load n d .priming with primeStamp := s.fetch.nextPrimeStamp }).raiseReader (voiceReader w) "priming") := by
  simp only [State.prime, hSound]

/-- What a priming leaves of each voice. -/
theorem prime_voice {n : SoundId} {d : Sound} (hSound : s.soundRec n = some d) :
    (s.prime w n).voice v = if w = v then { (s.voice w).load n d .priming with primeStamp := s.fetch.nextPrimeStamp } else s.voice v := by
  rw [prime_eq hSound]
  show (State.raiseReader _ _ _).reader _ = _
  rw [State.raiseReader_reader]
  exact voice_onReader w v _

theorem prime_raised (h : t.link.disabled = s.link.disabled) {n : SoundId} (hSound : t.soundRec n ≠ none) :
    s.Raised (t.prime v n) (.voice v) " event=priming" := by
  obtain ⟨d, hd⟩ := Option.ne_none_iff_exists'.mp hSound
  rw [prime_eq hd, ← readerKey_voice]
  exact raiseReader_raised (by exact h) (voiceReader v) "priming"

theorem prime_none {n : SoundId} (h : s.soundRec n = none) : s.prime v n = s := by
  simp only [State.prime, h]

theorem State.VoiceStands.prime (hOther : w ≠ v) (n : SoundId) : s.VoiceStands v (s.prime w n) := by
  refine ⟨?_, (State.StandsBut.refl s).prime (by rw [readerKey_voice]; exact fun h => hOther (ReportKey.voice.inj h)) n⟩
  cases h : s.soundRec n with
  | none => rw [prime_none h]
  | some d => rw [prime_voice h, if_neg hOther]

/-! ### The two halves of an evaluation (R117) -/

/-- A voice is priming what no PLAY action of the standby cue wants of it. -/
def State.unwanted (s : State) (v : VoiceId) : Bool := (s.voice v).isPriming && !s.primingWanted v

theorem releaseUnwanted_eq : s.releaseUnwanted v = if s.unwanted v then s.enterIdle (voiceReader v) "released" else s := rfl

theorem unwanted_congr (hVoice : t.voice v = s.voice v) (hPlays : t.standbyPlays = s.standbyPlays) : t.unwanted v = s.unwanted v := by
  unfold State.unwanted State.primingWanted
  rw [hVoice, hPlays]

theorem releases_stands {l : List VoiceId} (h : v ∉ l ∨ s.unwanted v = false) : s.VoiceStands v (l.foldl State.releaseUnwanted s) := by
  induction l generalizing s with
  | nil => exact .refl s
  | cons w l ih =>
    have hStep : s.VoiceStands v (s.releaseUnwanted w) := by
      rw [releaseUnwanted_eq]
      split
      · rename_i hUnwanted
        refine .enterIdle (fun e => ?_) _
        subst e
        rcases h with h | h
        · exact h List.mem_cons_self
        · rw [h] at hUnwanted; cases hUnwanted
      · exact .refl s
    refine hStep.trans (ih ?_)
    rw [unwanted_congr hStep.voice (standbyPlays_of (State.marks_releaseUnwanted s w) (State.releaseUnwanted_frame s w).1)]
    exact h.imp_left fun h hMem => h (List.mem_cons_of_mem _ hMem)

theorem releases_unwanted {l : List VoiceId} (hl : l.Nodup) (hMem : v ∈ l) (h : t.unwanted v = true) (hDisabled : t.link.disabled = s.link.disabled) :
    (l.foldl State.releaseUnwanted t).voice v = (t.voice v).toIdle ∧
      s.Raised (l.foldl State.releaseUnwanted t) (.voice v) " event=released" := by
  induction l generalizing t with
  | nil => cases hMem
  | cons w l ih =>
    obtain ⟨hHead, hTail⟩ := List.nodup_cons.mp hl
    rw [List.foldl_cons]
    by_cases hw : w = v
    · subst hw
      have hStep : t.releaseUnwanted w = t.enterIdle (voiceReader w) "released" := by rw [releaseUnwanted_eq, if_pos h]
      have hRest : (t.releaseUnwanted w).VoiceStands w (l.foldl State.releaseUnwanted (t.releaseUnwanted w)) := releases_stands (.inl hHead)
      refine ⟨?_, hRest.raised ?_⟩
      · rw [hRest.voice, hStep, enterIdle_voice, if_pos rfl]
      · rw [hStep]
        exact enterIdle_raised hDisabled _
    · have hStep : t.VoiceStands v (t.releaseUnwanted w) := by
        rw [releaseUnwanted_eq]
        split
        · exact .enterIdle hw _
        · exact .refl t
      have hKept := (State.releaseUnwanted_frame t w).1
      rw [← hStep.voice]
      refine ih hTail ((List.mem_cons.mp hMem).resolve_left (Ne.symm hw)) ?_ ((kept_disabled hKept).trans hDisabled)
      rw [unwanted_congr hStep.voice (standbyPlays_of (State.marks_releaseUnwanted t w) hKept)]
      exact h

/-- The standby cue, or a list of PLAY actions, plays a sound with a record on a voice. -/
def State.playsOn (s : State) (l : List (VoiceId × SoundId)) (v : VoiceId) : Prop := ∃ n, (v, n) ∈ l ∧ s.soundRec n ≠ none

theorem State.VoiceStands.primeWanted {e : VoiceId × SoundId} (h : e.1 ≠ v ∨ (s.voice v).state ≠ .idle ∨ s.soundRec e.2 = none) :
    s.VoiceStands v (s.primeWanted e) := by
  obtain ⟨w, n⟩ := e
  unfold State.primeWanted
  split
  · rename_i hIdle
    by_cases hw : w = v
    · subst hw
      rcases h with h | h | h
      · exact absurd rfl h
      · exact absurd hIdle h
      · dsimp only
        rw [prime_none h]
        exact .refl s
    · exact .prime hw n
  · exact .refl s

theorem soundRec_congr (h : t.kept = s.kept) (n : SoundId) : t.soundRec n = s.soundRec n := by
  unfold State.soundRec
  rw [kept_sounds h]

theorem primes_stands {l : List (VoiceId × SoundId)} (h : (s.voice v).state ≠ .idle ∨ ¬s.playsOn l v) :
    s.VoiceStands v (l.foldl State.primeWanted s) := by
  induction l generalizing s with
  | nil => exact .refl s
  | cons e l ih =>
    have hStep : s.VoiceStands v (s.primeWanted e) := by
      refine .primeWanted ?_
      rcases h with h | h
      · exact .inr (.inl h)
      · by_cases he : e.1 = v
        · refine .inr (.inr (not_not.mp fun hSound => h ⟨e.2, ?_, hSound⟩))
          rw [← he]
          exact List.mem_cons_self
        · exact .inl he
    refine hStep.trans (ih ?_)
    rw [hStep.voice]
    refine h.imp_right fun h => ?_
    rintro ⟨n, hMem, hSound⟩
    rw [soundRec_congr (State.primeWanted_frame s e).1] at hSound
    exact h ⟨n, List.mem_cons_of_mem _ hMem, hSound⟩

/-- What becomes of an IDLE voice asked to prime: it holds the sound of one of the actions, from its first block. -/
structure State.Primed (s t : State) (l : List (VoiceId × SoundId)) (v : VoiceId) (base : Reader) : Prop where
  voice : ∃ n d stamp, (v, n) ∈ l ∧ s.soundRec n = some d ∧ t.voice v = { base.load n d .priming with primeStamp := stamp }
  raised : s.Raised t (.voice v) " event=priming"

theorem primes_idle {l : List (VoiceId × SoundId)} (hDisabled : t.link.disabled = s.link.disabled) (hSounds : ∀ n, t.soundRec n = s.soundRec n)
    (h : (t.voice v).state = .idle) (hPlays : s.playsOn l v) : s.Primed (l.foldl State.primeWanted t) l v (t.voice v) := by
  induction l generalizing t with
  | nil =>
    obtain ⟨n, hMem, -⟩ := hPlays
    cases hMem
  | cons e l ih =>
    rw [List.foldl_cons]
    have hKept := (State.primeWanted_frame t e).1
    by_cases he : e.1 = v ∧ t.soundRec e.2 ≠ none
    · obtain ⟨w, n⟩ := e
      obtain ⟨rfl, hSound⟩ := he
      obtain ⟨d, hd⟩ := Option.ne_none_iff_exists'.mp hSound
      have hStep : t.primeWanted (w, n) = t.prime w n := if_pos h
      have hVoice : (t.primeWanted (w, n)).voice w = { (t.voice w).load n d .priming with primeStamp := t.fetch.nextPrimeStamp } := by
        rw [hStep, prime_voice hd, if_pos rfl]
      have hRest : (t.primeWanted (w, n)).VoiceStands w (l.foldl State.primeWanted (t.primeWanted (w, n))) :=
        primes_stands (.inl (by rw [hVoice]; exact fun h => by cases h))
      refine ⟨⟨n, d, _, List.mem_cons_self, (hSounds n) ▸ hd, hRest.voice.trans hVoice⟩, hRest.raised ?_⟩
      rw [hStep]
      exact prime_raised hDisabled hSound
    · have hStep : t.VoiceStands v (t.primeWanted e) := by
        refine .primeWanted ?_
        by_cases hv : e.1 = v
        · exact .inr (.inr (not_not.mp fun hSound => he ⟨hv, hSound⟩))
        · exact .inl hv
      have hLater : s.playsOn l v := by
        obtain ⟨n, hMem, hSound⟩ := hPlays
        refine ⟨n, (List.mem_cons.mp hMem).resolve_left fun h => he ?_, hSound⟩
        subst h
        exact ⟨rfl, hSounds n ▸ hSound⟩
      obtain ⟨⟨n, d, stamp, hMem, hSound, hVoice⟩, hRaised⟩ := ih ((kept_disabled hKept).trans hDisabled)
        (fun n => (soundRec_congr hKept n).trans (hSounds n)) (by rw [hStep.voice]; exact h) hLater
      exact ⟨⟨n, d, stamp, List.mem_cons_of_mem _ hMem, hSound, by rw [hVoice, hStep.voice]⟩, hRaised⟩

/-! ### The evaluation -/

/-- What an evaluation leaves of a voice: one that primes what is wanted, or that is neither IDLE nor priming, stands, and so does an IDLE
one that nothing plays on; one released stays IDLE where nothing plays on it; and any other is asked to prime. -/
inductive State.Evaluated (s t : State) (v : VoiceId) : Prop
  | stands (hWanted : s.unwanted v = false) (hFree : (s.voice v).state ≠ .idle ∨ ¬s.playsOn s.standbyPlays v) (h : s.VoiceStands v t)
  | released (hUnwanted : s.unwanted v = true) (hFree : ¬s.playsOn s.standbyPlays v) (hVoice : t.voice v = (s.voice v).toIdle)
      (hRaised : s.Raised t (.voice v) " event=released")
  | primed (hFree : (s.voice v).state = .idle ∨ s.unwanted v = true) (base : Reader) (hLevel : base.level = (s.voice v).level)
      (h : s.Primed t s.standbyPlays v base)

theorem evaluatePriming_evaluated (s : State) (v : VoiceId) : s.Evaluated s.evaluatePriming v := by
  have hKept : ((List.finRange 24).foldl State.releaseUnwanted s).kept = s.kept := foldl_keeps State.kept _ (by simp) _ s
  have hMarks : ((List.finRange 24).foldl State.releaseUnwanted s).marks = s.marks := foldl_keeps State.marks _ (by simp) _ s
  have hPlays := standbyPlays_of hMarks hKept
  have hSounds := soundRec_congr hKept
  have hDisabled := kept_disabled hKept
  have hRelease := releases_stands (s := s) (v := v) (l := List.finRange 24)
  have hReleased := releases_unwanted (s := s) (t := s) (v := v) (List.nodup_finRange 24) (List.mem_finRange v)
  have hEvaluated : s.evaluatePriming = (s.standbyPlays.foldl State.primeWanted ((List.finRange 24).foldl State.releaseUnwanted s)).onEngine
      fun b => { b with evalDue := false } := by
    unfold State.evaluatePriming
    dsimp only
    rw [hPlays]
  have hEnd : ∀ t : State, t.VoiceStands v (t.onEngine fun b => { b with evalDue := false }) := fun t => ⟨rfl, (State.StandsBut.refl t).congr rfl⟩
  have hPrimed : ∀ {t : State} {base : Reader}, s.Primed t s.standbyPlays v base →
      s.Primed (t.onEngine fun b => { b with evalDue := false }) s.standbyPlays v base := fun h => ⟨h.voice, (hEnd _).raised h.raised⟩
  rw [hEvaluated]
  generalize (List.finRange 24).foldl State.releaseUnwanted s = u at *
  have hPlaysOn : u.playsOn s.standbyPlays v ↔ s.playsOn s.standbyPlays v := by
    unfold State.playsOn
    simp only [hSounds]
  by_cases hUnwanted : s.unwanted v = true
  · obtain ⟨hVoice, hRaised⟩ := hReleased hUnwanted rfl
    by_cases hFree : s.playsOn s.standbyPlays v
    · have h := primes_idle (t := u) (v := v) hDisabled hSounds (by rw [hVoice]; rfl) hFree
      exact .primed (.inr hUnwanted) _ (by rw [hVoice]; rfl) (hPrimed h)
    · have h := (primes_stands (s := u) (v := v) (.inr fun h => hFree (hPlaysOn.mp h))).trans (hEnd _)
      exact .released hUnwanted hFree (h.voice.trans hVoice) (h.raised hRaised)
  · have hWanted : s.unwanted v = false := Bool.eq_false_iff.mpr hUnwanted
    have hStands := hRelease (.inr hWanted)
    by_cases hFree : (s.voice v).state ≠ .idle ∨ ¬s.playsOn s.standbyPlays v
    · refine .stands hWanted hFree (hStands.trans ((primes_stands ?_).trans (hEnd _)))
      rw [hStands.voice, hPlaysOn]
      exact hFree
    · obtain ⟨hIdle, hPlays⟩ := not_or.mp hFree
      have h := primes_idle (t := u) (v := v) hDisabled hSounds (by rw [hStands.voice]; exact not_not.mp hIdle) (not_not.mp hPlays)
      exact .primed (.inl (not_not.mp hIdle)) _ (by rw [hStands.voice]) (hPrimed h)

end

theorem isPriming_iff (r : Reader) : r.isPriming = true ↔ r.state = .priming ∨ r.state = .primed := by
  unfold Reader.isPriming
  exact decide_eq_true_iff

theorem unwanted_false {s : State} {v : VoiceId} {n : SoundId} {d : Sound} (hSound : (s.voice v).sound = some (n, d))
    (hMem : (v, n) ∈ s.standbyPlays) : s.unwanted v = false := by
  have hWanted : s.primingWanted v = true :=
    List.any_eq_true.mpr ⟨(v, n), hMem, by simp [Reader.soundId, hSound]⟩
  unfold State.unwanted
  rw [hWanted]
  simp

/-- A voice that primes what a PLAY action of the standby cue wants of it holds that sound. -/
theorem wanted_sound {s : State} {v : VoiceId} (hPriming : (s.voice v).isPriming = true) (hWanted : s.unwanted v = false) :
    ∃ n d, (s.voice v).sound = some (n, d) ∧ (v, n) ∈ s.standbyPlays := by
  unfold State.unwanted at hWanted
  rw [hPriming, Bool.true_and, Bool.not_eq_false'] at hWanted
  obtain ⟨⟨w, n⟩, hMem, h⟩ := List.any_eq_true.mp hWanted
  obtain ⟨rfl, hSound⟩ := of_decide_eq_true h
  unfold Reader.soundId at hSound
  obtain ⟨⟨m, d⟩, hEq, hn⟩ := Option.map_eq_some_iff.mp hSound.symm
  dsimp only at hn
  subst hn
  exact ⟨m, d, hEq, hMem⟩

end Sys2Proof.Machine

namespace Sys2Proof.Proofs

open Sys2Proof Sys2Proof.Machine

/-- Settles O39: each voice stands, is released, or is asked to prime. -/
theorem primingEvaluation : Obligations.PrimingEvaluation := by
  intro s
  have hCase := evaluatePriming_evaluated s
  refine ⟨fun v hPriming => ?_, fun v n hMem hSound => ?_, fun v n d hPriming hSound hMem => ?_, fun v hIdle hPriming hPrimed => ?_,
    fun v hChanged => ?_, marks_standby (State.marks_evaluatePriming s), rfl⟩
  · rcases hCase v with ⟨hWanted, -, h⟩ | ⟨-, -, hVoice, -⟩ | ⟨-, base, -, ⟨n, d, stamp, hMem, -, hVoice⟩, -⟩
    · rw [h.voice] at hPriming ⊢
      exact wanted_sound ((isPriming_iff _).mpr hPriming) hWanted
    · rw [hVoice] at hPriming
      rcases hPriming with h | h <;> cases h
    · rw [hVoice]
      exact ⟨n, d, rfl, hMem⟩
  · have hPlays : s.playsOn s.standbyPlays v := ⟨n, hMem, hSound⟩
    rcases hCase v with ⟨-, hFree, h⟩ | ⟨-, hFree, -, -⟩ | ⟨-, base, -, ⟨n, d, stamp, -, -, hVoice⟩, -⟩
    · rw [h.voice]
      exact hFree.resolve_right fun h => h hPlays
    · exact absurd hPlays hFree
    · rw [hVoice]
      exact fun h => by cases h
  · have hWanted := unwanted_false hSound hMem
    rcases hCase v with ⟨-, -, h⟩ | ⟨hUnwanted, -, -, -⟩ | ⟨hFree, -, -, -⟩
    · exact h.voice
    · rw [hWanted] at hUnwanted; cases hUnwanted
    · rcases hFree with hIdle | hUnwanted
      · rw [hIdle] at hPriming
        rcases hPriming with h | h <;> cases h
      · rw [hWanted] at hUnwanted; cases hUnwanted
  · have hWanted : s.unwanted v = false := by
      have hNot : (s.voice v).isPriming = false := Bool.eq_false_iff.mpr fun h => ((isPriming_iff _).mp h).elim hPriming hPrimed
      unfold State.unwanted
      rw [hNot, Bool.false_and]
    rcases hCase v with ⟨-, -, h⟩ | ⟨hUnwanted, -, -, -⟩ | ⟨hFree, -, -, -⟩
    · exact h.voice
    · rw [hWanted] at hUnwanted; cases hUnwanted
    · rcases hFree with h | hUnwanted
      · exact absurd h hIdle
      · rw [hWanted] at hUnwanted; cases hUnwanted
  · rcases hCase v with ⟨-, -, h⟩ | ⟨-, -, hVoice, hRaised⟩ | ⟨-, base, -, ⟨n, d, stamp, -, -, hVoice⟩, hRaised⟩
    · rw [h.voice] at hChanged
      exact (hChanged.elim (absurd rfl) (absurd rfl))
    · rw [if_pos (by rw [hVoice]; rfl)]
      exact hRaised
    · rw [if_neg (by rw [hVoice]; exact fun h => by cases h)]
      exact hRaised

end Sys2Proof.Proofs
end

section
/-! PROOFS. The end of an operation that leaves the instances, or sends a voice to IDLE, and FADE_COMPLETE (R31, R36, R39, R108, R117,
R118, R134). -/

namespace Sys2Proof.Machine

open Sys2Proof

section
variable {s t u : State} {v : VoiceId}

/-! ### What an evaluation leaves of levels, fades and STANDBY_READY -/

theorem evaluatePriming_level (s : State) (v : VoiceId) : (s.evaluatePriming.voice v).level = (s.voice v).level := by
  rcases evaluatePriming_evaluated s v with ⟨-, -, h⟩ | ⟨-, -, hVoice, -⟩ | ⟨-, base, hLevel, ⟨n, d, stamp, -, -, hVoice⟩, -⟩
  · rw [h.voice]
  · rw [hVoice]; rfl
  · rw [hVoice]; exact hLevel

theorem settleReady_blocks (s : State) : s.settleReady.fetch = s.fetch ∧ s.settleReady.fades = s.fades := by
  unfold State.settleReady
  dsimp only
  split
  · split <;> simp
  · split <;> simp

theorem finish_voice (s : State) (v : VoiceId) : s.finish.voice v = if s.engine.evalDue then s.evaluatePriming.voice v else s.voice v := by
  unfold State.finish State.voice State.reader
  rw [(settleReady_blocks _).1]
  split <;> rfl

theorem finish_level (s : State) (v : VoiceId) : (s.finish.voice v).level = (s.voice v).level := by
  rw [finish_voice]
  split
  · exact evaluatePriming_level s v
  · rfl

/-- Records may have left the pool, and no snap was counted. -/
structure State.Drops (s t : State) : Prop where
  pool : t.fades.pool.Sublist s.fades.pool
  snaps : t.fades.snaps = s.fades.snaps

theorem State.Drops.refl (s : State) : s.Drops s := ⟨.refl _, rfl⟩

theorem State.Drops.trans (h : s.Drops t) (h' : t.Drops u) : s.Drops u := ⟨h'.pool.trans h.pool, h'.snaps.trans h.snaps⟩

theorem State.Drops.congr (h : s.Drops t) (hu : u.fades = t.fades) : s.Drops u := ⟨by rw [hu]; exact h.pool, by rw [hu]; exact h.snaps⟩

theorem State.Drops.fadeOf (h : s.Drops t) {x : Target} (hNone : s.fadeOf x = none) : t.fadeOf x = none :=
  State.fadeOf_eq_none.mpr fun f hf => State.fadeOf_eq_none.mp hNone f (h.pool.subset hf)

theorem State.Drops.removeFade (s : State) (x : Target) : s.Drops (s.removeFade x) := by
  have hDrop : s.Drops (s.dropFade x) := ⟨List.filter_sublist, rfl⟩
  exact hDrop.congr (removeFade_fades x)

theorem callEvaluation_fades (s : State) (v : VoiceId) : (s.callEvaluation v).fades = s.fades := by
  unfold State.callEvaluation; split <;> rfl

theorem State.Drops.enterIdle (s : State) (r : ReaderId) (event : String) : s.Drops (s.enterIdle r event) := by
  have hIdle : s.Drops (((s.clearRing r).onReader r Reader.toIdle).raiseReader r event) :=
    (State.Drops.refl s).congr (by simp)
  unfold State.enterIdle
  dsimp only
  split
  · rename_i v _
    refine hIdle.trans ((State.Drops.removeFade _ (.voice v)).congr ?_)
    rw [callEvaluation_fades, (State.ownerDone_frame _ _).2.2.1]
  · exact hIdle

theorem State.Drops.evaluatePriming (s : State) : s.Drops s.evaluatePriming := by
  have hReleases : ∀ (l : List VoiceId) (t : State), t.Drops (l.foldl State.releaseUnwanted t) := by
    intro l
    induction l with
    | nil => exact .refl
    | cons v l ih =>
      intro t
      have hStep : t.Drops (t.releaseUnwanted v) := by
        rw [releaseUnwanted_eq]
        split
        · exact .enterIdle _ _ _
        · exact .refl t
      exact hStep.trans (ih _)
  have hEnd : ∀ (t : State) (l : List (VoiceId × SoundId)),
      ((l.foldl State.primeWanted t).onEngine fun b => { b with evalDue := false }).fades = t.fades := fun t l =>
    foldl_keeps State.fades State.primeWanted (by simp) l t
  unfold State.evaluatePriming
  exact (hReleases _ s).congr (hEnd _ _)

theorem State.Drops.finish (s : State) : s.Drops s.finish := by
  unfold State.finish
  split
  · exact (State.Drops.evaluatePriming s).congr (settleReady_blocks _).2
  · exact (State.Drops.refl s).congr (settleReady_blocks _).2

/-- A voice is PRIMED with a sound after an evaluation where it was before, the standby cue playing that sound on it. -/
theorem evaluatePriming_primed {n : SoundId} (hMem : (v, n) ∈ s.standbyPlays) :
    (s.evaluatePriming.voice v).state = .primed ∧ (s.evaluatePriming.voice v).soundId = some n ↔
      (s.voice v).state = .primed ∧ (s.voice v).soundId = some n := by
  rcases evaluatePriming_evaluated s v with ⟨-, -, h⟩ | ⟨hUnwanted, -, hVoice, -⟩ | ⟨hFree, base, -, ⟨m, d, stamp, -, -, hVoice⟩, -⟩
  · rw [h.voice]
  · rw [hVoice]
    refine ⟨fun h => (by cases h.1), fun h => ?_⟩
    obtain ⟨⟨k, d⟩, hSound, rfl⟩ := Option.map_eq_some_iff.mp h.2
    rw [unwanted_false hSound hMem] at hUnwanted
    cases hUnwanted
  · rw [hVoice]
    refine ⟨fun h => (by cases h.1), fun h => ?_⟩
    rcases hFree with hIdle | hUnwanted
    · rw [hIdle] at h
      cases h.1
    · obtain ⟨⟨k, d⟩, hSound, rfl⟩ := Option.map_eq_some_iff.mp h.2
      rw [unwanted_false hSound hMem] at hUnwanted
      cases hUnwanted

theorem standbyReady_eq (s : State) : s.standbyReady = (s.standbyCue.isSome && s.standbyPlays.all fun e =>
    (s.voice e.1).state = .primed ∧ (s.voice e.1).soundId = some e.2) := rfl

/-- An evaluation leaves STANDBY_READY as it was. -/
theorem evaluatePriming_ready (s : State) : s.evaluatePriming.standbyReady = s.standbyReady := by
  have hCue : s.evaluatePriming.standbyCue = s.standbyCue := by
    unfold State.standbyCue State.cueAt
    rw [marks_standby (State.marks_evaluatePriming s), kept_cues (State.evaluatePriming_frame s).1]
  have hPlays := standbyPlays_of (State.marks_evaluatePriming s) (State.evaluatePriming_frame s).1
  rw [standbyReady_eq s.evaluatePriming, standbyReady_eq s, hCue, hPlays]
  refine congrArg (s.standbyCue.isSome && ·) (Bool.eq_iff_iff.mpr ?_)
  simp only [List.all_eq_true]
  refine forall₂_congr fun e hMem => ?_
  rw [decide_eq_true_eq, decide_eq_true_eq]
  exact evaluatePriming_primed hMem

/-! ### An evaluation that no fade or start hangs on -/

/-- No record moves the voice's level, and no `Inst` waits for its start. -/
def State.Unheld (s : State) (v : VoiceId) : Prop := s.fadeOf (.voice v) = none ∧ (s.voice v).owner = none

/-- Of the fades and the engine nothing changed but the call for an evaluation, and of the reports only those of voices. -/
structure State.Quiet (s t : State) : Prop where
  fades : t.fades = s.fades
  engine : t.engine = { s.engine with evalDue := t.engine.evalDue }
  reports : s.StandsBut (fun key => ∃ v, key = .voice v) t

theorem State.Quiet.refl (s : State) : s.Quiet s := ⟨rfl, rfl, .refl s⟩

theorem State.Quiet.trans (h : s.Quiet t) (h' : t.Quiet u) : s.Quiet u :=
  ⟨h'.fades.trans h.fades, by rw [h'.engine, h.engine], h.reports.trans h'.reports⟩

theorem State.Quiet.callEvaluation (h : s.Quiet t) (v : VoiceId) : s.Quiet (t.callEvaluation v) := by
  refine ⟨(callEvaluation_fades t v).trans h.fades, ?_, h.reports.congr (congrArg LinkBlock.reports (State.callEvaluation_link t v))⟩
  unfold State.callEvaluation
  split
  · show { t.engine with evalDue := true } = _
    rw [h.engine]
    rfl
  · exact h.engine

theorem State.Quiet.raiseVoice (h : s.Quiet t) (v : VoiceId) (event : String) : s.Quiet (t.raiseReader (voiceReader v) event) := by
  refine ⟨Eq.trans (by simp) h.fades, ?_, h.reports.raiseReader ⟨v, readerKey_voice v⟩ event⟩
  have hEngine : (t.raiseReader (voiceReader v) event).engine = t.engine := by simp
  rw [hEngine]
  exact h.engine

theorem enterIdle_unheld (h : s.Unheld v) (event : String) : s.enterIdle (voiceReader v) event =
    (((s.clearRing (voiceReader v)).onReader (voiceReader v) Reader.toIdle).raiseReader (voiceReader v) event).callEvaluation v := by
  obtain ⟨hFade, hOwner⟩ := h
  have hStands : ∀ t : State, t.fades = s.fades → t.removeFade (.voice v) = t := fun t ht => by
    have hNone : t.fadeOf (.voice v) = none := (fadeOf_congr (by rw [ht]) _).trans hFade
    simp only [State.removeFade, hNone]
  have hRaised : (((s.clearRing (voiceReader v)).onReader (voiceReader v) Reader.toIdle).raiseReader (voiceReader v) event).fades = s.fades := by
    simp
  unfold State.enterIdle
  dsimp only
  rw [readerKind_voiceReader]
  dsimp only
  rw [hStands _ hRaised, show (s.reader (voiceReader v)).owner = none from hOwner]
  rfl

theorem State.Quiet.enterIdle (h : s.Unheld v) (event : String) : s.Quiet (s.enterIdle (voiceReader v) event) := by
  rw [enterIdle_unheld h]
  refine State.Quiet.callEvaluation (State.Quiet.raiseVoice ?_ v event) v
  exact ⟨rfl, rfl, (State.StandsBut.refl s).congr rfl⟩

theorem State.Quiet.unheld (h : s.Quiet t) {w : VoiceId} (hOwner : (t.voice w).owner = none ∨ t.voice w = s.voice w) (hw : s.Unheld w) :
    t.Unheld w :=
  ⟨(fadeOf_congr (by rw [h.fades]) _).trans hw.1, hOwner.elim id fun e => by rw [e]; exact hw.2⟩

theorem releases_quiet {l : List VoiceId} (h : ∀ v, (s.voice v).isPriming = true → s.Unheld v) : s.Quiet (l.foldl State.releaseUnwanted s) := by
  induction l generalizing s with
  | nil => exact .refl s
  | cons v l ih =>
    rw [List.foldl_cons, releaseUnwanted_eq]
    split
    · rename_i hUnwanted
      have hPriming : (s.voice v).isPriming = true := (Bool.and_eq_true_iff.mp hUnwanted).1
      have hStep := State.Quiet.enterIdle (h v hPriming) "released"
      refine hStep.trans (ih fun w hw => ?_)
      rw [enterIdle_voice] at hw
      by_cases hv : v = w
      · subst hv
        refine hStep.unheld (.inl ?_) (h v hPriming)
        rw [enterIdle_voice, if_pos rfl]
        rfl
      · rw [if_neg hv] at hw
        refine hStep.unheld (.inr ?_) (h w hw)
        rw [enterIdle_voice, if_neg hv]
    · exact ih h

theorem State.Quiet.primeWanted (s : State) (e : VoiceId × SoundId) : s.Quiet (s.primeWanted e) := by
  unfold State.primeWanted
  split
  · cases hSound : s.soundRec e.2 with
    | none =>
      rw [prime_none hSound]
      exact .refl s
    | some d =>
      rw [prime_eq hSound]
      refine State.Quiet.raiseVoice ?_ _ _
      exact ⟨rfl, rfl, (State.StandsBut.refl s).congr rfl⟩
  · exact .refl s

theorem evaluatePriming_quiet (h : ∀ v, (s.voice v).isPriming = true → s.Unheld v) : s.Quiet s.evaluatePriming := by
  have hPrimes : ∀ (l : List (VoiceId × SoundId)) (t : State), t.Quiet (l.foldl State.primeWanted t) := by
    intro l
    induction l with
    | nil => exact .refl
    | cons e l ih => exact fun t => (State.Quiet.primeWanted t e).trans (ih _)
  have hEnd : ∀ t : State, t.Quiet (t.onEngine fun b => { b with evalDue := false }) := fun t => ⟨rfl, rfl, (State.StandsBut.refl t).congr rfl⟩
  unfold State.evaluatePriming
  exact ((releases_quiet h).trans (hPrimes _ _)).trans (hEnd _)

theorem State.Shown.evaluatePriming {due : Bool} (hShown : s.Shown due) (h : s.Quiet s.evaluatePriming) : s.evaluatePriming.Shown false := by
  refine ⟨evaluatePriming_evalDue s, ?_, fun r hr => ?_⟩
  · rw [h.engine, evaluatePriming_ready]
    exact hShown.ready
  · rw [h.engine] at hr
    rw [evaluatePriming_ready]
    exact hShown.event r hr

/-- An operation that leaves STANDBY_READY, and whose evaluation ends nothing an `Inst` owns, ends with its fades and its engine. -/
theorem finish_quiet {due : Bool} (hShown : s.Shown due) (h : ∀ v, (s.voice v).isPriming = true → s.Unheld v) :
    s.finish.fades = s.fades ∧ s.finish.engine = { s.engine with evalDue := false, opEvent := none } ∧
      s.StandsBut (fun key => ∃ v, key = .voice v) s.finish := by
  have hQuiet := evaluatePriming_quiet h
  have hDue := hShown.due
  cases due with
  | false =>
    rw [hShown.finish]
    refine ⟨rfl, ?_, (State.StandsBut.refl s).congr rfl⟩
    show { s.engine with opEvent := none } = _
    rw [← hDue]
  | true =>
    unfold State.finish
    rw [hDue, if_pos rfl, (hShown.evaluatePriming hQuiet).settleReady]
    have hEval := evaluatePriming_evalDue s
    generalize s.evaluatePriming = t at *
    refine ⟨hQuiet.fades, ?_, hQuiet.reports.congr rfl⟩
    show { t.engine with opEvent := none } = _
    rw [hQuiet.engine, hEval]

/-! ### A voice sent to IDLE (R134) -/

theorem toIdle_idle (r : Reader) : r.toIdle.Idle := ⟨rfl, rfl, rfl, rfl, rfl, rfl, rfl, rfl, rfl⟩

/-- An operation that leaves a voice IDLE ends with it so, or PRIMING again where the standby cue plays on it. -/
theorem finish_stopped {event : String} (hIdle : (u.voice v).Idle) (hLevel : (u.voice v).level = (s.voice v).level)
    (hDisabled : u.link.disabled = s.link.disabled) (hRaised : s.Raised u (.voice v) (" event=" ++ event)) :
    s.Stopped u.finish v ∧ s.StopRaised u.finish v event := by
  have hPlays := standbyPlays_of (State.marks_finish u) (State.finish_frame u).1
  have hSettle : ∀ t : State, t.VoiceStands v t.settleReady := fun t => by
    refine ⟨?_, (State.StandsBut.refl t).settleReady fun h => by cases h⟩
    unfold State.voice State.reader
    rw [(settleReady_blocks t).1]
  have hFree : ∀ t : State, u.VoiceStands v t → s.Stopped t v ∧ s.StopRaised t v event := fun t h =>
    ⟨⟨by rw [h.voice]; exact hLevel, fun _ => by rw [h.voice]; exact hIdle, .inl (by rw [h.voice]; exact hIdle.1)⟩,
      fun _ => h.raised hRaised, fun hPriming => by rw [h.voice, hIdle.1] at hPriming; cases hPriming⟩
  by_cases hDue : u.engine.evalDue = true
  · have hFinish : u.finish = u.evaluatePriming.settleReady := by
      unfold State.finish
      rw [if_pos hDue]
    have hWanted : u.unwanted v = false := by
      unfold State.unwanted Reader.isPriming
      rw [hIdle.1]
      rfl
    rcases evaluatePriming_evaluated u v with ⟨-, -, h⟩ | ⟨hUnwanted, -, -, -⟩ | ⟨-, base, hBase, ⟨n, d, stamp, hMem, -, hVoice⟩, hPrimed⟩
    · rw [hFinish]
      exact hFree _ (h.trans (hSettle _))
    · rw [hWanted] at hUnwanted; cases hUnwanted
    · have hEnd : u.finish.voice v = { base.load n d .priming with primeStamp := stamp } := by
        rw [hFinish, (hSettle _).voice, hVoice]
      refine ⟨⟨?_, fun hNone => ?_, .inr ?_⟩, fun h => ?_, fun _ => ?_⟩
      · rw [hEnd]
        exact hBase.trans hLevel
      · exact absurd rfl (hNone (v, n) (hPlays ▸ hMem))
      · rw [hEnd]; rfl
      · rw [hEnd] at h; cases h
      · rw [hFinish]
        refine (hSettle _).raised fun hd => hPrimed (by rw [hDisabled]; exact hd)
  · have hFinish : u.finish = u.settleReady := by
      unfold State.finish
      rw [if_neg hDue]
    rw [hFinish]
    exact hFree _ (hSettle u)

end

end Sys2Proof.Machine
end

section
/-! PROOFS. FADE_COMPLETE (R31, R36, R39). -/

namespace Sys2Proof.Machine

open Sys2Proof

section
variable {s t u : State} {x y : Target} {c : LevelCode}

/-! ### The level a fade moves -/

theorem levelOf_setLevelOf : (s.setLevelOf x c).levelOf y = if y = x then c else s.levelOf y := by
  cases x with
  | xpt row bus =>
    cases y with
    | xpt row' bus' =>
      show (s.setXpt row bus c).xpt row' bus' = _
      rw [xpt_setXpt]
      by_cases h : row = row' ∧ bus = bus'
      · rw [if_pos h, if_pos (by rw [h.1, h.2])]
      · rw [if_neg h, if_neg fun e => h (by cases e; exact ⟨rfl, rfl⟩)]
        rfl
    | voice w => rfl
  | voice v =>
    cases y with
    | xpt row bus => rfl
    | voice w =>
      show ((s.onReader (voiceReader v) _).voice w).level = _
      rw [voice_onReader]
      by_cases h : v = w
      · rw [if_pos h, if_pos (by rw [h])]
      · rw [if_neg h, if_neg fun e => h (by cases e; rfl)]
        rfl

theorem levelOf_congr (hMatrix : t.matrix = s.matrix) (hVoices : ∀ v, (t.voice v).level = (s.voice v).level) (x : Target) :
    t.levelOf x = s.levelOf x := by
  cases x with
  | xpt row bus => exact xpt_congr hMatrix row bus
  | voice v => exact hVoices v

theorem enterIdle_level (v w : VoiceId) (event : String) : ((s.enterIdle (voiceReader v) event).voice w).level = (s.voice w).level := by
  rw [enterIdle_voice]
  split
  · rename_i h; subst h; rfl
  · rfl

theorem enterIdle_levelOf (v : VoiceId) (event : String) (x : Target) : (s.enterIdle (voiceReader v) event).levelOf x = s.levelOf x :=
  levelOf_congr (State.enterIdle_frame s _ event).2.1 (fun w => enterIdle_level v w event) x

theorem finish_levelOf (s : State) (x : Target) : s.finish.levelOf x = s.levelOf x :=
  levelOf_congr (State.finish_frame s).2.1 (finish_level s) x

/-! ### A record that has run its duration (R31) -/

/-- What a record leaves that completes, before its voice is stopped. -/
def State.fadeEnded (s : State) (f : Fade) : State := ((s.setLevelOf f.target f.goal).dropFade f.target).ownerDone f.owner

/-- A record on a voice that stops it when it ends at OFF. -/
def Fade.stops (f : Fade) (v : VoiceId) : Prop := f.target = .voice v ∧ f.stopAtOff = true ∧ f.goal = offCode

theorem completeFade_stops {f : Fade} {v : VoiceId} (h : f.stops v) : s.completeFade f = (s.fadeEnded f).enterIdle (voiceReader v) "stopped" := by
  obtain ⟨hTarget, hStop⟩ := h
  unfold State.completeFade State.fadeEnded
  simp only [hTarget]
  exact if_pos hStop

theorem completeFade_stands {f : Fade} (h : ∀ v, ¬f.stops v) : s.completeFade f = s.fadeEnded f := by
  cases hTarget : f.target with
  | xpt row bus =>
    unfold State.completeFade State.fadeEnded
    simp only [hTarget]
  | voice v =>
    unfold State.completeFade State.fadeEnded
    simp only [hTarget]
    exact if_neg fun hStop => h v ⟨hTarget, hStop⟩

theorem fadeEnded_levelOf (f : Fade) : (s.fadeEnded f).levelOf y = if y = f.target then f.goal else s.levelOf y := by
  rw [← levelOf_setLevelOf]
  exact levelOf_congr ((State.ownerDone_frame _ _).2.1) (fun v => congrArg Reader.level (State.ownerDone_reader _ _)) y

theorem fadeEnded_fades (f : Fade) : (s.fadeEnded f).fades = { s.fades with pool := s.fades.pool.filter fun g => g.target ≠ f.target } := by
  unfold State.fadeEnded
  rw [(State.ownerDone_frame _ _).2.2.1]
  show ({ (s.setLevelOf f.target f.goal).fades with pool := _ } : FadeBlock) = _
  rw [setLevelOf_fades]

theorem fadeEnded_fadeOf (f : Fade) : (s.fadeEnded f).fadeOf f.target = none :=
  State.fadeOf_eq_none.mpr fun g hg => by
    rw [fadeEnded_fades] at hg
    exact of_decide_eq_true (List.mem_filter.mp hg).2

theorem fadeEnded_frame (f : Fade) : (s.fadeEnded f).kept = s.kept ∧ (s.fadeEnded f).cast = s.cast ∧ (s.fadeEnded f).foldback = s.foldback ∧
    (s.fadeEnded f).router = s.router ∧ (s.fadeEnded f).lines = s.lines := by
  simp [State.fadeEnded, State.dropFade]

theorem fadeEnded_marks (f : Fade) : (s.fadeEnded f).marks = s.marks := by
  simp [State.fadeEnded, State.dropFade]

theorem fadeEnded_told (hFiring : s.engine.firing = none) (f : Fade) : (s.fadeEnded f).engine =
    { s.engine.told f.owner with opEvent := (s.fadeEnded f).engine.opEvent } := by
  have hEngine : (s.setLevelOf f.target f.goal).engine = s.engine := by simp
  have hTold := ownerDone_told (s := (s.setLevelOf f.target f.goal).dropFade f.target) (by
    show (s.setLevelOf f.target f.goal).engine.firing = none
    rw [hEngine]; exact hFiring) f.owner
  rw [show ((s.setLevelOf f.target f.goal).dropFade f.target).engine = s.engine from hEngine] at hTold
  exact hTold

theorem setLevelOf_shown {due : Bool} (h : s.Shown due) (x : Target) (c : LevelCode) : (s.setLevelOf x c).Shown due := by
  cases x with
  | xpt row bus => exact h.setXpt row bus c
  | voice v =>
    refine h.congr rfl rfl rfl ?_
    have hVoice : ∀ w, ((s.setLevelOf (.voice v) c).voice w).state = (s.voice w).state ∧
        ((s.setLevelOf (.voice v) c).voice w).soundId = (s.voice w).soundId := fun w => by
      rw [show (s.setLevelOf (.voice v) c).voice w = _ from voice_onReader v w _]
      split
      · rename_i e; subst e; exact ⟨rfl, rfl⟩
      · exact ⟨rfl, rfl⟩
    rw [standbyReady_eq, standbyReady_eq]
    simp only [hVoice]
    rfl

theorem fadeEnded_shown {due : Bool} (h : s.Shown due) (f : Fade) : (s.fadeEnded f).Shown due := by
  refine State.Shown.ownerDone ?_ _
  exact (setLevelOf_shown h f.target f.goal).outside rfl rfl rfl

theorem fadeEnded_voice (f : Fade) (v : VoiceId) : (s.fadeEnded f).voice v = { s.voice v with level := ((s.fadeEnded f).voice v).level } := by
  have hReader : (s.fadeEnded f).voice v = (s.setLevelOf f.target f.goal).voice v := State.ownerDone_reader _ _
  rw [hReader]
  cases f.target with
  | xpt row bus => rfl
  | voice w =>
    rw [show (s.setLevelOf (.voice w) f.goal).voice v = _ from voice_onReader w v _]
    split
    · rename_i h; subst h; rfl
    · rfl

/-- The last item of an `Inst` has a CUE report raised. -/
theorem endLink_raised (hDisabled : t.link.disabled = s.link.disabled) (i : Inst) (h : s.Raised t .cue "!CUE event=") :
    s.Raised (t.endLink i) .cue "!CUE event=" := by
  unfold State.endLink
  split
  · exact h
  · split
    · split
      · unfold State.setChain
        dsimp only
        split
        · exact raiseCue_raised (by exact hDisabled) _
        · exact raiseCue_raised (by exact (kept_disabled (State.raiseCue_frame _ _).1).trans hDisabled) _
      · exact raiseCue_raised hDisabled _
    · exact raiseCue_raised hDisabled _

/-- A report raised, told of a state with the same mask. -/
theorem State.Raised.told {key : ReportKey} {part : String} (h : s.Raised t key part) (hDisabled : u.link.disabled = s.link.disabled) :
    u.Raised t key part := fun hd => h (hDisabled ▸ hd)

theorem ownerDone_raised (hDisabled : t.link.disabled = s.link.disabled) (hFiring : t.engine.firing = none) {slot : InstSlot} {i : Inst}
    (hInst : t.instAt slot = some i) (hLast : i.count = 1) : s.Raised (t.ownerDone (some slot)) .cue "!CUE event=" := by
  have hFires : (t.setCount slot (i.count - 1)).engine.firing ≠ some slot := by
    show t.engine.firing ≠ _
    rw [hFiring]
    exact fun h => by cases h
  have hDone : t.ownerDone (some slot) = (t.setCount slot (i.count - 1)).completeInst { i with count := i.count - 1 } false := by
    show t.instDone slot = _
    simp only [State.instDone, hInst]
    rw [if_pos ⟨by omega, hFires⟩]
  rw [hDone]
  unfold State.completeInst
  dsimp only
  rw [if_neg (by decide)]
  refine endLink_raised ?_ _ (raiseCue_raised (by exact hDisabled) _)
  exact (kept_disabled (State.raiseCue_frame _ _).1).trans hDisabled

/-! ### The completion as a whole -/

/-- A property of a completion, by whether its voice stops. -/
theorem completeFade_cases {P : State → Prop} {f : Fade} (hStands : P (s.fadeEnded f))
    (hStops : ∀ v, f.stops v → P ((s.fadeEnded f).enterIdle (voiceReader v) "stopped")) : P (s.completeFade f) := by
  by_cases h : ∃ v, f.stops v
  · obtain ⟨v, hv⟩ := h
    rw [completeFade_stops hv]
    exact hStops v hv
  · rw [completeFade_stands fun v hv => h ⟨v, hv⟩]
    exact hStands

theorem completeFade_levelOf (f : Fade) (y : Target) : (s.completeFade f).levelOf y = if y = f.target then f.goal else s.levelOf y :=
  completeFade_cases (P := fun t => t.levelOf y = _) (fadeEnded_levelOf f) fun v _ => (enterIdle_levelOf v _ y).trans (fadeEnded_levelOf f)

theorem completeFade_drops (f : Fade) : (s.fadeEnded f).Drops (s.completeFade f) :=
  completeFade_cases (.refl _) fun _ _ => .enterIdle _ _ _

/-- A voice that enters IDLE from a state that is not PRIMED leaves STANDBY_READY. -/
theorem enterIdle_ready {v : VoiceId} (h : (s.voice v).state ≠ .primed) (event : String) :
    (s.enterIdle (voiceReader v) event).standbyReady = s.standbyReady := by
  have hMarks := State.marks_enterIdle s (voiceReader v) event
  have hKept := (State.enterIdle_frame s (voiceReader v) event).1
  have hCue : (s.enterIdle (voiceReader v) event).standbyCue = s.standbyCue := by
    unfold State.standbyCue State.cueAt
    rw [marks_standby hMarks, kept_cues hKept]
  rw [standbyReady_eq (s.enterIdle _ _), standbyReady_eq s, hCue, standbyPlays_of hMarks hKept]
  refine congrArg (s.standbyCue.isSome && ·) (congrArg (s.standbyPlays.all ·) (funext fun e => ?_))
  rw [enterIdle_voice]
  split
  · rename_i hv
    rw [← hv]
    have hIdle : ¬((s.voice v).toIdle.state = .primed ∧ (s.voice v).toIdle.soundId = some e.2) := fun e => by cases e.1
    rw [decide_eq_false hIdle, decide_eq_false fun e => h e.1]
  · rfl

/-- A voice no record moves and no `Inst` waits for enters IDLE from a state that is not PRIMED, with STANDBY_READY as shown. -/
theorem enterIdle_shown {due : Bool} (h : s.Shown due) {v : VoiceId} (hUnheld : s.Unheld v) (hState : (s.voice v).state ≠ .primed)
    (event : String) : ∃ due', (s.enterIdle (voiceReader v) event).Shown due' := by
  have hEngine := (State.Quiet.enterIdle hUnheld event).engine
  refine ⟨_, rfl, ?_, fun r hr => ?_⟩
  · rw [enterIdle_ready hState, hEngine]
    exact h.ready
  · rw [hEngine] at hr
    rw [enterIdle_ready hState]
    exact h.event r hr

theorem enterIdle_unhelds {v w : VoiceId} (hUnheld : s.Unheld v) (event : String) (hAll : ∀ w, (s.voice w).isPriming = true → s.Unheld w)
    (hw : ((s.enterIdle (voiceReader v) event).voice w).isPriming = true) : (s.enterIdle (voiceReader v) event).Unheld w := by
  have hQuiet := State.Quiet.enterIdle hUnheld event
  rw [enterIdle_voice] at hw
  by_cases h : v = w
  · rw [if_pos h] at hw
    cases hw
  · rw [if_neg h] at hw
    refine hQuiet.unheld (.inr ?_) (hAll w hw)
    rw [enterIdle_voice, if_neg h]

/-! ### The instances' counts and the priming voices -/

/-- No voice that is priming has a record or an owner. -/
theorem State.OwnersOk.unheld (h : s.OwnersOk) {v : VoiceId} (hPriming : (s.voice v).isPriming = true) : s.Unheld v := by
  obtain ⟨-, -, -, -, hStarts, hSounding, -⟩ := h
  have hState := (isPriming_iff _).mp hPriming
  refine ⟨State.fadeOf_eq_none.mpr fun f hf e => ?_, ?_⟩
  · rcases hSounding f hf v e with h | h <;> rcases hState with h' | h' <;> rw [h] at h' <;> cases h'
  · by_contra hOwner
    obtain ⟨slot, hSlot⟩ := Option.ne_none_iff_exists'.mp hOwner
    have hStarting := (hStarts (voiceReader v) slot hSlot).2.1
    rcases hState with h' | h' <;> rw [show (s.reader (voiceReader v)).state = (s.voice v).state from rfl, h'] at hStarting <;> cases hStarting

/-- A voice a record moves has no owner, and is not primed. -/
theorem State.OwnersOk.sounding (h : s.OwnersOk) {f : Fade} (hf : f ∈ s.fades.pool) {v : VoiceId} (hTarget : f.target = .voice v) :
    (s.voice v).owner = none ∧ (s.voice v).state ≠ .primed := by
  obtain ⟨-, -, -, -, hStarts, hSounding, -⟩ := h
  refine ⟨?_, fun h => by rcases hSounding f hf v hTarget with h' | h' <;> rw [h] at h' <;> cases h'⟩
  by_contra hOwner
  obtain ⟨slot, hSlot⟩ := Option.ne_none_iff_exists'.mp hOwner
  have hStarting : (s.voice v).state = .starting := (hStarts (voiceReader v) slot hSlot).2.1
  rcases hSounding f hf v hTarget with h' | h' <;> rw [hStarting] at h' <;> cases h'

/-- Where the instances' counts are right, a completion leaves the voices that prime, and of fades and the engine what its end leaves. -/
theorem completeFade_quiet (hOwners : s.OwnersOk) (hSettled : s.Settled) {f : Fade} (hf : f ∈ s.fades.pool) :
    (s.fadeEnded f).Quiet (s.completeFade f) ∧ (∃ due, (s.completeFade f).Shown due) ∧
      ∀ w, ((s.completeFade f).voice w).isPriming = true → (s.completeFade f).Unheld w := by
  have hShown := fadeEnded_shown hSettled.shown f
  have hVoice := fadeEnded_voice (s := s) f
  have hUnhelds : ∀ w, ((s.fadeEnded f).voice w).isPriming = true → (s.fadeEnded f).Unheld w := fun w hw => by
    rw [hVoice] at hw
    obtain ⟨hFade, hOwner⟩ := hOwners.unheld hw
    refine ⟨State.fadeOf_eq_none.mpr fun g hg => ?_, by rw [hVoice]; exact hOwner⟩
    rw [fadeEnded_fades] at hg
    exact State.fadeOf_eq_none.mp hFade g (List.mem_filter.mp hg).1
  refine completeFade_cases (P := fun t => (s.fadeEnded f).Quiet t ∧ (∃ due, t.Shown due) ∧
    ∀ w, (t.voice w).isPriming = true → t.Unheld w) ⟨.refl _, ⟨false, hShown⟩, hUnhelds⟩ fun v hStops => ?_
  obtain ⟨hOwner, hState⟩ := hOwners.sounding hf hStops.1
  have hUnheld : (s.fadeEnded f).Unheld v := ⟨hStops.1 ▸ fadeEnded_fadeOf f, by rw [hVoice]; exact hOwner⟩
  exact ⟨.enterIdle hUnheld _, enterIdle_shown hShown hUnheld (by rw [hVoice]; exact hState) _, fun w hw => enterIdle_unhelds hUnheld _ hUnhelds hw⟩

end

end Sys2Proof.Machine

namespace Sys2Proof.Proofs

open Sys2Proof Sys2Proof.Machine

/-- Settles O23: the record leaves the pool, its target has its level, its owner is told, and a voice that it stops is sent to IDLE. -/
theorem fadeCompletes : Obligations.FadeCompletes := by
  intro s target hReset hCalm
  obtain ⟨hSettled, hPrompt⟩ := hCalm
  rw [exec_fadeComplete, laterEvent_running hReset hPrompt]
  refine ⟨fun f hFade hDue hRuns => ⟨_, rfl, ?_⟩, fun h => ?_⟩
  · obtain ⟨hMem, hTarget⟩ : f ∈ s.fades.pool ∧ f.target = target :=
      ⟨List.mem_of_find?_eq_some hFade, by simpa using List.find?_some (p := fun g : Fade => decide (g.target = target)) hFade⟩
    subst hTarget
    have hDone : s.fadeDone f.target = s.completeFade f := by
      have hFrozen : s.frozen f = false := by
        unfold State.frozen
        rcases hRuns with h | h <;> rw [h]
        · rfl
        · exact Bool.and_false _
      have hRun : (f.due && !s.frozen f) = true := by
        rw [hFrozen]
        exact Bool.and_eq_true_iff.mpr ⟨decide_eq_true hDue, rfl⟩
      simp only [State.fadeDone, hFade, hRun, if_true]
    rw [hDone]
    obtain ⟨hKept, hCast, -, hFoldback, hRouter, hLines⟩ := State.completeFade_frame s f
    obtain ⟨hFinishKept, -, hFinishCast, -, hFinishFoldback, hFinishRouter, hFinishLines⟩ := State.finish_frame (s.completeFade f)
    have hLevel : ∀ y, (s.completeFade f).finish.levelOf y = if y = f.target then f.goal else s.levelOf y := fun y =>
      (finish_levelOf _ y).trans (completeFade_levelOf f y)
    have hDrops := (completeFade_drops f).trans (.finish (s.completeFade f))
    have hSnaps : (s.fadeEnded f).fades.snaps = s.fades.snaps := by rw [fadeEnded_fades]
    have hStop : ∀ v, f.stops v → (s.fadeEnded f).Stopped (s.completeFade f).finish v ∧
        (s.fadeEnded f).StopRaised (s.completeFade f).finish v "stopped" := fun v hStops => by
      rw [completeFade_stops hStops]
      exact finish_stopped (by rw [enterIdle_voice, if_pos rfl]; exact toIdle_idle _) (enterIdle_level v v _)
        (kept_disabled (State.enterIdle_frame _ _ _).1) (enterIdle_raised rfl _)
    have hDisabled : s.link.disabled = (s.fadeEnded f).link.disabled := (kept_disabled (fadeEnded_frame f).1).symm
    refine ⟨(hLevel _).trans (if_pos rfl), hDrops.fadeOf (fadeEnded_fadeOf f), fun y hy => (hLevel y).trans (if_neg hy),
      (kept_ports hFinishKept).trans (kept_ports hKept), hFinishCast.trans hCast, hFinishRouter.trans hRouter, hFinishLines.trans hLines,
      hFinishFoldback.trans hFoldback, ?_, ?_, hDrops.snaps.trans hSnaps, fun hOwners => ?_⟩
    · exact fun v hTarget hStopAtOff hOff => (hStop v ⟨hTarget, hStopAtOff, hOff⟩).1.2.2
    · intro v hTarget hStopAtOff hOff
      obtain ⟨-, hIdle, hPriming⟩ := hStop v ⟨hTarget, hStopAtOff, hOff⟩
      exact ⟨fun h => (hIdle h).told hDisabled, fun h => (hPriming h).told hDisabled⟩
    · obtain ⟨hQuiet, ⟨due, hShown⟩, hUnhelds⟩ := completeFade_quiet hOwners hSettled hMem
      obtain ⟨hFades, hEngine, hReports⟩ := finish_quiet hShown hUnhelds
      have hFiring : s.engine.firing = none := hOwners.2.2.2.2.2.2
      refine ⟨?_, ?_, fun slot i hOwner hInst hLast => ?_⟩
      · rw [hFades, hQuiet.fades, fadeEnded_fades]
      · rw [hEngine, hQuiet.engine, fadeEnded_told hFiring]
        have hTold := told_eq s.engine f.owner
        obtain ⟨hDue, hEvent, -⟩ := hSettled
        rw [hTold, ← hDue, ← hEvent]
      · have hDone : s.Raised (s.fadeEnded f) .cue "!CUE event=" := by
          have hEngine : ((s.setLevelOf f.target f.goal).dropFade f.target).engine = s.engine := (State.setLevelOf_frame s _ _).2.2.2.2.1
          unfold State.fadeEnded
          rw [hOwner]
          refine ownerDone_raised (t := (s.setLevelOf f.target f.goal).dropFade f.target) (kept_disabled (State.setLevelOf_frame s _ _).1) (by rw [hEngine]; exact hFiring) (i := i) ?_ hLast
          unfold State.instAt
          rw [hEngine]
          exact hInst
        refine hDone.stands (hQuiet.reports.trans hReports) ?_
        rintro ⟨v, hv⟩
        cases hv
  · have hEarly : s.fadeDone target = s := by
      cases hFade : s.fadeOf target with
      | none => simp only [State.fadeDone, hFade]
      | some f =>
        have hWaits : (f.due && !s.frozen f) = false := by
          rcases h f hFade with hRuns | ⟨hOwner, hHalted⟩
          · have hNot : f.due = false := decide_eq_false (Nat.not_le.mpr hRuns)
            rw [hNot, Bool.false_and]
          · have hFrozen : s.frozen f = true := Bool.and_eq_true_iff.mpr ⟨Option.isSome_iff_ne_none.mpr hOwner, hHalted⟩
            rw [hFrozen]
            exact Bool.and_false _
        simp only [State.fadeDone, hFade, hWaits, Bool.false_eq_true, if_false]
    rw [hEarly, finish_of_settled hSettled]

end Sys2Proof.Proofs
end

section
/-! PROOFS. The rules of the relay and call router: the zones of a call that ends or is granted, the readers and the reports its operations
reach, and what a walk keeps (R170 to R175, R181). -/

namespace Sys2Proof.Machine

open Sys2Proof

section
variable {s t u : State}

/-! ### Zones of a list -/

theorem foldl_onZone_router (f : Zone → Zone) (l : List ZoneId) :
    (l.foldl (fun s z => s.onZone z f) s).router = { s.router with zones := (l.foldl (fun s z => s.onZone z f) s).router.zones } := by
  refine foldl_holds (P := fun t : State => t.router = { s.router with zones := t.router.zones }) (f := fun s z => s.onZone z f)
    (fun t z h => ?_) l rfl
  show { t.router with zones := update t.router.zones z f } = _
  rw [h]
  rfl

theorem foldl_onZone_fetch (f : Zone → Zone) (l : List ZoneId) : (l.foldl (fun s z => s.onZone z f) s).fetch = s.fetch :=
  foldl_keeps State.fetch (fun (s : State) z => s.onZone z f) (fun _ _ => rfl) l s

theorem foldl_onZone_link (f : Zone → Zone) (l : List ZoneId) : (l.foldl (fun s z => s.onZone z f) s).link = s.link :=
  foldl_keeps State.link (fun (s : State) z => s.onZone z f) (fun _ _ => rfl) l s

/-- Each zone of the list takes the change, and it may be named twice. -/
theorem foldl_onZone_zone {f : Zone → Zone} (hf : ∀ z, f (f z) = f z) (l : List ZoneId) (w : ZoneId) :
    (l.foldl (fun s z => s.onZone z f) s).zone w = if w ∈ l then f (s.zone w) else s.zone w := by
  induction l generalizing s with
  | nil => rfl
  | cons z l ih =>
    rw [List.foldl_cons, ih, zone_onZone]
    by_cases h : z = w
    · subst h
      simp [hf]
    · simp [h, Ne.symm h]

theorem Zone.release_release (z : Zone) : z.release.release = z.release := rfl

theorem Zone.take_take (id depth : Nat) (z : Zone) : (z.take id depth).take id depth = z.take id depth := rfl

/-! ### Players (R137) -/

theorem stopPlayer_reader (p : PlayerId) (q : ReaderId) : (s.stopPlayer p).reader q =
    if playerReader p = q ∧ (s.reader (playerReader p)).state ≠ .idle then (s.reader q).toIdle else s.reader q := by
  unfold State.stopPlayer
  split
  · rename_i h
    rw [if_neg fun e => e.2 h]
  · rename_i h
    rw [enterIdle_reader]
    by_cases hq : playerReader p = q
    · subst hq
      rw [if_pos rfl, if_pos ⟨rfl, h⟩]
    · rw [if_neg hq, if_neg fun e => hq e.1]

theorem readerKey_player (p : PlayerId) : readerKey (playerReader p) = .player p := by
  unfold readerKey
  rw [readerKind_playerReader]

theorem enterIdle_player (p : PlayerId) (event : String) : s.enterIdle (playerReader p) event =
    (((s.clearRing (playerReader p)).onReader (playerReader p) Reader.toIdle).raiseReader (playerReader p) event) := by
  unfold State.enterIdle
  rw [readerKind_playerReader]

theorem startPlayer_eq {p : PlayerId} {n : SoundId} {d : Sound} (h : s.soundRec n = some d) : s.startPlayer p n =
    (((s.clearRing (playerReader p)).onReader (playerReader p) fun x => { x.load n d .starting with playMoment := s.now }).raiseReader
      (playerReader p) "starting") := by
  simp only [State.startPlayer, h]

theorem startPlayer_none {p : PlayerId} {n : SoundId} (h : s.soundRec n = none) : s.startPlayer p n = s := by
  simp only [State.startPlayer, h]

theorem startPlayer_reader (p : PlayerId) (n : SoundId) {q : ReaderId} (hq : playerReader p ≠ q) :
    (s.startPlayer p n).reader q = s.reader q := by
  cases h : s.soundRec n with
  | none => rw [startPlayer_none h]
  | some d =>
    rw [startPlayer_eq h, State.raiseReader_reader, reader_onReader, if_neg hq]
    unfold State.clearRing
    rw [reader_onReader, if_neg hq]
    rfl

/-! ### A call that leaves the table (R175) -/

/-- The keys a call's end or grant may replace: its own, and those of the players. -/
def ReportKey.ofRouter : ReportKey → Prop
  | .call _ => True
  | .player _ => True
  | _ => False

/-- Of the readers only players changed, and of the reports only those of calls and players. -/
structure State.PlayersOnly (s t : State) : Prop where
  voices : ∀ v : VoiceId, t.voice v = s.voice v
  reports : s.StandsBut ReportKey.ofRouter t

theorem State.PlayersOnly.refl (s : State) : s.PlayersOnly s := ⟨fun _ => rfl, .refl s⟩

theorem State.PlayersOnly.trans (h : s.PlayersOnly t) (h' : t.PlayersOnly u) : s.PlayersOnly u :=
  ⟨fun v => (h'.voices v).trans (h.voices v), h.reports.trans h'.reports⟩

theorem State.PlayersOnly.congr (h : s.PlayersOnly t) (hFetch : u.fetch = t.fetch) (hLink : u.link = t.link) : s.PlayersOnly u := by
  refine ⟨fun v => ?_, h.reports.congr (by rw [hLink])⟩
  rw [← h.voices v]
  unfold State.voice State.reader
  rw [hFetch]

theorem State.PlayersOnly.raise (h : s.PlayersOnly t) {key : ReportKey} (hKey : key.ofRouter) (text : String) :
    s.PlayersOnly (t.raise key text) :=
  ⟨fun v => by rw [← h.voices v]; unfold State.voice State.reader; rw [State.raise_fetch], h.reports.raise hKey text⟩

theorem State.PlayersOnly.stopPlayer (h : s.PlayersOnly t) (p : PlayerId) : s.PlayersOnly (t.stopPlayer p) := by
  refine ⟨fun v => ?_, ?_⟩
  · rw [← h.voices v]
    unfold State.voice
    rw [stopPlayer_reader, if_neg fun e => voiceReader_ne_playerReader v p e.1.symm]
  · unfold State.stopPlayer
    split
    · exact h.reports
    · rw [enterIdle_player]
      refine State.StandsBut.raiseReader ?_ (by rw [readerKey_player]; trivial) _
      exact h.reports.congr rfl

theorem State.PlayersOnly.startPlayer (h : s.PlayersOnly t) (p : PlayerId) (n : SoundId) : s.PlayersOnly (t.startPlayer p n) := by
  refine ⟨fun v => ?_, ?_⟩
  · rw [← h.voices v]
    exact startPlayer_reader p n (voiceReader_ne_playerReader v p).symm
  · cases hSound : t.soundRec n with
    | none => rw [startPlayer_none hSound]; exact h.reports
    | some d =>
      rw [startPlayer_eq hSound]
      refine State.StandsBut.raiseReader ?_ (by rw [readerKey_player]; trivial) _
      exact h.reports.congr rfl

/-- The zones a call frees at its end. -/
def State.freed (s : State) (c : Call) : State := if c.grant.isSome then c.zones.foldl (fun s z => s.onZone z Zone.release) s else s

/-- The player a call stops at its end. -/
def State.silenced (s : State) (c : Call) : State :=
  match c.player with
  | some p => s.stopPlayer p
  | none => s

theorem Call.player_none {c : Call} (h : c.grant = none) : c.player = none := by
  unfold Call.player
  rw [h]
  rfl

theorem closeCall_eq (c : Call) (cause : CallCause) (by_ : Option Nat) : s.closeCall c cause by_ =
    (((s.freed c).silenced c).dropCall c.id).raiseCall c .ended none (some cause) by_ "ended" := by
  unfold State.closeCall State.freed State.silenced
  cases hGrant : c.grant with
  | none =>
    rw [Call.player_none hGrant]
  | some g => rfl

theorem freed_router (c : Call) : (s.freed c).router = { s.router with zones := (s.freed c).router.zones } := by
  unfold State.freed
  split
  · exact foldl_onZone_router _ _
  · rfl

theorem freed_fetch (c : Call) : (s.freed c).fetch = s.fetch := by
  unfold State.freed
  split
  · exact foldl_onZone_fetch _ _
  · rfl

theorem freed_link (c : Call) : (s.freed c).link = s.link := by
  unfold State.freed
  split
  · exact foldl_onZone_link _ _
  · rfl

theorem freed_zone (c : Call) (w : ZoneId) :
    (s.freed c).zone w = if c.grant.isSome ∧ w ∈ c.zones then (s.zone w).release else s.zone w := by
  unfold State.freed
  split
  · rename_i h
    rw [foldl_onZone_zone Zone.release_release]
    simp [h]
  · rename_i h
    rw [if_neg fun e => h e.1]

theorem silenced_router (c : Call) : (s.silenced c).router = s.router := by
  unfold State.silenced
  split
  · simp
  · rfl

theorem closeCall_router (c : Call) (cause : CallCause) (by_ : Option Nat) : (s.closeCall c cause by_).router =
    { s.router with zones := (s.freed c).router.zones, calls := s.router.calls.filter fun d => d.id ≠ c.id } := by
  rw [closeCall_eq]
  unfold State.raiseCall State.dropCall
  rw [State.raise_router, State.onRouter_router, silenced_router, freed_router]

theorem closeCall_zone (c : Call) (cause : CallCause) (by_ : Option Nat) (w : ZoneId) :
    (s.closeCall c cause by_).zone w = if c.grant.isSome ∧ w ∈ c.zones then (s.zone w).release else s.zone w := by
  rw [← freed_zone]
  unfold State.zone
  rw [closeCall_router]

theorem State.PlayersOnly.silenced (h : s.PlayersOnly t) (c : Call) : s.PlayersOnly (t.silenced c) := by
  unfold State.silenced
  split
  · exact h.stopPlayer _
  · exact h

theorem State.PlayersOnly.closeCall (h : s.PlayersOnly t) (c : Call) (cause : CallCause) (by_ : Option Nat) :
    s.PlayersOnly (t.closeCall c cause by_) := by
  rw [closeCall_eq]
  refine State.PlayersOnly.raise ?_ (show ReportKey.ofRouter (.call _) from trivial) _
  refine State.PlayersOnly.congr (t := (t.freed c).silenced c) ?_ rfl rfl
  exact (h.congr (freed_fetch c) (freed_link c)).silenced c

/-! ### A call granted (R172) -/

/-- The LIVE calls in the way of a call's grant. -/
def State.inTheWay (s : State) (c : Call) (player : Option PlayerId) : List Call :=
  s.router.calls.filter fun d =>
    d.grant.isSome ∧ (c.zones.any (fun z => (s.zone z).holding = some d.id) ∨ (player.isSome ∧ d.player = player))

/-- The state in which the calls in the way of a grant have ended. -/
def State.cleared (s : State) (c : Call) (player : Option PlayerId) : State :=
  (s.inTheWay c player).foldl (fun s d => s.closeCall d .preempted (some c.id)) s

/-- A call with its grant. -/
def Call.goneLive (c : Call) (stamp : Nat) (player : Option PlayerId) : Call := { c with grant := some { stamp := stamp, player := player } }

/-- The state in which a granted call is LIVE and holds its zones. -/
def State.seated (s : State) (c : Call) (player : Option PlayerId) : State :=
  c.zones.foldl (fun s z => s.onZone z (Zone.take c.id c.req.duck)) (s.onRouter fun b => { b with
    grantStamp := s.router.grantStamp + 1
    calls := b.calls.map fun d => if d.id = c.id then c.goneLive s.router.grantStamp player else d })

/-- The player of a recorded call starts its sound. -/
def State.sounded (s : State) (c : Call) (player : Option PlayerId) : State :=
  match player, c.req.src with
  | some p, .sound n => s.startPlayer p n
  | _, _ => s

theorem grantCall_eq (c : Call) (player : Option PlayerId) : s.grantCall c player =
    (((s.cleared c player).seated c player).sounded c player).raiseCall
      (c.goneLive (s.cleared c player).router.grantStamp player) .live player none none "granted" := by
  unfold State.grantCall State.sounded
  cases player with
  | none => rfl
  | some p => cases c.req.src <;> rfl

theorem seated_router (c : Call) (player : Option PlayerId) : (s.seated c player).router = { s.router with
    zones := (s.seated c player).router.zones
    grantStamp := s.router.grantStamp + 1
    calls := s.router.calls.map fun d => if d.id = c.id then c.goneLive s.router.grantStamp player else d } := by
  unfold State.seated
  rw [foldl_onZone_router]
  rfl

theorem seated_zone (c : Call) (player : Option PlayerId) (w : ZoneId) :
    (s.seated c player).zone w = if w ∈ c.zones then (s.zone w).take c.id c.req.duck else s.zone w := by
  unfold State.seated
  rw [foldl_onZone_zone (Zone.take_take _ _)]
  rfl

theorem sounded_router (c : Call) (player : Option PlayerId) : (s.sounded c player).router = s.router := by
  unfold State.sounded
  split
  · simp
  · rfl

theorem grantCall_router (c : Call) (player : Option PlayerId) :
    (s.grantCall c player).router = ((s.cleared c player).seated c player).router := by
  rw [grantCall_eq]
  unfold State.raiseCall
  rw [State.raise_router, sounded_router]

theorem State.PlayersOnly.cleared (h : s.PlayersOnly t) (c : Call) (player : Option PlayerId) : s.PlayersOnly (t.cleared c player) :=
  foldl_holds (P := fun u : State => s.PlayersOnly u) (f := fun (u : State) d => u.closeCall d .preempted (some c.id))
    (fun _ d hu => hu.closeCall d _ _) _ h

theorem State.PlayersOnly.seated (h : s.PlayersOnly t) (c : Call) (player : Option PlayerId) : s.PlayersOnly (t.seated c player) := by
  refine h.congr ?_ ?_
  · unfold State.seated
    rw [foldl_onZone_fetch]
    rfl
  · unfold State.seated
    rw [foldl_onZone_link]
    rfl

theorem State.PlayersOnly.sounded (h : s.PlayersOnly t) (c : Call) (player : Option PlayerId) : s.PlayersOnly (t.sounded c player) := by
  unfold State.sounded
  split
  · exact h.startPlayer _ _
  · exact h

theorem State.PlayersOnly.grantCall (h : s.PlayersOnly t) (c : Call) (player : Option PlayerId) : s.PlayersOnly (t.grantCall c player) := by
  rw [grantCall_eq]
  exact (((h.cleared c player).seated c player).sounded c player).raise (show ReportKey.ofRouter (.call _) from trivial) _

end

/-! ### The walk (R170, R171) -/

/-- A property the ends of calls in the table and the grants of WAITING ones keep. -/
structure Routed (P : State → Prop) : Prop where
  close : ∀ {s c cause by_}, P s → c ∈ s.router.calls → P (s.closeCall c cause by_)
  grant : ∀ {s c player}, P s → c ∈ s.router.calls → c.grant = none → P (s.grantCall c player)

section
variable {P : State → Prop} (h : Routed P) {s : State}
include h

theorem Routed.visit {w : Walk} (hw : P w.state) (id : Nat) : P (w.visit id).state := by
  unfold Walk.visit
  split
  · exact hw
  · rename_i c hCall
    split
    · exact hw
    · rename_i hWaiting
      split
      · exact h.grant hw (State.callAt_mem hCall) (Option.not_isSome_iff_eq_none.mp hWaiting)
      · exact hw

theorem Routed.walkOnce (hs : P s) : P s.walkOnce.state := by
  have hVisits : ∀ (l : List Nat) (w : Walk), P w.state → P (l.foldl Walk.visit w).state := by
    intro l
    induction l with
    | nil => exact fun _ hw => hw
    | cons id l ih => exact fun w hw => ih _ (h.visit hw id)
  exact hVisits _ _ hs

theorem Routed.walkUpTo (n : Nat) (hs : P s) : P (s.walkUpTo n) := by
  induction n generalizing s with
  | zero => exact hs
  | succ n ih =>
    unfold State.walkUpTo
    dsimp only
    split
    · exact ih (h.walkOnce hs)
    · exact h.walkOnce hs

theorem Routed.walk (hs : P s) : P s.walk := h.walkUpTo _ hs

theorem Routed.endCall (hs : P s) {c : Call} (hc : c ∈ s.router.calls) (cause : CallCause) : P (s.endCall c cause) := h.walk (h.close hs hc)

theorem Routed.playerReports (hs : P s) (p : PlayerId) (cause : CallCause) : P (s.playerReports p cause) := by
  unfold State.playerReports
  split
  · exact hs
  · rename_i c hCall
    exact h.endCall hs (List.mem_of_find?_eq_some hCall) cause

end

/-- The router reaches no voice, and no report but those of calls and players. -/
theorem playersOnly_routed (s : State) : Routed s.PlayersOnly where
  close := fun h _ => h.closeCall _ _ _
  grant := fun h _ _ => h.grantCall _ _

/-- A zone no call of the table names. -/
def State.ZoneApart (s : State) (z : ZoneId) (t : State) : Prop := (∀ c ∈ t.router.calls, z ∉ c.zones) ∧ t.zone z = s.zone z

/-- The router leaves a zone that no call names. -/
theorem zoneApart_routed (s : State) (z : ZoneId) : Routed (s.ZoneApart z) := by
  have hClose : ∀ {t : State} {c : Call} {cause by_}, s.ZoneApart z t → z ∉ c.zones → s.ZoneApart z (t.closeCall c cause by_) :=
    fun {t} {c} {_} {_} ht hz => by
      obtain ⟨hCalls, hZone⟩ := ht
      refine ⟨fun d hd => hCalls d ?_, ?_⟩
      · rw [closeCall_router] at hd
        exact (List.mem_filter.mp hd).1
      · rw [closeCall_zone, if_neg fun e => hz e.2]
        exact hZone
  refine ⟨fun ht hc => hClose ht (ht.1 _ hc), fun {t} {c} {player} ht hc _ => ?_⟩
  have hz := ht.1 c hc
  have hCleared : s.ZoneApart z (t.cleared c player) := by
    have hAll : ∀ d ∈ t.inTheWay c player, z ∉ d.zones := fun d hd => ht.1 d (List.mem_filter.mp hd).1
    unfold State.cleared
    generalize t.inTheWay c player = l at hAll
    clear hc
    induction l generalizing t with
    | nil => exact ht
    | cons d l ih => exact ih (hClose ht (hAll d List.mem_cons_self)) fun e he => hAll e (List.mem_cons_of_mem _ he)
  obtain ⟨hCalls, hZone⟩ := hCleared
  refine ⟨fun d hd => ?_, ?_⟩
  · rw [grantCall_router, seated_router] at hd
    obtain ⟨e, he, rfl⟩ := List.mem_map.mp hd
    split
    · exact hz
    · exact hCalls e he
  · have hSeated := seated_zone (s := t.cleared c player) c player z
    rw [if_neg hz, hZone] at hSeated
    rw [← hSeated]
    unfold State.zone
    rw [grantCall_router]

end Sys2Proof.Machine
end

section
/-! PROOFS. The sample step of a reader, the fade step of a target, and both in FRAME (R29, R30, R39, R128, R129, R131, R144). -/

namespace Sys2Proof.Machine

open Sys2Proof

/-! ### The sample step of a reader (R129, R131) -/

/-- A reader after the sample of a frame, the end of a stall counted. -/
def Reader.replayed (x : Reader) : Reader :=
  if x.state = .stalled then { x.advance with stall := some (x.stalledFor / 48), underruns := bump x.underruns } else x.advance

/-- What a frame leaves of a reader. -/
def Reader.sampled (x : Reader) : Reader :=
  if x.state = .playing ∨ x.state = .stalled then
    if (x.slot x.head).isFull then (if x.replayed.ended then x.replayed.toIdle else x.replayed)
    else if x.state = .playing then { x with state := .stalled, stalledFor := 1 }
    else { x with stalledFor := x.stalledFor + 1 }
  else x

/-- The state in which a reader has moved on, the end of a stall reported. -/
def State.replay (s : State) (r : ReaderId) : State :=
  if (s.reader r).state = .stalled then
    (s.onReader r fun x => { x.advance with stall := some (x.stalledFor / 48), underruns := bump x.underruns }).raiseReader r "underrun"
  else s.onReader r Reader.advance

section
variable {s t u : State} {r q : ReaderId} {v : VoiceId}

theorem sampleStep_stands (h : ¬((s.reader r).state = .playing ∨ (s.reader r).state = .stalled)) : s.sampleStep r = s := if_neg h

theorem sampleStep_plays (h : (s.reader r).state = .playing ∨ (s.reader r).state = .stalled)
    (hFull : ((s.reader r).slot (s.reader r).head).isFull = true) :
    s.sampleStep r = if ((s.replay r).reader r).ended then (s.replay r).enterIdle r "end" else s.replay r := by
  unfold State.sampleStep
  dsimp only
  rw [if_pos h, if_pos hFull]
  rfl

theorem sampleStep_stalls (h : (s.reader r).state = .playing) (hEmpty : ((s.reader r).slot (s.reader r).head).isFull = false) :
    s.sampleStep r = (s.onReader r fun x => { x with state := .stalled, stalledFor := 1 }).raiseReader r "stalled" := by
  unfold State.sampleStep
  dsimp only
  rw [if_pos (.inl h), if_neg (by rw [hEmpty]; decide), if_pos h]

theorem sampleStep_waits (h : (s.reader r).state = .stalled) (hEmpty : ((s.reader r).slot (s.reader r).head).isFull = false) :
    s.sampleStep r = s.onReader r fun x => { x with stalledFor := x.stalledFor + 1 } := by
  unfold State.sampleStep
  dsimp only
  rw [if_pos (.inr h), if_neg (by rw [hEmpty]; decide), if_neg (by rw [h]; decide)]

theorem replay_reader : (s.replay r).reader q = if r = q then (s.reader r).replayed else s.reader q := by
  unfold State.replay Reader.replayed
  split
  · rw [State.raiseReader_reader, reader_onReader]
  · rw [reader_onReader]

/-- A sample step changes its own reader alone. -/
theorem sampleStep_reader : (s.sampleStep r).reader q = if r = q then (s.reader r).sampled else s.reader q := by
  unfold Reader.sampled
  by_cases h : (s.reader r).state = .playing ∨ (s.reader r).state = .stalled
  · rw [if_pos h]
    by_cases hFull : ((s.reader r).slot (s.reader r).head).isFull = true
    · have hOwn : (s.replay r).reader r = (s.reader r).replayed := by rw [replay_reader, if_pos rfl]
      rw [sampleStep_plays h hFull, if_pos hFull, hOwn]
      split
      · rw [enterIdle_reader, hOwn, replay_reader]
        split
        · rfl
        · rfl
      · rw [replay_reader]
    · rw [if_neg hFull]
      have hEmpty := Bool.not_eq_true _ ▸ hFull
      by_cases hPlaying : (s.reader r).state = .playing
      · rw [sampleStep_stalls hPlaying hEmpty, State.raiseReader_reader, reader_onReader, if_pos hPlaying]
      · rw [sampleStep_waits (h.resolve_left hPlaying) hEmpty, reader_onReader, if_neg hPlaying]
  · rw [sampleStep_stands h, if_neg h]
    split
    · rename_i e; rw [e]
    · rfl

theorem sampleStep_voice : (s.sampleStep r).voice v = if r = voiceReader v then (s.voice v).sampled else s.voice v := by
  unfold State.voice
  rw [sampleStep_reader]
  split
  · rename_i e; rw [e]
  · rfl

/-! ### What a frame reports of a voice -/

theorem readerKey_eq_voice (h : readerKey r = .voice v) : r = voiceReader v := by
  unfold readerKey at h
  cases hKind : readerKind r with
  | inl w =>
    rw [hKind] at h
    obtain rfl := ReportKey.voice.inj h
    exact readerKind_inl hKind
  | inr p =>
    rw [hKind] at h
    cases h

theorem replay_disabled : (s.replay r).link.disabled = s.link.disabled := by
  unfold State.replay
  split
  · rw [raiseReader_disabled]
    rfl
  · rfl

/-- A stall that ends is reported where the reader does not end with it. -/
theorem sampleStep_underrun (hDisabled : t.link.disabled = s.link.disabled) (hState : (t.reader r).state = .stalled)
    (h : ((t.sampleStep r).reader r).state = .playing) : s.Raised (t.sampleStep r) (readerKey r) " event=underrun" := by
  by_cases hFull : ((t.reader r).slot (t.reader r).head).isFull = true
  · rw [sampleStep_plays (.inr hState) hFull] at h ⊢
    split
    · rename_i hEnds
      rw [if_pos hEnds, enterIdle_reader, if_pos rfl] at h
      cases h
    · unfold State.replay
      rw [if_pos hState]
      exact raiseReader_raised (by exact hDisabled) r "underrun"
  · rw [sampleStep_waits hState (Bool.not_eq_true _ ▸ hFull), reader_onReader, if_pos rfl, hState] at h
    cases h

theorem raiseReader_voice (event : String) : t.raiseReader (voiceReader v) event = t.raise (.voice v) ("!VOICE " ++ voiceText v ++ " " ++
    (t.voice v).stateFields ++ " level=" ++ levelText (t.voice v).level ++ " event=" ++ event ++ (t.voice v).countFields) := by
  unfold State.raiseReader
  dsimp only
  rw [readerKind_voiceReader]
  rfl

/-- A VOICE report begins with the state it shows. -/
theorem raiseReader_state (hDisabled : t.link.disabled = s.link.disabled) (event : String) :
    s.Raised (t.raiseReader (voiceReader v) event) (.voice v) ("!VOICE " ++ voiceText v ++ " state=" ++ readerStateText (t.voice v).state) := by
  have hText : "!VOICE " ++ voiceText v ++ " " ++ (t.voice v).stateFields ++ " level=" ++ levelText (t.voice v).level ++ " event=" ++ event ++
      (t.voice v).countFields = "" ++ (("!VOICE " ++ voiceText v ++ " state=" ++ readerStateText (t.voice v).state) ++
        (" snd=" ++ optText soundText (t.voice v).soundId ++ " pos=" ++ natText (t.voice v).pos ++ " level=" ++ levelText (t.voice v).level ++
          " event=" ++ event ++ (t.voice v).countFields)) := by
    have hSpace : ∀ x : String, " " ++ ("state=" ++ x) = " state=" ++ x := fun x => by
      rw [← String.append_assoc]
      rfl
    simp [Reader.stateFields, String.append_assoc, hSpace]
  rw [raiseReader_voice, hText]
  exact State.raised_raise hDisabled _ _ _ _

theorem sampleStep_stalled (hDisabled : t.link.disabled = s.link.disabled) (hState : (t.voice v).state = .playing)
    (h : ((t.sampleStep (voiceReader v)).voice v).state = .stalled) :
    s.Raised (t.sampleStep (voiceReader v)) (.voice v) ("!VOICE " ++ voiceText v ++ " state=stalled") := by
  have hEmpty : ((t.voice v).slot (t.voice v).head).isFull = false := by
    by_contra hFull
    rw [Bool.not_eq_false] at hFull
    rw [sampleStep_voice, if_pos rfl] at h
    unfold Reader.sampled at h
    rw [if_pos (.inl hState), if_pos hFull] at h
    split at h
    · cases h
    · unfold Reader.replayed at h
      rw [hState, if_neg (by decide), (Reader.advance_owner _).2] at h
      cases h
  rw [sampleStep_stalls hState hEmpty]
  have hRaised := raiseReader_state (s := s) (v := v) (t := t.onReader (voiceReader v) fun x => { x with state := .stalled, stalledFor := 1 })
    hDisabled "stalled"
  rw [voice_onReader, if_pos rfl] at hRaised
  exact hRaised.part (before := "") (after := "") (by simp only [String.append_assoc, String.empty_append, String.append_empty]; rfl)

/-! ### One voice in a frame -/

/-- The voice stands, and so does the record on its level. -/
structure State.VoiceHeld (v : VoiceId) (s t : State) : Prop extends s.VoiceStands v t where
  fade : t.fadeOf (.voice v) = s.fadeOf (.voice v)

theorem State.VoiceHeld.refl (s : State) : s.VoiceHeld v s := ⟨.refl s, rfl⟩

theorem State.VoiceHeld.trans (h : s.VoiceHeld v t) (h' : t.VoiceHeld v u) : s.VoiceHeld v u :=
  ⟨h.toVoiceStands.trans h'.toVoiceStands, h'.fade.trans h.fade⟩

/-- The entry of IDLE takes the record on its own voice alone. -/
theorem enterIdle_fadeOf {y : Target} (hy : ∀ v, y = .voice v → r ≠ voiceReader v) (event : String) :
    (s.enterIdle r event).fadeOf y = s.fadeOf y := by
  have hIdle : ∀ t : State, t.fades = s.fades → t.fadeOf y = s.fadeOf y := fun t h => fadeOf_congr (by rw [h]) y
  unfold State.enterIdle
  dsimp only
  split
  · rename_i v hKind
    have hOther : y ≠ .voice v := fun e => hy v e (readerKind_inl hKind)
    rw [fadeOf_congr (congrArg FadeBlock.pool (callEvaluation_fades _ v)),
      fadeOf_congr (congrArg FadeBlock.pool (State.ownerDone_frame _ _).2.2.1), fadeOf_congr (congrArg FadeBlock.pool (removeFade_fades _)),
      dropFade_fadeOf, if_neg hOther]
    exact hIdle _ (by simp)
  · exact hIdle _ (by simp)

theorem State.VoiceStands.enterIdle_ne (hOther : r ≠ voiceReader v) (event : String) : s.VoiceStands v (s.enterIdle r event) := by
  refine ⟨?_, (State.StandsBut.refl s).enterIdle (fun h => by cases h) (fun h => hOther (readerKey_eq_voice h)) event⟩
  unfold State.voice
  rw [enterIdle_reader, if_neg hOther]

theorem replay_fades : (s.replay r).fades = s.fades := by
  unfold State.replay
  split <;> simp

/-- What a sample step does to the reports and the records, by whether its reader ends. -/
theorem sampleStep_cases {P : State → Prop} (hStands : P s) (hChange : ∀ f, P (s.onReader r f))
    (hRaise : ∀ f event, P ((s.onReader r f).raiseReader r event)) (hEnd : ∀ t, P t → P (t.enterIdle r "end")) : P (s.sampleStep r) := by
  have hReplay : P (s.replay r) := by
    unfold State.replay
    split
    · exact hRaise _ _
    · exact hChange _
  by_cases h : (s.reader r).state = .playing ∨ (s.reader r).state = .stalled
  · by_cases hFull : ((s.reader r).slot (s.reader r).head).isFull = true
    · rw [sampleStep_plays h hFull]
      split
      · exact hEnd _ hReplay
      · exact hReplay
    · by_cases hPlaying : (s.reader r).state = .playing
      · rw [sampleStep_stalls hPlaying (Bool.not_eq_true _ ▸ hFull)]
        exact hRaise _ _
      · rw [sampleStep_waits (h.resolve_left hPlaying) (Bool.not_eq_true _ ▸ hFull)]
        exact hChange _
  · rw [sampleStep_stands h]
    exact hStands

theorem sampleStep_fadeOf {y : Target} (hy : ∀ v, y = .voice v → r ≠ voiceReader v) : (s.sampleStep r).fadeOf y = s.fadeOf y :=
  sampleStep_cases (P := fun t => t.fadeOf y = s.fadeOf y) rfl (fun _ => rfl) (fun _ _ => fadeOf_congr (by simp) y)
    fun t ht => (enterIdle_fadeOf hy _).trans ht

theorem State.VoiceHeld.sampleStep (hOther : r ≠ voiceReader v) : s.VoiceHeld v (s.sampleStep r) := by
  have hKey : readerKey r ≠ .voice v := fun h => hOther (readerKey_eq_voice h)
  have hSame : ∀ f, s.StandsBut (· ≠ .voice v) (s.onReader r f) := fun f => (State.StandsBut.refl s).congr rfl
  refine ⟨⟨by rw [sampleStep_voice, if_neg hOther], ?_⟩, sampleStep_fadeOf fun w hw => by cases hw; exact hOther⟩
  exact sampleStep_cases (P := fun t => s.StandsBut (· ≠ .voice v) t) (.refl s) hSame (fun f event => (hSame f).raiseReader hKey event)
    fun t ht => ht.enterIdle (fun h => by cases h) hKey _

theorem State.PlayersOnly.held (h : s.PlayersOnly t) (hFades : t.fades = s.fades) : s.VoiceHeld v t :=
  ⟨⟨h.voices v, h.reports.mono fun key hKey e => by subst e; exact hKey⟩, fadeOf_congr (by rw [hFades]) _⟩

theorem readerFrame_voice : s.readerFrame (voiceReader v) = s.sampleStep (voiceReader v) := by
  unfold State.readerFrame
  dsimp only
  rw [readerKind_voiceReader]

theorem State.VoiceHeld.readerFrame (hOther : r ≠ voiceReader v) : s.VoiceHeld v (s.readerFrame r) := by
  have hStep : s.VoiceHeld v (s.sampleStep r) := .sampleStep hOther
  unfold State.readerFrame
  dsimp only
  split
  · exact hStep
  · split
    · refine hStep.trans (State.PlayersOnly.held ?_ (by simp))
      exact (playersOnly_routed _).playerReports (.refl _) _ _
    · exact hStep

theorem State.VoiceHeld.readerFrames {l : List ReaderId} (h : voiceReader v ∉ l) : s.VoiceHeld v (l.foldl State.readerFrame s) := by
  induction l generalizing s with
  | nil => exact .refl s
  | cons r l ih =>
    have hHead : r ≠ voiceReader v := fun e => h (e ▸ List.mem_cons_self)
    exact (State.VoiceHeld.readerFrame hHead).trans (ih fun hMem => h (List.mem_cons_of_mem _ hMem))

/-- Among the sample steps of a frame a voice takes its own once, as it stands. -/
theorem readerFrames_step {l : List ReaderId} (hl : l.Nodup) (hMem : voiceReader v ∈ l) : ∃ t : State, s.VoiceHeld v t ∧ t.kept = s.kept ∧
    (t.sampleStep (voiceReader v)).VoiceHeld v (l.foldl State.readerFrame s) := by
  induction l generalizing s with
  | nil => cases hMem
  | cons r l ih =>
    obtain ⟨hHead, hTail⟩ := List.nodup_cons.mp hl
    rw [List.foldl_cons]
    by_cases hr : r = voiceReader v
    · subst hr
      exact ⟨s, .refl s, rfl, readerFrame_voice ▸ .readerFrames hHead⟩
    · obtain ⟨t, hStart, hKept, hEnd⟩ := ih (s := s.readerFrame r) hTail ((List.mem_cons.mp hMem).resolve_left (Ne.symm hr))
      exact ⟨t, (State.VoiceHeld.readerFrame hr).trans hStart, hKept.trans (State.readerFrame_frame s r).1, hEnd⟩

/-! ### The end of an operation and the records -/

theorem releases_fadeOf {y : Target} {l : List VoiceId} (hy : ∀ v, y = .voice v → s.unwanted v = false) :
    (l.foldl State.releaseUnwanted s).fadeOf y = s.fadeOf y := by
  induction l generalizing s with
  | nil => rfl
  | cons w l ih =>
    rw [List.foldl_cons]
    have hStep : (s.releaseUnwanted w).fadeOf y = s.fadeOf y := by
      rw [releaseUnwanted_eq]
      split
      · rename_i hUnwanted
        refine enterIdle_fadeOf (fun v hv hw => ?_) _
        rw [voiceReader_injective hw, hy v hv] at hUnwanted
        cases hUnwanted
      · rfl
    rw [ih, hStep]
    intro v hv
    have hStands : s.VoiceStands v (s.releaseUnwanted w) := releases_stands (l := [w]) (.inr (hy v hv))
    rw [unwanted_congr hStands.voice (standbyPlays_of (State.marks_releaseUnwanted s w) (State.releaseUnwanted_frame s w).1)]
    exact hy v hv

theorem evaluatePriming_fadeOf {y : Target} (hy : ∀ v, y = .voice v → s.unwanted v = false) : s.evaluatePriming.fadeOf y = s.fadeOf y := by
  have hPrimes : ∀ (t : State) (l : List (VoiceId × SoundId)),
      ((l.foldl State.primeWanted t).onEngine fun b => { b with evalDue := false }).fadeOf y = t.fadeOf y := fun t l =>
    fadeOf_congr (congrArg FadeBlock.pool (foldl_keeps State.fades State.primeWanted (by simp) l t)) y
  unfold State.evaluatePriming
  exact (hPrimes _ _).trans (releases_fadeOf hy)

theorem finish_fadeOf {y : Target} (hy : ∀ v, y = .voice v → s.unwanted v = false) : s.finish.fadeOf y = s.fadeOf y := by
  have hSettle : ∀ t : State, t.settleReady.fadeOf y = t.fadeOf y := fun t => fadeOf_congr (by rw [(settleReady_blocks t).2]) y
  unfold State.finish
  rw [hSettle]
  split
  · exact evaluatePriming_fadeOf hy
  · rfl

theorem settleReady_stands (s : State) (v : VoiceId) : s.VoiceStands v s.settleReady := by
  refine ⟨?_, (State.StandsBut.refl s).settleReady fun h => by cases h⟩
  unfold State.voice State.reader
  rw [(settleReady_blocks s).1]

/-- An operation ends with a voice as it is, where an evaluation neither releases it nor asks it to prime. -/
theorem State.VoiceHeld.finish (hWanted : s.unwanted v = false) (hFree : (s.voice v).state ≠ .idle ∨ ¬s.playsOn s.standbyPlays v) :
    s.VoiceHeld v s.finish := by
  refine ⟨?_, finish_fadeOf fun w hw => by cases hw; exact hWanted⟩
  unfold State.finish
  split
  · refine State.VoiceStands.trans ?_ (settleReady_stands _ v)
    rcases evaluatePriming_evaluated s v with ⟨-, -, h⟩ | ⟨hUnwanted, -, -, -⟩ | ⟨hIdle, -, -, ⟨n, d, stamp, hMem, hSound, -⟩, -⟩
    · exact h
    · rw [hWanted] at hUnwanted; cases hUnwanted
    · rcases hIdle with hIdle | hUnwanted
      · exact absurd ⟨n, hMem, by rw [hSound]; exact fun h => by cases h⟩ (hFree.resolve_left fun h => h hIdle)
      · rw [hWanted] at hUnwanted; cases hUnwanted
  · exact settleReady_stands s v

theorem unwanted_of_state (h : (s.voice v).isPriming = false) : s.unwanted v = false := by
  unfold State.unwanted
  rw [h, Bool.false_and]

/-! ### FRAME -/

variable (s) (slots : Vector Word32 64) (pins : Vector Bool 16)

theorem countFrame_blocks : (s.driveLamps.countFrame pins).fetch = s.fadeFrame.fetch ∧
    (s.driveLamps.countFrame pins).fades = s.fadeFrame.fades ∧
    (s.driveLamps.countFrame pins).router = { s.router with zones := s.router.zones.map Zone.frame } := by
  have hAt := fadeFrame_at s s.driveLamps.lines (s.now + 1)
  have hFade : { s.driveLamps with now := s.driveLamps.now + 1 }.fadeFrame = { s.fadeFrame with lines := s.driveLamps.lines, now := s.now + 1 } :=
    hAt
  unfold State.countFrame
  dsimp only
  rw [hFade]
  refine ⟨rfl, rfl, ?_⟩
  show { s.fadeFrame.router with zones := s.fadeFrame.router.zones.map Zone.frame } = _
  rw [(fadeFrame_blocks s).2.2.2.2.2.1]

theorem countFrame_standbyPlays : (s.driveLamps.countFrame pins).standbyPlays = s.standbyPlays := by
  have hAt := fadeFrame_at s s.driveLamps.lines (s.now + 1)
  have hFade : { s.driveLamps with now := s.driveLamps.now + 1 }.fadeFrame = { s.fadeFrame with lines := s.driveLamps.lines, now := s.now + 1 } :=
    hAt
  obtain ⟨hKept, -, -, hEngine, -⟩ := fadeFrame_blocks s
  refine standbyPlays_congr ?_ ?_
  · unfold State.countFrame
    dsimp only
    rw [hFade]
    show s.fadeFrame.engine.standby = _
    rw [hEngine]
  · unfold State.countFrame
    dsimp only
    rw [hFade]
    show s.fadeFrame.cues = _
    exact kept_cues hKept

theorem State.VoiceHeld.meterFrame (a : Audio) : s.VoiceHeld v (s.meterFrame a) := by
  obtain ⟨-, hFades, -, -, -, hFetch, -⟩ := meterFrame_blocks s a
  refine ⟨⟨?_, ?_⟩, fadeOf_congr (by rw [hFades]) _⟩
  · unfold State.voice State.reader
    rw [hFetch]
  · have hFeeds : ∀ l : List (Bus × Sample), s.StandsBut (· ≠ .voice v) (l.foldl State.feedClip s) := fun l =>
      State.StandsBut.foldl (.refl s) fun e t _ => (State.feedClip_stands t e).mono fun key hKey h => by subst hKey; cases h
    have hEnd : ∀ (t : State) f, s.StandsBut (· ≠ .voice v) t → s.StandsBut (· ≠ .voice v) (t.onFoldback f) := fun t f h => h.congr rfl
    unfold State.meterFrame
    exact hEnd _ _ (hFeeds _)

/-- In FRAME a voice takes its sample step on the state the fade step leaves it, and stands for the rest. -/
theorem computed_step (v : VoiceId) : ∃ t : State, t.voice v = s.fadeFrame.voice v ∧ t.fadeOf (.voice v) = s.fadeFrame.fadeOf (.voice v) ∧
    t.link.disabled = s.link.disabled ∧ (t.sampleStep (voiceReader v)).VoiceHeld v (s.computed slots pins) := by
  obtain ⟨hFetch, hFades, -⟩ := countFrame_blocks s pins
  have hCounted : (s.driveLamps.countFrame pins).link.disabled = s.link.disabled := by
    have hKept := (readerFrames_blocks (s.driveLamps.countFrame pins)).1.symm.trans (counted_kept s pins)
    have hAll : ∀ t : State, t.link.disabled = t.kept.link.disabled := fun _ => rfl
    rw [hAll, hKept]
    rfl
  have hVoice : (s.driveLamps.countFrame pins).voice v = s.fadeFrame.voice v := by
    unfold State.voice State.reader
    rw [hFetch]
  have hFade : (s.driveLamps.countFrame pins).fadeOf (.voice v) = s.fadeFrame.fadeOf (.voice v) := fadeOf_congr (by rw [hFades]) _
  obtain ⟨t, hStart, hKept, hEnd⟩ := readerFrames_step (s := s.driveLamps.countFrame pins) (List.nodup_finRange 26)
    (List.mem_finRange (voiceReader v))
  have hRest : ∀ w : State, w.VoiceHeld v (((w.onPorts fun b => b.frame (s.audio slots).outputs).onFetch fun b =>
      { b with busReset := false }).onClock fun b => { b with begun := b.begun - 1 }) := fun w =>
    ⟨⟨rfl, (State.StandsBut.refl w).congr rfl⟩, rfl⟩
  refine ⟨t, hStart.voice.trans hVoice, hStart.fade.trans hFade, (kept_disabled hKept).trans hCounted, ?_⟩
  rw [computed_eq]
  refine (State.VoiceHeld.trans ?_ (State.VoiceHeld.meterFrame _ _)).trans (hRest _)
  exact hEnd

end

end Sys2Proof.Machine
end

section
/-! PROOFS. The sample step of a reader, alone and in FRAME (R128, R129, R131, R144). -/

namespace Sys2Proof.Machine

open Sys2Proof

section
variable {s t u : State} {r : ReaderId} {v : VoiceId}

/-! ### A reader that moves on -/

theorem advance_sound (x : Reader) : x.advance.sound = x.sound := by
  unfold Reader.advance
  dsimp only
  split <;> rfl

theorem advance_ring (x : Reader) :
    (x.pos % 256 = 255 → x.advance.ring = put x.ring x.head .empty ∧ x.advance.head = x.head + 1) ∧
      (x.pos % 256 ≠ 255 → x.advance.ring = x.ring ∧ x.advance.head = x.head) := by
  unfold Reader.advance
  dsimp only
  refine ⟨fun h => ?_, fun h => ?_⟩
  · rw [if_pos (show x.pos % Config.blockSamples = 255 from h)]
    exact ⟨rfl, rfl⟩
  · rw [if_neg (show ¬x.pos % Config.blockSamples = 255 from h)]
    exact ⟨rfl, rfl⟩

theorem advance_counts (x : Reader) : x.advance.underruns = x.underruns ∧ x.advance.stall = x.stall := by
  unfold Reader.advance
  dsimp only
  split <;> exact ⟨rfl, rfl⟩

theorem advance_unlooped {x : Reader} {n : SoundId} {d : Sound} (hSound : x.sound = some (n, d)) (hLoop : d.loop = none) :
    x.advance.pos = x.pos + 1 := by
  obtain ⟨first, len, loop⟩ := d
  obtain rfl : loop = none := hLoop
  unfold Reader.advance
  simp only [hSound]
  split <;> rfl

theorem advance_looped {x : Reader} {n : SoundId} {d : Sound} {b e : Nat} (hSound : x.sound = some (n, d)) (hLoop : d.loop = some (b, e)) :
    x.advance.pos = if x.pos + 1 = e then b else x.pos + 1 := by
  obtain ⟨first, len, loop⟩ := d
  obtain rfl : loop = some (b, e) := hLoop
  unfold Reader.advance
  simp only [hSound]
  split <;> rfl

theorem ended_unlooped {x : Reader} {n : SoundId} {d : Sound} (hSound : x.sound = some (n, d)) (hLoop : d.loop = none) :
    x.ended = decide (d.len ≤ x.pos) := by
  obtain ⟨first, len, loop⟩ := d
  obtain rfl : loop = none := hLoop
  simp only [Reader.ended, hSound]

theorem ended_looped {x : Reader} {n : SoundId} {d : Sound} (hSound : x.sound = some (n, d)) (hLoop : d.loop ≠ none) : x.ended = false := by
  obtain ⟨first, len, loop⟩ := d
  cases loop with
  | none => exact absurd rfl hLoop
  | some l => simp only [Reader.ended, hSound]

/-- Of a reader that moves on, what the counting of a stall leaves. -/
theorem replayed_eq (x : Reader) : x.replayed.sound = x.sound ∧ x.replayed.pos = x.advance.pos ∧ x.replayed.ring = x.advance.ring ∧
    x.replayed.head = x.advance.head ∧ x.replayed.state = .playing := by
  have hSound := advance_sound x
  have hState := (Reader.advance_owner x).2
  unfold Reader.replayed
  split <;> exact ⟨hSound, rfl, rfl, rfl, hState⟩

theorem replayed_ended {x : Reader} {n : SoundId} {d : Sound} (hSound : x.sound = some (n, d)) :
    x.replayed.ended = true ↔ d.loop = none ∧ d.len ≤ x.pos + 1 := by
  obtain ⟨hHeld, hPos, -⟩ := replayed_eq x
  rw [hSound] at hHeld
  by_cases hLoop : d.loop = none
  · rw [ended_unlooped hHeld hLoop, hPos, advance_unlooped hSound hLoop, decide_eq_true_eq]
    exact (and_iff_right hLoop).symm
  · rw [ended_looped hHeld hLoop]
    exact ⟨fun h => (by cases h), fun h => absurd h.1 hLoop⟩

/-- The end of a reader's sound, which its own report tells. -/
theorem enterIdle_raised_reader (hDisabled : t.link.disabled = s.link.disabled) (event : String) :
    s.Raised (t.enterIdle r event) (readerKey r) (" event=" ++ event) := by
  cases hKind : readerKind r with
  | inl v =>
    obtain rfl := readerKind_inl hKind
    rw [readerKey_voice]
    exact enterIdle_raised hDisabled event
  | inr p =>
    obtain rfl := readerKind_inr hKind
    rw [enterIdle_player]
    exact raiseReader_raised (by exact hDisabled) _ _

/-! ### The standby cue in FRAME -/

theorem sampleStep_marks (s : State) (r : ReaderId) : (s.sampleStep r).marks = s.marks :=
  sampleStep_cases (P := fun t => t.marks = s.marks) rfl (fun _ => rfl) (fun _ _ => (State.marks_raiseReader _ _ _).trans rfl)
    fun _ ht => (State.marks_enterIdle _ _ _).trans ht

theorem readerFrame_marks (s : State) (r : ReaderId) : (s.readerFrame r).marks = s.marks := by
  unfold State.readerFrame
  dsimp only
  split
  · exact sampleStep_marks s r
  · split
    · exact (marks_congr (State.playerReports_frame _ _ _).2.2.2.2.2.1).trans (sampleStep_marks s r)
    · exact sampleStep_marks s r

theorem computed_standbyPlays (s : State) (slots : Vector Word32 64) (pins : Vector Bool 16) :
    (s.computed slots pins).standbyPlays = s.standbyPlays := by
  have hOutside : ∀ t : State, (((t.onPorts fun b => b.frame (s.audio slots).outputs).onFetch fun b => { b with busReset := false }).onClock
      fun b => { b with begun := b.begun - 1 }).standbyPlays = t.standbyPlays := fun _ => rfl
  have hMeter : ((s.counted pins).meterFrame (s.audio slots)).standbyPlays = (s.counted pins).standbyPlays := by
    obtain ⟨hKept, -, -, -, hEngine, -⟩ := meterFrame_blocks (s.counted pins) (s.audio slots)
    exact standbyPlays_of (marks_congr hEngine) hKept
  have hReaders : (s.counted pins).standbyPlays = (s.driveLamps.countFrame pins).standbyPlays :=
    standbyPlays_of (foldl_keeps State.marks State.readerFrame readerFrame_marks _ _)
      (foldl_keeps State.kept State.readerFrame (fun t r => (State.readerFrame_frame t r).1) _ _)
  rw [computed_eq, hOutside, hMeter, hReaders, countFrame_standbyPlays]

theorem fadeFrame_voice (s : State) (v : VoiceId) : s.fadeFrame.voice v = { s.voice v with level := (s.fadeFrame.voice v).level } := by
  have hSteps : ∀ (l : List Fade) (t : State), (l.foldl State.fadeStep t).voice v =
      { t.voice v with level := ((l.foldl State.fadeStep t).voice v).level } := by
    intro l
    induction l with
    | nil => exact fun _ => rfl
    | cons f l ih =>
      intro t
      have hStep : (t.fadeStep f).voice v = { t.voice v with level := ((t.fadeStep f).voice v).level } := by
        unfold State.fadeStep
        split
        · rfl
        · cases f.target with
          | xpt row bus => rfl
          | voice w =>
            rw [show (t.setLevelOf (.voice w) f.advance.levelNow).voice v = _ from voice_onReader w v _]
            split
            · rename_i h; subst h; rfl
            · rfl
      rw [List.foldl_cons, ih, hStep]
  exact hSteps s.fades.pool s

/-- What FRAME leaves of a voice, of the record on its level, and of its report, where its sample step leaves it sounding, or IDLE with
nothing to prime. -/
theorem computed_finish {x : State} {v : VoiceId} {slots : Vector Word32 64} {pins : Vector Bool 16}
    (h : (x.fadeFrame.voice v).sampled.state = .playing ∨ (x.fadeFrame.voice v).sampled.state = .stalled ∨
      (x.fadeFrame.voice v).sampled.state = .starting ∨ (x.fadeFrame.voice v).sampled.state = .faulted ∨
      (x.fadeFrame.voice v).sampled.state = .idle ∧ ∀ e ∈ x.standbyPlays, e.1 ≠ v)
    (hVoice : (x.computed slots pins).voice v = (x.fadeFrame.voice v).sampled) :
    (x.computed slots pins).VoiceHeld v (x.computed slots pins).finish := by
  refine .finish (unwanted_of_state ?_) ?_
  · rw [hVoice]
    unfold Reader.isPriming
    rcases h with h | h | h | h | ⟨h, -⟩ <;> rw [h] <;> rfl
  · rw [hVoice, computed_standbyPlays]
    rcases h with h | h | h | h | ⟨-, h⟩
    iterate 4 exact .inl (by rw [h]; decide)
    exact .inr fun ⟨n, hMem, _⟩ => h _ hMem rfl

theorem replay_raised (hState : (s.reader r).state = .stalled) : s.Raised (s.replay r) (readerKey r) " event=underrun" := by
  unfold State.replay
  rw [if_pos hState]
  exact raiseReader_raised (by rfl) r "underrun"

end

end Sys2Proof.Machine

namespace Sys2Proof.Proofs

open Sys2Proof Sys2Proof.Machine

/-- The sample step of one reader: what its end, its move, and its stall leave of it. -/
theorem sampleStep_reader_rules (s : State) (r : ReaderId) (n : SoundId) (d : Sound) (hSound : (s.reader r).sound = some (n, d))
    (hFull : ((s.reader r).slot (s.reader r).head).isFull = true) (hState : (s.reader r).state = .playing ∨ (s.reader r).state = .stalled) :
    (d.loop = none → d.len ≤ (s.reader r).pos + 1 → ((s.sampleStep r).reader r).Idle ∧ s.Raised (s.sampleStep r) (readerKey r) " event=end") ∧
      (d.loop ≠ none ∨ (s.reader r).pos + 1 < d.len → (s.sampleStep r).reader r = (s.reader r).replayed ∧ s.sampleStep r = s.replay r) := by
  have hStep := sampleStep_plays hState hFull
  have hOwn : (s.replay r).reader r = (s.reader r).replayed := by rw [replay_reader, if_pos rfl]
  rw [hOwn] at hStep
  refine ⟨fun hLoop hEnd => ?_, fun hMore => ?_⟩
  · rw [hStep, if_pos ((replayed_ended hSound).mpr ⟨hLoop, hEnd⟩)]
    refine ⟨?_, enterIdle_raised_reader replay_disabled "end"⟩
    rw [enterIdle_reader, if_pos rfl]
    exact toIdle_idle _
  · have hNot : ¬(s.reader r).replayed.ended = true := fun h => by
      obtain ⟨hLoop, hEnd⟩ := (replayed_ended hSound).mp h
      exact hMore.elim (fun h => h hLoop) fun h => Nat.not_le.mpr h hEnd
    rw [hStep, if_neg hNot]
    exact ⟨hOwn, rfl⟩

/-- A voice in FRAME: what it reports, and what stands of its sample step. -/
theorem computed_voice {s x : State} (hDisabled : x.link.disabled = s.link.disabled) (slots : Vector Word32 64) (pins : Vector Bool 16)
    (v : VoiceId) :
    ((x.voice v).state = .playing → ((x.fadeFrame.sampleStep (voiceReader v)).voice v).state = .stalled →
      s.Raised (x.computed slots pins).finish (.voice v) ("!VOICE " ++ voiceText v ++ " state=stalled")) ∧
    ((x.voice v).state = .stalled → ((x.fadeFrame.sampleStep (voiceReader v)).voice v).state = .playing →
      s.Raised (x.computed slots pins).finish (.voice v) " event=underrun") ∧
    (((x.fadeFrame.sampleStep (voiceReader v)).voice v).state = .playing ∨
        ((x.fadeFrame.sampleStep (voiceReader v)).voice v).state = .stalled ∨
        ((x.fadeFrame.sampleStep (voiceReader v)).voice v).state = .starting ∨
        ((x.fadeFrame.sampleStep (voiceReader v)).voice v).state = .faulted ∨
        (((x.fadeFrame.sampleStep (voiceReader v)).voice v).state = .idle ∧ ∀ e ∈ x.standbyPlays, e.1 ≠ v) →
      (x.computed slots pins).finish.voice v = (x.fadeFrame.sampleStep (voiceReader v)).voice v) := by
  obtain ⟨w, hVoice, -, hMask, hHeld⟩ := computed_step x slots pins v
  have hStep : (w.sampleStep (voiceReader v)).voice v = (x.fadeFrame.voice v).sampled := by
    rw [sampleStep_voice, if_pos rfl, hVoice]
  have hOwn : (x.fadeFrame.sampleStep (voiceReader v)).voice v = (x.fadeFrame.voice v).sampled := by rw [sampleStep_voice, if_pos rfl]
  have hComputed := hHeld.voice.trans hStep
  have hEnd := computed_finish (x := x) (v := v) (slots := slots) (pins := pins)
  have hBefore : (w.voice v).state = (x.voice v).state := by rw [hVoice, fadeFrame_voice]
  rw [hOwn]
  refine ⟨fun hPlaying hStalled => ?_, fun hStalled hPlaying => ?_, fun h => (hEnd h hComputed).voice.trans hComputed⟩
  · have hRaised := sampleStep_stalled (s := s) (hMask.trans hDisabled) (hBefore.trans hPlaying) (hStep ▸ hStalled)
    exact (hEnd (.inr (.inl hStalled)) hComputed).raised (hHeld.raised hRaised)
  · have hRaised := sampleStep_underrun (s := s) (r := voiceReader v) (hMask.trans hDisabled) (hBefore.trans hStalled)
      (by rw [← hStep] at hPlaying; exact hPlaying)
    rw [readerKey_voice] at hRaised
    exact (hEnd (.inl hPlaying) hComputed).raised (hHeld.raised hRaised)

/-- Settles O59: one reader's step by its state, and its place in FRAME. -/
theorem sampleStep : Obligations.SampleStep := by
  refine ⟨fun s t u slots pins v hReset hFrame hu hExec => ?_, fun s r n d hSound => ⟨Reader.output_outputs _, fun hPlaying hStalled => ?_,
    fun hEmpty => ⟨fun hState => ⟨?_, ?_⟩, fun hState => ?_⟩, fun hFull hState => ?_, fun q hq => ?_⟩⟩
  · have hNext := exec_frame_eq hReset hFrame slots pins
    have hMask := kept_disabled s.takeDue_kept
    rw [hExec] at hNext
    generalize s.takeDue = x at *
    rw [Host.Outcome.next.inj hNext, hu]
    exact computed_voice hMask slots pins v
  · exact sampleStep_stands fun h => h.elim hPlaying hStalled
  · rw [sampleStep_stalls hState hEmpty, State.raiseReader_reader, reader_onReader, if_pos rfl]
  · rw [sampleStep_stalls hState hEmpty]
    exact raiseReader_raised (by rfl) r "stalled"
  · rw [sampleStep_waits hState hEmpty, reader_onReader, if_pos rfl]
  · obtain ⟨hEnds, hMoves⟩ := sampleStep_reader_rules s r n d hSound hFull hState
    refine ⟨hEnds, fun hMore => ?_⟩
    obtain ⟨hReader, hStep⟩ := hMoves hMore
    obtain ⟨hHeld, hPos, hRing, hHead, hPlays⟩ := replayed_eq (s.reader r)
    rw [hReader, hPos, hRing, hHead]
    refine ⟨hPlays, hHeld.trans hSound, fun b e hLoop => advance_looped hSound hLoop, fun hLoop => advance_unlooped hSound hLoop,
      (advance_ring _).1, (advance_ring _).2, fun h => ?_, fun h => ⟨?_, ?_, ?_⟩⟩
    · unfold Reader.replayed
      rw [if_neg (by rw [h]; decide)]
      exact (advance_counts _).1
    · unfold Reader.replayed
      rw [if_pos h]
    · unfold Reader.replayed
      rw [if_pos h]
      rfl
    · rw [hStep]
      exact replay_raised h
  · rw [sampleStep_reader, if_neg (Ne.symm hq)]

end Sys2Proof.Proofs
end

section
/-! PROOFS. The fade step of a frame, alone and in FRAME, and the duck ramps (R29, R30, R39). -/

namespace Sys2Proof.Machine

open Sys2Proof

section
variable {s t : State} {f : Fade} {x : Target}

/-! ### The records (R29) -/

/-- Whether a record moves its target in a frame. -/
def State.moves (s : State) (f : Fade) : Bool :=
  !(s.frozen f || f.advance.due || f.elapsed / 48 = f.advance.elapsed / 48)

theorem fadeStep_eq (s : State) (f : Fade) : s.fadeStep f = if s.moves f then s.setLevelOf f.target f.advance.levelNow else s := by
  unfold State.fadeStep State.moves Config.framesPerMs
  cases h : (s.frozen f || f.advance.due || decide (f.elapsed / 48 = f.advance.elapsed / 48)) <;> simp_all

theorem fadeStep_levelOf (s : State) (f : Fade) (x : Target) :
    (s.fadeStep f).levelOf x = if x = f.target ∧ s.moves f then f.advance.levelNow else s.levelOf x := by
  rw [fadeStep_eq]
  by_cases h : s.moves f = true
  · rw [if_pos h, levelOf_setLevelOf]
    simp [h]
  · rw [if_neg h, if_neg fun e => h e.2]

theorem fadeStep_moves (s : State) (f g : Fade) : (s.fadeStep f).moves g = s.moves g := by
  have hEngine : (s.fadeStep f).engine = s.engine := by simp
  unfold State.moves State.frozen
  rw [hEngine]

theorem fadeSteps_levelOf_ne {l : List Fade} (h : ∀ f ∈ l, f.target ≠ x) : (l.foldl State.fadeStep s).levelOf x = s.levelOf x := by
  induction l generalizing s with
  | nil => rfl
  | cons f l ih =>
    rw [List.foldl_cons, ih fun g hg => h g (List.mem_cons_of_mem _ hg), fadeStep_levelOf,
      if_neg fun e => h f List.mem_cons_self e.1.symm]

/-- A target moves by its own record alone. -/
theorem fadeSteps_levelOf {l : List Fade} (hl : (l.map (·.target)).Nodup) (hf : f ∈ l) :
    (l.foldl State.fadeStep s).levelOf f.target = if s.moves f then f.advance.levelNow else s.levelOf f.target := by
  induction l generalizing s with
  | nil => cases hf
  | cons g l ih =>
    obtain ⟨hHead, hTail⟩ := List.nodup_cons.mp hl
    rw [List.foldl_cons]
    rcases List.mem_cons.mp hf with rfl | hf
    · rw [fadeSteps_levelOf_ne fun g hg e => hHead (List.mem_map.mpr ⟨g, hg, e⟩), fadeStep_levelOf]
      simp
    · have hOther : f.target ≠ g.target := fun e => hHead (List.mem_map.mpr ⟨f, hf, e⟩)
      rw [ih hTail hf, fadeStep_moves, fadeStep_levelOf]
      simp [hOther]

theorem fadeFrame_levelOf (s : State) (x : Target) : s.fadeFrame.levelOf x = (s.fades.pool.foldl State.fadeStep s).levelOf x := by
  have hEnd : ∀ (t : State) f, (t.onFades f).levelOf x = t.levelOf x := fun t f => by cases x <;> rfl
  unfold State.fadeFrame
  exact hEnd _ _

theorem fadeFrame_pool (s : State) : s.fadeFrame.fades.pool = s.fades.pool.map fun f => if s.frozen f then f else f.advance := by
  have hMoved : (s.fades.pool.foldl State.fadeStep s).fades = s.fades := foldl_keeps State.fades State.fadeStep (by simp) _ s
  have hEnd : ∀ (t : State) (g : Fade → Fade), (t.onFades fun b => { b with pool := b.pool.map g }).fades.pool = t.fades.pool.map g :=
    fun _ _ => rfl
  unfold State.fadeFrame
  dsimp only
  rw [hEnd, hMoved]

theorem advance_running (h : f.elapsed < 48 * f.ms) : f.advance = { f with elapsed := f.elapsed + 1 } := by
  have hNot : f.due = false := decide_eq_false (Nat.not_le.mpr h)
  unfold Fade.advance
  rw [hNot]
  rfl

theorem frozen_false (h : f.owner = none ∨ s.engine.halted = false) : s.frozen f = false := by
  unfold State.frozen
  rcases h with h | h <;> rw [h]
  · rfl
  · exact Bool.and_false _

theorem frozen_true (h : f.owner ≠ none ∧ s.engine.halted = true) : s.frozen f = true :=
  Bool.and_eq_true_iff.mpr ⟨Option.isSome_iff_ne_none.mpr h.1, h.2⟩

theorem moves_frozen (h : s.frozen f = true) : s.moves f = false := by
  unfold State.moves
  rw [h]
  rfl

/-- A record moves its target at each whole millisecond short of its duration. -/
theorem moves_running (hRuns : s.frozen f = false) (h : f.elapsed < 48 * f.ms) :
    s.moves f = decide ((f.elapsed + 1) % 48 = 0 ∧ f.elapsed + 1 < 48 * f.ms) := by
  have hDue : f.advance.due = decide (48 * f.ms ≤ f.elapsed + 1) := by
    rw [advance_running h]
    rfl
  unfold State.moves
  rw [hRuns, hDue, advance_running h, Bool.false_or, ← Bool.decide_or, ← decide_not]
  refine decide_eq_decide.mpr ?_
  dsimp only
  omega

/-! ### A voice that sounds through its sample step -/

theorem replayed_level (y : Reader) : y.replayed.level = y.level := by
  unfold Reader.replayed Reader.advance
  dsimp only
  split <;> split <;> rfl

theorem sampled_level (y : Reader) : y.sampled.level = y.level := by
  unfold Reader.sampled
  split
  · split
    · split
      · exact replayed_level y
      · exact replayed_level y
    · split <;> rfl
  · rfl

theorem sampleStep_fade {v : VoiceId} (h : ((s.sampleStep (voiceReader v)).voice v).state ≠ .idle) :
    (s.sampleStep (voiceReader v)).fadeOf x = s.fadeOf x := by
  have hIdle : ∀ t : State, ((t.enterIdle (voiceReader v) "end").voice v).state = .idle := fun t => by
    rw [enterIdle_voice, if_pos rfl]
    rfl
  refine sampleStep_cases (P := fun t => (t.voice v).state ≠ .idle → t.fadeOf x = s.fadeOf x) (fun _ => rfl) (fun _ _ => rfl)
    (fun _ _ _ => fadeOf_congr (by simp) x) (fun t _ hNot => absurd (hIdle t) hNot) h

theorem finish_sounding {v : VoiceId} (h : (s.finish.voice v).state = .playing ∨ (s.finish.voice v).state = .stalled) :
    s.VoiceHeld v s.finish := by
  have hStands : s.finish.voice v = s.voice v := by
    rw [finish_voice] at h ⊢
    split at h
    · rename_i hDue
      rw [if_pos hDue]
      rcases evaluatePriming_evaluated s v with ⟨-, -, hStands⟩ | ⟨-, -, hVoice, -⟩ | ⟨-, base, -, ⟨n, d, stamp, -, -, hVoice⟩, -⟩
      · exact hStands.voice
      · rw [hVoice] at h
        rcases h with h | h <;> cases h
      · rw [hVoice] at h
        rcases h with h | h <;> cases h
    · rename_i hDue
      rw [if_neg hDue]
  rw [hStands] at h
  refine .finish (unwanted_of_state ?_) (.inl ?_)
  · unfold Reader.isPriming
    rcases h with h | h <;> rw [h] <;> rfl
  · rcases h with h | h <;> rw [h] <;> decide

/-! ### FRAME -/

variable (s) (slots : Vector Word32 64) (pins : Vector Bool 16)

theorem computed_fadeOf_xpt (row : Row) (bus : Bus) : (s.computed slots pins).fadeOf (.xpt row bus) = s.fadeFrame.fadeOf (.xpt row bus) := by
  have hStep : ∀ (t : State) (r : ReaderId), (t.readerFrame r).fadeOf (.xpt row bus) = t.fadeOf (.xpt row bus) := fun t r => by
    have hSample : (t.sampleStep r).fadeOf (.xpt row bus) = t.fadeOf (.xpt row bus) := sampleStep_fadeOf fun v h => by cases h
    unfold State.readerFrame
    dsimp only
    split
    · exact hSample
    · split
      · rw [fadeOf_congr (congrArg FadeBlock.pool (State.playerReports_frame _ _ _).2.2.1)]
        exact hSample
      · exact hSample
  have hReaders : (s.counted pins).fadeOf (.xpt row bus) = (s.driveLamps.countFrame pins).fadeOf (.xpt row bus) :=
    foldl_keeps (fun t => t.fadeOf (.xpt row bus)) State.readerFrame hStep _ _
  have hOutside : ∀ t : State, (((t.onPorts fun b => b.frame (s.audio slots).outputs).onFetch fun b => { b with busReset := false }).onClock
      fun b => { b with begun := b.begun - 1 }).fadeOf (.xpt row bus) = t.fadeOf (.xpt row bus) := fun _ => rfl
  rw [computed_eq, hOutside, fadeOf_congr (congrArg FadeBlock.pool (meterFrame_blocks _ _).2.1), hReaders,
    fadeOf_congr (congrArg FadeBlock.pool (countFrame_blocks s pins).2.1)]

omit s in
theorem zoneApart_readerFrame {b : State} {z : ZoneId} (ht : b.ZoneApart z t) (r : ReaderId) : b.ZoneApart z (t.readerFrame r) := by
  have hSample : b.ZoneApart z (t.sampleStep r) := by
    obtain ⟨hCalls, hZone⟩ := ht
    have hRouter := (State.sampleStep_frame t r).2.2.2.2.2.1
    refine ⟨fun c hc => hCalls c (hRouter ▸ hc), Eq.trans ?_ hZone⟩
    unfold State.zone
    rw [hRouter]
  unfold State.readerFrame
  dsimp only
  split
  · exact hSample
  · split
    · exact (zoneApart_routed _ z).playerReports hSample _ _
    · exact hSample

omit s in
theorem zoneApart_readerFrames {b : State} {z : ZoneId} (l : List ReaderId) (ht : b.ZoneApart z t) :
    b.ZoneApart z (l.foldl State.readerFrame t) :=
  foldl_holds (P := fun t => b.ZoneApart z t) (f := State.readerFrame) (fun _ r ht => zoneApart_readerFrame ht r) l ht

/-- A zone no call names has its ramp's frame alone. -/
theorem computed_zone {z : ZoneId} (h : ∀ c ∈ s.router.calls, z ∉ c.zones) : (s.computed slots pins).zone z = (s.zone z).frame := by
  have hStart : ({ s with router := { s.router with zones := s.router.zones.map Zone.frame } } : State).ZoneApart z (s.driveLamps.countFrame pins) := by
    obtain ⟨-, -, hRouter⟩ := countFrame_blocks s pins
    refine ⟨fun c hc => h c ?_, ?_⟩
    · rw [hRouter] at hc
      exact hc
    · unfold State.zone
      rw [hRouter]
  have hReaders := zoneApart_readerFrames (List.finRange 26) hStart
  have hOutside : ∀ t : State, (((t.onPorts fun b => b.frame (s.audio slots).outputs).onFetch fun b => { b with busReset := false }).onClock
      fun b => { b with begun := b.begun - 1 }).zone z = t.zone z := fun _ => rfl
  have hMeter : ((s.counted pins).meterFrame (s.audio slots)).zone z = (s.counted pins).zone z := by
    unfold State.zone
    rw [(meterFrame_blocks _ _).2.2.2.2.2.2.1]
  rw [computed_eq, hOutside, hMeter]
  refine hReaders.2.trans ?_
  exact get_map _ _ _

theorem meter_ramp (b : FbBus) (v : Sample) : (b.meter v).duck = b.duck ∧ (b.meter v).ramp = b.ramp := by
  unfold FbBus.meter
  split <;> exact ⟨rfl, rfl⟩

end

end Sys2Proof.Machine

namespace Sys2Proof.Proofs

open Sys2Proof Sys2Proof.Machine

/-- What FRAME leaves of levels, records and ramps. -/
theorem computed_fades (x : State) (slots : Vector Word32 64) (pins : Vector Bool 16) :
    (∀ row bus, (x.computed slots pins).finish.xpt row bus = x.fadeFrame.xpt row bus ∧
      (x.computed slots pins).finish.fadeOf (.xpt row bus) = x.fadeFrame.fadeOf (.xpt row bus)) ∧
    (∀ v : VoiceId, ((x.computed slots pins).finish.voice v).state = .playing ∨ ((x.computed slots pins).finish.voice v).state = .stalled →
      ((x.computed slots pins).finish.voice v).level = x.fadeFrame.levelOf (.voice v) ∧
        (x.computed slots pins).finish.fadeOf (.voice v) = x.fadeFrame.fadeOf (.voice v)) ∧
    (∀ z, (∀ c ∈ x.router.calls, z ∉ c.zones) →
      (((x.computed slots pins).finish.zone z).duck, ((x.computed slots pins).finish.zone z).ramp) =
        rampFrame (x.zone z).duck (x.zone z).ramp) ∧
    (∀ k, (((x.computed slots pins).finish.bus k).duck, ((x.computed slots pins).finish.bus k).ramp) =
      rampFrame (x.bus k).duck (x.bus k).ramp) := by
  obtain ⟨-, hMatrix, -, -, hFoldback, hRouter, -⟩ := State.finish_frame (x.computed slots pins)
  refine ⟨fun row bus => ⟨?_, ?_⟩, fun v h => ?_, fun z h => ?_, fun k => ?_⟩
  · unfold State.xpt
    rw [hMatrix, computed_xpts]
  · rw [finish_fadeOf fun v h => (by cases h), computed_fadeOf_xpt]
  · obtain ⟨w, hVoice, hFade, -, hHeld⟩ := computed_step x slots pins v
    have hFinish := finish_sounding h
    rw [hFinish.voice, hHeld.voice] at h ⊢
    rw [hFinish.fade, hHeld.fade, sampleStep_fade (by rcases h with h | h <;> rw [h] <;> decide), hFade, sampleStep_voice, if_pos rfl,
      sampled_level, hVoice]
    exact ⟨rfl, rfl⟩
  · have hZone : (x.computed slots pins).finish.zone z = (x.zone z).frame := by
      rw [← computed_zone x slots pins h]
      unfold State.zone
      rw [hRouter]
    rw [hZone]
    rfl
  · have hBus : (x.computed slots pins).finish.bus k = (x.bus k).frame.meter (x.busSum slots (.fb k)) := by
      unfold State.bus
      rw [hFoldback, computed_foldback, get_ofFn]
      rfl
    rw [hBus, (meter_ramp _ _).1, (meter_ramp _ _).2]
    rfl

/-- Settles O42: a record moves its own target, and FRAME takes the fade step before the sample steps. -/
theorem fadeFrame : Obligations.FadeFrame := by
  refine ⟨fun s f hPool hf => ⟨fun hFrozen => ?_, fun hRuns hTime => ⟨?_, fun hWhole hShort => ?_, fun h => ?_⟩⟩, fun s x hNone => ?_,
    fun r => ⟨fun h => if_pos h, fun h => if_neg (Nat.not_le.mpr h)⟩, fun s t u slots pins hReset hFrame hu hExec => ?_⟩
  · have h := frozen_true hFrozen
    refine ⟨?_, ?_⟩
    · rw [fadeFrame_pool]
      exact List.mem_map.mpr ⟨f, hf, if_pos h⟩
    · rw [fadeFrame_levelOf, fadeSteps_levelOf hPool.2 hf, moves_frozen h]
      rfl
  · rw [fadeFrame_pool, ← advance_running hTime]
    exact List.mem_map.mpr ⟨f, hf, by rw [frozen_false hRuns]; rfl⟩
  · rw [fadeFrame_levelOf, fadeSteps_levelOf hPool.2 hf, moves_running (frozen_false hRuns) hTime, if_pos (decide_eq_true ⟨hWhole, hShort⟩),
      advance_running hTime]
    rfl
  · rw [fadeFrame_levelOf, fadeSteps_levelOf hPool.2 hf, moves_running (frozen_false hRuns) hTime, if_neg]
    rw [decide_eq_true_eq]
    omega
  · rw [fadeFrame_levelOf]
    exact fadeSteps_levelOf_ne (State.fadeOf_eq_none.mp hNone)
  · have hNext := exec_frame_eq hReset hFrame slots pins
    rw [hExec, ← hu] at hNext
    rw [Host.Outcome.next.inj hNext]
    exact computed_fades u slots pins

end Sys2Proof.Proofs
end

section
/-! PROOFS. A voice that enters PLAYING, and PLAY by the voice's state (R27, R35, R36, R40, R130, R132, R136, R144). -/

namespace Sys2Proof.Machine

open Sys2Proof

section
variable {s t u : State} {v : VoiceId}

/-! ### The fade-in of a voice (R27, R35) -/

theorem poolFullSnap_voice (c : LevelCode) :
    (s.poolFullSnap (.voice v) c).fetch = (s.onReader (voiceReader v) fun x => { x with level := c }).fetch := by
  unfold State.poolFullSnap
  rw [State.raise_fetch]
  rfl

/-- A request on a voice leaves the readers, or with the pool full sets its level. -/
theorem requestFade_fetch (c : LevelCode) (ms : Nat) (o : Option InstSlot) (b : Bool) :
    (s.requestFade (.voice v) c ms o b).fetch = s.fetch ∨
      (s.requestFade (.voice v) c ms o b).fetch = (s.onReader (voiceReader v) fun x => { x with level := c }).fetch := by
  rcases s.fade_cases (.voice v) c with h | ⟨h, hLevel⟩ | ⟨h, hLevel, hRoom⟩ | ⟨h, hLevel, hFull⟩
  · rw [requestFade_replaced ms o b h]
    exact .inl (by simp)
  · rw [requestFade_ended ms o b h hLevel]
    exact .inl rfl
  · rw [requestFade_made ms o b h hLevel hRoom]
    exact .inl (by simp)
  · rw [requestFade_snapped ms o b h hLevel hFull]
    exact .inr (poolFullSnap_voice c)

theorem fadeIn_none : s.fadeIn v none = s := rfl

theorem fadeIn_zero : s.fadeIn v (some 0) = s := rfl

theorem fadeIn_some {ms : Nat} (h : ms ≠ 0) : s.fadeIn v (some ms) = s.requestFade (.voice v) 0 ms none false := by
  cases ms with
  | zero => exact absurd rfl h
  | succ n => rfl

theorem fadeIn_fetch (kept : Option Nat) : (s.fadeIn v kept).fetch = s.fetch ∨
    (s.fadeIn v kept).fetch = (s.onReader (voiceReader v) fun x => { x with level := 0 }).fetch := by
  cases kept with
  | none => exact .inl rfl
  | some ms =>
    by_cases h : ms = 0
    · subst h
      exact .inl rfl
    · rw [fadeIn_some h]
      exact requestFade_fetch _ _ _ _

theorem reader_of_fetch (h : t.fetch = s.fetch) (r : ReaderId) : t.reader r = s.reader r := by
  unfold State.reader
  rw [h]

/-- A fade-in changes of the readers the level of its voice alone. -/
theorem fadeIn_voice (kept : Option Nat) : (s.fadeIn v kept).voice v = { s.voice v with level := ((s.fadeIn v kept).voice v).level } ∧
    (∀ r, r ≠ voiceReader v → (s.fadeIn v kept).reader r = s.reader r) ∧ (s.fadeIn v kept).fetch.tags = s.fetch.tags := by
  rcases fadeIn_fetch (s := s) (v := v) kept with h | h
  · have hReader := reader_of_fetch h
    exact ⟨by rw [show (s.fadeIn v kept).voice v = s.voice v from hReader _], fun r _ => hReader r, by rw [h]⟩
  · have hReader := reader_of_fetch h
    refine ⟨?_, fun r hr => ?_, by rw [h]; rfl⟩
    · rw [show (s.fadeIn v kept).voice v = _ from (hReader _).trans (by rw [reader_onReader, if_pos rfl])]
      rfl
    · rw [hReader, reader_onReader, if_neg (Ne.symm hr)]

/-- What a fade-in requests where no record moves the voice and its level is the one PLAY gives it. -/
theorem fadeIn_fades {ms : Nat} (hFade : s.fadeOf (.voice v) = none) (hLevel : (s.voice v).level = if ms = 0 then 0 else -180) :
    (ms = 0 → (s.fadeIn v (some ms)).fades = s.fades ∧ ((s.fadeIn v (some ms)).voice v).level = 0) ∧
    (ms ≠ 0 → s.fades.pool.length < 256 → ((s.fadeIn v (some ms)).voice v).level = -180 ∧
      (s.fadeIn v (some ms)).fades = { s.fades with pool := s.fades.pool ++ [newFade (.voice v) (-180) 0 ms none false] }) ∧
    (ms ≠ 0 → 256 ≤ s.fades.pool.length → ((s.fadeIn v (some ms)).voice v).level = 0 ∧
      (s.fadeIn v (some ms)).fades = { s.fades with snaps := min (s.fades.snaps + 1) 65535 } ∧
      s.Raised (s.fadeIn v (some ms)) .fade ("!FADE used=" ++ natText s.fades.pool.length ++ " snaps=" ++
        natText (min (s.fades.snaps + 1) 65535) ++ " last=" ++ voiceText v ++ " level=0.0")) := by
  refine ⟨fun h => ?_, fun h hRoom => ?_, fun h hFull => ?_⟩
  · subst h
    exact ⟨rfl, hLevel⟩
  · rw [if_neg h] at hLevel
    have hNot : s.levelOf (.voice v) ≠ 0 := by
      rw [show s.levelOf (.voice v) = -180 from hLevel]
      decide
    rw [fadeIn_some h, requestFade_made ms none false hFade hNot hRoom, show s.levelOf (.voice v) = -180 from hLevel]
    exact ⟨hLevel, rfl⟩
  · rw [if_neg h] at hLevel
    have hNot : s.levelOf (.voice v) ≠ 0 := by
      rw [show s.levelOf (.voice v) = -180 from hLevel]
      decide
    rw [fadeIn_some h, requestFade_snapped ms none false hFade hNot hFull]
    refine ⟨?_, poolFullSnap_fades _ _, ?_⟩
    case refine_2 =>
      have hLast : ("!FADE used=" ++ natText s.fades.pool.length ++ " snaps=" ++ natText (min (s.fades.snaps + 1) 65535) ++ " last=" ++
          targetText (.voice v)) ++ " level=" ++ levelText 0 = "!FADE used=" ++ natText s.fades.pool.length ++ " snaps=" ++
          natText (min (s.fades.snaps + 1) 65535) ++ " last=" ++ voiceText v ++ " level=0.0" := by
        rw [String.append_assoc, show " level=" ++ levelText 0 = " level=0.0" by decide]
        rfl
      rw [← hLast]
      exact poolFullSnap_raised (s := s) (t := s) rfl (.voice v) 0
    unfold State.voice
    rw [reader_of_fetch (t := s.poolFullSnap (.voice v) 0) (poolFullSnap_voice 0), reader_onReader, if_pos rfl]

/-! ### A voice that enters PLAYING (R130) -/

/-- The voice as it enters PLAYING, before its fade-in. -/
def State.playing (s : State) (v : VoiceId) (late : Nat) : State :=
  s.onReader (voiceReader v) fun x => { x with state := .playing, late := some late, keptFadeIn := none, owner := none }

theorem enterPlaying_eq (late : Nat) : s.enterPlaying (voiceReader v) late =
    (((s.playing v late).fadeIn v (s.voice v).keptFadeIn).ownerDone (s.voice v).owner).raiseReader (voiceReader v) "playing" := by
  unfold State.enterPlaying
  dsimp only
  rw [readerKind_voiceReader]
  rfl

/-- What the entry of PLAYING leaves of the readers. -/
theorem enterPlaying_voice (late : Nat) :
    (s.enterPlaying (voiceReader v) late).voice v = { s.voice v with
      state := .playing, late := some late, keptFadeIn := none, owner := none
      level := (((s.playing v late).fadeIn v (s.voice v).keptFadeIn).voice v).level } ∧
    (∀ r, r ≠ voiceReader v → (s.enterPlaying (voiceReader v) late).reader r = s.reader r) ∧
    (s.enterPlaying (voiceReader v) late).fetch.tags = s.fetch.tags := by
  obtain ⟨hVoice, hOthers, hTags⟩ := fadeIn_voice (s := s.playing v late) (v := v) (s.voice v).keptFadeIn
  have hOwn : (s.playing v late).voice v = { s.voice v with state := .playing, late := some late, keptFadeIn := none, owner := none } := by
    unfold State.playing
    rw [voice_onReader, if_pos rfl]
  have hReader : ∀ r, (s.enterPlaying (voiceReader v) late).reader r = ((s.playing v late).fadeIn v (s.voice v).keptFadeIn).reader r := fun r => by
    rw [enterPlaying_eq, State.raiseReader_reader, State.ownerDone_reader]
  refine ⟨?_, fun r hr => ?_, ?_⟩
  · rw [hOwn] at hVoice
    exact (hReader _).trans hVoice
  · rw [hReader, hOthers r hr]
    unfold State.playing
    rw [reader_onReader, if_neg (Ne.symm hr)]
  · rw [enterPlaying_eq]
    have hFetch : ∀ (w : State) o, ((w.ownerDone o).raiseReader (voiceReader v) "playing").fetch = w.fetch := fun w o => by simp
    rw [hFetch, hTags]
    rfl

theorem enterPlaying_fades (late : Nat) :
    (s.enterPlaying (voiceReader v) late).fades = ((s.playing v late).fadeIn v (s.voice v).keptFadeIn).fades := by
  rw [enterPlaying_eq]
  simp

theorem playing_fadeOf (late : Nat) (x : Target) : (s.playing v late).fadeOf x = s.fadeOf x := rfl

theorem fadeIn_disabled (kept : Option Nat) : (s.fadeIn v kept).link.disabled = s.link.disabled := kept_disabled (State.fadeIn_frame s v kept).1

theorem enterPlaying_raised (late : Nat) : s.Raised (s.enterPlaying (voiceReader v) late) (.voice v) (" event=playing late=" ++ natText late) := by
  have hRaised := raiseReader_raised_counts (s := s) (t := ((s.playing v late).fadeIn v (s.voice v).keptFadeIn).ownerDone (s.voice v).owner)
    ((kept_disabled (State.ownerDone_frame _ _).1).trans (fadeIn_disabled _)) (voiceReader v) "playing"
  rw [readerKey_voice] at hRaised
  have hLate : ((((s.playing v late).fadeIn v (s.voice v).keptFadeIn).ownerDone (s.voice v).owner).reader (voiceReader v)).late = some late := by
    rw [State.ownerDone_reader]
    have hVoice : (((s.playing v late).fadeIn v (s.voice v).keptFadeIn).voice v).late = ((s.playing v late).voice v).late := by
      rw [(fadeIn_voice (s := s.playing v late) (v := v) (s.voice v).keptFadeIn).1]
    refine hVoice.trans ?_
    unfold State.playing
    rw [voice_onReader, if_pos rfl]
  rw [enterPlaying_eq]
  generalize (((s.playing v late).fadeIn v (s.voice v).keptFadeIn).ownerDone (s.voice v).owner).reader (voiceReader v) = x at *
  refine hRaised.part (before := "") (after := " stall=" ++ optText natText x.stall ++ " underruns=" ++ natText x.underruns ++
    " retries=" ++ natText x.retries) ?_
  unfold Reader.countFields
  rw [hLate]
  have hEvent : " event=" ++ "playing" ++ " late=" = " event=playing late=" := by decide
  rw [← hEvent]
  simp only [String.append_assoc, String.empty_append, optText]

/-! ### Whether an evaluation is owed -/

/-- Whether a priming evaluation is owed within the operation. -/
def State.owed (s : State) : Bool := s.engine.evalDue

@[simp] theorem State.owed_raise (key : ReportKey) (text : String) : (s.raise key text).owed = s.owed := by
  unfold State.owed
  rw [State.raise_engine]

@[simp] theorem State.owed_onReader (r : ReaderId) (f : Reader → Reader) : (s.onReader r f).owed = s.owed := rfl

@[simp] theorem State.owed_raiseCue (e : CueEvent) : (s.raiseCue e).owed = s.owed := by
  unfold State.owed
  rw [raiseCue_engine]

@[simp] theorem State.owed_setChain (c : Chain) : (s.setChain c).owed = s.owed := by
  have hSet : ∀ (w : State) (e : CueEvent), ((w.onEngine fun b => { b with chain := some c }).raiseCue e).owed = w.owed := fun w e =>
    (State.owed_raiseCue e).trans rfl
  unfold State.setChain
  dsimp only
  split
  · exact hSet _ _
  · exact (hSet _ _).trans (State.owed_raiseCue _)

@[simp] theorem State.owed_endLink (i : Inst) : (s.endLink i).owed = s.owed := by
  unfold State.endLink
  (repeat' split) <;> simp

@[simp] theorem State.owed_completeInst (i : Inst) (atFiring : Bool) : (s.completeInst i atFiring).owed = s.owed := by
  unfold State.completeInst
  dsimp only
  rw [State.owed_endLink]
  split
  · rfl
  · exact (State.owed_raiseCue _).trans rfl

@[simp] theorem State.owed_ownerDone (o : Option InstSlot) : (s.ownerDone o).owed = s.owed := by
  cases o with
  | none => rfl
  | some slot =>
    show (s.instDone slot).owed = s.owed
    unfold State.instDone
    split
    · rfl
    · dsimp only
      split
      · exact (State.owed_completeInst _ _).trans rfl
      · rfl

@[simp] theorem State.owed_ownerAdd (o : Option InstSlot) : (s.ownerAdd o).owed = s.owed := by
  cases o <;> rfl

@[simp] theorem State.owed_removeFade (x : Target) : (s.removeFade x).owed = s.owed := by
  rw [removeFade_eq]
  exact (State.owed_ownerDone _).trans rfl

@[simp] theorem State.owed_setLevelOf (x : Target) (c : LevelCode) : (s.setLevelOf x c).owed = s.owed := by
  cases x <;> rfl

@[simp] theorem State.owed_snapLevel (x : Target) (c : LevelCode) : (s.snapLevel x c).owed = s.owed := by
  simp [State.snapLevel]

@[simp] theorem State.owed_poolFullSnap (x : Target) (c : LevelCode) : (s.poolFullSnap x c).owed = s.owed := by
  unfold State.poolFullSnap
  exact (State.owed_raise _ _).trans ((State.owed_setLevelOf x c).trans rfl)

@[simp] theorem State.owed_requestFade (x : Target) (c : LevelCode) (ms : Nat) (o : Option InstSlot) (b : Bool) :
    (s.requestFade x c ms o b).owed = s.owed := by
  have hFades : ∀ f, (s.onFades f).owed = s.owed := fun _ => rfl
  unfold State.requestFade
  dsimp only
  split <;> simp [hFades]

@[simp] theorem State.owed_raiseReader (r : ReaderId) (event : String) : (s.raiseReader r event).owed = s.owed := by
  unfold State.raiseReader
  dsimp only
  split <;> simp

@[simp] theorem State.owed_fadeIn (v : VoiceId) (ms : Option Nat) : (s.fadeIn v ms).owed = s.owed := by
  unfold State.fadeIn
  split <;> simp

@[simp] theorem State.owed_enterPlaying (r : ReaderId) (late : Nat) : (s.enterPlaying r late).owed = s.owed := by
  unfold State.enterPlaying
  dsimp only
  split <;> simp

@[simp] theorem State.owed_testStart (r : ReaderId) : (s.testStart r).owed = s.owed := by
  unfold State.testStart
  dsimp only
  split <;> simp

@[simp] theorem State.owed_clearRing (r : ReaderId) : (s.clearRing r).owed = s.owed := rfl

@[simp] theorem State.owed_play (v : VoiceId) (n : SoundId) (d : Sound) (ms : Nat) (o : Option InstSlot) : (s.play v n d ms o).owed = s.owed := by
  unfold State.play
  dsimp only
  split
  · simp
  · split <;> simp

/-- An operation that owes no evaluation ends with STANDBY_READY settled alone. -/
theorem finish_of_owed (h : s.owed = false) : s.finish = s.settleReady := by
  unfold State.finish
  rw [show s.engine.evalDue = false from h, if_neg (by decide)]

end

end Sys2Proof.Machine
end

section
/-! PROOFS. PLAY by the voice's state (R27, R35, R36, R40, R130, R132, R136, R144). -/

namespace Sys2Proof.Machine

open Sys2Proof

section
variable {s t u y : State} {v : VoiceId} {n : SoundId} {d : Sound} {ms : Nat}

/-! ### A voice that begins to play -/

/-- What a voice that enters PLAYING holds, and what it requests, with the reports of the entry (R27, R130). -/
structure State.Begun (s : State) (v : VoiceId) (x : Reader) (pool : List Fade) (ms late : Nat) (u : State) : Prop where
  voice : u.voice v = { x with state := .playing, late := some late, keptFadeIn := none, owner := none, level := (u.voice v).level }
  others : ∀ r, r ≠ voiceReader v → u.reader r = s.reader r
  level : ms = 0 → (u.voice v).level = 0
  fades : s.FadesIn u v pool ms
  raised : s.Raised u (.voice v) (" event=playing late=" ++ natText late)

/-- A report raised against a state that disables the same kinds. -/
theorem State.Raised.origin {s' : State} {key : ReportKey} {part : String} (h : s.Raised t key part) (hDisabled : s'.link.disabled = s.link.disabled) :
    s'.Raised t key part := fun hd => h (by rw [← hDisabled]; exact hd)

theorem State.FadesIn.stands {pool : List Fade} (h : s.FadesIn u v pool ms) (hVoice : (t.voice v).level = (u.voice v).level)
    (hFades : t.fades = u.fades) (hReports : u.StandsBut (· = .cue) t) : s.FadesIn t v pool ms := by
  obtain ⟨hZero, hMade, hSnapped⟩ := h
  refine ⟨fun h0 => hFades.trans (hZero h0), fun h0 hRoom => ?_, fun h0 hFull => ?_⟩
  · obtain ⟨hLevel, hPool⟩ := hMade h0 hRoom
    exact ⟨hVoice.trans hLevel, hFades.trans hPool⟩
  · obtain ⟨hLevel, hPool, hRaised⟩ := hSnapped h0 hFull
    exact ⟨hVoice.trans hLevel, hFades.trans hPool, hRaised.stands hReports fun h => by cases h⟩

/-- The entry of PLAYING of a voice no record moves, at the level PLAY gave it. -/
theorem enterPlaying_begun {pool : List Fade} (late : Nat) (hPool : y.fades = { s.fades with pool := pool })
    (hFade : y.fadeOf (.voice v) = none) (hKept : (y.voice v).keptFadeIn = some ms)
    (hLevel : (y.voice v).level = if ms = 0 then 0 else -180) (hOthers : ∀ r, r ≠ voiceReader v → y.reader r = s.reader r)
    (hDisabled : y.link.disabled = s.link.disabled) : s.Begun v (y.voice v) pool ms late (y.enterPlaying (voiceReader v) late) := by
  obtain ⟨hVoice, hReaders, _⟩ := enterPlaying_voice (s := y) (v := v) late
  have hStart : ((y.playing v late).voice v).level = if ms = 0 then 0 else -180 := by
    unfold State.playing
    rw [voice_onReader, if_pos rfl]
    exact hLevel
  obtain ⟨hZero, hMade, hSnapped⟩ := fadeIn_fades (s := y.playing v late) (ms := ms) (v := v) hFade hStart
  have hFades := enterPlaying_fades (s := y) (v := v) late
  have hLevelNow := congrArg Reader.level hVoice
  dsimp only at hLevelNow
  have hOwn : (y.playing v late).fades = { s.fades with pool := pool } := hPool
  rw [hKept] at hFades hLevelNow
  refine ⟨?_, fun r hr => (hReaders r hr).trans (hOthers r hr), fun h0 => ?_, ⟨fun h0 => ?_, fun h0 hRoom => ?_, fun h0 hFull => ?_⟩, ?_⟩
  · rw [hKept] at hVoice
    rw [hLevelNow]
    exact hVoice
  · rw [hLevelNow]
    exact (hZero h0).2
  · rw [hFades, (hZero h0).1, hOwn]
  · obtain ⟨hVoiceLevel, hNew⟩ := hMade h0 (by rw [hOwn]; exact hRoom)
    rw [hLevelNow, hFades, hNew, hOwn]
    exact ⟨hVoiceLevel, rfl⟩
  · obtain ⟨hVoiceLevel, hNew, hRaised⟩ := hSnapped h0 (by rw [hOwn]; exact hFull)
    rw [hLevelNow, hFades, hNew]
    rw [hOwn] at hRaised ⊢
    refine ⟨hVoiceLevel, rfl, ?_⟩
    have hReport := hRaised.origin (s' := s) hDisabled.symm
    rw [enterPlaying_eq, hKept]
    exact hReport.stands (K := fun key => key = .cue ∨ key = .voice v)
      (((State.StandsBut.refl _).ownerDone (.inl rfl) _).raiseReader (.inr (readerKey_voice v)) _) (by rintro (h | h) <;> cases h)
  · exact fun hd => enterPlaying_raised (s := y) (v := v) late (by rw [hDisabled]; exact hd)

/-! ### PLAY as the voice takes it (R132) -/

/-- The state with the voice's record and start owner gone, as a PLAY finds it (R132). -/
def State.freeVoice (s : State) (v : VoiceId) : State := (s.removeFade (.voice v)).ownerDone (s.voice v).owner

theorem freeVoice_kept : (s.freeVoice v).kept = s.kept := (State.ownerDone_frame _ _).1.trans (State.removeFade_frame s _).1

theorem freeVoice_fetch : (s.freeVoice v).fetch = s.fetch := by
  unfold State.freeVoice
  simp

theorem freeVoice_fades : (s.freeVoice v).fades = { s.fades with pool := s.fades.pool.filter fun f => f.target ≠ .voice v } := by
  unfold State.freeVoice
  rw [(State.ownerDone_frame _ _).2.2.1, removeFade_fades]
  rfl

theorem freeVoice_fadeOf : (s.freeVoice v).fadeOf (.voice v) = none := by
  have hPool := (fadeOf_congr (s := s.dropFade (.voice v)) (t := s.freeVoice v) (congrArg FadeBlock.pool freeVoice_fades) (.voice v))
  rw [hPool, dropFade_fadeOf, if_pos rfl]

/-- The reader of a voice as PLAY sets it, the voice not PRIMED with the sound (R132). -/
def Reader.taken (r : Reader) (now : Nat) (n : SoundId) (d : Sound) (ms : Nat) (owner : Option InstSlot) : Reader :=
  (if r.state = .priming ∧ r.soundId = some n then { r with state := .starting } else r.load n d .starting).takePlay now n d ms owner

/-- The state with the voice ready to take the PLAY: PRIMING with the sound it keeps its ring, and otherwise it begins again (R132). -/
def State.readied (s : State) (v : VoiceId) (n : SoundId) (d : Sound) : State :=
  if (s.voice v).state = .priming ∧ (s.voice v).soundId = some n then
    (s.freeVoice v).onReader (voiceReader v) fun x => { x with state := .starting }
  else ((s.freeVoice v).clearRing (voiceReader v)).onReader (voiceReader v) fun x => x.load n d .starting

/-- A PLAY that leaves the voice STARTING, before the start condition is tested (R132). -/
def State.begin (s : State) (v : VoiceId) (n : SoundId) (d : Sound) (ms : Nat) (owner : Option InstSlot) : State :=
  (((s.readied v n d).onReader (voiceReader v) fun x => x.takePlay (s.readied v n d).now n d ms owner).ownerAdd owner
    ).raiseReader (voiceReader v) "starting"

/-- A PLAY of the sound on a PRIMED voice, before its entry of PLAYING (R132). -/
def State.primedPlay (s : State) (v : VoiceId) (n : SoundId) (d : Sound) (ms : Nat) : State :=
  (s.freeVoice v).onReader (voiceReader v) fun x => x.takePlay (s.freeVoice v).now n d ms none

theorem play_eq (o : Option InstSlot) : s.play v n d ms o =
    if (s.voice v).state = .primed ∧ (s.voice v).soundId = some n then (s.primedPlay v n d ms).enterPlaying (voiceReader v) 0
    else (s.begin v n d ms o).testStart (voiceReader v) := rfl

theorem readied_kept : (s.readied v n d).kept = s.kept := by
  unfold State.readied
  split
  · exact (State.kept_onReader _ _ _).trans freeVoice_kept
  · exact (State.kept_onReader _ _ _).trans ((State.clearRing_frame _ _).1.trans freeVoice_kept)

theorem readied_fades : (s.readied v n d).fades = { s.fades with pool := s.fades.pool.filter fun f => f.target ≠ .voice v } := by
  have hFades := freeVoice_fades (s := s) (v := v)
  unfold State.readied
  split
  · exact hFades
  · exact hFades

theorem readied_priming (h : (s.voice v).state = .priming ∧ (s.voice v).soundId = some n) :
    (s.readied v n d).fetch = (s.onReader (voiceReader v) fun x => { x with state := .starting }).fetch := by
  unfold State.readied
  rw [if_pos h]
  unfold State.onReader State.onFetch
  dsimp only
  rw [freeVoice_fetch]

theorem readied_other (h : ¬((s.voice v).state = .priming ∧ (s.voice v).soundId = some n)) :
    (s.readied v n d).fetch = ((s.clearRing (voiceReader v)).onReader (voiceReader v) fun x => x.load n d .starting).fetch := by
  unfold State.readied
  rw [if_neg h]
  unfold State.clearRing State.onReader State.onFetch
  dsimp only
  rw [freeVoice_fetch]

theorem readied_voice : (s.readied v n d).voice v =
    if (s.voice v).state = .priming ∧ (s.voice v).soundId = some n then { s.voice v with state := .starting } else (s.voice v).load n d .starting := by
  by_cases h : (s.voice v).state = .priming ∧ (s.voice v).soundId = some n
  · rw [if_pos h]
    refine (reader_of_fetch (readied_priming h) _).trans ?_
    rw [reader_onReader, if_pos rfl]
    rfl
  · rw [if_neg h]
    refine (reader_of_fetch (readied_other h) _).trans ?_
    rw [reader_onReader, if_pos rfl]
    unfold State.clearRing
    rw [reader_onReader, if_pos rfl]
    rfl

theorem readied_reader {r : ReaderId} (hr : r ≠ voiceReader v) : (s.readied v n d).reader r = s.reader r := by
  by_cases h : (s.voice v).state = .priming ∧ (s.voice v).soundId = some n
  · refine (reader_of_fetch (readied_priming h) _).trans ?_
    rw [reader_onReader, if_neg hr.symm]
  · refine (reader_of_fetch (readied_other h) _).trans ?_
    rw [reader_onReader, if_neg hr.symm]
    unfold State.clearRing
    rw [reader_onReader, if_neg hr.symm]
    rfl

theorem begin_reader (r : ReaderId) (o : Option InstSlot) : (s.begin v n d ms o).reader r =
    ((s.readied v n d).onReader (voiceReader v) fun x => x.takePlay (s.readied v n d).now n d ms o).reader r := by
  unfold State.begin
  rw [State.raiseReader_reader, State.ownerAdd_reader]

theorem begin_voice (o : Option InstSlot) : (s.begin v n d ms o).voice v = (s.voice v).taken s.now n d ms o := by
  refine (begin_reader _ o).trans ?_
  rw [reader_onReader, if_pos rfl, kept_now readied_kept]
  exact congrArg (Reader.takePlay · s.now n d ms o) readied_voice

theorem begin_others {r : ReaderId} (hr : r ≠ voiceReader v) (o : Option InstSlot) : (s.begin v n d ms o).reader r = s.reader r := by
  rw [begin_reader, reader_onReader, if_neg hr.symm, readied_reader hr]

theorem begin_fades (o : Option InstSlot) :
    (s.begin v n d ms o).fades = { s.fades with pool := s.fades.pool.filter fun f => f.target ≠ .voice v } := by
  have hAdd : ∀ w : State, (w.ownerAdd o).fades = w.fades := fun w => by cases o <;> rfl
  unfold State.begin
  rw [(State.raiseReader_frame _ _ _).2.2.1, hAdd]
  exact readied_fades

theorem begin_tags (o : Option InstSlot) : (s.begin v n d ms o).fetch.tags = (s.readied v n d).fetch.tags := by
  have hAdd : ∀ w : State, (w.ownerAdd o).fetch = w.fetch := fun w => by cases o <;> rfl
  unfold State.begin
  rw [(State.raiseReader_frame _ _ _).2.2.2.2.2.2.1, hAdd]
  rfl

theorem begin_kept (o : Option InstSlot) : (s.begin v n d ms o).kept = s.kept := by
  unfold State.begin
  exact (State.raiseReader_frame _ _ _).1.trans ((State.ownerAdd_frame _ _).1.trans ((State.kept_onReader _ _ _).trans readied_kept))

theorem begin_raised (o : Option InstSlot) : s.Raised (s.begin v n d ms o) (.voice v) " event=starting" := by
  have hDisabled : (((s.readied v n d).onReader (voiceReader v) fun x => x.takePlay (s.readied v n d).now n d ms o).ownerAdd o).link.disabled =
      s.link.disabled := by
    rw [State.ownerAdd_link]
    exact kept_disabled readied_kept
  have hRaised := raiseReader_raised_counts hDisabled (voiceReader v) "starting"
  rw [readerKey_voice] at hRaised
  exact hRaised.part (before := "") (by rw [String.empty_append]; rfl)

/-- The pool with the voice's own record gone holds none on the voice. -/
theorem fadeOf_freed (h : t.fades = { s.fades with pool := s.fades.pool.filter fun f => f.target ≠ .voice v }) : t.fadeOf (.voice v) = none := by
  rw [fadeOf_congr (s := s.dropFade (.voice v)) (congrArg FadeBlock.pool h), dropFade_fadeOf, if_pos rfl]

/-- A voice set by PLAY from a STARTING reader, the fields PLAY sets apart. -/
theorem Reader.taken_eq (r : Reader) (now : Nat) (o : Option InstSlot) : r.taken now n d ms o =
    { r.taken now n d ms o with
      state := .starting, keptFadeIn := some ms, level := if ms = 0 then 0 else -180
      playMoment := now, owner := o, sound := some (n, d) } := by
  unfold Reader.taken
  split <;> rfl

theorem testStart_starts (hState : (y.voice v).state = .starting) (h : (y.voice v).canStart = true) :
    y.testStart (voiceReader v) = y.enterPlaying (voiceReader v) ((y.now - (y.voice v).playMoment) / 48) := if_pos ⟨hState, h⟩

theorem testStart_waits (h : (y.voice v).canStart = false) : y.testStart (voiceReader v) = y :=
  if_neg fun hStart => by
    have hCan : (y.voice v).canStart = true := hStart.2
    rw [h] at hCan
    cases hCan

/-- A PLAY of the sound on a PRIMED voice. -/
theorem play_primed_begun (h : (s.voice v).state = .primed ∧ (s.voice v).soundId = some n) (o : Option InstSlot) :
    s.Begun v ((s.voice v).takePlay s.now n d ms none) (s.fades.pool.filter fun f => f.target ≠ .voice v) ms 0 (s.play v n d ms o) ∧
      (s.play v n d ms o).fetch.tags = s.fetch.tags := by
  have hReader : ∀ r, (s.primedPlay v n d ms).reader r = (s.onReader (voiceReader v) fun x => x.takePlay s.now n d ms none).reader r := fun r => by
    refine reader_of_fetch ?_ r
    unfold State.primedPlay State.onReader State.onFetch
    dsimp only
    rw [freeVoice_fetch, kept_now freeVoice_kept]
  have hVoice : (s.primedPlay v n d ms).voice v = (s.voice v).takePlay s.now n d ms none :=
    (hReader _).trans (by rw [reader_onReader, if_pos rfl]; rfl)
  have hFades : (s.primedPlay v n d ms).fades = { s.fades with pool := s.fades.pool.filter fun f => f.target ≠ .voice v } := freeVoice_fades
  have hDisabled : (s.primedPlay v n d ms).link.disabled = s.link.disabled := kept_disabled (t := s.freeVoice v) freeVoice_kept
  rw [play_eq, if_pos h]
  refine ⟨?_, ?_⟩
  · rw [← hVoice]
    refine enterPlaying_begun 0 hFades (fadeOf_freed hFades) (by rw [hVoice]; rfl) (by rw [hVoice]; rfl) (fun r hr => ?_) hDisabled
    rw [hReader, reader_onReader, if_neg hr.symm]
  · rw [(enterPlaying_voice 0).2.2]
    show (s.freeVoice v).fetch.tags = _
    rw [freeVoice_fetch]

/-- A PLAY that meets the start condition at once. -/
theorem play_starts_begun (h : ¬((s.voice v).state = .primed ∧ (s.voice v).soundId = some n)) (o : Option InstSlot)
    (hStart : ((s.voice v).taken s.now n d ms o).canStart = true) :
    s.Begun v ((s.voice v).taken s.now n d ms o) (s.fades.pool.filter fun f => f.target ≠ .voice v) ms 0 (s.play v n d ms o) ∧
      (s.play v n d ms o).fetch.tags = (s.readied v n d).fetch.tags := by
  have hVoice := begin_voice (s := s) (v := v) (n := n) (d := d) (ms := ms) o
  have hLate : (s.begin v n d ms o).now - ((s.begin v n d ms o).voice v).playMoment = 0 := by
    rw [hVoice, Reader.taken_eq, kept_now (begin_kept o)]
    exact Nat.sub_self _
  rw [play_eq, if_neg h, testStart_starts (by rw [hVoice, Reader.taken_eq]) (by rw [hVoice]; exact hStart), hLate]
  refine ⟨?_, ?_⟩
  · rw [← hVoice]
    exact enterPlaying_begun 0 (begin_fades o) (fadeOf_freed (begin_fades o)) (by rw [hVoice, Reader.taken_eq])
      (by rw [hVoice, Reader.taken_eq]) (fun r hr => begin_others hr o) (kept_disabled (begin_kept o))
  · rw [(enterPlaying_voice _).2.2, begin_tags]

/-- A PLAY that leaves its voice STARTING. -/
theorem play_waits (h : ¬((s.voice v).state = .primed ∧ (s.voice v).soundId = some n)) (o : Option InstSlot)
    (hStart : ((s.voice v).taken s.now n d ms o).canStart = false) : s.play v n d ms o = s.begin v n d ms o := by
  rw [play_eq, if_neg h, testStart_waits (by rw [begin_voice]; exact hStart)]

/-- A reader that begins again has no block to start with. -/
theorem Reader.load_waits (r : Reader) (now : Nat) (o : Option InstSlot) : ((r.load n d .starting).takePlay now n d ms o).canStart = false := by
  unfold Reader.canStart
  have hEmpty : ((r.load n d .starting).takePlay now n d ms o).slot ((r.load n d .starting).takePlay now n d ms o).head = .empty :=
    get_replicate _ _
  rw [hEmpty]

theorem Reader.taken_priming {r : Reader} (h : r.state = .priming ∧ r.soundId = some n) (now : Nat) (o : Option InstSlot) :
    r.taken now n d ms o = ({ r with state := .starting } : Reader).takePlay now n d ms o := by
  unfold Reader.taken
  rw [if_pos h]

theorem Reader.taken_other {r : Reader} (h : ¬(r.state = .priming ∧ r.soundId = some n)) (now : Nat) (o : Option InstSlot) :
    r.taken now n d ms o = (r.load n d .starting).takePlay now n d ms o := by
  unfold Reader.taken
  rw [if_neg h]

/-- The end of an operation that owes no evaluation leaves the readers, the pool and every report but those of cues. -/
theorem finish_leaves (h : u.owed = false) : u.finish.fetch = u.fetch ∧ u.finish.fades = u.fades ∧ u.StandsBut (· = .cue) u.finish := by
  rw [finish_of_owed h]
  exact ⟨(settleReady_blocks u).1, (settleReady_blocks u).2, (State.StandsBut.refl u).settleReady rfl⟩

theorem startPlay_eq {a : PlayArgs} (hv : ofNum 24 a.voice = some v) (hn : ofNum 1024 a.sound = some n) (hd : s.fetch.sounds.get n = some d) :
    startPlay a s = (s.play v n d (heldTime a.fadeIn) none).replies fun s => s.voiceState v ++ " " ++ soundText n := by
  unfold startPlay
  rw [hv, hn, need_some, need_some, ok_bind, ok_bind, show s.soundRec n = some d from hd, need_some, ok_bind]

theorem State.Ready.accepted (hs : s.Ready) {c : Instr} {α : Type} {a : α} {f : α → State → Answer} {x : State → String}
    (hExec : exec c s = command c c.tag (.given a) f s) (h : f a s = u.replies x) :
    exec c s = .next (u.finish.answered c.tag ("OK " ++ x u.finish)) := by
  rw [hExec, command_ok hs.1 c c.tag a f h]

/-- What every PLAY leaves, the voice STARTING or PLAYING (R27, R36, R130, R132). -/
structure State.Played (s : State) (v : VoiceId) (n : SoundId) (d : Sound) (ms : Nat) (u : State) : Prop where
  others : ∀ r, r ≠ voiceReader v → u.reader r = s.reader r
  sound : (u.voice v).sound = some (n, d)
  owner : (u.voice v).owner = none
  moment : (u.voice v).playMoment = s.now
  starting : (u.voice v).state = .starting → (u.voice v).keptFadeIn = some ms ∧ ((u.voice v).level = if ms = 0 then 0 else -180) ∧
    u.fades = { s.fades with pool := s.fades.pool.filter fun f => f.target ≠ .voice v } ∧ s.Raised u (.voice v) " event=starting"
  playing : (u.voice v).state = .playing → (u.voice v).keptFadeIn = none ∧ (u.voice v).late = some 0 ∧ (ms = 0 → (u.voice v).level = 0) ∧
    s.FadesIn u v (s.fades.pool.filter fun f => f.target ≠ .voice v) ms ∧ s.Raised u (.voice v) " event=playing late=0"

theorem State.Played.stands (h : s.Played v n d ms u) (hFetch : t.fetch = u.fetch) (hFades : t.fades = u.fades)
    (hReports : u.StandsBut (· = .cue) t) : s.Played v n d ms t := by
  have hReader := reader_of_fetch hFetch
  have hVoice : t.voice v = u.voice v := hReader _
  refine ⟨fun r hr => (hReader r).trans (h.others r hr), ?_, ?_, ?_, ?_, ?_⟩
  all_goals rw [hVoice]
  · exact h.sound
  · exact h.owner
  · exact h.moment
  · intro hState
    obtain ⟨hKept, hLevel, hPool, hRaised⟩ := h.starting hState
    exact ⟨hKept, hLevel, hFades.trans hPool, hRaised.stands hReports fun h => by cases h⟩
  · intro hState
    obtain ⟨hKept, hLate, hLevel, hFadesIn, hRaised⟩ := h.playing hState
    exact ⟨hKept, hLate, hLevel, hFadesIn.stands (by rw [hVoice]) hFades hReports, hRaised.stands hReports fun h => by cases h⟩

theorem State.Begun.played {x : Reader} (h : s.Begun v x (s.fades.pool.filter fun f => f.target ≠ .voice v) ms 0 u)
    (hSound : x.sound = some (n, d)) (hMoment : x.playMoment = s.now) : s.Played v n d ms u := by
  have hVoice := h.voice
  refine ⟨h.others, ?_, ?_, ?_, fun hState => ?_, fun _ => ⟨?_, ?_, h.level, h.fades, h.raised⟩⟩
  · rw [hVoice]
    exact hSound
  · rw [hVoice]
  · rw [hVoice]
    exact hMoment
  · rw [hVoice] at hState
    cases hState
  · rw [hVoice]
  · rw [hVoice]

theorem begin_played : s.Played v n d ms (s.begin v n d ms none) := by
  have hVoice := begin_voice (s := s) (v := v) (n := n) (d := d) (ms := ms) none
  rw [Reader.taken_eq] at hVoice
  refine ⟨fun r hr => begin_others hr none, ?_, ?_, ?_, fun _ => ⟨?_, ?_, begin_fades none, begin_raised none⟩, fun hState => ?_⟩
  case refine_6 =>
    rw [hVoice] at hState
    cases hState
  all_goals rw [hVoice]

theorem play_played : s.Played v n d ms (s.play v n d ms none) := by
  by_cases h : (s.voice v).state = .primed ∧ (s.voice v).soundId = some n
  · exact (play_primed_begun h none).1.played rfl rfl
  · cases hStart : ((s.voice v).taken s.now n d ms none).canStart
    · rw [play_waits h none hStart]
      exact begin_played
    · exact (play_starts_begun h none hStart).1.played (by rw [Reader.taken_eq]) (by rw [Reader.taken_eq])

end

end Sys2Proof.Machine

namespace Sys2Proof.Proofs

open Sys2Proof Sys2Proof.Machine

/-- Settles O43: by the voice's state, each case through what the entry of PLAYING leaves, or the voice as STARTING. -/
theorem playTakesVoice : Obligations.PlayTakesVoice := by
  intro s tag a v n d hReady hv hn hd
  have hAccepted := hReady.accepted (exec_play s tag (.given a)) (startPlay_eq hv hn hd)
  generalize heldTime a.fadeIn = ms at *
  have hOwed : (s.play v n d ms none).owed = false := (State.owed_play v n d ms none).trans hReady.2.1
  obtain ⟨hFetch, hFades, hReports⟩ := finish_leaves hOwed
  obtain ⟨hKept, hMatrix, hCast, hMic, hFoldback, hRouter, hLines⟩ := State.play_frame s v n d ms none
  obtain ⟨hKeptEnd, hMatrixEnd, hCastEnd, hMicEnd, hFoldbackEnd, hRouterEnd, hLinesEnd⟩ := State.finish_frame (s.play v n d ms none)
  have hPlayed := (play_played (s := s) (v := v) (n := n) (d := d) (ms := ms)).stands hFetch hFades hReports
  have hVoice : (s.play v n d ms none).finish.voice v = (s.play v n d ms none).voice v := reader_of_fetch hFetch _
  have hTags := congrArg FetchBlock.tags hFetch
  have hPrimed := play_primed_begun (s := s) (v := v) (n := n) (d := d) (ms := ms) (o := none)
  have hStarts := play_starts_begun (s := s) (v := v) (n := n) (d := d) (ms := ms) (o := none)
  have hWaits := play_waits (s := s) (v := v) (n := n) (d := d) (ms := ms) (o := none)
  generalize hw : (s.play v n d ms none).finish = w at *
  generalize hu : s.play v n d ms none = u at *
  have hAt : w = { s with link := w.link, fades := w.fades, engine := w.engine, fetch := w.fetch } :=
    (State.eq_at (hKeptEnd.trans hKept)).trans (by
      simp only [hMatrixEnd, hMatrix, hCastEnd, hCast, hMicEnd, hMic, hFoldbackEnd, hFoldback, hRouterEnd, hRouter, hLinesEnd, hLines])
  refine ⟨_, hAccepted, State.replied_of (hKeptEnd.trans hKept) tag _, congrArg (fun t : State => t.answered tag _) hAt, hPlayed.others,
    hPlayed.sound, hPlayed.owner, hPlayed.moment, hPlayed.starting, hPlayed.playing, ?_, ?_, ?_⟩
  · intro hState hSound
    obtain ⟨hBegun, hStand⟩ := hPrimed ⟨hState, hSound⟩
    have hOwn := hVoice.trans hBegun.voice
    refine ⟨?_, ?_, ?_, hTags.trans hStand⟩
    · show (w.voice v).state = _
      rw [hOwn]
    · show (w.voice v).ring = _
      rw [hOwn]
      rfl
    · show (w.voice v).pos = _
      rw [hOwn]
      rfl
  · intro hState hSound
    have hNot : ¬((s.voice v).state = .primed ∧ (s.voice v).soundId = some n) := fun h => by
      rw [hState] at h
      cases h.1
    have hTaken := Reader.taken_priming (d := d) (ms := ms) ⟨hState, hSound⟩ s.now none
    have hCan : ((s.voice v).taken s.now n d ms none).canStart = true ↔ ({ s.voice v with sound := some (n, d) } : Reader).Startable := by
      rw [hTaken]
      exact Reader.canStart_iff ({ s.voice v with sound := some (n, d) } : Reader)
    cases hStart : ((s.voice v).taken s.now n d ms none).canStart with
    | true =>
      obtain ⟨hBegun, hStand⟩ := hStarts hNot hStart
      have hOwn := hVoice.trans hBegun.voice
      rw [hTaken] at hOwn
      have hTagsOwn := hTags.trans hStand
      rw [readied_priming ⟨hState, hSound⟩] at hTagsOwn
      refine ⟨fun _ => ?_, fun h => absurd (hCan.mp hStart) h, ?_, ?_, ?_, hTagsOwn⟩
      · show (w.voice v).state = _
        rw [hOwn]
      · show (w.voice v).ring = _
        rw [hOwn]
        rfl
      · show (w.voice v).cursor = _
        rw [hOwn]
        rfl
      · show (w.voice v).retry = _
        rw [hOwn]
        rfl
    | false =>
      have hWait := hWaits hNot hStart
      have hOwn : w.voice v = ({ s.voice v with state := .starting } : Reader).takePlay s.now n d ms none := by
        rw [hVoice, hWait, begin_voice, hTaken]
      have hTagsOwn : w.fetch.tags = s.fetch.tags := by
        rw [hTags, hWait, begin_tags, readied_priming ⟨hState, hSound⟩]
        rfl
      refine ⟨fun h => ?_, fun _ => ?_, ?_, ?_, ?_, hTagsOwn⟩
      · rw [hCan.mpr h] at hStart
        cases hStart
      · show (w.voice v).state = _
        rw [hOwn]
        rfl
      · show (w.voice v).ring = _
        rw [hOwn]
        rfl
      · show (w.voice v).cursor = _
        rw [hOwn]
        rfl
      · show (w.voice v).retry = _
        rw [hOwn]
        rfl
  · intro h
    have hNot : ¬((s.voice v).state = .primed ∧ (s.voice v).soundId = some n) := fun hp => h.elim (fun h => h.2 hp.1) fun h => h hp.2
    have hOther : ¬((s.voice v).state = .priming ∧ (s.voice v).soundId = some n) := fun hp => h.elim (fun h => h.1 hp.1) fun h => h hp.2
    have hTaken := Reader.taken_other (d := d) (ms := ms) hOther s.now none
    have hWait := hWaits hNot (by rw [hTaken]; exact Reader.load_waits _ _ _)
    have hOwn : w.voice v = ((s.voice v).load n d .starting).takePlay s.now n d ms none := by
      rw [hVoice, hWait, begin_voice, hTaken]
    refine ⟨?_, ?_, ?_, ?_, ?_, fun k => ?_⟩
    case refine_6 =>
      have hOrphan : w.fetch.tags = s.fetch.tags.map (StoreTag.orphan (voiceReader v)) := by
        rw [hTags, hWait, begin_tags, readied_other hOther]
        rfl
      show w.fetch.tags.get k = _
      rw [hOrphan, get_map]
      cases s.fetch.tags.get k <;> rfl
    · show (w.voice v).state = _
      rw [hOwn]
      rfl
    · show (w.voice v).ring = _
      rw [hOwn]
      rfl
    · show (w.voice v).pos = _
      rw [hOwn]
      rfl
    · show (w.voice v).cursor = _
      rw [hOwn]
      rfl
    · show (w.voice v).retry = _
      rw [hOwn]
      rfl

end Sys2Proof.Proofs
end

section
/-! PROOFS. STOP by the voice's state (R28, R35, R40, R135, R144). -/

namespace Sys2Proof.Machine

open Sys2Proof

section
variable {s t u : State} {v : VoiceId} {ms : Nat}

/-! ### What a stop does in each state of its voice (R28, R135) -/

theorem stopVoice_idle (h : (s.voice v).state = .idle) (o : Option InstSlot) : s.stopVoice v ms o = s := by
  unfold State.voice at h
  simp only [State.stopVoice, h]

theorem stopVoice_released (h : (s.voice v).state = .priming ∨ (s.voice v).state = .primed) (o : Option InstSlot) :
    s.stopVoice v ms o = s.enterIdle (voiceReader v) "released" := by
  unfold State.voice at h
  rcases h with h | h <;> simp only [State.stopVoice, h]

theorem stopVoice_stopped (h : (s.voice v).state = .starting ∨ (s.voice v).state = .faulted) (o : Option InstSlot) :
    s.stopVoice v ms o = s.enterIdle (voiceReader v) "stopped" := by
  unfold State.voice at h
  rcases h with h | h <;> simp only [State.stopVoice, h]

/-- A sounding voice. -/
def Reader.sounding (r : Reader) : Prop := r.state = .playing ∨ r.state = .stalled

theorem stopVoice_atOnce (h : (s.voice v).sounding) (hNow : ms = 0 ∨ (s.voice v).level = -180) (o : Option InstSlot) :
    s.stopVoice v ms o = s.enterIdle (voiceReader v) "stopped" := by
  unfold State.voice Reader.sounding at *
  have hIf : ms = 0 ∨ (s.reader (voiceReader v)).level = offCode := hNow
  rcases h with h | h <;> simp only [State.stopVoice, h, if_pos hIf]

theorem stopVoice_fades (h : (s.voice v).sounding) (hTime : ms ≠ 0) (hLevel : (s.voice v).level ≠ -180)
    (hRoom : (s.fadeOf (.voice v)).isSome ∨ s.fades.pool.length < 256) (o : Option InstSlot) :
    s.stopVoice v ms o = s.requestFade (.voice v) (-180) ms o true := by
  have hIf : ¬(ms = 0 ∨ (s.reader (voiceReader v)).level = offCode) := fun hNow => hNow.elim hTime hLevel
  have hCase : s.fadeCase (.voice v) offCode ≠ .snapped := by
    have hNot : s.levelOf (.voice v) ≠ offCode := hLevel
    unfold State.fadeCase
    cases hFade : s.fadeOf (.voice v) with
    | some f => exact fun h => by cases h
    | none =>
      have hLess : s.fades.pool.length < Config.fadePool := hRoom.resolve_left fun h => by rw [hFade] at h; cases h
      rw [Option.isSome_none, if_neg (by decide), if_neg hNot, if_pos hLess]
      exact fun h => by cases h
  unfold State.voice Reader.sounding at h
  rcases h with h | h <;> simp only [State.stopVoice, h, if_neg hIf] <;> rfl

theorem stopVoice_snaps (h : (s.voice v).sounding) (hTime : ms ≠ 0) (hLevel : (s.voice v).level ≠ -180)
    (hNone : s.fadeOf (.voice v) = none) (hFull : 256 ≤ s.fades.pool.length) (o : Option InstSlot) :
    s.stopVoice v ms o = (s.poolFullSnap (.voice v) (-180)).enterIdle (voiceReader v) "stopped" := by
  have hIf : ¬(ms = 0 ∨ (s.reader (voiceReader v)).level = offCode) := fun hNow => hNow.elim hTime hLevel
  have hCase : s.fadeCase (.voice v) offCode = .snapped := by
    have hNot : s.levelOf (.voice v) ≠ offCode := hLevel
    have hMore : ¬s.fades.pool.length < Config.fadePool := Nat.not_lt.mpr hFull
    unfold State.fadeCase
    rw [hNone, Option.isSome_none, if_neg (by decide), if_neg hNot, if_neg hMore]
  unfold State.voice Reader.sounding at h
  rcases h with h | h <;> simp only [State.stopVoice, h, if_neg hIf, hCase] <;> rfl

/-- A fade that the pool has room for leaves the readers. -/
theorem requestFade_readers (c : LevelCode) (o : Option InstSlot) (b : Bool) (hLevel : s.levelOf (.voice v) ≠ c)
    (hRoom : (s.fadeOf (.voice v)).isSome ∨ s.fades.pool.length < 256) : (s.requestFade (.voice v) c ms o b).fetch = s.fetch := by
  rcases s.fade_cases (.voice v) c with h | ⟨-, hEq⟩ | ⟨h, -, hLess⟩ | ⟨h, -, hFull⟩
  · rw [requestFade_replaced ms o b h]
    simp
  · exact absurd hEq hLevel
  · rw [requestFade_made ms o b h hLevel hLess]
    simp
  · refine absurd hRoom (not_or.mpr ⟨by rw [h]; decide, Nat.not_lt.mpr hFull⟩)

/-- No evaluation is owed where the standby cue does not play on the voice sent to IDLE. -/
theorem enterIdle_owed (h : ∀ e ∈ s.standbyPlays, e.1 ≠ v) (event : String) : (s.enterIdle (voiceReader v) event).owed = s.owed := by
  have hCall : ∀ w : State, w.standbyPlays = s.standbyPlays → w.owed = s.owed → (w.callEvaluation v).owed = s.owed := fun w hw hOwed => by
    unfold State.callEvaluation
    have hNone : ¬(s.standbyPlays.any fun e => e.1 = v) = true := fun hAny => by
      obtain ⟨e, he, hv⟩ := List.any_eq_true.mp hAny
      exact h e he (of_decide_eq_true hv)
    rw [hw, if_neg hNone]
    exact hOwed
  unfold State.enterIdle
  dsimp only
  rw [readerKind_voiceReader]
  refine hCall _ (standbyPlays_of ?_ ?_) ?_
  · simp
  · simp
  · simp

/-- No record moves a voice sent to IDLE. -/
theorem enterIdle_unfaded (event : String) : (s.enterIdle (voiceReader v) event).fadeOf (.voice v) = none := by
  have hDropped : ∀ (w : State) (o : Option InstSlot), (((w.removeFade (.voice v)).ownerDone o).callEvaluation v).fadeOf (.voice v) = none :=
    fun w o => by
      rw [fadeOf_congr (s := w.dropFade (.voice v)) (by rw [callEvaluation_fades, (State.ownerDone_frame _ _).2.2.1, removeFade_fades]),
        dropFade_fadeOf, if_pos rfl]
  unfold State.enterIdle
  dsimp only
  rw [readerKind_voiceReader]
  exact hDropped _ _

/-- A voice sent to IDLE from the state `u`, and the end of the operation (R28, R134). -/
theorem idle_stopped (hDisabled : u.link.disabled = s.link.disabled) (hLevel : (u.voice v).level = (s.voice v).level) (event : String) :
    (s.Stopped (u.enterIdle (voiceReader v) event).finish v ∧ s.StopRaised (u.enterIdle (voiceReader v) event).finish v event) ∧
      (u.enterIdle (voiceReader v) event).finish.fadeOf (.voice v) = none :=
  ⟨finish_stopped (by rw [enterIdle_voice, if_pos rfl]; exact toIdle_idle _) ((enterIdle_level v v event).trans hLevel)
      ((kept_disabled (State.enterIdle_frame _ _ _).1).trans hDisabled) (enterIdle_raised hDisabled event),
    (State.Drops.finish _).fadeOf (enterIdle_unfaded event)⟩

/-- The four things a stop of a voice can come to. -/
theorem stopVoice_forms (s : State) (v : VoiceId) (ms : Nat) (o : Option InstSlot) :
    s.stopVoice v ms o = s ∨ (∃ event, s.stopVoice v ms o = s.enterIdle (voiceReader v) event) ∨
      (s.levelOf (.voice v) ≠ -180 ∧ ((s.fadeOf (.voice v)).isSome ∨ s.fades.pool.length < 256) ∧
        s.stopVoice v ms o = s.requestFade (.voice v) (-180) ms o true) ∨
      s.stopVoice v ms o = (s.poolFullSnap (.voice v) (-180)).enterIdle (voiceReader v) "stopped" := by
  have hSounds : (s.voice v).sounding → s.stopVoice v ms o = s ∨ (∃ event, s.stopVoice v ms o = s.enterIdle (voiceReader v) event) ∨
      (s.levelOf (.voice v) ≠ -180 ∧ ((s.fadeOf (.voice v)).isSome ∨ s.fades.pool.length < 256) ∧
        s.stopVoice v ms o = s.requestFade (.voice v) (-180) ms o true) ∨
      s.stopVoice v ms o = (s.poolFullSnap (.voice v) (-180)).enterIdle (voiceReader v) "stopped" := fun h => by
    by_cases hNow : ms = 0 ∨ (s.voice v).level = -180
    · exact .inr (.inl ⟨_, stopVoice_atOnce h hNow o⟩)
    · obtain ⟨hTime, hLevel⟩ := not_or.mp hNow
      by_cases hRoom : (s.fadeOf (.voice v)).isSome ∨ s.fades.pool.length < 256
      · exact .inr (.inr (.inl ⟨hLevel, hRoom, stopVoice_fades h hTime hLevel hRoom o⟩))
      · obtain ⟨hNone, hFull⟩ := not_or.mp hRoom
        exact .inr (.inr (.inr (stopVoice_snaps h hTime hLevel (Option.not_isSome_iff_eq_none.mp hNone) (Nat.not_lt.mp hFull) o)))
  cases h : (s.voice v).state with
  | idle => exact .inl (stopVoice_idle h o)
  | priming => exact .inr (.inl ⟨_, stopVoice_released (.inl h) o⟩)
  | primed => exact .inr (.inl ⟨_, stopVoice_released (.inr h) o⟩)
  | starting => exact .inr (.inl ⟨_, stopVoice_stopped (.inl h) o⟩)
  | faulted => exact .inr (.inl ⟨_, stopVoice_stopped (.inr h) o⟩)
  | playing => exact hSounds (.inl h)
  | stalled => exact hSounds (.inr h)

/-- A stop of a voice the standby cue does not play on leaves the other readers. -/
theorem stopVoice_others (hOwed : s.owed = false) (hPlays : ∀ e ∈ s.standbyPlays, e.1 ≠ v) (o : Option InstSlot) {r : ReaderId}
    (hr : r ≠ voiceReader v) : (s.stopVoice v ms o).finish.reader r = s.reader r := by
  have hEnd : ∀ w : State, w.owed = false → w.reader r = s.reader r → w.finish.reader r = s.reader r := fun w hw hReader =>
    (reader_of_fetch (finish_leaves hw).1 r).trans hReader
  rcases stopVoice_forms s v ms o with h | ⟨event, h⟩ | ⟨hLevel, hRoom, h⟩ | h
  · rw [h]
    exact hEnd s hOwed rfl
  · rw [h]
    exact hEnd _ ((enterIdle_owed hPlays event).trans hOwed) (by rw [enterIdle_reader, if_neg hr.symm])
  · rw [h]
    exact hEnd _ ((State.owed_requestFade _ _ _ _ _).trans hOwed) (reader_of_fetch (requestFade_readers _ _ _ hLevel hRoom) r)
  · rw [h]
    have hSame : (s.poolFullSnap (.voice v) (-180)).standbyPlays = s.standbyPlays := standbyPlays_of (by simp) (by simp)
    refine hEnd _ ((enterIdle_owed (by rw [hSame]; exact hPlays) _).trans ((State.owed_poolFullSnap _ _).trans hOwed)) ?_
    rw [enterIdle_reader, if_neg hr.symm, reader_of_fetch (poolFullSnap_voice (-180)), reader_onReader, if_neg hr.symm]

/-- A stop fade leaves its voice as it is until it completes (R28, R33). -/
theorem stopVoice_fading (hOwed : s.owed = false) (h : (s.voice v).sounding) (hTime : ms ≠ 0) (hLevel : (s.voice v).level ≠ -180)
    (hRoom : (s.fadeOf (.voice v)).isSome ∨ s.fades.pool.length < 256) (o : Option InstSlot) :
    (s.stopVoice v ms o).finish.voice v = s.voice v ∧
      (s.stopVoice v ms o).finish.fadeOf (.voice v) = some (newFade (.voice v) (s.voice v).level (-180) ms o true) := by
  rw [stopVoice_fades h hTime hLevel hRoom]
  obtain ⟨hFetch, hFades, -⟩ := finish_leaves (u := s.requestFade (.voice v) (-180) ms o true) ((State.owed_requestFade _ _ _ _ _).trans hOwed)
  refine ⟨reader_of_fetch (hFetch.trans (requestFade_readers _ _ _ hLevel hRoom)) _, ?_⟩
  have hMade := requestFade_fadeOf (s := s) (x := .voice v) (c := -180) ms o true hLevel hRoom
  exact (fadeOf_congr (congrArg FadeBlock.pool hFades) _).trans hMade

/-- A stop with the pool full snaps its voice to OFF, counts the snap, and stops it (R28, R35, R40). -/
theorem stopVoice_snapped (h : (s.voice v).sounding) (hTime : ms ≠ 0) (hLevel : (s.voice v).level ≠ -180)
    (hNone : s.fadeOf (.voice v) = none) (hFull : 256 ≤ s.fades.pool.length) (o : Option InstSlot) :
    ((s.stopVoice v ms o).finish.voice v).level = -180 ∧
      (((s.stopVoice v ms o).finish.voice v).state = .idle ∨ ((s.stopVoice v ms o).finish.voice v).state = .priming) ∧
      (s.stopVoice v ms o).finish.fades.snaps = min (s.fades.snaps + 1) 65535 ∧ s.StopRaised (s.stopVoice v ms o).finish v "stopped" ∧
      s.Raised (s.stopVoice v ms o).finish .fade ("!FADE used=" ++ natText s.fades.pool.length ++ " snaps=" ++
        natText (min (s.fades.snaps + 1) 65535) ++ " last=" ++ voiceText v ++ " level=off") := by
  rw [stopVoice_snaps h hTime hLevel hNone hFull]
  have hDisabled : (s.poolFullSnap (.voice v) (-180)).link.disabled = s.link.disabled :=
    kept_disabled (State.poolFullSnap_frame s (.voice v) (-180)).1
  have hOff : ((s.poolFullSnap (.voice v) (-180)).voice v).level = -180 := by
    have hReader := reader_of_fetch (poolFullSnap_voice (s := s) (v := v) (-180)) (voiceReader v)
    rw [reader_onReader, if_pos rfl] at hReader
    exact congrArg Reader.level hReader
  have hRaised := poolFullSnap_raised (s := s) (t := s) rfl (.voice v) (-180)
  have hText : ∀ a : String, a ++ " level=" ++ levelText (-180) = a ++ " level=off" := fun a => by
    rw [String.append_assoc, show " level=" ++ levelText (-180) = " level=off" by decide]
  rw [hText] at hRaised
  have hSnaps := poolFullSnap_fades (s := s) (.voice v) (-180)
  generalize s.poolFullSnap (.voice v) (-180) = w at *
  have hStill := ((State.Drops.enterIdle w (voiceReader v) "stopped").trans (.finish _)).snaps
  obtain ⟨hStopped, hIdle, hPriming⟩ := (idle_stopped (s := w) (u := w) (v := v) rfl rfl "stopped").1
  refine ⟨hStopped.1.trans hOff, hStopped.2.2, hStill.trans (by rw [hSnaps]), ⟨fun h => (hIdle h).origin hDisabled.symm,
    fun h => (hPriming h).origin hDisabled.symm⟩, ?_⟩
  refine hRaised.stands (K := fun key => key.ofPlayback) (State.StandsBut.trans ?_ (State.finish_stands _)) (fun h => h)
  exact (State.StandsBut.refl w).enterIdle trivial (by rw [readerKey_voice]; trivial) _

theorem stopPlay_eq {a : StopArgs} (hv : ofNum 24 a.voice = some v) :
    stopPlay a s = (s.stopVoice v (heldTime a.t) none).replies fun s => s.voiceState v := by
  unfold stopPlay
  rw [hv, need_some, ok_bind]

end

end Sys2Proof.Machine

namespace Sys2Proof.Proofs

open Sys2Proof Sys2Proof.Machine

/-- Settles O44: by the voice's state. -/
theorem stopVoice : Obligations.StopVoice := by
  intro s tag a v hReady hv
  have hAccepted := hReady.accepted (exec_stop s tag (.given a)) (stopPlay_eq hv)
  generalize heldTime a.t = ms at *
  obtain ⟨hKept, hMatrix, hCast, hMic, hFoldback, hRouter, hLines⟩ := State.stopVoice_frame s v ms none
  obtain ⟨hKeptEnd, hMatrixEnd, hCastEnd, hMicEnd, hFoldbackEnd, hRouterEnd, hLinesEnd⟩ := State.finish_frame (s.stopVoice v ms none)
  have hAt : (s.stopVoice v ms none).finish = { s with
      link := (s.stopVoice v ms none).finish.link
      fades := (s.stopVoice v ms none).finish.fades
      engine := (s.stopVoice v ms none).finish.engine
      fetch := (s.stopVoice v ms none).finish.fetch } :=
    (State.eq_at (hKeptEnd.trans hKept)).trans (by
      simp only [hMatrixEnd, hMatrix, hCastEnd, hCast, hMicEnd, hMic, hFoldbackEnd, hFoldback, hRouterEnd, hRouter, hLinesEnd, hLines])
  have hOwed : s.owed = false := hReady.2.1
  refine ⟨_, hAccepted, State.replied_of (hKeptEnd.trans hKept) tag _, congrArg (fun t : State => t.answered tag _) hAt, ?_, ?_, ?_, ?_, ?_, ?_⟩
  · exact fun hPlays r hr => stopVoice_others hOwed hPlays none hr
  · intro hState
    rw [stopVoice_idle hState, finish_of_settled hReady.2]
    exact ⟨rfl, rfl, rfl, rfl⟩
  · rintro (h | h | h | h)
    · rw [stopVoice_released (.inl h)]
      exact (idle_stopped rfl rfl _).imp_left And.left
    · rw [stopVoice_released (.inr h)]
      exact (idle_stopped rfl rfl _).imp_left And.left
    · rw [stopVoice_stopped (.inl h)]
      exact (idle_stopped rfl rfl _).imp_left And.left
    · rw [stopVoice_stopped (.inr h)]
      exact (idle_stopped rfl rfl _).imp_left And.left
  · intro hState
    rw [stopVoice_released hState]
    exact (idle_stopped rfl rfl _).1.2
  · intro hState
    rw [stopVoice_stopped hState]
    exact (idle_stopped rfl rfl _).1.2
  · refine fun hSounds => ⟨fun hNow => ?_, fun hTime hLevel => ⟨fun hRoom => ?_, fun hNone hFull => ?_⟩⟩
    · rw [stopVoice_atOnce hSounds hNow]
      obtain ⟨⟨hStopped, hRaised⟩, hNone⟩ := idle_stopped (s := s) (u := s) (v := v) rfl rfl "stopped"
      exact ⟨hStopped, hNone, hRaised⟩
    · exact stopVoice_fading hOwed hSounds hTime hLevel hRoom none
    · obtain ⟨hOff, hState, hSnaps, hStopRaised, hRaised⟩ := stopVoice_snapped (ms := ms) hSounds hTime hLevel hNone hFull none
      refine ⟨hOff, hState, hSnaps, hStopRaised, ?_⟩
      show s.Raised (s.stopVoice v ms none).finish .fade (_ ++ natText (s.stopVoice v ms none).finish.fades.snaps ++ _ ++ _ ++ _)
      rw [hSnaps]
      exact hRaised

end Sys2Proof.Proofs
end

section
/-! PROOFS. The grant of the arbiter (R125, R138). -/

namespace Sys2Proof.Machine

open Sys2Proof

/-! ### The first of an ordered choice -/

/-- A fold that keeps the better of two keeps an element every one before it gives way to and that gives way to none after it. -/
theorem foldl_best {α : Type} {f : Option α → α → Option α} {before : α → α → Bool} (hNone : ∀ r, f none r = some r)
    (hSome : ∀ q r, f (some q) r = if before q r then some q else some r) {l₁ l₂ : List α} {r : α}
    (hFirst : ∀ q ∈ l₁, before q r = false) (hRest : ∀ q ∈ l₂, before r q = true) : (l₁ ++ r :: l₂).foldl f none = some r := by
  have hMem : ∀ (l : List α) (o : Option α), (∀ q, o = some q → before q r = false) → (∀ q ∈ l, before q r = false) →
      ∀ q, l.foldl f o = some q → before q r = false := by
    intro l
    induction l with
    | nil => exact fun o ho _ => ho
    | cons a l ih =>
      intro o ho hl
      refine ih _ (fun q hq => ?_) fun q hq => hl q (List.mem_cons_of_mem _ hq)
      have ha := hl a List.mem_cons_self
      cases o with
      | none =>
        rw [hNone] at hq
        exact Option.some.inj hq ▸ ha
      | some p =>
        rw [hSome] at hq
        split at hq
        · exact Option.some.inj hq ▸ ho p rfl
        · exact Option.some.inj hq ▸ ha
  have hKeep : ∀ l : List α, (∀ q ∈ l, before r q = true) → l.foldl f (some r) = some r := by
    intro l
    induction l with
    | nil => exact fun _ => rfl
    | cons a l ih =>
      intro hl
      rw [List.foldl_cons, hSome, if_pos (hl a List.mem_cons_self)]
      exact ih fun q hq => hl q (List.mem_cons_of_mem _ hq)
  rw [List.foldl_append, List.foldl_cons]
  have hTake : f (l₁.foldl f none) r = some r := by
    cases hFold : l₁.foldl f none with
    | none => exact hNone r
    | some q => rw [hSome, hMem l₁ none (fun _ h => by cases h) hFirst q hFold, if_neg (by decide)]
  rw [hTake]
  exact hKeep l₂ hRest

theorem pick_sorted {n : Nat} (p : Fin n → Bool) : (pick p).Pairwise (· < ·) := (List.sortedLT_finRange n).pairwise.filter p

/-- A number that is picked cuts the list of those picked. -/
theorem pick_split {n : Nat} {p : Fin n → Bool} {i : Fin n} (h : p i = true) :
    ∃ l₁ l₂, pick p = l₁ ++ i :: l₂ ∧ (∀ j ∈ l₁, j < i ∧ p j = true) ∧ ∀ j ∈ l₂, i < j ∧ p j = true := by
  obtain ⟨l₁, l₂, hSplit⟩ := List.append_of_mem (mem_pick.mpr h)
  have hSorted := pick_sorted p
  rw [hSplit, List.pairwise_append] at hSorted
  obtain ⟨-, hRest, hFirst⟩ := hSorted
  have hPicked : ∀ j, j ∈ l₁ ++ i :: l₂ → p j = true := fun j hj => mem_pick.mp (hSplit ▸ hj)
  exact ⟨l₁, l₂, hSplit, fun j hj => ⟨hFirst j hj i List.mem_cons_self, hPicked j (List.mem_append_left _ hj)⟩, fun j hj =>
    ⟨List.rel_of_pairwise_cons hRest hj, hPicked j (List.mem_append_right _ (List.mem_cons_of_mem _ hj))⟩⟩

theorem pick_head {n : Nat} {p : Fin n → Bool} {i : Fin n} (h : p i = true) (hLowest : ∀ j, j < i → p j = false) : (pick p).head? = some i := by
  obtain ⟨l₁, l₂, hSplit, hFirst, -⟩ := pick_split h
  cases l₁ with
  | nil => rw [hSplit]; rfl
  | cons j l =>
    obtain ⟨hj, hp⟩ := hFirst j List.mem_cons_self
    rw [hLowest j hj] at hp
    cases hp

theorem pick_none {n : Nat} {p : Fin n → Bool} (h : ∀ i, p i = false) : pick p = [] :=
  List.filter_eq_nil_iff.mpr fun i _ => by rw [h i]; decide

/-! ### What the arbiter finds -/

theorem Slot.isEmpty_iff (x : Slot) : x.isEmpty = true ↔ x = .empty := by
  cases x <;> simp [Slot.isEmpty]

theorem StoreTag.isFree_iff (x : StoreTag) : x.isFree = true ↔ x = .free := by
  cases x <;> simp [StoreTag.isFree]

/-- The slot a reader would be granted is the one it asks for (R138). -/
theorem Reader.wants_iff (r : Reader) (i : RingSlot) (j : Nat) (isRetry : Bool) : r.wants = some (i, j, isRetry) ↔ r.Asks i j isRetry := by
  have hTail : (if (r.slot r.tail).isEmpty && r.dataLeft then some (r.tail, r.cursor, false) else none) = some (i, j, isRetry) ↔
      isRetry = false ∧ i = r.tail ∧ j = r.cursor ∧ r.slot r.tail = .empty ∧ r.dataLeft = true := by
    by_cases h : ((r.slot r.tail).isEmpty && r.dataLeft) = true
    · have hBoth := Bool.and_eq_true_iff.mp h
      rw [if_pos h, Option.some.injEq, Prod.mk.injEq, Prod.mk.injEq]
      refine ⟨fun ⟨hi, hj, hb⟩ => ⟨hb.symm, hi.symm, hj.symm, (Slot.isEmpty_iff _).mp hBoth.1, hBoth.2⟩, fun ⟨hb, hi, hj, _⟩ => ⟨hi.symm, hj.symm, hb.symm⟩⟩
    · rw [if_neg h]
      refine ⟨fun h => absurd h (Option.some_ne_none _).symm, fun ⟨_, _, _, hSlot, hLeft⟩ => absurd ?_ h⟩
      rw [(Slot.isEmpty_iff _).mpr hSlot, hLeft]
      rfl
  unfold Reader.wants Reader.Asks
  dsimp only
  cases hRetry : r.retry with
  | none =>
    dsimp only
    rw [hTail]
    refine ⟨fun ⟨hb, h⟩ => .inr ⟨hb, ?_, h⟩, fun h => h.elim (fun h => ?_) fun h => ⟨h.1, h.2.2⟩⟩
    · intro _ _ h
      cases h
    · cases h.2.1
  | some m =>
    obtain ⟨i', j'⟩ := m
    dsimp only
    by_cases hSlot : (r.slot i').isEmpty = true
    · rw [if_pos hSlot, Option.some.injEq, Prod.mk.injEq, Prod.mk.injEq]
      have hEmpty := (Slot.isEmpty_iff _).mp hSlot
      refine ⟨fun ⟨hi, hj, hb⟩ => .inl ⟨hb.symm, by rw [hi, hj], hi ▸ hEmpty⟩, fun h => h.elim (fun ⟨hb, hSome, _⟩ => ?_) fun h => absurd hEmpty (h.2.1 i' j' rfl)⟩
      obtain ⟨hi, hj⟩ := Prod.mk.inj (Option.some.inj hSome)
      exact ⟨hi, hj, hb.symm⟩
    · rw [if_neg hSlot, hTail]
      have hNot : r.slot i' ≠ .empty := fun h => hSlot ((Slot.isEmpty_iff _).mpr h)
      refine ⟨fun ⟨hb, h⟩ => .inr ⟨hb, fun a b hab => ?_, h⟩, fun h => h.elim (fun ⟨_, hSome, hEmpty⟩ => ?_) fun h => ⟨h.1, h.2.2⟩⟩
      · obtain ⟨ha, -⟩ := Prod.mk.inj (Option.some.inj hab)
        exact ha ▸ hNot
      · obtain ⟨hi, -⟩ := Prod.mk.inj (Option.some.inj hSome)
        exact absurd (hi ▸ hEmpty) hNot

/-- The eligible readers are those that need a block (R138). -/
theorem Reader.eligible_iff (r : Reader) : r.eligible = true ↔ r.Needs := by
  have hWants : r.wants.isSome = true ↔ ∃ i j b, r.Asks i j b := by
    rw [Option.isSome_iff_exists]
    exact ⟨fun ⟨⟨i, j, b⟩, h⟩ => ⟨i, j, b, (r.wants_iff i j b).mp h⟩, fun ⟨i, j, b, h⟩ => ⟨(i, j, b), (r.wants_iff i j b).mpr h⟩⟩
  unfold Reader.eligible Reader.Needs
  rw [← hWants]
  cases r.state <;> simp

section
variable {s t : State}

/-- With no tag FREE, or no reader in need, the arbiter grants nothing. -/
theorem grantTag_none (h : (∀ k, s.fetch.tags.get k ≠ .free) ∨ ∀ r, ¬(s.reader r).Needs) : s.grantTag = s := by
  rcases h with h | h
  · have hTag : s.fetch.nextTag = none := by
      unfold FetchBlock.nextTag
      rw [pick_none fun k => Bool.eq_false_iff.mpr fun hFree => h k ((StoreTag.isFree_iff _).mp hFree)]
      rfl
    simp only [State.grantTag, hTag]
  · have hReader : s.fetch.nextReader = none := by
      unfold FetchBlock.nextReader
      have hNone : (pick fun r => (s.fetch.readers.get r).eligible) = [] :=
        pick_none fun r => Bool.eq_false_iff.mpr fun hNeeds => h r ((Reader.eligible_iff _).mp hNeeds)
      rw [hNone]
      rfl
    unfold State.grantTag
    rw [hReader]
    cases s.fetch.nextTag <;> rfl

/-- The reader the arbiter takes is the first of the first class (R138). -/
theorem nextReader_first {r : ReaderId} (hNeeds : (s.reader r).Needs) (hFirst : ∀ q, q ≠ r → (s.reader q).Needs →
    ∀ a x b y, (s.reader r).Ranked s.fetch.refill a x → (s.reader q).Ranked s.fetch.refill b y → a < b ∨ a = b ∧ (x < y ∨ x = y ∧ r < q)) :
    s.fetch.nextReader = some r := by
  have hRank : ∀ q, q ≠ r → (s.fetch.readers.get q).eligible = true →
      (s.fetch.readers.get r).rankClass s.fetch.refill < (s.fetch.readers.get q).rankClass s.fetch.refill ∨
        (s.fetch.readers.get r).rankClass s.fetch.refill = (s.fetch.readers.get q).rankClass s.fetch.refill ∧
          ((s.fetch.readers.get r).rankOrder s.fetch.refill < (s.fetch.readers.get q).rankOrder s.fetch.refill ∨
            (s.fetch.readers.get r).rankOrder s.fetch.refill = (s.fetch.readers.get q).rankOrder s.fetch.refill ∧ r < q) :=
    fun q hq hEligible => by
    have hq' := (Reader.eligible_iff _).mp hEligible
    exact hFirst q hq hq' _ _ _ _ (Reader.ranked _ _ hNeeds) (Reader.ranked _ _ hq')
  obtain ⟨l₁, l₂, hSplit, hBefore, hAfter⟩ := pick_split (p := fun r => (s.fetch.readers.get r).eligible) ((Reader.eligible_iff _).mpr hNeeds)
  unfold FetchBlock.nextReader
  rw [hSplit]
  refine foldl_best (before := fun q r => (s.fetch.readers.get q).before s.fetch.refill (s.fetch.readers.get r)) (fun _ => rfl) (fun _ _ => rfl)
    (fun q hq => ?_) fun q hq => ?_
  · obtain ⟨hLess, hEligible⟩ := hBefore q hq
    have hOrder := hRank q (Fin.ne_of_lt hLess) hEligible
    have hNot : ¬r < q := Nat.not_lt_of_gt hLess
    have hNum : ¬(Reader.rankClass s.fetch.refill (s.fetch.readers.get q) < Reader.rankClass s.fetch.refill (s.fetch.readers.get r) ∨
        Reader.rankClass s.fetch.refill (s.fetch.readers.get q) = Reader.rankClass s.fetch.refill (s.fetch.readers.get r) ∧
          Reader.rankOrder s.fetch.refill (s.fetch.readers.get q) ≤ Reader.rankOrder s.fetch.refill (s.fetch.readers.get r)) := by
      have hStrict := hOrder.imp_right fun h => And.intro h.1 (h.2.resolve_right fun h => hNot h.2)
      generalize (s.fetch.readers.get r).rankClass s.fetch.refill = a at *
      omega
    refine Bool.eq_false_iff.mpr fun h => hNum ?_
    simpa [Reader.before] using h
  · obtain ⟨hLess, hEligible⟩ := hAfter q hq
    have hOrder := hRank q (Fin.ne_of_gt hLess) hEligible
    have hNum : Reader.rankClass s.fetch.refill (s.fetch.readers.get r) < Reader.rankClass s.fetch.refill (s.fetch.readers.get q) ∨
        Reader.rankClass s.fetch.refill (s.fetch.readers.get r) = Reader.rankClass s.fetch.refill (s.fetch.readers.get q) ∧
          Reader.rankOrder s.fetch.refill (s.fetch.readers.get r) ≤ Reader.rankOrder s.fetch.refill (s.fetch.readers.get q) := by omega
    simpa [Reader.before] using hNum

/-- The grant of the lowest FREE tag to the reader taken, for the slot it asks for. -/
theorem grantTag_some {k : TagId} {r : ReaderId} {i : RingSlot} {j : Nat} {isRetry : Bool} {n : SoundId} {d : Sound}
    (hTag : s.fetch.nextTag = some k) (hReader : s.fetch.nextReader = some r) (hWants : (s.reader r).wants = some (i, j, isRetry))
    (hSound : (s.reader r).sound = some (n, d)) : s.grantTag = { s with fetch := { s.fetch with
        readers := put s.fetch.readers r { s.reader r with
          ring := put (s.reader r).ring i (.pending k j)
          tail := if isRetry then (s.reader r).tail else (s.reader r).tail + 1
          cursor := if isRetry then (s.reader r).cursor else d.next (s.reader r).cursor }
        tags := put s.fetch.tags k (.busy r i (d.first + j) (s.now + 2400))
        busReset := false } } := by
  have hRequest : (s.reader r).request k i j isRetry = { s.reader r with
          ring := put (s.reader r).ring i (.pending k j)
          tail := if isRetry then (s.reader r).tail else (s.reader r).tail + 1
          cursor := if isRetry then (s.reader r).cursor else d.next (s.reader r).cursor } := by
    unfold Reader.request
    dsimp only
    rw [hSound]
    cases isRetry <;> rfl
  rw [← hRequest]
  unfold State.grantTag
  simp only [hTag, hReader, hWants, hSound]
  rfl

/-- A change of the readers that leaves which voices are PRIMED with which sound leaves STANDBY_READY. -/
theorem standbyReady_primed (hEngine : t.engine = s.engine) (hCues : t.cues = s.cues)
    (hVoices : ∀ v n, ((t.voice v).state = .primed ∧ (t.voice v).soundId = some n) ↔ ((s.voice v).state = .primed ∧ (s.voice v).soundId = some n)) :
    t.standbyReady = s.standbyReady := by
  have hCue : t.standbyCue = s.standbyCue := by
    unfold State.standbyCue State.cueAt
    rw [hEngine, hCues]
  have hPlays : t.standbyPlays = s.standbyPlays := by
    unfold State.standbyPlays
    rw [hCue]
  rw [standbyReady_eq t, standbyReady_eq s, hCue, hPlays]
  exact congrArg (s.standbyCue.isSome && ·) (congrArg (s.standbyPlays.all ·) (funext fun e => decide_eq_decide.mpr (hVoices e.1 e.2)))

theorem settled_readers (h : s.Settled) (hEngine : t.engine = s.engine) (hCues : t.cues = s.cues)
    (hVoices : ∀ v n, ((t.voice v).state = .primed ∧ (t.voice v).soundId = some n) ↔ ((s.voice v).state = .primed ∧ (s.voice v).soundId = some n)) :
    t.Settled := by
  have hReady := standbyReady_primed hEngine hCues hVoices
  obtain ⟨hDue, hEvent, hShown⟩ := h
  exact ⟨by rw [hEngine]; exact hDue, by rw [hEngine]; exact hEvent, by rw [hEngine, hReady]; exact hShown⟩

end

end Sys2Proof.Machine

namespace Sys2Proof.Proofs

open Sys2Proof Sys2Proof.Machine

/-- Settles O45: the tag and the reader the arbiter takes, and the request it makes. -/
theorem fetchGrant : Obligations.FetchGrant := by
  intro s hReset hCalm
  obtain ⟨hSettled, hPrompt⟩ := hCalm
  rw [exec_fetchGrant, laterEvent_running hReset hPrompt]
  refine ⟨fun h => by rw [grantTag_none h, finish_of_settled hSettled], fun k r i j isRetry n d hFree hLowest hNeeds hAsks hSound hFirst => ?_⟩
  have hTag : s.fetch.nextTag = some k := pick_head ((StoreTag.isFree_iff _).mpr hFree) fun k' hk =>
    Bool.eq_false_iff.mpr fun h => hLowest k' hk ((StoreTag.isFree_iff _).mp h)
  have hGrant := grantTag_some hTag (nextReader_first hNeeds hFirst) ((Reader.wants_iff _ _ _ _).mpr hAsks) hSound
  have hVoices : ∀ v n, ((s.grantTag.voice v).state = .primed ∧ (s.grantTag.voice v).soundId = some n) ↔
      ((s.voice v).state = .primed ∧ (s.voice v).soundId = some n) := fun v m => by
    rw [hGrant]
    unfold State.voice State.reader
    rw [get_put]
    split
    · rename_i h
      subst h
      exact Iff.rfl
    · exact Iff.rfl
  rw [finish_of_settled (settled_readers hSettled (by rw [hGrant]) (by rw [hGrant]) hVoices), hGrant]

end Sys2Proof.Proofs
end

section
/-! PROOFS. An OK completion by the state of its tag, and the late start of a voice (R27, R35, R108, R124, R125, R130, R133, R139,
R144, R145). -/

namespace Sys2Proof.Machine

open Sys2Proof

section
variable {s t u y : State} {v : VoiceId} {r : ReaderId}

/-! ### What a fade-in and an entry of PLAYING leave of the engine -/

/-- A fade-in of a voice no record moves tells no owner. -/
theorem fadeIn_engine (h : s.fadeOf (.voice v) = none) (kept : Option Nat) : (s.fadeIn v kept).engine = s.engine := by
  cases kept with
  | none => rfl
  | some ms =>
    by_cases hZero : ms = 0
    · subst hZero
      rfl
    · rw [fadeIn_some hZero]
      rcases s.fade_cases (.voice v) 0 with hSome | ⟨-, hLevel⟩ | ⟨-, hLevel, hRoom⟩ | ⟨-, hLevel, hFull⟩
      · rw [h] at hSome
        cases hSome
      · rw [requestFade_ended ms none false h hLevel]
      · rw [requestFade_made ms none false h hLevel hRoom]
        rfl
      · rw [requestFade_snapped ms none false h hLevel hFull]
        unfold State.poolFullSnap
        rw [State.raise_engine]
        rfl

/-- A change of the readers that leaves which voices are PRIMED with which sound leaves STANDBY_READY as shown. -/
theorem State.Shown.readers {due : Bool} (h : s.Shown due) (hEngine : t.engine = s.engine) (hCues : t.cues = s.cues)
    (hVoices : ∀ v n, ((t.voice v).state = .primed ∧ (t.voice v).soundId = some n) ↔ ((s.voice v).state = .primed ∧ (s.voice v).soundId = some n)) :
    t.Shown due :=
  h.congr (by rw [hEngine]) (by rw [hEngine]) (by rw [hEngine]) (standbyReady_primed hEngine hCues hVoices)

/-- A change of one reader between states that are not PRIMED. -/
theorem primed_onReader (hState : (t.reader r).state ≠ .primed) (hWas : (s.reader r).state ≠ .primed)
    (hOthers : ∀ q, q ≠ r → t.reader q = s.reader q) (w : VoiceId) (n : SoundId) :
    ((t.voice w).state = .primed ∧ (t.voice w).soundId = some n) ↔ ((s.voice w).state = .primed ∧ (s.voice w).soundId = some n) := by
  by_cases h : voiceReader w = r
  · subst h
    exact ⟨fun h => absurd h.1 hState, fun h => absurd h.1 hWas⟩
  · rw [show t.voice w = s.voice w from hOthers _ h]

/-- The report of the entry of PLAYING shows how late it is. -/
theorem State.Raised.late {key : ReportKey} {x : Reader} {late : Nat} (h : s.Raised t key (" event=" ++ "playing" ++ x.countFields))
    (hLate : x.late = some late) : s.Raised t key (" event=playing late=" ++ natText late) := by
  refine h.part (before := "") (after := " stall=" ++ optText natText x.stall ++ " underruns=" ++ natText x.underruns ++
    " retries=" ++ natText x.retries) ?_
  unfold Reader.countFields
  rw [hLate]
  have hEvent : " event=" ++ "playing" ++ " late=" = " event=playing late=" := by decide
  rw [← hEvent]
  simp only [String.append_assoc, String.empty_append, optText]

/-- A call player enters PLAYING with its report, and nothing more (R130). -/
theorem enterPlaying_player {p : PlayerId} (late : Nat) : s.enterPlaying (playerReader p) late =
    (s.onReader (playerReader p) fun x => { x with state := .playing, late := some late, keptFadeIn := none, owner := none }
      ).raiseReader (playerReader p) "playing" := by
  unfold State.enterPlaying
  dsimp only
  rw [readerKind_playerReader]

/-- The entry of PLAYING of a voice no record moves tells its start owner alone (R108, R130). -/
theorem enterPlaying_told (hFiring : s.engine.firing = none) (hFade : s.fadeOf (.voice v) = none) (late : Nat) :
    (s.enterPlaying (voiceReader v) late).engine =
      { s.engine.told (s.voice v).owner with opEvent := (s.enterPlaying (voiceReader v) late).engine.opEvent } := by
  have hFadeIn := fadeIn_engine (s := s.playing v late) (v := v) hFade (s.voice v).keptFadeIn
  rw [enterPlaying_eq, (State.raiseReader_frame _ _ _).2.2.2.2.2.1, ownerDone_told (by rw [hFadeIn]; exact hFiring), hFadeIn]
  rfl

theorem enterPlaying_shown {due : Bool} (h : s.Shown due) (hState : (s.voice v).state ≠ .primed) (hFade : s.fadeOf (.voice v) = none) (late : Nat) :
    (s.enterPlaying (voiceReader v) late).Shown due := by
  have hReaders : ∀ w, w ≠ voiceReader v → ((s.playing v late).fadeIn v (s.voice v).keptFadeIn).reader w = s.reader w := fun w hw => by
    rw [(fadeIn_voice (s := s.playing v late) (v := v) (s.voice v).keptFadeIn).2.1 w hw]
    unfold State.playing
    rw [reader_onReader, if_neg hw.symm]
  have hVoice : (((s.playing v late).fadeIn v (s.voice v).keptFadeIn).voice v).state = .playing := by
    rw [(fadeIn_voice (s := s.playing v late) (v := v) (s.voice v).keptFadeIn).1]
    unfold State.playing
    rw [voice_onReader, if_pos rfl]
  rw [enterPlaying_eq]
  have hFadeIn : ((s.playing v late).fadeIn v (s.voice v).keptFadeIn).Shown due :=
    h.readers (fadeIn_engine (s := s.playing v late) hFade _) (kept_cues (State.fadeIn_frame _ _ _).1)
      (primed_onReader (r := voiceReader v) (fun h => absurd (hVoice.symm.trans h) (by decide)) hState hReaders)
  unfold State.raiseReader
  dsimp only
  rw [readerKind_voiceReader]
  exact (hFadeIn.ownerDone _).raise _ _

/-! ### The completion (R139) -/

/-- The state with the tag FREE and its slot filled (R139). -/
def State.filled (s : State) (k : TagId) (r : ReaderId) (slot : RingSlot) (words : Vector Word32 256) : State :=
  (s.setTag k .free).onReader r fun x => x.fill slot (samplesOf words)

theorem completeOk_busy {k : TagId} {slot : RingSlot} {addr expires : Nat} (h : s.fetch.tags.get k = .busy r slot addr expires)
    (words : Vector Word32 256) : s.completeOk k words = ((s.filled k r slot words).testPrimed r).testStart r := by
  simp only [State.completeOk, h]
  rfl

theorem completeOk_other {k : TagId} (h : ∀ r slot addr expires, s.fetch.tags.get k ≠ .busy r slot addr expires) (words : Vector Word32 256) :
    s.completeOk k words = s.discardCompletion k := by
  unfold State.completeOk
  split
  · rename_i hTag
    exact absurd hTag (h _ _ _ _)
  · rfl

theorem put_get_self {n : Nat} {α : Type} (xs : Vector α n) (i : Fin n) : put xs i (xs.get i) = xs := by
  simp [put, Vector.get_eq_getElem]

theorem testPrimed_stands (h : ¬((s.reader r).state = .priming ∧ (s.reader r).isPrimed = true)) : s.testPrimed r = s := if_neg h

theorem testPrimed_primes (h : (s.reader r).state = .priming ∧ (s.reader r).isPrimed = true) :
    s.testPrimed r = (s.onReader r fun x => { x with state := .primed }).raiseReader r "primed" := if_pos h

theorem testStart_stands (h : ¬((s.reader r).state = .starting ∧ (s.reader r).canStart = true)) : s.testStart r = s := if_neg h

theorem testStart_enters (h : (s.reader r).state = .starting ∧ (s.reader r).canStart = true) :
    s.testStart r = s.enterPlaying r ((s.now - (s.reader r).playMoment) / 48) := if_pos h

variable {k : TagId} {slot : RingSlot} {words : Vector Word32 256}

theorem filled_reader (q : ReaderId) : (s.filled k r slot words).reader q = if r = q then (s.reader r).fill slot (samplesOf words) else s.reader q := by
  unfold State.filled
  rw [reader_onReader]
  rfl

/-- The reader with its slot filled. -/
theorem fill_pending {x : Reader} {k' : TagId} {j : Nat} (h : x.slot slot = .pending k' j) : x.fill slot (samplesOf words) = { x with
    ring := put x.ring slot (.full j (words.map fun w => w.toInt / 256))
    retry := if x.retry.map (·.1) = some slot then none else x.retry } := by
  simp only [Reader.fill, h]
  rfl

theorem enterPlaying_readerTags (late : Nat) : (s.enterPlaying r late).fetch.tags = s.fetch.tags := by
  unfold State.enterPlaying
  dsimp only
  rw [(State.raiseReader_frame _ _ _).2.2.2.2.2.2.1]
  cases hKind : readerKind r with
  | inl v =>
    dsimp only
    rw [(State.ownerDone_frame _ _).2.2.2.2.2.1, (fadeIn_voice _).2.2]
    rfl
  | inr p => rfl

theorem completeOk_tags (s : State) (k : TagId) (words : Vector Word32 256) : (s.completeOk k words).fetch.tags = put s.fetch.tags k .free := by
  cases hTag : s.fetch.tags.get k with
  | busy r slot addr expires =>
    have hPrimed : ∀ w : State, (w.testPrimed r).fetch.tags = w.fetch.tags := fun w => by
      unfold State.testPrimed
      dsimp only
      split
      · rw [(State.raiseReader_frame _ _ _).2.2.2.2.2.2.1]
        rfl
      · rfl
    have hStart : ∀ w : State, (w.testStart r).fetch.tags = w.fetch.tags := fun w => by
      unfold State.testStart
      dsimp only
      split
      · exact enterPlaying_readerTags _
      · rfl
    rw [completeOk_busy hTag, hStart, hPrimed]
    rfl
  | free =>
    rw [completeOk_other (fun r slot a e h => by rw [hTag] at h; cases h), ← hTag, put_get_self]
    simp only [State.discardCompletion, hTag]
    unfold State.raiseStore
    rw [State.raise_fetch]
    rfl
  | orphaned addr expires =>
    rw [completeOk_other (fun r slot a e h => by rw [hTag] at h; cases h)]
    simp only [State.discardCompletion, hTag]
    rfl
  | lost =>
    rw [completeOk_other (fun r slot a e h => by rw [hTag] at h; cases h)]
    simp only [State.discardCompletion, hTag]
    unfold State.raiseStore
    rw [State.raise_fetch]
    rfl

theorem discardCompletion_owed : (s.discardCompletion k).owed = s.owed := by
  unfold State.discardCompletion State.raiseStore
  split
  · exact (State.owed_raise _ _).trans rfl
  · rfl
  · exact (State.owed_raise _ _).trans rfl
  · rfl

theorem completeOk_owed (s : State) (k : TagId) (words : Vector Word32 256) : (s.completeOk k words).owed = s.owed := by
  have hPrimed : ∀ (w : State) r, (w.testPrimed r).owed = w.owed := fun w r => by
    unfold State.testPrimed
    dsimp only
    split <;> simp
  cases hTag : s.fetch.tags.get k with
  | busy r slot addr expires =>
    rw [completeOk_busy hTag, State.owed_testStart, hPrimed]
    rfl
  | free => rw [completeOk_other (fun r slot a e h => by rw [hTag] at h; cases h), discardCompletion_owed]
  | orphaned addr expires => rw [completeOk_other (fun r slot a e h => by rw [hTag] at h; cases h), discardCompletion_owed]
  | lost => rw [completeOk_other (fun r slot a e h => by rw [hTag] at h; cases h), discardCompletion_owed]

theorem enterPlaying_others {q : ReaderId} (h : q ≠ r) (late : Nat) : (s.enterPlaying r late).reader q = s.reader q := by
  cases hKind : readerKind r with
  | inl v =>
    obtain rfl := readerKind_inl hKind
    exact (enterPlaying_voice late).2.1 q h
  | inr p =>
    obtain rfl := readerKind_inr hKind
    rw [enterPlaying_player, State.raiseReader_reader, reader_onReader, if_neg h.symm]

theorem testPrimed_others {q : ReaderId} (h : q ≠ r) : (s.testPrimed r).reader q = s.reader q := by
  unfold State.testPrimed
  dsimp only
  split
  · rw [State.raiseReader_reader, reader_onReader, if_neg h.symm]
  · rfl

theorem testStart_others {q : ReaderId} (h : q ≠ r) : (s.testStart r).reader q = s.reader q := by
  unfold State.testStart
  dsimp only
  split
  · exact enterPlaying_others h _
  · rfl

/-- The entry of PLAYING leaves what a reader holds of its sound. -/
theorem enterPlaying_reader (r : ReaderId) (late : Nat) : ((s.enterPlaying r late).reader r).state = .playing ∧
    ((s.enterPlaying r late).reader r).ring = (s.reader r).ring ∧ ((s.enterPlaying r late).reader r).late = some late ∧
    ((s.enterPlaying r late).reader r).owner = none ∧ ((s.enterPlaying r late).reader r).keptFadeIn = none := by
  cases hKind : readerKind r with
  | inl v =>
    obtain rfl := readerKind_inl hKind
    have hVoice : (s.enterPlaying (voiceReader v) late).reader (voiceReader v) = _ := (enterPlaying_voice late).1
    rw [hVoice]
    exact ⟨rfl, rfl, rfl, rfl, rfl⟩
  | inr p =>
    obtain rfl := readerKind_inr hKind
    rw [enterPlaying_player, State.raiseReader_reader, reader_onReader, if_pos rfl]
    exact ⟨rfl, rfl, rfl, rfl, rfl⟩

theorem enterPlaying_reports (hDisabled : y.link.disabled = s.link.disabled) (r : ReaderId) (late : Nat) :
    s.Raised (y.enterPlaying r late) (readerKey r) (" event=playing late=" ++ natText late) := by
  cases hKind : readerKind r with
  | inl v =>
    obtain rfl := readerKind_inl hKind
    rw [readerKey_voice]
    have hRaised := enterPlaying_raised (s := y) (v := v) late
    exact State.Raised.origin (s := y) (s' := s) hRaised hDisabled.symm
  | inr p =>
    obtain rfl := readerKind_inr hKind
    rw [enterPlaying_player]
    have hRaised := raiseReader_raised_counts (s := s) (t := y.onReader (playerReader p) fun x =>
      { x with state := .playing, late := some late, keptFadeIn := none, owner := none }) hDisabled (playerReader p) "playing"
    exact hRaised.late (by rw [reader_onReader, if_pos rfl])

/-- A completion whose reader neither primes nor starts. -/
theorem completeOk_stands {addr expires : Nat} (hTag : s.fetch.tags.get k = .busy r slot addr expires)
    (hPriming : ¬((s.reader r).state = .priming ∧ ((s.reader r).fill slot (samplesOf words)).isPrimed = true))
    (hStarting : ¬((s.reader r).state = .starting ∧ ((s.reader r).fill slot (samplesOf words)).canStart = true)) :
    s.completeOk k words = s.filled k r slot words := by
  have hReader : (s.filled k r slot words).reader r = (s.reader r).fill slot (samplesOf words) := by rw [filled_reader, if_pos rfl]
  have hState := (Reader.fill_owner (s.reader r) slot (samplesOf words)).2
  rw [completeOk_busy hTag, testPrimed_stands, testStart_stands]
  · rw [hReader, hState]
    exact hStarting
  · rw [hReader, hState]
    exact hPriming

theorem completeOk_primes {addr expires : Nat} (hTag : s.fetch.tags.get k = .busy r slot addr expires)
    (hPriming : (s.reader r).state = .priming) (hPrimed : ((s.reader r).fill slot (samplesOf words)).isPrimed = true) :
    s.completeOk k words = ((s.filled k r slot words).onReader r fun x => { x with state := .primed }).raiseReader r "primed" := by
  have hReader : (s.filled k r slot words).reader r = (s.reader r).fill slot (samplesOf words) := by rw [filled_reader, if_pos rfl]
  have hState := (Reader.fill_owner (s.reader r) slot (samplesOf words)).2
  rw [completeOk_busy hTag, testPrimed_primes (by rw [hReader, hState]; exact ⟨hPriming, hPrimed⟩), testStart_stands]
  rw [State.raiseReader_reader, reader_onReader, if_pos rfl]
  exact fun h => by cases h.1

theorem completeOk_starts {addr expires : Nat} (hTag : s.fetch.tags.get k = .busy r slot addr expires)
    (hStarting : (s.reader r).state = .starting) (hStart : ((s.reader r).fill slot (samplesOf words)).canStart = true) :
    s.completeOk k words = (s.filled k r slot words).enterPlaying r ((s.now - (s.reader r).playMoment) / 48) := by
  have hReader : (s.filled k r slot words).reader r = (s.reader r).fill slot (samplesOf words) := by rw [filled_reader, if_pos rfl]
  have hState := (Reader.fill_owner (s.reader r) slot (samplesOf words)).2
  have hMoment : ((s.reader r).fill slot (samplesOf words)).playMoment = (s.reader r).playMoment := by
    unfold Reader.fill
    split <;> rfl
  rw [completeOk_busy hTag, testPrimed_stands, testStart_enters, hReader, hMoment]
  · rfl
  · rw [hReader, hState]
    exact ⟨hStarting, hStart⟩
  · rw [hReader, hState, hStarting]
    exact fun h => by cases h.1

/-- A late start of a voice no record moves tells its start owner, and of the engine nothing else (R108, R130). -/
theorem late_told (hSettled : s.Settled) (hEngine : y.engine = s.engine) (hCues : y.cues = s.cues) (hOwner : (y.voice v).owner = (s.voice v).owner)
    (hWas : (s.voice v).state ≠ .primed) (hState : (y.voice v).state ≠ .primed) (hOthers : ∀ q, q ≠ voiceReader v → y.reader q = s.reader q)
    (hFiring : s.engine.firing = none) (hFade : y.fadeOf (.voice v) = none) (late : Nat) :
    (y.enterPlaying (voiceReader v) late).finish.engine = s.engine.told (s.voice v).owner := by
  have hShown : y.Shown false := hSettled.shown.readers hEngine hCues (primed_onReader (r := voiceReader v) hState hWas hOthers)
  have hTold := enterPlaying_told (s := y) (v := v) (by rw [hEngine]; exact hFiring) hFade late
  rw [(enterPlaying_shown hShown hState hFade late).finish]
  show { (y.enterPlaying (voiceReader v) late).engine with opEvent := none } = _
  rw [hTold, hEngine, hOwner]
  exact told_idle hSettled.2.1 _

/-- A late start with no kept fade-in requests nothing. -/
theorem enterPlaying_unkept (h : (y.voice v).keptFadeIn = none) (late : Nat) :
    (y.enterPlaying (voiceReader v) late).fades = y.fades ∧ ((y.enterPlaying (voiceReader v) late).voice v).level = (y.voice v).level := by
  have hVoice := congrArg Reader.level (enterPlaying_voice (s := y) (v := v) late).1
  dsimp only at hVoice
  rw [enterPlaying_fades, hVoice, h]
  refine ⟨rfl, ?_⟩
  unfold State.fadeIn State.playing
  rw [voice_onReader, if_pos rfl]

/-- A player's late start leaves the engine as it was at the end of the operation. -/
theorem player_idle (hSettled : s.Settled) {p : PlayerId} (hEngine : y.engine = s.engine) (hCues : y.cues = s.cues)
    (hReaders : ∀ q, q ≠ playerReader p → y.reader q = s.reader q) (late : Nat) :
    (y.enterPlaying (playerReader p) late).fades = y.fades ∧ (y.enterPlaying (playerReader p) late).finish.engine = s.engine := by
  have hFrame : (y.enterPlaying (playerReader p) late).engine = y.engine ∧ (y.enterPlaying (playerReader p) late).fades = y.fades := by
    rw [enterPlaying_player]
    exact ⟨(State.raiseReader_frame _ _ _).2.2.2.2.2.1, (State.raiseReader_frame _ _ _).2.2.1⟩
  refine ⟨hFrame.2, ?_⟩
  have hVoices : ∀ w, (y.enterPlaying (playerReader p) late).voice w = s.voice w := fun w =>
    (enterPlaying_others (voiceReader_ne_playerReader w p) late).trans (hReaders _ (voiceReader_ne_playerReader w p))
  have hStill : (y.enterPlaying (playerReader p) late).Settled := settled_readers hSettled (hFrame.1.trans hEngine)
    ((kept_cues (State.enterPlaying_frame _ _ _).1).trans hCues) fun w n => by rw [hVoices]
  rw [finish_of_settled hStill]
  exact hFrame.1.trans hEngine

/-- A completion on a tag that is not BUSY (R124, R125, R143). -/
theorem discardCompletion_other (s : State) (k : TagId) : (s.discardCompletion k).fetch.readers = s.fetch.readers ∧
    ((s.discardCompletion k).fetch.stray = if s.fetch.tags.get k = .free then min (s.fetch.stray + 1) 65535 else s.fetch.stray) ∧
    (s.fetch.tags.get k = .free → s.Raised (s.discardCompletion k) .store ("!STORE event=stray tag=" ++ natText k.val)) ∧
    (s.fetch.tags.get k = .lost → s.Raised (s.discardCompletion k) .store ("!STORE event=late tag=" ++ natText k.val)) := by
  have hRaised : ∀ (w : State) (event : String), w.link.disabled = s.link.disabled →
      s.Raised (w.raiseStore event k) .store ("!STORE event=" ++ event ++ " tag=" ++ natText k.val) := fun w event h => by
    have hText : "!STORE event=" ++ event ++ " tag=" ++ natText k.val ++ " " ++ w.fetch.storeText =
        "" ++ (("!STORE event=" ++ event ++ " tag=" ++ natText k.val) ++ (" " ++ w.fetch.storeText)) := by simp [String.append_assoc]
    unfold State.raiseStore
    rw [hText]
    exact State.raised_raise h _ _ _ _
  have hFetch : ∀ (w : State) (event : String), (w.raiseStore event k).fetch = w.fetch := fun w event => (State.raiseStore_frame w event k).2.2.2.2.2.2.1
  cases hTag : s.fetch.tags.get k with
  | free =>
    simp only [State.discardCompletion, hTag, hFetch]
    refine ⟨rfl, rfl, fun _ => ?_, fun h => by cases h⟩
    have hStray := hRaised (s.onFetch fun b => { b with stray := bump b.stray }) "stray" rfl
    rw [show "!STORE event=" ++ "stray" ++ " tag=" = "!STORE event=stray tag=" by decide] at hStray
    exact hStray
  | orphaned addr expires =>
    have hDiscard : s.discardCompletion k = s.setTag k .free := by simp only [State.discardCompletion, hTag]
    rw [hDiscard, if_neg fun h => by cases h]
    exact ⟨rfl, rfl, (fun h => by cases h), fun h => by cases h⟩
  | lost =>
    simp only [State.discardCompletion, hTag, hFetch]
    refine ⟨rfl, rfl, (fun h => by cases h), fun _ => ?_⟩
    have hLost := hRaised (s.setTag k .free) "late" rfl
    rw [show "!STORE event=" ++ "late" ++ " tag=" = "!STORE event=late tag=" by decide] at hLost
    exact hLost
  | busy r slot addr expires =>
    have hDiscard : s.discardCompletion k = s := by simp only [State.discardCompletion, hTag]
    rw [hDiscard, if_neg fun h => by cases h]
    exact ⟨rfl, rfl, (fun h => by cases h), fun h => by cases h⟩

end

end Sys2Proof.Machine

namespace Sys2Proof.Proofs

open Sys2Proof Sys2Proof.Machine

/-- Settles O46: by the state of the tag, and for a BUSY one by that of its reader. -/
theorem completionOk : Obligations.CompletionOk := by
  intro s k words hReset hCalm
  obtain ⟨hSettled, hPrompt⟩ := hCalm
  rw [exec_completionOk, laterEvent_running hReset hPrompt]
  obtain ⟨hKept, hMatrix, hCast, hMic, hFoldback, hRouter, hLines⟩ := State.completeOk_frame s k words
  obtain ⟨hKeptEnd, hMatrixEnd, hCastEnd, hMicEnd, hFoldbackEnd, hRouterEnd, hLinesEnd⟩ := State.finish_frame (s.completeOk k words)
  have hAt : (s.completeOk k words).finish = { s with
      link := (s.completeOk k words).finish.link
      fades := (s.completeOk k words).finish.fades
      engine := (s.completeOk k words).finish.engine
      fetch := (s.completeOk k words).finish.fetch } :=
    (State.eq_at (hKeptEnd.trans hKept)).trans (by
      simp only [hMatrixEnd, hMatrix, hCastEnd, hCast, hMicEnd, hMic, hFoldbackEnd, hFoldback, hRouterEnd, hRouter, hLinesEnd, hLines])
  obtain ⟨hFetch, hFades, hReports⟩ := finish_leaves (u := s.completeOk k words) ((completeOk_owed s k words).trans hSettled.1)
  refine ⟨_, rfl, kept_link (hKeptEnd.trans hKept), hAt, by rw [hFetch]; exact completeOk_tags s k words, ?_, ?_⟩
  · intro r slot addr expires k' j full hTag hSlot hFull
    have hFill : (s.reader r).fill slot (samplesOf words) = full := (fill_pending hSlot).trans hFull.symm
    have hFilled : (s.filled k r slot words).reader r = full := by rw [filled_reader, if_pos rfl, hFill]
    have hReader := reader_of_fetch hFetch
    have hCan := Reader.canStart_iff full
    have hPrimes := Reader.isPrimed_iff full
    have hStands := completeOk_stands (words := words) hTag
    rw [hFill] at hStands
    refine ⟨fun q hq => ?_, fun hPriming hStarting => ?_, fun hPriming => ⟨fun hFullRing => ?_, fun hNot => ?_⟩, fun hStarting => ⟨fun hNot => ?_, fun hStart => ?_⟩⟩
    · rw [hReader, completeOk_busy hTag, testStart_others hq, testPrimed_others hq, filled_reader, if_neg hq.symm]
    · rw [hReader, hStands (fun h => hPriming h.1) (fun h => hStarting h.1), hFilled]
    · have hOk := completeOk_primes (words := words) hTag hPriming (by rw [hFill]; exact hPrimes.mpr hFullRing)
      refine ⟨?_, ?_⟩
      · rw [hReader, hOk, State.raiseReader_reader, reader_onReader, if_pos rfl, hFilled]
      · refine State.Raised.stands ?_ hReports fun h => ?_
        · rw [hOk]
          have hRaised := raiseReader_raised (s := s) (t := (s.filled k r slot words).onReader r fun x => { x with state := .primed }) rfl r "primed"
          rw [show " event=" ++ "primed" = " event=primed" by decide] at hRaised
          exact hRaised
        · unfold readerKey at h
          split at h <;> cases h
    · rw [hReader, hStands (fun h => hNot (hPrimes.mp h.2)) (fun h => by rw [hPriming] at h; cases h.1), hFilled]
    · rw [hReader, hStands (fun h => by rw [hStarting] at h; cases h.1) (fun h => hNot (hCan.mp h.2)), hFilled]
    · have hOk := completeOk_starts (words := words) hTag hStarting (by rw [hFill]; exact hCan.mpr hStart)
      have hState : ((s.filled k r slot words).reader r).state ≠ .primed := fun h => by
        rw [hFilled, hFull] at h
        rw [hStarting] at h
        cases h
      obtain ⟨hPlaying, hRing, hLate, hOwner, hKeptIn⟩ := enterPlaying_reader (s := s.filled k r slot words) r ((s.now - (s.reader r).playMoment) / 48)
      rw [hFilled] at hRing
      have hOthers : ∀ q, q ≠ r → (s.filled k r slot words).reader q = s.reader q := fun q hq => by rw [filled_reader, if_neg hq.symm]
      have hWas : (s.reader r).state ≠ .primed := fun h => by rw [hStarting] at h; cases h
      rw [hReader]
      rw [hOk] at hFetch hFades hReports hReader ⊢
      refine ⟨hPlaying, hRing, hLate, hOwner, hKeptIn, ?_, fun v hv => ?_, fun p hp => ?_⟩
      · refine (enterPlaying_reports (s := s) (y := s.filled k r slot words) rfl r _).stands hReports fun h => ?_
        unfold readerKey at h
        split at h <;> cases h
      · subst hv
        have hLevelOf : ((s.filled k (voiceReader v) slot words).voice v).level = (s.voice v).level := by
          rw [show (s.filled k (voiceReader v) slot words).voice v = full from hFilled, hFull]
          rfl
        have hKeptOf : ((s.filled k (voiceReader v) slot words).voice v).keptFadeIn = (s.voice v).keptFadeIn := by
          rw [show (s.filled k (voiceReader v) slot words).voice v = full from hFilled, hFull]
          rfl
        have hOwnerOf : ((s.filled k (voiceReader v) slot words).voice v).owner = (s.voice v).owner := by
          rw [show (s.filled k (voiceReader v) slot words).voice v = full from hFilled, hFull]
          rfl
        refine ⟨fun hFiring hFade => late_told (y := s.filled k (voiceReader v) slot words) (v := v) hSettled rfl rfl hOwnerOf hWas hState hOthers hFiring hFade _, fun hNone => ?_, fun ms hSome hFade hLevel => ?_⟩
        · obtain ⟨hPool, hSame⟩ := enterPlaying_unkept (hKeptOf.trans hNone) ((s.now - (s.voice v).playMoment) / 48)
          exact ⟨hFades.trans hPool, (congrArg Reader.level (hReader _)).trans (hSame.trans hLevelOf)⟩
        · have hBegun := enterPlaying_begun (s := s) (y := s.filled k (voiceReader v) slot words) (pool := s.fades.pool) ((s.now - (s.voice v).playMoment) / 48) rfl hFade (hKeptOf.trans hSome)
            (hLevelOf.trans hLevel) hOthers rfl
          have hSame := congrArg Reader.level (hReader (voiceReader v))
          exact ⟨fun h => hSame.trans (hBegun.level h), hBegun.fades.stands hSame hFades hReports⟩
      · subst hp
        obtain ⟨hPool, hEngine⟩ := player_idle hSettled (y := s.filled k (playerReader p) slot words) rfl rfl hOthers
          ((s.now - (s.reader (playerReader p)).playMoment) / 48)
        exact ⟨hFades.trans hPool, hEngine⟩
  · intro h
    obtain ⟨hReaders, hStray, hFree, hLost⟩ := discardCompletion_other s k
    obtain ⟨hDiscard, -, hPool, -, -, hEngine, -⟩ := State.discardCompletion_frame s k
    have hStill : (s.discardCompletion k).Settled := settled_congr hSettled hEngine (kept_cues hDiscard) hReaders
    rw [completeOk_other h, finish_of_settled hStill]
    exact ⟨hReaders, hPool, hEngine, hStray, hFree, hLost⟩

end Sys2Proof.Proofs
end

section
/-! PROOFS. The failures of a slot: the retry, the fault, and the call a faulted player loses (R124, R125, R140 to R145, R174, R181). -/

namespace Sys2Proof.Machine

open Sys2Proof

/-! ### What the router reaches beyond its own block -/

/-- A property that a stop or a start of a call player, a CALL report and a change of the router's own block keep. -/
structure BeyondRouter (P : State → Prop) : Prop where
  stop : ∀ {s : State} (p : PlayerId), P s → P (s.stopPlayer p)
  start : ∀ {s : State} (p : PlayerId) (n : SoundId), P s → P (s.startPlayer p n)
  report : ∀ {s : State} (id : Nat) (text : String), P s → P (s.raise (.call id) text)
  router : ∀ {s : State} (f : RouterBlock → RouterBlock), P s → P (s.onRouter f)

theorem BeyondRouter.zones {P : State → Prop} (h : BeyondRouter P) (f : Zone → Zone) (l : List ZoneId) {s : State} (hs : P s) :
    P (l.foldl (fun s z => s.onZone z f) s) :=
  foldl_holds (P := P) (f := fun (s : State) z => s.onZone z f) (fun _ _ ht => h.router _ ht) l hs

theorem BeyondRouter.closeCall {P : State → Prop} (h : BeyondRouter P) {s : State} (hs : P s) (c : Call) (cause : CallCause) (by_ : Option Nat) :
    P (s.closeCall c cause by_) := by
  have hFreed : P (s.freed c) := by
    unfold State.freed
    split
    · exact h.zones _ _ hs
    · exact hs
  have hSilenced : P ((s.freed c).silenced c) := by
    unfold State.silenced
    split
    · exact h.stop _ hFreed
    · exact hFreed
  rw [closeCall_eq]
  exact h.report _ _ (h.router _ hSilenced)

theorem BeyondRouter.grantCall {P : State → Prop} (h : BeyondRouter P) {s : State} (hs : P s) (c : Call) (player : Option PlayerId) :
    P (s.grantCall c player) := by
  have hCleared : P (s.cleared c player) :=
    foldl_holds (P := P) (f := fun (s : State) d => s.closeCall d .preempted (some c.id)) (fun _ _ ht => h.closeCall ht _ _ _) _ hs
  have hSeated : P ((s.cleared c player).seated c player) := h.zones _ _ (h.router _ hCleared)
  have hSounded : P (((s.cleared c player).seated c player).sounded c player) := by
    unfold State.sounded
    split
    · exact h.start _ _ hSeated
    · exact hSeated
  rw [grantCall_eq]
  exact h.report _ _ hSounded

/-- What lies beyond the router's block is kept by the ends and the grants of calls. -/
theorem BeyondRouter.routed {P : State → Prop} (h : BeyondRouter P) : Routed P where
  close := fun hs _ => h.closeCall hs _ _ _
  grant := fun hs _ _ => h.grantCall hs _ _

section
variable {s t u : State}

theorem stopPlayer_eq (p : PlayerId) : s.stopPlayer p = if (s.reader (playerReader p)).state = .idle then s else
    ((s.clearRing (playerReader p)).onReader (playerReader p) Reader.toIdle).raiseReader (playerReader p) "stopped" := by
  unfold State.stopPlayer
  rw [enterIdle_player]

/-- Of what the router does with a player the engine, the pool, and every block but the readers and their tags stand. -/
theorem beyond_engine (b : EngineBlock) (f : FadeBlock) : BeyondRouter fun t : State => t.engine = b ∧ t.fades = f where
  stop := fun {t} p ht => by
    rw [stopPlayer_eq]
    split
    · exact ht
    · rw [(State.raiseReader_frame _ _ _).2.2.2.2.2.1, (State.raiseReader_frame _ _ _).2.2.1]
      exact ht
  start := fun {t} p n ht => by
    cases h : t.soundRec n with
    | none => rw [startPlayer_none h]; exact ht
    | some d =>
      rw [startPlayer_eq h, (State.raiseReader_frame _ _ _).2.2.2.2.2.1, (State.raiseReader_frame _ _ _).2.2.1]
      exact ht
  report := fun id text ht => by
    rw [State.raise_engine, State.raise_fades]
    exact ht
  router := fun _ ht => ht

/-- What the store bus counts, and a tag that is not BUSY (R125, R145). -/
def FetchBlock.counts (b : FetchBlock) (k : TagId) (x : StoreTag) (errors timeouts : Nat) : Prop :=
  b.tags.get k = x ∧ b.errors = errors ∧ b.timeouts = timeouts

theorem clearRing_counts {k : TagId} {x : StoreTag} {e n : Nat} (hx : ∀ r, x.orphan r = x) (h : s.fetch.counts k x e n) (r : ReaderId) :
    (s.clearRing r).fetch.counts k x e n := by
  obtain ⟨hTag, hErrors, hTimeouts⟩ := h
  refine ⟨?_, hErrors, hTimeouts⟩
  show (s.fetch.tags.map (StoreTag.orphan r)).get k = x
  rw [get_map, hTag, hx]

theorem beyond_counts {k : TagId} {x : StoreTag} {e n : Nat} (hx : ∀ r, x.orphan r = x) :
    BeyondRouter fun t : State => t.fetch.counts k x e n where
  stop := fun {t} p ht => by
    rw [stopPlayer_eq]
    split
    · exact ht
    · rw [(State.raiseReader_frame _ _ _).2.2.2.2.2.2.1]
      exact clearRing_counts hx ht _
  start := fun {t} p m ht => by
    cases h : t.soundRec m with
    | none => rw [startPlayer_none h]; exact ht
    | some d =>
      rw [startPlayer_eq h, (State.raiseReader_frame _ _ _).2.2.2.2.2.2.1]
      exact clearRing_counts hx ht _
  report := fun id text ht => by
    rw [State.raise_fetch]
    exact ht
  router := fun _ ht => ht

/-- The keys other than a player's. -/
theorem stopPlayer_stands {K : ReportKey → Prop} (hK : ∀ p, K (.player p)) (h : s.StandsBut K t) (p : PlayerId) : s.StandsBut K (t.stopPlayer p) := by
  rw [stopPlayer_eq]
  split
  · exact h
  · refine State.StandsBut.raiseReader ?_ (by rw [readerKey_player]; exact hK p) _
    exact h.congr rfl

theorem startPlayer_stands {K : ReportKey → Prop} (hK : ∀ p, K (.player p)) (h : s.StandsBut K t) (p : PlayerId) (n : SoundId) :
    s.StandsBut K (t.startPlayer p n) := by
  cases hSound : t.soundRec n with
  | none => rw [startPlayer_none hSound]; exact h
  | some d =>
    rw [startPlayer_eq hSound]
    refine State.StandsBut.raiseReader ?_ (by rw [readerKey_player]; exact hK p) _
    exact h.congr rfl

/-- The end of a call leaves every report but its own and those of players. -/
theorem closeCall_stands {K : ReportKey → Prop} (hK : ∀ p, K (.player p)) (h : s.StandsBut K t) {c : Call} (hc : K (.call c.id)) (cause : CallCause)
    (by_ : Option Nat) : s.StandsBut K (t.closeCall c cause by_) := by
  have hFreed : s.StandsBut K (t.freed c) := h.congr (by rw [freed_link])
  have hSilenced : s.StandsBut K ((t.freed c).silenced c) := by
    unfold State.silenced
    split
    · exact stopPlayer_stands hK hFreed _
    · exact hFreed
  have hDropped : s.StandsBut K (((t.freed c).silenced c).dropCall c.id) := hSilenced.congr rfl
  rw [closeCall_eq]
  exact hDropped.raise hc _

/-- The grant of a call leaves every report but its own, those of the calls in its way and those of players. -/
theorem grantCall_stands {K : ReportKey → Prop} (hK : ∀ p, K (.player p)) (h : s.StandsBut K t) {c : Call} (hc : K (.call c.id))
    (hCalls : ∀ d ∈ t.router.calls, K (.call d.id)) (player : Option PlayerId) : s.StandsBut K (t.grantCall c player) := by
  have hCleared : s.StandsBut K (t.cleared c player) := by
    have hWay : ∀ d ∈ t.inTheWay c player, K (.call d.id) := fun d hd => hCalls d (List.mem_filter.mp hd).1
    unfold State.cleared
    exact State.StandsBut.foldl h fun d u hd => closeCall_stands hK (.refl u) (hWay d hd) _ _
  have hSeated : s.StandsBut K ((t.cleared c player).seated c player) := hCleared.congr (by
    unfold State.seated
    rw [foldl_onZone_link]
    rfl)
  have hSounded : s.StandsBut K (((t.cleared c player).seated c player).sounded c player) := by
    unfold State.sounded
    split
    · exact startPlayer_stands hK hSeated _ _
    · exact hSeated
  rw [grantCall_eq]
  exact hSounded.raise hc _

/-- A call that has left the table with its report. -/
def State.Gone (s : State) (id : Nat) (part : String) (t : State) : Prop := (∀ c ∈ t.router.calls, c.id ≠ id) ∧ s.Raised t (.call id) part

theorem cleared_calls (c : Call) (player : Option PlayerId) {d : Call} (hd : d ∈ (t.cleared c player).router.calls) : d ∈ t.router.calls := by
  have hFold : ∀ (l : List Call) (u : State), (∀ d ∈ u.router.calls, d ∈ t.router.calls) →
      ∀ d ∈ (l.foldl (fun s d => s.closeCall d .preempted (some c.id)) u).router.calls, d ∈ t.router.calls := by
    intro l
    induction l with
    | nil => exact fun u hu => hu
    | cons e l ih =>
      refine fun u hu => ih _ fun d hd => hu d ?_
      rw [closeCall_router] at hd
      exact (List.mem_filter.mp hd).1
  exact hFold _ t (fun _ h => h) d hd

/-- A call that has left the table stays out, and its report stands. -/
theorem gone_routed (s : State) (id : Nat) (part : String) : Routed (s.Gone id part) where
  close := fun {t} {c} {_} {_} ht hc => by
    obtain ⟨hCalls, hRaised⟩ := ht
    refine ⟨fun d hd => hCalls d ?_, ?_⟩
    · rw [closeCall_router] at hd
      exact (List.mem_filter.mp hd).1
    · refine hRaised.stands (closeCall_stands (K := fun key => key ≠ .call id) (fun p h => by cases h) (.refl t) (fun h => ?_) _ _) fun h => h rfl
      exact hCalls c hc (ReportKey.call.inj h)
  grant := fun {t} {c} {player} ht hc _ => by
    obtain ⟨hCalls, hRaised⟩ := ht
    have hOther : ∀ d ∈ t.router.calls, (ReportKey.call d.id) ≠ .call id := fun d hd h => hCalls d hd (ReportKey.call.inj h)
    refine ⟨fun d hd => ?_, hRaised.stands (grantCall_stands (K := fun key => key ≠ .call id) (fun p h => by cases h) (.refl t) (hOther c hc)
      hOther player) fun h => h rfl⟩
    rw [grantCall_router, seated_router] at hd
    obtain ⟨e, he, rfl⟩ := List.mem_map.mp hd
    have hStill := hCalls e (cleared_calls c player he)
    split
    · exact hCalls c hc
    · exact hStill

end

end Sys2Proof.Machine
end

section
/-! PROOFS. A slot that fails, and O47 (R124, R125, R140 to R145, R174, R181). -/

namespace Sys2Proof.Machine

open Sys2Proof

section
variable {s t u y : State} {k : TagId} {r : ReaderId} {slot : RingSlot} {p : PlayerId}

/-! ### The report of a player -/

/-- A report of a player names it. -/
theorem raiseReader_player (hDisabled : t.link.disabled = s.link.disabled) (p : PlayerId) (event : String) :
    s.Raised (t.raiseReader (playerReader p) event) (.player p) ("!PLAYER " ++ playerText p) := by
  have hText : "!PLAYER " ++ playerText p ++ " " ++ (t.reader (playerReader p)).stateFields ++ " event=" ++ event ++
      (t.reader (playerReader p)).countFields = "" ++ (("!PLAYER " ++ playerText p) ++ (" " ++ (t.reader (playerReader p)).stateFields ++ " event=" ++
        event ++ (t.reader (playerReader p)).countFields)) := by simp [String.append_assoc]
  unfold State.raiseReader
  dsimp only
  rw [readerKind_playerReader]
  dsimp only
  rw [hText]
  exact State.raised_raise hDisabled _ _ _ _

/-- A report of a player pending, against a state that disables the same kinds. -/
def State.Named (s : State) (p : PlayerId) (t : State) : Prop :=
  t.link.disabled = s.link.disabled ∧ s.Raised t (.player p) ("!PLAYER " ++ playerText p)

theorem State.Named.raiseReader (h : s.Named p t) (q : PlayerId) (event : String) : s.Named p (t.raiseReader (playerReader q) event) := by
  obtain ⟨hDisabled, hRaised⟩ := h
  refine ⟨(kept_disabled (State.raiseReader_frame _ _ _).1).trans hDisabled, ?_⟩
  by_cases hq : q = p
  · subst hq
    exact raiseReader_player hDisabled q event
  · refine hRaised.stands (K := fun key => key ≠ .player p) ((State.StandsBut.refl t).raiseReader (fun h => ?_) _) fun h => h rfl
    rw [readerKey_player] at h
    exact hq (ReportKey.player.inj h)

/-- Once a player is reported it stays so through what the router does. -/
theorem beyond_named (s : State) (p : PlayerId) : BeyondRouter (s.Named p) where
  stop := fun {t} q ht => by
    have hIdle : s.Named p ((t.clearRing (playerReader q)).onReader (playerReader q) Reader.toIdle) := ⟨ht.1, ht.2.congr rfl⟩
    rw [stopPlayer_eq]
    split
    · exact ht
    · exact hIdle.raiseReader q _
  start := fun {t} q n ht => by
    cases h : t.soundRec n with
    | none => rw [startPlayer_none h]; exact ht
    | some d =>
      have hLoaded : s.Named p ((t.clearRing (playerReader q)).onReader (playerReader q) fun x => { x.load n d .starting with playMoment := t.now }) :=
        ⟨ht.1, ht.2.congr rfl⟩
      rw [startPlayer_eq h]
      exact hLoaded.raiseReader q _
  report := fun {t} id text ht => by
    refine ⟨(kept_disabled (State.kept_raise _ _ _)).trans ht.1, ?_⟩
    exact ht.2.stands (K := fun key => key = .call id) (State.StandsBut.raise (K := fun key => key = .call id) (.refl t) (key := .call id) rfl _)
      fun h => by cases h
  router := fun _ ht => ⟨ht.1, ht.2.congr rfl⟩

/-! ### A slot that fails (R140 to R142) -/

/-- A first failure leaves the slot EMPTY and retry-marked (R140). -/
theorem failSlot_retry {k' : TagId} {j : Nat} (hRetry : (s.reader r).retry = none) (hSlot : (s.reader r).slot slot = .pending k' j) :
    s.failSlot r slot = (s.onReader r fun x => { x with ring := put x.ring slot .empty, retry := some (slot, j), retries := bump x.retries }
      ).raiseReader r "retry" := by
  simp only [State.failSlot, hRetry, hSlot]

/-- A failure while a mark stands faults the reader (R141). -/
theorem failSlot_fault (hRetry : (s.reader r).retry ≠ none) : s.failSlot r slot = s.enterFaulted r := by
  unfold State.failSlot
  dsimp only
  split
  · rename_i h _
    exact absurd h hRetry
  · rfl

/-- The reader as it enters FAULTED (R142). -/
def Reader.fault (x : Reader) : Reader := { x.clearRing with state := .faulted, keptFadeIn := none, owner := none, stalledFor := 0 }

/-- A reader that has entered FAULTED, with its report (R142). -/
def State.faulted (s : State) (r : ReaderId) : State := ((s.clearRing r).onReader r fun x =>
  { x with state := .faulted, keptFadeIn := none, owner := none, stalledFor := 0 }).raiseReader r "fault"

theorem faulted_reader (q : ReaderId) : (s.faulted r).reader q = if r = q then (s.reader r).fault else s.reader q := by
  unfold State.faulted
  rw [State.raiseReader_reader, reader_onReader]
  by_cases h : r = q
  · rw [if_pos h, if_pos h]
    unfold State.clearRing
    rw [reader_onReader, if_pos rfl]
    rfl
  · rw [if_neg h, if_neg h]
    unfold State.clearRing
    rw [reader_onReader, if_neg h]
    rfl

theorem enterFaulted_voice (v : VoiceId) : s.enterFaulted (voiceReader v) =
    ((s.faulted (voiceReader v)).removeFade (.voice v)).ownerDone (s.voice v).owner := by
  unfold State.enterFaulted
  dsimp only
  rw [readerKind_voiceReader]
  rfl

theorem enterFaulted_player (p : PlayerId) : s.enterFaulted (playerReader p) = s.faulted (playerReader p) := by
  unfold State.enterFaulted
  dsimp only
  rw [readerKind_playerReader]
  rfl

theorem faulted_counts {x : StoreTag} {e n : Nat} (hx : ∀ r, x.orphan r = x) (h : s.fetch.counts k x e n) (r : ReaderId) :
    (s.faulted r).fetch.counts k x e n := by
  unfold State.faulted
  rw [(State.raiseReader_frame _ _ _).2.2.2.2.2.2.1]
  exact clearRing_counts hx h r

theorem faulted_raised (hDisabled : t.link.disabled = s.link.disabled) (r : ReaderId) : s.Raised (t.faulted r) (readerKey r) " event=fault" := by
  have hRaised := raiseReader_raised (s := s) (t := (t.clearRing r).onReader r fun x =>
    { x with state := .faulted, keptFadeIn := none, owner := none, stalledFor := 0 }) hDisabled r "fault"
  rw [show " event=" ++ "fault" = " event=fault" by decide] at hRaised
  exact hRaised

theorem slotFailed_voice (v : VoiceId) : s.slotFailed (voiceReader v) slot = s.failSlot (voiceReader v) slot := by
  unfold State.slotFailed
  dsimp only
  rw [readerKind_voiceReader]

theorem slotFailed_player (p : PlayerId) : s.slotFailed (playerReader p) slot =
    if ((s.failSlot (playerReader p) slot).reader (playerReader p)).state = .faulted then
      (s.failSlot (playerReader p) slot).playerReports p .fault
    else s.failSlot (playerReader p) slot := by
  unfold State.slotFailed
  dsimp only
  rw [readerKind_playerReader]

theorem raiseStore_raised (hDisabled : t.link.disabled = s.link.disabled) (event : String) (k : TagId) :
    s.Raised (t.raiseStore event k) .store ("!STORE event=" ++ event ++ " tag=" ++ natText k.val ++ " " ++ t.fetch.storeText) := by
  unfold State.raiseStore
  generalize "!STORE event=" ++ event ++ " tag=" ++ natText k.val ++ " " ++ t.fetch.storeText = text
  have hRaised := State.raised_raise (s := s) hDisabled .store "" text ""
  rw [String.empty_append, String.append_empty] at hRaised
  exact hRaised

/-! ### The tag and the counts of a failure (R125, R140, R141) -/

/-- The state with a tag and the counts set as a failure leaves them. -/
def State.failing (s : State) (k : TagId) (x : StoreTag) (errors timeouts : Nat) : State :=
  s.onFetch fun b => { b with tags := put b.tags k x, errors := errors, timeouts := timeouts }

theorem completeError_busy {addr expires : Nat} (h : s.fetch.tags.get k = .busy r slot addr expires) : s.completeError k =
    ((s.failing k .free (min (s.fetch.errors + 1) 65535) s.fetch.timeouts).slotFailed r slot).raiseStore "error" k := by
  have hTag : (s.onFetch fun b => { b with errors := bump b.errors }).fetch.tags.get k = .busy r slot addr expires := h
  simp only [State.completeError, hTag]
  rfl

theorem tagDone_busy {addr expires : Nat} (h : s.fetch.tags.get k = .busy r slot addr expires) (hDue : expires ≤ s.now) : s.tagDone k =
    ((s.failing k .lost s.fetch.errors (min (s.fetch.timeouts + 1) 65535)).slotFailed r slot).raiseStore "timeout" k := by
  simp only [State.tagDone, h, if_pos hDue]
  rfl

theorem tagDone_early {addr expires : Nat} (h : (∃ r slot, s.fetch.tags.get k = .busy r slot addr expires) ∨ s.fetch.tags.get k = .orphaned addr expires)
    (hDue : s.now < expires) : s.tagDone k = s := by
  rcases h with ⟨r, slot, h⟩ | h <;> simp only [State.tagDone, h, if_neg (Nat.not_le.mpr hDue)]

theorem tagDone_unused (h : s.fetch.tags.get k = .free ∨ s.fetch.tags.get k = .lost) : s.tagDone k = s := by
  rcases h with h | h <;> simp only [State.tagDone, h]

theorem tagDone_orphaned {addr expires : Nat} (h : s.fetch.tags.get k = .orphaned addr expires) (hDue : expires ≤ s.now) : s.tagDone k =
    (s.failing k .lost s.fetch.errors (min (s.fetch.timeouts + 1) 65535)).raiseStore "timeout" k := by
  simp only [State.tagDone, h, if_pos hDue]
  rfl

theorem raise_onFetch (w : State) (f : FetchBlock → FetchBlock) (key : ReportKey) (text : String) :
    (w.raise key text).onFetch f = (w.onFetch f).raise key text := by
  unfold State.raise
  by_cases h : w.link.disabled.contains key.kind = true
  · rw [if_pos h]
    exact (if_pos (show (w.onFetch f).link.disabled.contains key.kind = true from h)).symm
  · rw [if_neg h]
    exact (if_neg (show ¬(w.onFetch f).link.disabled.contains key.kind = true from h)).symm

/-- The state with a tag freed, an error counted and the stray count set, as an ERROR on a tag that is not BUSY leaves it (log 20). -/
def State.errorOn (s : State) (k : TagId) (stray : Nat) : State :=
  s.onFetch fun b => { b with tags := put b.tags k .free, errors := min (s.fetch.errors + 1) 65535, stray := stray }

theorem completeError_orphaned {addr expires : Nat} (h : s.fetch.tags.get k = .orphaned addr expires) :
    s.completeError k = (s.errorOn k s.fetch.stray).raiseStore "error" k := by
  have hTag : (s.onFetch fun b => { b with errors := bump b.errors }).fetch.tags.get k = .orphaned addr expires := h
  simp only [State.completeError, State.discardCompletion, hTag]
  rfl

/-- The report of an error on a tag that is not BUSY, pending in the state. -/
def State.errorReported (s : State) (k : TagId) : State := (s.onFetch fun b => { b with errors := bump b.errors }).raiseStore "error" k

theorem errorReported_fetch : (s.errorReported k).fetch = { s.fetch with errors := min (s.fetch.errors + 1) 65535 } := by
  unfold State.errorReported State.raiseStore
  rw [State.raise_fetch]
  rfl

theorem completeError_lost (h : s.fetch.tags.get k = .lost) :
    s.completeError k = (((s.errorOn k s.fetch.stray).raise .store ("!STORE event=" ++ "error" ++ " tag=" ++ natText k.val ++ " " ++
      (s.onFetch fun b => { b with errors := bump b.errors }).fetch.storeText))).raiseStore "late" k := by
  have hTag : (s.onFetch fun b => { b with errors := bump b.errors }).fetch.tags.get k = .lost := h
  have hStill : (s.errorReported k).fetch.tags.get k = .lost := by rw [errorReported_fetch]; exact h
  have hError : s.completeError k = (s.errorReported k).discardCompletion k := by
    simp only [State.completeError, hTag]
    rfl
  rw [hError]
  simp only [State.discardCompletion, hStill]
  unfold State.errorReported State.raiseStore State.setTag
  rw [raise_onFetch]
  rfl

theorem completeError_free (h : s.fetch.tags.get k = .free) :
    s.completeError k = (((s.errorOn k (min (s.fetch.stray + 1) 65535)).raise .store ("!STORE event=" ++ "error" ++ " tag=" ++ natText k.val ++ " " ++
      (s.onFetch fun b => { b with errors := bump b.errors }).fetch.storeText))).raiseStore "stray" k := by
  have hTag : (s.onFetch fun b => { b with errors := bump b.errors }).fetch.tags.get k = .free := h
  have hStill : (s.errorReported k).fetch.tags.get k = .free := by rw [errorReported_fetch]; exact h
  have hError : s.completeError k = (s.errorReported k).discardCompletion k := by
    simp only [State.completeError, hTag]
    rfl
  have hSame : put s.fetch.tags k .free = s.fetch.tags := by
    rw [← h]
    exact put_get_self _ _
  have hBase : s.errorOn k (min (s.fetch.stray + 1) 65535) =
      (s.onFetch fun b => { b with errors := bump b.errors }).onFetch fun b => { b with stray := bump b.stray } := by
    unfold State.errorOn State.onFetch
    dsimp only
    rw [hSame]
    rfl
  rw [hError, hBase]
  simp only [State.discardCompletion, hStill]
  unfold State.errorReported State.raiseStore
  rw [raise_onFetch]

/-! ### What a slot that fails leaves (R140 to R142) -/

theorem playerReports_none (h : s.playerCall p = none) (cause : CallCause) : s.playerReports p cause = s := by
  simp only [State.playerReports, h]

theorem playerReports_some {c : Call} (h : s.playerCall p = some c) (cause : CallCause) : s.playerReports p cause = s.endCall c cause := by
  simp only [State.playerReports, h]

theorem slotFailed_retry {k' : TagId} {j : Nat} (hRetry : (s.reader r).retry = none) (hState : (s.reader r).state ≠ .faulted)
    (hSlot : (s.reader r).slot slot = .pending k' j) : s.slotFailed r slot = s.failSlot r slot := by
  cases hKind : readerKind r with
  | inl v =>
    obtain rfl := readerKind_inl hKind
    exact slotFailed_voice v
  | inr p =>
    obtain rfl := readerKind_inr hKind
    rw [slotFailed_player, if_neg]
    rw [failSlot_retry hRetry hSlot, State.raiseReader_reader, reader_onReader, if_pos rfl]
    exact hState

theorem slotFailed_faulted (hRetry : (s.reader (playerReader p)).retry ≠ none) :
    s.slotFailed (playerReader p) slot = (s.faulted (playerReader p)).playerReports p .fault := by
  rw [slotFailed_player, failSlot_fault hRetry, enterFaulted_player, faulted_reader, if_pos rfl]
  exact if_pos rfl

theorem faulted_engine : (s.faulted r).engine = s.engine ∧ (s.faulted r).fades = s.fades :=
  ⟨(State.raiseReader_frame _ _ _).2.2.2.2.2.1, (State.raiseReader_frame _ _ _).2.2.1⟩

/-- A slot that fails owes no evaluation. -/
theorem slotFailed_owed (s : State) (r : ReaderId) (slot : RingSlot) : (s.slotFailed r slot).owed = s.owed := by
  have hFault : ∀ q, (s.enterFaulted q).owed = s.owed := fun q => by
    unfold State.enterFaulted
    dsimp only
    split <;> simp
  have hFail : ∀ q, (s.failSlot q slot).owed = s.owed := fun q => by
    unfold State.failSlot
    dsimp only
    split
    · simp
    · exact hFault q
  cases hKind : readerKind r with
  | inl v =>
    obtain rfl := readerKind_inl hKind
    rw [slotFailed_voice, hFail]
  | inr p =>
    obtain rfl := readerKind_inr hKind
    rw [slotFailed_player]
    split
    · unfold State.owed
      rw [((beyond_engine (s.failSlot (playerReader p) slot).engine (s.failSlot (playerReader p) slot).fades).routed.playerReports
        (s := s.failSlot (playerReader p) slot) ⟨rfl, rfl⟩ p .fault).1]
      exact hFail _
    · exact hFail _

/-- A slot that fails leaves the counts and the tag it has lost. -/
theorem slotFailed_counts {x : StoreTag} {e n : Nat} (hx : ∀ r, x.orphan r = x) (h : s.fetch.counts k x e n) (r : ReaderId) (slot : RingSlot) :
    (s.slotFailed r slot).fetch.counts k x e n := by
  have hFault : ∀ q, (s.enterFaulted q).fetch.counts k x e n := fun q => by
    cases hKind : readerKind q with
    | inl v =>
      obtain rfl := readerKind_inl hKind
      rw [enterFaulted_voice, (State.ownerDone_frame _ _).2.2.2.2.2.1, (State.removeFade_frame _ _).2.2.2.2.1]
      exact faulted_counts hx h _
    | inr p =>
      obtain rfl := readerKind_inr hKind
      rw [enterFaulted_player]
      exact faulted_counts hx h _
  have hFail : (s.failSlot r slot).fetch.counts k x e n := by
    unfold State.failSlot
    dsimp only
    split
    · rw [(State.raiseReader_frame _ _ _).2.2.2.2.2.2.1]
      exact h
    · exact hFault r
  cases hKind : readerKind r with
  | inl v =>
    obtain rfl := readerKind_inl hKind
    rw [slotFailed_voice]
    exact hFail
  | inr p =>
    obtain rfl := readerKind_inr hKind
    rw [slotFailed_player]
    split
    · exact (beyond_counts hx).routed.playerReports hFail p .fault
    · exact hFail

/-! ### A failure and the end of its operation -/

/-- The state after a failure, its STORE report raised and the operation ended. -/
def State.failedAt (s : State) (k : TagId) (r : ReaderId) (slot : RingSlot) (event : String) : State :=
  ((s.slotFailed r slot).raiseStore event k).finish

/-- The end of the operation leaves the readers, the pool and the reports of readers and calls. -/
theorem failedAt_leaves (hOwed : s.owed = false) (r : ReaderId) (slot : RingSlot) (event : String) :
    (s.failedAt k r slot event).fetch = (s.slotFailed r slot).fetch ∧ (s.failedAt k r slot event).fades = (s.slotFailed r slot).fades ∧
      (s.failedAt k r slot event).router = (s.slotFailed r slot).router ∧
      (s.slotFailed r slot).StandsBut (fun key => key = .cue ∨ key = .store) (s.failedAt k r slot event) := by
  have hFrame := State.raiseStore_frame (s.slotFailed r slot) event k
  obtain ⟨hFetch, hFades, hReports⟩ := finish_leaves (u := (s.slotFailed r slot).raiseStore event k) (by
    unfold State.owed
    rw [hFrame.2.2.2.2.2.1]
    exact (slotFailed_owed s r slot).trans hOwed)
  refine ⟨hFetch.trans hFrame.2.2.2.2.2.2.1, hFades.trans hFrame.2.2.1,
    (State.finish_frame _).2.2.2.2.2.1.trans hFrame.2.2.2.2.2.2.2.2.1, State.StandsBut.trans ?_ (hReports.mono fun _ h => .inl h)⟩
  exact (State.StandsBut.refl _).raise (.inr rfl) _

theorem failedAt_store (hOwed : s.owed = false) (r : ReaderId) (slot : RingSlot) (event : String) :
    s.Raised (s.failedAt k r slot event) .store ("!STORE event=" ++ event ++ " tag=" ++ natText k.val ++ " " ++
      (s.failedAt k r slot event).fetch.storeText) := by
  rw [(failedAt_leaves hOwed r slot event).1]
  have hDisabled : (s.slotFailed r slot).link.disabled = s.link.disabled := kept_disabled (State.slotFailed_frame s r slot).1
  have hFrame := State.raiseStore_frame (s.slotFailed r slot) event k
  obtain ⟨-, -, hReports⟩ := finish_leaves (u := (s.slotFailed r slot).raiseStore event k) (by
    unfold State.owed
    rw [hFrame.2.2.2.2.2.1]
    exact (slotFailed_owed s r slot).trans hOwed)
  exact (raiseStore_raised (s := s) hDisabled event k).stands hReports fun h => by cases h

/-- A first failure: the slot is EMPTY and retry-marked, and nothing else of the readers, the pool, the engine or the router moves (R140). -/
theorem failedAt_retry (hSettled : s.Settled) {k' : TagId} {j : Nat} (hRetry : (s.reader r).retry = none) (hState : (s.reader r).state ≠ .faulted)
    (hSlot : (s.reader r).slot slot = .pending k' j) (event : String) :
    (s.failedAt k r slot event).fetch = { s.fetch with readers := put s.fetch.readers r { s.reader r with
        ring := put (s.reader r).ring slot .empty, retry := some (slot, j), retries := min ((s.reader r).retries + 1) 65535 } } ∧
      (s.failedAt k r slot event).router = s.router ∧ (s.failedAt k r slot event).fades = s.fades ∧
      (s.failedAt k r slot event).engine = s.engine ∧ s.Raised (s.failedAt k r slot event) (readerKey r) " event=retry" := by
  obtain ⟨hFetch, hFades, hRouter, hReports⟩ := failedAt_leaves (k := k) hSettled.1 r slot event
  have hFailed := slotFailed_retry hRetry hState hSlot
  rw [failSlot_retry hRetry hSlot] at hFailed
  have hFrame := State.raiseReader_frame (s.onReader r fun x =>
    { x with ring := put x.ring slot .empty, retry := some (slot, j), retries := bump x.retries }) r "retry"
  have hStore := State.raiseStore_frame (s.slotFailed r slot) event k
  have hVoices : ∀ v n, ((((s.slotFailed r slot).raiseStore event k).voice v).state = .primed ∧
      (((s.slotFailed r slot).raiseStore event k).voice v).soundId = some n) ↔ ((s.voice v).state = .primed ∧ (s.voice v).soundId = some n) :=
    fun v n => by
      have hVoice : ((s.slotFailed r slot).raiseStore event k).voice v = (s.onReader r fun x =>
          { x with ring := put x.ring slot .empty, retry := some (slot, j), retries := bump x.retries }).voice v :=
        reader_of_fetch (hStore.2.2.2.2.2.2.1.trans (by rw [hFailed]; exact hFrame.2.2.2.2.2.2.1)) _
      rw [hVoice]
      unfold State.voice
      rw [reader_onReader]
      split
      · rename_i h
        subst h
        exact Iff.rfl
      · exact Iff.rfl
  have hEngine : ((s.slotFailed r slot).raiseStore event k).engine = s.engine := by
    rw [hStore.2.2.2.2.2.1, hFailed]
    exact hFrame.2.2.2.2.2.1
  have hCues : ((s.slotFailed r slot).raiseStore event k).cues = s.cues :=
    (kept_cues hStore.1).trans (kept_cues (State.slotFailed_frame s r slot).1)
  refine ⟨?_, ?_, ?_, ?_, ?_⟩
  · rw [hFetch, hFailed]
    exact hFrame.2.2.2.2.2.2.1
  · rw [hRouter, hFailed]
    exact hFrame.2.2.2.2.2.2.2.2.1
  · rw [hFades, hFailed]
    exact hFrame.2.2.1
  · unfold State.failedAt
    rw [finish_of_settled (settled_readers hSettled hEngine hCues hVoices)]
    exact hEngine
  · refine State.Raised.stands ?_ hReports fun h => ?_
    · rw [hFailed]
      have hRaised := raiseReader_raised (s := s) (t := s.onReader r fun x =>
        { x with ring := put x.ring slot .empty, retry := some (slot, j), retries := bump x.retries }) rfl r "retry"
      rw [show " event=" ++ "retry" = " event=retry" by decide] at hRaised
      exact hRaised
    · unfold readerKey at h
      split at h <;> rcases h with h | h <;> cases h

/-- A failure while a mark stands faults a voice: its ring is cleared and its record and start are gone (R141, R142). -/
theorem failedAt_voice (hOwed : s.owed = false) {v : VoiceId} (hRetry : (s.voice v).retry ≠ none) (event : String) :
    (s.failedAt k (voiceReader v) slot event).voice v = (s.voice v).fault ∧
      (∀ q, q ≠ voiceReader v → (s.failedAt k (voiceReader v) slot event).reader q = s.reader q) ∧
      (s.failedAt k (voiceReader v) slot event).fadeOf (.voice v) = none ∧ (s.failedAt k (voiceReader v) slot event).router = s.router ∧
      s.Raised (s.failedAt k (voiceReader v) slot event) (.voice v) " event=fault" := by
  obtain ⟨hFetch, hFades, hRouter, hReports⟩ := failedAt_leaves (k := k) hOwed (voiceReader v) slot event
  have hFailed : s.slotFailed (voiceReader v) slot = _ := (slotFailed_voice v).trans ((failSlot_fault hRetry).trans (enterFaulted_voice v))
  rw [hFailed] at hFetch hFades hRouter hReports
  have hReader : ∀ q, (s.failedAt k (voiceReader v) slot event).reader q = if voiceReader v = q then (s.voice v).fault else s.reader q := fun q => by
    refine (reader_of_fetch hFetch q).trans ?_
    rw [State.ownerDone_reader, State.removeFade_reader]
    exact faulted_reader q
  refine ⟨(hReader _).trans (if_pos rfl), fun q hq => (hReader q).trans (if_neg hq.symm), ?_, ?_, ?_⟩
  · rw [fadeOf_congr (s := (s.faulted (voiceReader v)).dropFade (.voice v)), dropFade_fadeOf, if_pos rfl]
    rw [hFades, (State.ownerDone_frame _ _).2.2.1, removeFade_fades]
  · rw [hRouter, (State.ownerDone_frame _ _).2.2.2.2.2.2.2.1, (State.removeFade_frame _ _).2.2.2.2.2.2.1]
    exact (State.raiseReader_frame _ _ _).2.2.2.2.2.2.2.2.1
  · have hRaised := faulted_raised (s := s) (t := s) rfl (voiceReader v)
    rw [readerKey_voice] at hRaised
    refine State.Raised.stands ?_ hReports (by rintro (h | h) <;> cases h)
    exact hRaised.stands (K := (· = .cue)) (State.StandsBut.ownerDone (K := (· = .cue)) rfl
      (State.StandsBut.removeFade (K := (· = .cue)) rfl (.refl _) _) _) fun h => by cases h

/-- The report of a call's end names the cause and the call that caused it (R181). -/
theorem closeCall_raised (hDisabled : t.link.disabled = s.link.disabled) (c : Call) (cause : CallCause) (by_ : Option Nat) :
    s.Raised (t.closeCall c cause by_) (.call c.id) (" cause=" ++ causeText cause ++ " by=" ++ optText natText by_ ++ " event=ended") := by
  have hBase : (((t.freed c).silenced c).dropCall c.id).link.disabled = s.link.disabled := by
    have hSilenced : ((t.freed c).silenced c).link.disabled = (t.freed c).link.disabled := by
      unfold State.silenced
      split
      · exact kept_disabled (State.stopPlayer_frame _ _).1
      · rfl
    rw [show (((t.freed c).silenced c).dropCall c.id).link = ((t.freed c).silenced c).link from rfl, hSilenced, freed_link]
    exact hDisabled
  rw [closeCall_eq]
  have hRaised := State.raised_raise (s := s) hBase (.call c.id) ("!CALL " ++ "call:" ++ natText c.id ++ " state=" ++ callStateText .ended ++ " src=" ++
    sourceText c.req.src ++ " pri=" ++ natText c.req.pri ++ " zones=" ++ listText (c.zones.map zoneText) ++ " player=" ++ optText playerText none)
    (" cause=" ++ causeText cause ++ " by=" ++ optText natText by_ ++ " event=ended") ""
  have hText : "!CALL " ++ callFields c .ended none (some cause) ++ " by=" ++ optText natText by_ ++ " event=" ++ "ended" =
      ("!CALL " ++ "call:" ++ natText c.id ++ " state=" ++ callStateText .ended ++ " src=" ++
    sourceText c.req.src ++ " pri=" ++ natText c.req.pri ++ " zones=" ++ listText (c.zones.map zoneText) ++ " player=" ++ optText playerText none) ++
    ((" cause=" ++ causeText cause ++ " by=" ++ optText natText by_ ++ " event=ended") ++ "") := by
    rw [show " event=ended" = " event=" ++ "ended" by decide, String.append_empty]
    unfold callFields
    simp only [String.append_assoc, optText]
  unfold State.raiseCall
  rw [hText]
  exact hRaised

/-- A faulted call player loses its call, and is reported (R142, R174, R181). -/
theorem failedAt_player (hOwed : s.owed = false) (hRetry : (s.reader (playerReader p)).retry ≠ none) (event : String) :
    (∀ c, s.playerCall p = some c → (s.failedAt k (playerReader p) slot event).callAt c.id = none ∧
      s.Raised (s.failedAt k (playerReader p) slot event) (.call c.id) " cause=fault by=none event=ended" ∧
      s.Raised (s.failedAt k (playerReader p) slot event) (.player p) ("!PLAYER " ++ playerText p)) ∧
    (s.playerCall p = none → s.Raised (s.failedAt k (playerReader p) slot event) (.player p) " event=fault") := by
  obtain ⟨-, -, hRouter, hReports⟩ := failedAt_leaves (k := k) hOwed (playerReader p) slot event
  rw [slotFailed_faulted hRetry] at hRouter hReports
  have hCallOf : (s.faulted (playerReader p)).playerCall p = s.playerCall p := by
    unfold State.playerCall
    rw [show (s.faulted (playerReader p)).router = s.router from (State.raiseReader_frame _ _ _).2.2.2.2.2.2.2.2.1]
  have hDisabled : (s.faulted (playerReader p)).link.disabled = s.link.disabled := kept_disabled (State.raiseReader_frame _ _ _).1
  refine ⟨fun c hc => ?_, fun hNone => ?_⟩
  · have hHeld := hCallOf.trans hc
    rw [playerReports_some hHeld] at hRouter hReports
    have hGone : s.Gone c.id " cause=fault by=none event=ended" ((s.faulted (playerReader p)).endCall c .fault) := by
      refine (gone_routed s c.id _).walk ⟨fun d hd => ?_, ?_⟩
      · rw [closeCall_router] at hd
        exact of_decide_eq_true (List.mem_filter.mp hd).2
      · have hRaised := closeCall_raised (s := s) hDisabled c .fault none
        rw [show " cause=" ++ causeText .fault ++ " by=" ++ optText natText none ++ " event=ended" = " cause=fault by=none event=ended" by decide]
          at hRaised
        exact hRaised
    have hNamed : s.Named p ((s.faulted (playerReader p)).endCall c .fault) :=
      (beyond_named s p).routed.endCall ⟨hDisabled, raiseReader_player (s := s) (t := (s.clearRing (playerReader p)).onReader (playerReader p)
        fun x => { x with state := .faulted, keptFadeIn := none, owner := none, stalledFor := 0 }) rfl p "fault"⟩ (List.mem_of_find?_eq_some hHeld) .fault
    refine ⟨?_, hGone.2.stands hReports (by rintro (h | h) <;> cases h), hNamed.2.stands hReports (by rintro (h | h) <;> cases h)⟩
    unfold State.callAt
    rw [hRouter]
    exact List.find?_eq_none.mpr fun d hd => by simpa using hGone.1 d hd
  · rw [playerReports_none (hCallOf.trans hNone)] at hReports
    have hRaised := faulted_raised (s := s) (t := s) rfl (playerReader p)
    rw [readerKey_player] at hRaised
    exact hRaised.stands hReports (by rintro (h | h) <;> cases h)

/-- A STORE report as the last thing of an operation that touches the store bus alone. -/
theorem raiseStore_ends {b : FetchBlock} (hSettled : t.Settled) (hLink : s.SameLink t) (ht : t = { s with link := t.link, fetch := b })
    (event : String) (k : TagId) :
    s.SameLink (t.raiseStore event k).finish ∧
      (t.raiseStore event k).finish = { s with link := (t.raiseStore event k).finish.link, fetch := b } ∧
      s.Raised (t.raiseStore event k).finish .store ("!STORE event=" ++ event ++ " tag=" ++ natText k.val ++ " " ++
        (t.raiseStore event k).finish.fetch.storeText) := by
  have hDisabled : t.link.disabled = s.link.disabled := by rw [hLink]
  have hFetch : (t.raiseStore event k).fetch = t.fetch := (State.raiseStore_frame t event k).2.2.2.2.2.2.1
  have hStill : (t.raiseStore event k).Settled := by
    unfold State.raiseStore
    exact raise_settled hSettled _ _
  rw [finish_of_settled hStill, hFetch]
  refine ⟨?_, ?_, raiseStore_raised hDisabled event k⟩
  · unfold State.SameLink State.raiseStore at *
    rw [State.raise_link, hLink]
  · unfold State.raiseStore
    rw [State.raise_eq, ht]

/-- Everything the failure of a slot leaves, the tag and the counts as the cause sets them. -/
theorem failing_failedAt (hSettled : s.Settled) {x : StoreTag} (hx : ∀ q, x.orphan q = x) (errors timeouts : Nat) (event : String)
    (hState : (s.reader r).state ≠ .faulted) {k' : TagId} {j : Nat} (hSlot : (s.reader r).slot slot = .pending k' j) {b t : State}
    (hb : b = s.failing k x errors timeouts) (ht : t = b.failedAt k r slot event) :
    s.SameLink t ∧ t = { s with link := t.link, fades := t.fades, engine := t.engine, fetch := t.fetch, router := t.router } ∧
      t.fetch.counts k x errors timeouts ∧
      s.Raised t .store ("!STORE event=" ++ event ++ " tag=" ++ natText k.val ++ " " ++ t.fetch.storeText) ∧
      ((s.reader r).retry = none → s.Raised t (readerKey r) " event=retry") ∧
      ((s.reader r).retry = none → t.fetch.tags = put s.fetch.tags k x ∧ t.router = s.router ∧ t.fades = s.fades ∧ t.engine = s.engine ∧
        t.fetch.readers = put s.fetch.readers r { s.reader r with
          ring := put (s.reader r).ring slot .empty, retry := some (slot, j), retries := min ((s.reader r).retries + 1) 65535 }) ∧
      ((s.reader r).retry ≠ none → (∀ v, r = voiceReader v → t.voice v = (s.voice v).fault ∧ (∀ q, q ≠ voiceReader v → t.reader q = s.reader q) ∧
          t.fadeOf (.voice v) = none ∧ t.router = s.router ∧ s.Raised t (.voice v) " event=fault") ∧
        (∀ p, r = playerReader p → (∀ c, s.playerCall p = some c → t.callAt c.id = none ∧
          s.Raised t (.call c.id) " cause=fault by=none event=ended" ∧ s.Raised t (.player p) ("!PLAYER " ++ playerText p)) ∧
          (s.playerCall p = none → s.Raised t (.player p) " event=fault"))) := by
  have hBase : b.Settled := by
    rw [hb]
    exact settled_congr hSettled rfl rfl rfl
  have hCounts : b.fetch.counts k x errors timeouts := by
    rw [hb]
    exact ⟨get_put_same _ _ _, rfl, rfl⟩
  have hReaders : b.fetch.readers = s.fetch.readers := by rw [hb]; rfl
  have hReader : ∀ q, b.reader q = s.reader q := fun q => by rw [hb]; rfl
  have hCalls : ∀ p, b.playerCall p = s.playerCall p := fun p => by rw [hb]; rfl
  have hDisabled : s.link.disabled = b.link.disabled := by rw [hb]; rfl
  have hTags : b.fetch.tags = put s.fetch.tags k x := by rw [hb]; rfl
  have hRouterOf : b.router = s.router := by rw [hb]; rfl
  have hFadesOf : b.fades = s.fades := by rw [hb]; rfl
  have hEngineOf : b.engine = s.engine := by rw [hb]; rfl
  have hBlocks : b.kept = s.kept ∧ b.matrix = s.matrix ∧ b.cast = s.cast ∧ b.mic = s.mic ∧ b.foldback = s.foldback ∧ b.lines = s.lines := by
    rw [hb]
    exact ⟨rfl, rfl, rfl, rfl, rfl, rfl⟩
  clear hb
  obtain ⟨hKept, hMatrix, hCast, hMic, hFoldback, hLines⟩ := hBlocks
  obtain ⟨hFetchEnd, -, -, -⟩ := failedAt_leaves (s := b) (k := k) hBase.1 r slot event
  have hStore := failedAt_store (s := b) (k := k) hBase.1 r slot event
  have hRetried := fun h => failedAt_retry (s := b) (k := k) (k' := k') (j := j) (r := r) (slot := slot) hBase h
    (by rw [hReader]; exact hState) (by rw [hReader]; exact hSlot) event
  have hVoiced := fun v h => failedAt_voice (s := b) (k := k) (slot := slot) (v := v) hBase.1 h event
  have hPlayed := fun p h => failedAt_player (s := b) (k := k) (slot := slot) (p := p) hBase.1 h event
  have hFrame : (b.failedAt k r slot event).kept = b.kept ∧ (b.failedAt k r slot event).matrix = b.matrix ∧
      (b.failedAt k r slot event).cast = b.cast ∧ (b.failedAt k r slot event).mic = b.mic ∧
      (b.failedAt k r slot event).foldback = b.foldback ∧ (b.failedAt k r slot event).lines = b.lines := by
    unfold State.failedAt
    simp
  obtain ⟨hKeptEnd, hMatrixEnd, hCastEnd, hMicEnd, hFoldbackEnd, hLinesEnd⟩ := hFrame
  refine ⟨?_, ?_, ?_, ?_, fun h => ?_, fun h => ?_, fun h => ⟨fun v hv => ?_, fun p hp => ?_⟩⟩
  · rw [ht]
    exact kept_link (hKeptEnd.trans hKept)
  · rw [ht]
    refine (State.eq_at (hKeptEnd.trans hKept)).trans ?_
    rw [hMatrixEnd, hMatrix, hCastEnd, hCast, hMicEnd, hMic, hFoldbackEnd, hFoldback, hLinesEnd, hLines]
  · rw [ht, hFetchEnd]
    exact slotFailed_counts hx hCounts r slot
  · rw [ht]
    exact hStore.origin hDisabled
  · rw [← hReader] at h
    rw [ht]
    exact (hRetried h).2.2.2.2.origin hDisabled
  · rw [← hReader] at h
    obtain ⟨hFetch, hRouter, hFades, hEngine, -⟩ := hRetried h
    rw [ht, hFetch]
    refine ⟨hTags, hRouter.trans hRouterOf, hFades.trans hFadesOf, hEngine.trans hEngineOf, ?_⟩
    rw [hReader, hReaders]
  · subst hv
    obtain ⟨hVoice, hOthers, hFade, hRouter, hRaised⟩ := hVoiced v (by unfold State.voice; rw [hReader]; exact h)
    rw [ht]
    refine ⟨hVoice.trans (congrArg Reader.fault (hReader _)), fun q hq => (hOthers q hq).trans (hReader q), hFade, hRouter.trans hRouterOf,
      hRaised.origin hDisabled⟩
  · subst hp
    obtain ⟨hHeld, hFree⟩ := hPlayed p (by rw [hReader]; exact h)
    rw [hCalls] at hHeld hFree
    rw [ht]
    refine ⟨fun c hc => ?_, fun hNone => (hFree hNone).origin hDisabled⟩
    obtain ⟨hGone, hCall, hPlayer⟩ := hHeld c hc
    exact ⟨hGone, hCall.origin hDisabled, hPlayer.origin hDisabled⟩

end

end Sys2Proof.Machine

namespace Sys2Proof.Proofs

open Sys2Proof Sys2Proof.Machine

/-- Settles O47: both causes come to the failure of the slot under a tag that is FREE or LOST. -/
theorem slotFailures : Obligations.SlotFailures := by
  intro s k r slot addr expires hReset hCalm
  obtain ⟨hSettled, hPrompt⟩ := hCalm
  have hErrorRow : exec (.completionError k) s = .next (s.completeError k).finish := by
    rw [exec_completionError, laterEvent_running hReset hPrompt]
  have hTimeoutRow : exec (.tagTimeout k) s = .next (s.tagDone k).finish := by
    rw [exec_tagTimeout, laterEvent_running hReset hPrompt]
  have hIdle : s.tagDone k = s → exec (.tagTimeout k) s = .next s := fun h => by rw [hTimeoutRow, h, finish_of_settled hSettled]
  refine ⟨fun hTag hState k' j hSlot c after hCase => ?_, fun hTag hEarly => hIdle (tagDone_early (.inl ⟨r, slot, hTag⟩) hEarly),
    fun h => hIdle (tagDone_unused h), fun hTag => ⟨fun hEarly => hIdle (tagDone_early (.inr hTag) hEarly), fun hDue => ?_⟩, fun h => ?_⟩
  · have hx : ∀ q, after.orphan q = after := fun q => by rcases hCase with ⟨-, rfl⟩ | ⟨-, rfl, -⟩ <;> rfl
    have hRow : exec c s = .next ((s.failing k after (if after = .free then min (s.fetch.errors + 1) 65535 else s.fetch.errors)
        (if after = .free then s.fetch.timeouts else min (s.fetch.timeouts + 1) 65535)).failedAt k r slot
          (if after = .free then "error" else "timeout")) := by
      rcases hCase with ⟨rfl, rfl⟩ | ⟨rfl, rfl, hDue⟩
      · rw [hErrorRow, completeError_busy hTag]
        rfl
      · rw [hTimeoutRow, tagDone_busy hTag hDue]
        rfl
    obtain ⟨hLink, hAt, ⟨hAfter, hErrors, hTimeouts⟩, hStore, hRetried, hRetry, hFault⟩ := failing_failedAt hSettled hx _ _ _ hState hSlot rfl rfl
    refine ⟨_, hRow, hLink, hAt, hErrors, hTimeouts, hStore, hRetried, hRetry, fun h => ⟨hAfter, fun v hv => ?_, fun p d hp hd => ?_, fun p hp hNone => ?_⟩⟩
    · obtain ⟨hVoice, hOthers, hFade, hRouter, hRaised⟩ := (hFault h).1 v hv
      subst hv
      have hField : ∀ {α : Type} (f : Reader → α), f (State.reader _ (voiceReader v)) = f (s.voice v).fault := fun f => congrArg f hVoice
      exact ⟨hField Reader.state, hField Reader.ring, hField Reader.retry, hField Reader.owner, hField Reader.keptFadeIn, hFade, hField Reader.pos,
        hField Reader.sound, hOthers, hRouter, hRaised⟩
    · exact ((hFault h).2 p hp).1 d hd
    · exact ((hFault h).2 p hp).2 hNone
  · rw [hTimeoutRow, tagDone_orphaned hTag hDue]
    have hEnds := raiseStore_ends (s := s) (t := s.failing k .lost s.fetch.errors (min (s.fetch.timeouts + 1) 65535))
      (settled_congr hSettled rfl rfl rfl) rfl rfl "timeout" k
    rw [show "!STORE event=" ++ "timeout" ++ " tag=" = "!STORE event=timeout tag=" by decide] at hEnds
    exact ⟨_, rfl, hEnds⟩
  · rw [hErrorRow]
    cases hTag : s.fetch.tags.get k with
    | busy r slot addr expires => exact absurd hTag (h r slot addr expires)
    | orphaned addr expires =>
      have hFree : StoreTag.orphaned addr expires ≠ .free := fun h => by cases h
      have hLost : StoreTag.orphaned addr expires ≠ .lost := fun h => by cases h
      rw [completeError_orphaned hTag, if_neg hFree, if_neg hFree, if_neg hLost]
      have hEnds := raiseStore_ends (s := s) (t := s.errorOn k s.fetch.stray) (settled_congr hSettled rfl rfl rfl) rfl rfl "error" k
      exact ⟨_, rfl, hEnds⟩
    | free =>
      rw [completeError_free hTag, if_pos rfl, if_pos rfl]
      have hBase : (s.errorOn k (min (s.fetch.stray + 1) 65535)).Settled := settled_congr hSettled rfl rfl rfl
      exact ⟨_, rfl, raiseStore_ends (raise_settled hBase _ _) (State.raise_link _ _ _) (State.raise_eq _ _ _) "stray" k⟩
    | lost =>
      rw [completeError_lost hTag, if_neg (by decide), if_neg (by decide), if_pos rfl]
      have hBase : (s.errorOn k s.fetch.stray).Settled := settled_congr hSettled rfl rfl rfl
      exact ⟨_, rfl, raiseStore_ends (raise_settled hBase _ _) (State.raise_link _ _ _) (State.raise_eq _ _ _) "late" k⟩

end Sys2Proof.Proofs
end

section
/-! PROOFS. SHOWRESET, block by block, and the priming evaluation that follows it (R10, R41, R60, R82, R98, R121, R146, R159, R182, R191,
R204). -/

namespace Sys2Proof.Machine

open Sys2Proof

section
variable {s t u : State}

/-! ### The foldback section (R156, R159) -/

/-- The ramp a show reset begins on a bus: toward the talk depth, where a held line keeps talk active and the bus is a member (R156, R159). -/
def FoldbackBlock.resetRamp (b : FoldbackBlock) (k : FbId) : Option Ramp :=
  if (∃ n, b.heldLines.get n = true) ∧ (b.buses.get k).member = true ∧ b.talkDepth ≠ 0
    then some { start := 0, goal := -(b.talkDepth : Int), ms := 50, elapsed := 0 } else none

theorem resetRamp_begun {b : FoldbackBlock} {k : FbId} (hHeld : ∃ n, b.heldLines.get n = true) (hMember : (b.buses.get k).member = true) :
    b.resetRamp k = beginRamp 0 (-(b.talkDepth : Int)) 50 := by
  unfold FoldbackBlock.resetRamp beginRamp
  by_cases hDepth : b.talkDepth = 0
  · rw [if_neg fun h => h.2.2 hDepth, if_pos (show -(b.talkDepth : Int) = (0 : Int) by omega)]
  · rw [if_pos ⟨hHeld, hMember, hDepth⟩, if_neg (show ¬-(b.talkDepth : Int) = (0 : Int) by omega)]

/-- A bus at a show reset (R156, R159). -/
theorem showReset_bus (b : FoldbackBlock) (k : FbId) : b.showReset.buses.get k = { (b.buses.get k).showReset with ramp := b.resetRamp k } := by
  have hTalk : ({ b with buses := b.buses.map FbBus.showReset, talkCommand := false } : FoldbackBlock).talkActive = true ↔
      ∃ n, b.heldLines.get n = true := by
    unfold FoldbackBlock.talkActive
    rw [Bool.false_or]
    exact toList_any_id _
  have hNone : ¬((∃ n, b.heldLines.get n = true) ∧ (b.buses.get k).member = true) →
      (b.buses.get k).showReset = { (b.buses.get k).showReset with ramp := b.resetRamp k } := fun h => by
    unfold FoldbackBlock.resetRamp
    rw [if_neg fun e => h ⟨e.1, e.2.1⟩]
    rfl
  unfold FoldbackBlock.showReset
  dsimp only
  by_cases hHeld : ∃ n, b.heldLines.get n = true
  · rw [if_pos (hTalk.mpr hHeld)]
    unfold FoldbackBlock.rampMembers
    dsimp only
    rw [get_map, get_map]
    by_cases hMember : (b.buses.get k).member = true
    · rw [if_pos (show ((b.buses.get k).showReset).member = true from hMember), resetRamp_begun hHeld hMember]
      rfl
    · rw [if_neg (show ¬((b.buses.get k).showReset).member = true from hMember)]
      exact hNone fun h => hMember h.2
  · rw [if_neg fun h => hHeld (hTalk.mp h)]
    dsimp only
    rw [get_map]
    exact hNone fun h => hHeld h.1

theorem showReset_foldback (b : FoldbackBlock) : b.showReset = { b with buses := b.showReset.buses, talkCommand := false } := by
  unfold FoldbackBlock.showReset
  dsimp only
  split <;> rfl

/-! ### The state after a show reset -/

/-- A show reset leaves STANDBY_READY known and nothing owed (log 14). -/
theorem showReset_settled (s : State) : s.showReset.Settled := ⟨rfl, rfl, rfl⟩

/-! ### The priming evaluation that follows (R121) -/

/-- The evaluation a show reset left is taken once. -/
theorem showResetPriming_due (h : s.engine.primeDue = true) : s.showResetPriming = ((s.onEngine fun b => { b with primeDue := false }).evaluatePriming).finish := if_pos h

theorem showResetPriming_none (h : s.engine.primeDue = false) : s.showResetPriming = s := if_neg (by rw [h]; decide)

/-- An evaluation leaves no voice IDLE that the standby cue plays a sound with a record on (R117). -/
theorem evaluatePriming_busy {v : VoiceId} {n : SoundId} (hPlays : (v, n) ∈ s.standbyPlays) (hSound : s.fetch.sounds.get n ≠ none) :
    (s.evaluatePriming.voice v).state ≠ .idle := by
  have hOn : s.playsOn s.standbyPlays v := ⟨n, hPlays, hSound⟩
  rcases evaluatePriming_evaluated s v with ⟨-, hFree, h⟩ | ⟨-, hFree, -, -⟩ | ⟨-, base, -, ⟨m, d, stamp, -, -, hVoice⟩, -⟩
  · rw [h.voice]
    exact hFree.resolve_right fun h => h hOn
  · exact absurd hOn hFree
  · rw [hVoice]
    exact fun h => by cases h

end

end Sys2Proof.Machine

namespace Sys2Proof.Proofs

open Sys2Proof Sys2Proof.Machine

/-- Settles O48: each block's own reset, and the evaluation as an event taken once. -/
theorem showReset : Obligations.ShowReset := by
  refine ⟨fun s tag hReady => ?_, fun s hReset hCalm => ?_⟩
  · have hRow := hReady.accepts (exec_showReset s tag (.given ())) (x := fun s => "showreset standby=" ++ standbyText s.engine.standby)
      (t := s.showReset) rfl (showReset_settled s)
    refine ⟨_, hRow, rfl, rfl, rfl, rfl, rfl, rfl, rfl, rfl, rfl, rfl, rfl, fun row bus => ?_, fun bus => ?_, rfl, rfl, rfl, fun r => ?_, rfl, rfl, rfl,
      rfl, rfl, rfl, rfl, rfl, rfl, fun r => ?_, fun k => ?_, ?_, fun k => ?_, rfl, fun z => ?_, fun n => ?_⟩
    · exact (congrArg (fun xs : Vector LevelCode 25 => xs.get (colPos bus)) (get_replicate _ _)).trans (get_replicate _ _)
    · exact get_replicate _ _
    · exact get_map _ _ _
    · have hReader : (s.showReset.answered tag ("OK " ++ ("showreset standby=" ++ standbyText s.firstCue))).reader r = {} := get_replicate _ _
      refine ⟨?_, ?_, ?_, ?_⟩
      · exact hReader.symm ▸ ⟨rfl, rfl, rfl, rfl, rfl, rfl, rfl, rfl, rfl⟩
      · exact congrArg Reader.level hReader
      · exact congrArg Reader.underruns hReader
      · exact congrArg Reader.retries hReader
    · exact get_replicate _ _
    · exact showReset_foldback s.foldback
    · exact showReset_bus s.foldback k
    · exact get_map _ _ _
    · exact get_map _ _ _
  · obtain ⟨hSettled, hPrompt⟩ := hCalm
    rw [exec_showResetPriming, laterEvent_running hReset hPrompt]
    refine ⟨fun h => by rw [showResetPriming_none h, finish_of_settled hSettled], fun h => ?_⟩
    rw [showResetPriming_due h, finish_of_settled finish_settled]
    have hEvaluated : ∀ v n, (v, n) ∈ s.standbyPlays → s.fetch.sounds.get n ≠ none →
        ((s.onEngine fun b => { b with primeDue := false }).evaluatePriming.voice v).state ≠ .idle := fun v n hMem hSound =>
      evaluatePriming_busy (s := s.onEngine fun b => { b with primeDue := false }) hMem hSound
    obtain ⟨hKept, hMatrix, hCast, hMic, hFoldback, hRouter, hLines⟩ := State.evaluatePriming_frame (s.onEngine fun b => { b with primeDue := false })
    have hMarks := State.marks_evaluatePriming (s.onEngine fun b => { b with primeDue := false })
    have hOwed : (s.onEngine fun b => { b with primeDue := false }).evaluatePriming.owed = false := evaluatePriming_evalDue _
    generalize (s.onEngine fun b => { b with primeDue := false }).evaluatePriming = u at *
    obtain ⟨hKeptEnd, hMatrixEnd, hCastEnd, hMicEnd, hFoldbackEnd, hRouterEnd, hLinesEnd⟩ := State.finish_frame u
    obtain ⟨hFetch, -, -⟩ := finish_leaves hOwed
    have hMarksEnd := (State.marks_finish u).trans hMarks
    refine ⟨_, rfl, kept_link (hKeptEnd.trans hKept), ?_, ?_, ?_, fun v n hMem hSound => ?_⟩
    · refine (State.eq_at (hKeptEnd.trans hKept)).trans ?_
      rw [hMatrixEnd, hMatrix, hCastEnd, hCast, hMicEnd, hMic, hFoldbackEnd, hFoldback, hRouterEnd, hRouter, hLinesEnd, hLines]
      rfl
    · exact (marks_primeDue hMarksEnd).trans rfl
    · exact (marks_standby hMarksEnd).trans rfl
    · rw [show u.finish.voice v = u.voice v from reader_of_fetch hFetch _]
      exact hEvaluated v n hMem hSound

end Sys2Proof.Proofs
end

section
/-! PROOFS. The CUE report, the moves of the standby position, and HALT and RESUME (R101, R114, R118, R119). -/

namespace Sys2Proof.Machine

open Sys2Proof

section
variable {s t u : State} {pos : Option Nat}

/-! ### The CUE report (R119) -/

/-- An entry under a key after the key was reported is the one reported. -/
theorem upsert_entry {l : List Report} {key : ReportKey} {text : String} {r : Report} (hr : r ∈ upsert l key text) (hKey : r.key = key) :
    r.text = text := by
  unfold upsert at hr
  split at hr
  · obtain ⟨q, -, rfl⟩ := List.mem_map.mp hr
    split at hKey
    · rename_i h
      rw [if_pos h]
    · rename_i h
      exact absurd hKey h
  · rename_i hNone
    rcases List.mem_append.mp hr with hr | hr
    · exact absurd (List.any_eq_true.mpr ⟨r, hr, decide_eq_true hKey⟩) hNone
    · rw [List.mem_singleton.mp hr]

/-- The label a CUE report carries: none for no cue of the list, or for an empty one (R85, log 37). -/
theorem labelField_none {n : Option Nat} (h : n.bind s.cueAt = none) : s.labelField n = "" := by
  simp only [State.labelField, h, Option.map_none]

theorem labelField_some {n : Option Nat} {c : Cue} (h : n.bind s.cueAt = some c) :
    s.labelField n = if c.label = [] then "" else " label=" ++ nameText c.label := by
  simp only [State.labelField, h, Option.map_some]
  cases hLabel : c.label with
  | nil => rfl
  | cons x l =>
    rw [if_neg (List.cons_ne_nil x l)]

/-- The line of a CUE report as its event finds the engine (R119). -/
theorem cueReport_text (e : CueEvent) : (s.cueReport e).text (s.cueReport e).ready =
    "!CUE event=" ++ e.name ++ " cue=" ++ optText cueText e.cue ++ " slot=" ++ optText slotText e.slot ++ " run=" ++
        (if s.engine.halted then "halted" else "running") ++ " standby=" ++ standbyText s.engine.standby ++ " last=" ++
        optText cueText s.engine.lastFired ++ " instances=" ++ natText s.engine.insts.length ++ " chain=" ++
        chainText s.engine.chain ++ " ready=" ++ (if s.standbyReady then "yes" else "no") ++ " fired=" ++
        natText s.engine.fired ++ e.extra ++ s.labelField e.cue := by
  have hRun : ∀ x : String, " " ++ ("run=" ++ x) = " run=" ++ x := fun x => by
    rw [← String.append_assoc]
    rfl
  unfold CueReport.text State.cueReport State.engineHead runText yesNo
  simp only [String.append_assoc, hRun]

/-- A report of an enabled kind is in the report set under its key alone. -/
theorem raise_entry {key : ReportKey} {text : String} (h : key.kind ∉ s.link.disabled) :
    (∃ r ∈ (s.raise key text).link.reports, r.key = key) ∧ ∀ r ∈ (s.raise key text).link.reports, r.key = key → r.text = text := by
  have hReports : (s.raise key text).link.reports = upsert s.link.reports key text := by
    unfold State.raise
    rw [if_neg (by simpa using h)]
  rw [hReports]
  exact ⟨⟨_, mem_upsert_self _ _ _, rfl⟩, fun r hr hKey => upsert_entry hr hKey⟩

/-- The report of a cue event names the cue. -/
theorem raiseCue_raised_event (h : t.link.disabled = s.link.disabled) (e : CueEvent) :
    s.Raised (t.raiseCue e) .cue ("!CUE event=" ++ e.name ++ " cue=" ++ optText cueText e.cue) := by
  have hText : (t.cueReport e).text (t.cueReport e).ready = "" ++ (("!CUE event=" ++ e.name ++ " cue=" ++ optText cueText e.cue) ++
      (" slot=" ++ (optText slotText e.slot ++ (" " ++ (t.engineHead ++ (yesNo (t.cueReport e).ready ++ (t.cueReport e).tail)))))) := by
    simp [CueReport.text, State.cueReport, String.append_assoc]
  unfold State.raiseCue
  dsimp only
  rw [hText]
  exact State.raised_raise (s := s) (t := t.onEngine fun b => { b with opEvent := some (t.cueReport e) }) h _ _ _ _

/-- An operation that ends with a CUE report leaves that report as it was raised (R118). -/
theorem raiseCue_finish (hOwed : u.owed = false) (e : CueEvent) :
    (u.raiseCue e).finish = (u.raiseCue e).onEngine fun b => { b with readyShown := u.standbyReady, opEvent := none } := by
  have hEvent : (u.raiseCue e).engine.opEvent = some (u.cueReport e) := by rw [raiseCue_engine]
  have hReady := raiseCue_standbyReady u e
  have hSame : (u.cueReport e).ready = (u.raiseCue e).standbyReady := hReady.symm
  rw [finish_of_owed (by simpa using hOwed)]
  unfold State.settleReady
  dsimp only
  simp only [hEvent]
  rw [if_pos hSame, hReady]

/-! ### The standby position (R101) -/

theorem moveStandby_same (h : s.engine.standby = pos) : s.moveStandby pos = s := if_pos h

/-- The evaluation a move of the standby position leads to, made. -/
def State.moved (s : State) (pos : Option Nat) : State := (s.onEngine fun b => { b with standby := pos }).evaluatePriming

theorem moveStandby_changed (h : s.engine.standby ≠ pos) : s.moveStandby pos = (s.moved pos).raiseCue { name := "standby", cue := pos } := if_neg h

theorem moved_owed : (s.moved pos).owed = false := evaluatePriming_evalDue _

theorem moved_frame : (s.moved pos).kept = s.kept ∧ (s.moved pos).matrix = s.matrix ∧ (s.moved pos).cast = s.cast ∧ (s.moved pos).mic = s.mic ∧
    (s.moved pos).foldback = s.foldback ∧ (s.moved pos).router = s.router ∧ (s.moved pos).lines = s.lines :=
  State.evaluatePriming_frame (s.onEngine fun b => { b with standby := pos })

theorem moved_marks : (s.moved pos).marks = (s.onEngine fun b => { b with standby := pos }).marks := State.marks_evaluatePriming _

/-- What a move of the standby position leaves. -/
theorem moveStandby_changes (h : s.engine.standby ≠ pos) :
    (s.moveStandby pos).finish.kept = s.kept ∧
      (s.moveStandby pos).finish = { s with
        link := (s.moveStandby pos).finish.link, fades := (s.moveStandby pos).finish.fades
        engine := (s.moveStandby pos).finish.engine, fetch := (s.moveStandby pos).finish.fetch } ∧
      (s.moveStandby pos).finish.engine.standby = pos ∧ (s.moveStandby pos).finish.engine.lastFired = s.engine.lastFired ∧
      (s.moveStandby pos).finish.engine.halted = s.engine.halted ∧ (s.moveStandby pos).finish.engine.fired = s.engine.fired ∧
      s.Raised (s.moveStandby pos).finish .cue ("!CUE event=standby cue=" ++ optText cueText pos) := by
  obtain ⟨hKept, hMatrix, hCast, hMic, hFoldback, hRouter, hLines⟩ := moved_frame (s := s) (pos := pos)
  obtain ⟨hKeptCue, hMatrixCue, -, hCastCue, hMicCue, hFetchCue, hFoldbackCue, hRouterCue, hLinesCue⟩ :=
    State.raiseCue_frame (s.moved pos) { name := "standby", cue := pos }
  obtain ⟨hKeptEnd, hMatrixEnd, hCastEnd, hMicEnd, hFoldbackEnd, hRouterEnd, hLinesEnd⟩ :=
    State.finish_frame ((s.moved pos).raiseCue { name := "standby", cue := pos })
  have hMarks := (State.marks_finish ((s.moved pos).raiseCue { name := "standby", cue := pos })).trans ((State.marks_raiseCue _ _).trans moved_marks)
  have hAll := hKeptEnd.trans (hKeptCue.trans hKept)
  rw [moveStandby_changed h]
  refine ⟨hAll, (State.eq_at hAll).trans (by
      rw [hMatrixEnd, hMatrixCue, hMatrix, hCastEnd, hCastCue, hCast, hMicEnd, hMicCue, hMic, hFoldbackEnd, hFoldbackCue, hFoldback,
        hRouterEnd, hRouterCue, hRouter, hLinesEnd, hLinesCue, hLines]),
    (marks_standby hMarks).trans rfl, (marks_lastFired hMarks).trans rfl, (marks_halted hMarks).trans rfl, (marks_fired hMarks).trans rfl, ?_⟩
  have hRaised := raiseCue_raised_event (s := s) (kept_disabled hKept) { name := "standby", cue := pos }
  rw [show "!CUE event=" ++ "standby" ++ " cue=" = "!CUE event=standby cue=" by decide] at hRaised
  rw [raiseCue_finish moved_owed]
  generalize (s.moved pos).raiseCue { name := "standby", cue := pos } = w at *
  dsimp only at hRaised
  exact hRaised.congr rfl

/-- What BACK and JUMP leave, the position they come to known. -/
theorem moveStandby_leaves (hSettled : s.Settled) (pos : Option Nat) :
    (s.moveStandby pos).finish.kept = s.kept ∧
      (s.moveStandby pos).finish = { s with
        link := (s.moveStandby pos).finish.link, fades := (s.moveStandby pos).finish.fades
        engine := (s.moveStandby pos).finish.engine, fetch := (s.moveStandby pos).finish.fetch } ∧
      (s.moveStandby pos).finish.engine.standby = pos ∧ (s.moveStandby pos).finish.engine.lastFired = s.engine.lastFired ∧
      (s.moveStandby pos).finish.engine.halted = s.engine.halted ∧ (s.moveStandby pos).finish.engine.fired = s.engine.fired ∧
      (s.engine.standby = pos → (s.moveStandby pos).finish = s) ∧
      (s.engine.standby ≠ pos → s.Raised (s.moveStandby pos).finish .cue ("!CUE event=standby cue=" ++ optText cueText pos)) := by
  by_cases h : s.engine.standby = pos
  · rw [moveStandby_same h, finish_of_settled hSettled]
    exact ⟨rfl, rfl, h, rfl, rfl, rfl, fun _ => rfl, fun hNot => absurd h hNot⟩
  · obtain ⟨hKept, hAt, hStandby, hLast, hHalted, hFired, hRaised⟩ := moveStandby_changes h
    exact ⟨hKept, hAt, hStandby, hLast, hHalted, hFired, fun hSame => absurd hSame h, fun _ => hRaised⟩

theorem backPosition_end (h : s.engine.standby = none) : s.backPosition = s.lastCue := by simp only [State.backPosition, h]

theorem backPosition_first {n : Nat} (h : s.engine.standby = some n) (hFirst : s.cueBefore n = none) : s.backPosition = some n := by
  simp only [State.backPosition, h, hFirst]

theorem backPosition_before {n m : Nat} (h : s.engine.standby = some n) (hBefore : s.cueBefore n = some m) : s.backPosition = some m := by
  simp only [State.backPosition, h, hBefore]

theorem jumpTo_eq {n : Nat} (hRange : cueInRange n = true) (hCue : s.cueAt n ≠ none) :
    jumpTo n s = (s.moveStandby (some n)).replies State.positionText := by
  unfold jumpTo
  have hSome : (s.cueAt n).isNone = false := Option.isNone_eq_false_iff.mpr (Option.isSome_iff_ne_none.mpr hCue)
  rw [hRange, hSome]
  simp only [Bool.not_true, refuseIf_false, ok_bind]

/-! ### The run state (R114) -/

theorem setRun_same {halted : Bool} (h : s.engine.halted = halted) : s.setRun halted = s := if_pos h

/-- A change of the run state, reported. -/
theorem setRun_leaves (hSettled : s.Settled) (halted : Bool) :
    (s.setRun halted).finish = { s with link := (s.setRun halted).finish.link, engine := { s.engine with halted := halted } } ∧
      (s.setRun halted).finish.kept = s.kept ∧
      (s.engine.halted = halted → (s.setRun halted).finish.link.reports = s.link.reports) ∧
      (s.engine.halted ≠ halted → s.Raised (s.setRun halted).finish .cue ("!CUE event=" ++ if halted then "halted" else "resumed")) := by
  by_cases h : s.engine.halted = halted
  · rw [setRun_same h, finish_of_settled hSettled]
    subst h
    exact ⟨rfl, rfl, fun _ => rfl, fun hNot => absurd rfl hNot⟩
  · have hSet : s.setRun halted = (s.onEngine fun b => { b with halted := halted }).raiseCue { name := if halted then "halted" else "resumed" } := if_neg h
    have hOwed : (s.onEngine fun b => { b with halted := halted }).owed = false := hSettled.1
    have hReady : (s.onEngine fun b => { b with halted := halted }).standbyReady = s.engine.readyShown := hSettled.2.2.symm
    have hRaised := raiseCue_raised_event (s := s) (t := s.onEngine fun b => { b with halted := halted }) rfl
      { name := if halted then "halted" else "resumed" }
    have hFrame := State.raiseCue_frame (s.onEngine fun b => { b with halted := halted }) { name := if halted then "halted" else "resumed" }
    rw [hSet, raiseCue_finish hOwed]
    refine ⟨?_, hFrame.1.trans rfl, fun hSame => absurd hSame h, fun _ => ?_⟩
    · have hEngine := raiseCue_engine (s.onEngine fun b => { b with halted := halted }) { name := if halted then "halted" else "resumed" }
      generalize (s.onEngine fun b => { b with halted := halted }).raiseCue { name := if halted then "halted" else "resumed" } = w at *
      obtain ⟨hKept, hMatrix, hFades, hCast, hMic, hFetch, hFoldback, hRouter, hLines⟩ := hFrame
      have hAll : (w.onEngine fun b => { b with readyShown := (s.onEngine fun b => { b with halted := halted }).standbyReady, opEvent := none }).kept =
          s.kept := hKept.trans rfl
      refine (State.eq_at hAll).trans ?_
      have hBlock : ({ w.engine with readyShown := (s.onEngine fun b => { b with halted := halted }).standbyReady, opEvent := none } : EngineBlock) =
          { s.engine with halted := halted } := by
        rw [hEngine, hReady]
        show ({ s.engine with halted := halted, opEvent := none } : EngineBlock) = _
        rw [← hSettled.2.1]
      show ({ s with
          link := w.link, matrix := w.matrix, fades := w.fades, cast := w.cast, mic := w.mic, fetch := w.fetch, foldback := w.foldback
          router := w.router, lines := w.lines
          engine := { w.engine with readyShown := (s.onEngine fun b => { b with halted := halted }).standbyReady, opEvent := none } } : State) = _
      rw [hBlock, hMatrix, hFades, hCast, hMic, hFetch, hFoldback, hRouter, hLines]
      rfl
    · exact State.Raised.part hRaised (before := "") (after := " cue=" ++ optText cueText none) (by simp [String.append_assoc])

end

end Sys2Proof.Machine

namespace Sys2Proof.Proofs

open Sys2Proof Sys2Proof.Machine

/-- Settles O40: the line of a CUE report, the moves of the standby position, and the run state. -/
theorem engineCommands : Obligations.EngineCommands := by
  refine ⟨fun s e hEnabled => ?_, fun s tag c pos hReady hCase => ?_, fun s tag halted hReady => ?_⟩
  · have hEntry := raise_entry (s := s.onEngine fun b => { b with opEvent := some (s.cueReport e) }) (key := .cue)
      (text := (s.cueReport e).text (s.cueReport e).ready) hEnabled
    refine ⟨hEntry.1, fun r hr hKey => ?_⟩
    rw [hEntry.2 r hr hKey, cueReport_text]
    cases hCue : e.cue.bind s.cueAt with
    | none => rw [labelField_none hCue]
    | some c => rw [labelField_some hCue]
  · have hPosition : exec c s = .next ((s.moveStandby pos).finish.answered tag ("OK " ++ (s.moveStandby pos).finish.positionText)) := by
      have hBack : s.backPosition = pos → exec (.back tag (.given ())) s =
          .next ((s.moveStandby pos).finish.answered tag ("OK " ++ (s.moveStandby pos).finish.positionText)) := fun h =>
        hReady.accepted (exec_back s tag (.given ())) (h ▸ rfl)
      rcases hCase with ⟨rfl, ⟨hEnd, rfl⟩ | ⟨n, hCue, ⟨hFirst, rfl⟩ | ⟨m, hBefore, rfl⟩⟩⟩ | ⟨n, rfl, hRange, hCue, rfl⟩
      · exact hBack (backPosition_end hEnd)
      · exact hBack (backPosition_first hCue hFirst)
      · exact hBack (backPosition_before hCue hBefore)
      · exact hReady.accepted (exec_jump s tag (.given n)) (jumpTo_eq hRange hCue)
    obtain ⟨hKept, hAt, hStandby, hLast, hHalted, hFired, hSame, hRaised⟩ := moveStandby_leaves hReady.2 pos
    generalize (s.moveStandby pos).finish = w at *
    refine ⟨_, hPosition, ?_, congrArg (fun t : State => t.answered tag _) hAt, hStandby, hLast, hHalted, hFired, fun h => ?_, fun h => hRaised h⟩
    · have hReply := State.replied_of hKept tag ("OK " ++ w.positionText)
      unfold State.positionText at hReply ⊢
      rw [hStandby] at hReply ⊢
      exact hReply
    · obtain rfl := hSame h
      exact ⟨rfl, rfl, rfl, rfl⟩
  · have hRow : exec (if halted then .halt tag (.given ()) else .resume tag (.given ())) s = .next ((s.setRun halted).finish.answered tag
        (if halted then "OK run=halted" else "OK run=running")) := by
      cases halted with
      | true => exact hReady.accepted (exec_halt s tag (.given ())) rfl
      | false => exact hReady.accepted (exec_resume s tag (.given ())) rfl
    obtain ⟨hAt, hKept, hSame, hRaised⟩ := setRun_leaves hReady.2 halted
    generalize (s.setRun halted).finish = w at *
    exact ⟨_, hRow, State.replied_of hKept tag _, congrArg (fun t : State => t.answered tag _) hAt, hSame, hRaised⟩

end Sys2Proof.Proofs
end

section
/-! PROOFS. STOP ALL (R37, R115, log 46). -/

namespace Sys2Proof.Machine

open Sys2Proof

section
variable {s t u : State} {v w : VoiceId} {ms : Nat}

/-! ### A stop of one voice beside the others -/

theorem State.VoiceHeld.enterIdle (hOther : w ≠ v) (event : String) : s.VoiceHeld v (s.enterIdle (voiceReader w) event) :=
  ⟨.enterIdle hOther event, enterIdle_fadeOf (fun x hx h => by cases hx; exact hOther (voiceReader_injective h)) event⟩

/-- The pool after a fade on a voice that the pool has room for: the record of the voice new, or one more. -/
theorem requestFade_pool (x : Target) (c : LevelCode) (o : Option InstSlot) (b : Bool) (hLevel : s.levelOf x ≠ c)
    (hRoom : (s.fadeOf x).isSome ∨ s.fades.pool.length < 256) :
    ((s.fadeOf x).isSome ∧ (s.requestFade x c ms o b).fades.pool =
        s.fades.pool.map fun f => if f.target = x then newFade x (s.levelOf x) c ms o b else f) ∨
      (s.fadeOf x = none ∧ (s.requestFade x c ms o b).fades.pool = s.fades.pool ++ [newFade x (s.levelOf x) c ms o b]) := by
  rcases s.fade_cases x c with h | ⟨-, hEq⟩ | ⟨h, -, hLess⟩ | ⟨h, -, hFull⟩
  · exact .inl ⟨h, by rw [requestFade_replaced_fades ms o b h]⟩
  · exact absurd hEq hLevel
  · exact .inr ⟨h, by rw [requestFade_made_fades ms o b h hLevel hLess]⟩
  · exact absurd hRoom (not_or.mpr ⟨by rw [h]; decide, Nat.not_lt.mpr hFull⟩)

/-- A fade on one target leaves the record of another. -/
theorem requestFade_fadeOf_ne {x y : Target} (hy : y ≠ x) (c : LevelCode) (o : Option InstSlot) (b : Bool) (hLevel : s.levelOf x ≠ c)
    (hRoom : (s.fadeOf x).isSome ∨ s.fades.pool.length < 256) : (s.requestFade x c ms o b).fadeOf y = s.fadeOf y := by
  have hNew : ¬(newFade x (s.levelOf x) c ms o b).target = y := fun h => hy h.symm
  unfold State.fadeOf
  rcases requestFade_pool (ms := ms) x c o b hLevel hRoom with ⟨-, hPool⟩ | ⟨-, hPool⟩
  · rw [hPool]
    induction s.fades.pool with
    | nil => rfl
    | cons f l ih =>
      rw [List.map_cons, List.find?_cons, List.find?_cons]
      by_cases hf : f.target = x
      · rw [if_pos hf, decide_eq_false hNew, decide_eq_false fun h => hy (h.symm.trans hf)]
        exact ih
      · rw [if_neg hf]
        split
        · rfl
        · exact ih
  · rw [hPool, List.find?_append, List.find?_cons, decide_eq_false hNew]
    exact Option.or_none

theorem State.VoiceHeld.stopVoice (hOther : w ≠ v) (ms : Nat) (o : Option InstSlot) : s.VoiceHeld v (s.stopVoice w ms o) := by
  have hTarget : Target.voice v ≠ .voice w := fun h => hOther (Target.voice.inj h).symm
  rcases stopVoice_forms s w ms o with h | ⟨event, h⟩ | ⟨hLevel, hRoom, h⟩ | h
  · rw [h]
    exact .refl s
  · rw [h]
    exact .enterIdle hOther event
  · rw [h]
    refine ⟨⟨reader_of_fetch (requestFade_readers _ _ _ hLevel hRoom) _, ?_⟩, requestFade_fadeOf_ne hTarget _ _ _ hLevel hRoom⟩
    exact (State.StandsBut.refl s).requestFade (fun h => by cases h) (fun h => by cases h) _ _ _ _ _
  · rw [h]
    refine State.VoiceHeld.trans ⟨⟨?_, ?_⟩, ?_⟩ (.enterIdle hOther _)
    · refine (reader_of_fetch (poolFullSnap_voice (-180)) _).trans ?_
      rw [reader_onReader, if_neg fun h => hOther (voiceReader_injective h)]
      rfl
    · exact (State.StandsBut.refl s).poolFullSnap (fun h => by cases h) _ _
    · exact fadeOf_congr (by rw [poolFullSnap_fades]) _

theorem stopVoice_length (s : State) (v : VoiceId) (ms : Nat) (o : Option InstSlot) :
    (s.stopVoice v ms o).fades.pool.length ≤ s.fades.pool.length + 1 := by
  have hIdle : ∀ (w : State) event, (w.enterIdle (voiceReader v) event).fades.pool.length ≤ w.fades.pool.length := fun w event =>
    (State.Drops.enterIdle w (voiceReader v) event).pool.length_le
  rcases stopVoice_forms s v ms o with h | ⟨event, h⟩ | ⟨hLevel, hRoom, h⟩ | h
  · rw [h]
    omega
  · rw [h]
    have := hIdle s event
    omega
  · rw [h]
    rcases requestFade_pool (ms := ms) (.voice v) (-180) o true hLevel hRoom with ⟨-, hPool⟩ | ⟨-, hPool⟩
    · rw [hPool, List.length_map]
      omega
    · rw [hPool, List.length_append]
      simp
  · rw [h]
    have hPool := hIdle (s.poolFullSnap (.voice v) (-180)) "stopped"
    rw [poolFullSnap_fades] at hPool
    dsimp only at hPool
    omega

/-! ### With no `Inst` in the table nothing is told (R115) -/

theorem enterIdle_vacant_eq (h : s.engine.insts = []) (event : String) : s.enterIdle (voiceReader v) event =
    ((((s.clearRing (voiceReader v)).onReader (voiceReader v) Reader.toIdle).raiseReader (voiceReader v) event).dropFade (.voice v)).callEvaluation v := by
  have hLost : (((s.clearRing (voiceReader v)).onReader (voiceReader v) Reader.toIdle).raiseReader (voiceReader v) event).engine.insts = [] := by
    rw [(State.raiseReader_frame _ _ _).2.2.2.2.2.1]
    exact h
  unfold State.enterIdle
  dsimp only
  rw [readerKind_voiceReader]
  dsimp only
  generalize ((s.clearRing (voiceReader v)).onReader (voiceReader v) Reader.toIdle).raiseReader (voiceReader v) event = w at *
  rw [removeFade_eq, State.ownerDone_vacant (s := w.dropFade (.voice v)) hLost, State.ownerDone_vacant (s := w.dropFade (.voice v)) hLost]

/-- What the endings of STOP ALL leave: of the engine all but an evaluation owed, every report but those of voices and FADE, the records on
crosspoints, and the call players. -/
structure State.Ends (s t : State) : Prop where
  engine : t.engine = { s.engine with evalDue := t.engine.evalDue }
  reports : s.StandsBut (· ≠ .cue) t
  xpts : ∀ f row bus, f.target = .xpt row bus → (f ∈ t.fades.pool ↔ f ∈ s.fades.pool)
  players : ∀ p : PlayerId, t.reader (playerReader p) = s.reader (playerReader p)

theorem State.Ends.refl (s : State) : s.Ends s := ⟨rfl, .refl s, fun _ _ _ _ => Iff.rfl, fun _ => rfl⟩

theorem State.Ends.trans (h : s.Ends t) (h' : t.Ends u) : s.Ends u := by
  refine ⟨?_, h.reports.trans h'.reports, fun f row bus hf => (h'.xpts f row bus hf).trans (h.xpts f row bus hf),
    fun p => (h'.players p).trans (h.players p)⟩
  have hEngine := h'.engine
  rw [h.engine] at hEngine
  exact hEngine

theorem State.Ends.insts (h : s.Ends t) (hVacant : s.engine.insts = []) : t.engine.insts = [] := by
  rw [h.engine]
  exact hVacant

theorem dropFade_xpt {f : Fade} {row : Row} {bus : Bus} (hf : f.target = .xpt row bus) : f ∈ (s.dropFade (.voice v)).fades.pool ↔ f ∈ s.fades.pool := by
  have hTarget : f.target ≠ .voice v := fun h => by rw [hf] at h; cases h
  exact ⟨fun h => (List.mem_filter.mp h).1, fun h => List.mem_filter.mpr ⟨h, decide_eq_true hTarget⟩⟩

theorem State.Ends.raiseVoice (h : s.Ends t) (v : VoiceId) (event : String) : s.Ends (t.raiseReader (voiceReader v) event) := by
  obtain ⟨-, -, hFades, -, -, hEngine, hFetch, -, -, -⟩ := State.raiseReader_frame t (voiceReader v) event
  refine ⟨by rw [hEngine]; exact h.engine, h.reports.raiseReader (by rw [readerKey_voice]; exact fun h => by cases h) _, ?_, fun p => ?_⟩
  · rw [hFades]
    exact h.xpts
  · rw [reader_of_fetch hFetch]
    exact h.players p

theorem State.Ends.onVoice (h : s.Ends t) (v : VoiceId) (f : Reader → Reader) : s.Ends (t.onReader (voiceReader v) f) := by
  refine ⟨h.engine, h.reports.congr rfl, h.xpts, fun p => ?_⟩
  rw [reader_onReader, if_neg (voiceReader_ne_playerReader v p)]
  exact h.players p

theorem State.Ends.clearVoice (h : s.Ends t) (v : VoiceId) : s.Ends (t.clearRing (voiceReader v)) :=
  State.Ends.onVoice (t := t.onFetch fun b => { b with tags := b.tags.map (StoreTag.orphan (voiceReader v)) })
    ⟨h.engine, h.reports.congr rfl, h.xpts, h.players⟩ v _

theorem State.Ends.dropVoice (h : s.Ends t) (v : VoiceId) : s.Ends (t.dropFade (.voice v)) :=
  ⟨h.engine, h.reports.congr rfl, fun f row bus hf => (dropFade_xpt hf).trans (h.xpts f row bus hf), h.players⟩

theorem State.Ends.owe (h : s.Ends t) (b : Bool) : s.Ends (t.onEngine fun e => { e with evalDue := b }) := by
  refine ⟨?_, h.reports.congr rfl, h.xpts, h.players⟩
  show ({ t.engine with evalDue := b } : EngineBlock) = _
  rw [h.engine]
  rfl

theorem State.Ends.enterIdle (h : s.engine.insts = []) (v : VoiceId) (event : String) : s.Ends (s.enterIdle (voiceReader v) event) := by
  have hDropped := ((((State.Ends.refl s).clearVoice v).onVoice v Reader.toIdle).raiseVoice v event).dropVoice v
  rw [enterIdle_vacant_eq h]
  unfold State.callEvaluation
  split
  · exact hDropped.owe true
  · exact hDropped

theorem State.Ends.stopVoice (h : s.engine.insts = []) (v : VoiceId) (ms : Nat) : s.Ends (s.stopVoice v ms none) := by
  rcases stopVoice_forms s v ms none with hForm | ⟨event, hForm⟩ | ⟨hLevel, hRoom, hForm⟩ | hForm
  · rw [hForm]
    exact .refl s
  · rw [hForm]
    exact .enterIdle h v event
  · rw [hForm]
    refine ⟨?_, ?_, fun f row bus hf => ?_, fun p => reader_of_fetch (requestFade_readers _ _ _ hLevel hRoom) _⟩
    · rcases s.fade_cases (.voice v) (-180) with h' | ⟨-, hEq⟩ | ⟨h', -, hLess⟩ | ⟨h', -, hMore⟩
      · rw [requestFade_replaced ms none true h', State.ownerDone_vacant (by exact h)]
        rfl
      · exact absurd hEq hLevel
      · rw [requestFade_made ms none true h' hLevel hLess]
        rfl
      · exact absurd hRoom (not_or.mpr ⟨by rw [h']; decide, Nat.not_lt.mpr hMore⟩)
    · rcases s.fade_cases (.voice v) (-180) with h' | ⟨-, hEq⟩ | ⟨h', -, hLess⟩ | ⟨h', -, hMore⟩
      · rw [requestFade_replaced ms none true h', State.ownerDone_vacant (by exact h)]
        exact (State.StandsBut.refl s).congr rfl
      · exact absurd hEq hLevel
      · rw [requestFade_made ms none true h' hLevel hLess]
        exact (State.StandsBut.refl s).congr rfl
      · exact absurd hRoom (not_or.mpr ⟨by rw [h']; decide, Nat.not_lt.mpr hMore⟩)
    · have hNew : ∀ g : Fade, g.target = .voice v → g ≠ f := fun g hg hEq => by
        rw [hEq, hf] at hg
        cases hg
      rcases requestFade_pool (ms := ms) (.voice v) (-180) none true hLevel hRoom with ⟨-, hPool⟩ | ⟨-, hPool⟩
      · rw [hPool, List.mem_map]
        refine ⟨fun ⟨g, hg, hEq⟩ => ?_, fun hMem => ⟨f, hMem, if_neg fun h => hNew f h rfl⟩⟩
        split at hEq
        · exact absurd hEq (hNew _ rfl)
        · exact hEq ▸ hg
      · rw [hPool, List.mem_append, List.mem_singleton]
        exact ⟨fun hMem => hMem.resolve_right fun h => hNew _ rfl h.symm, .inl⟩
  · rw [hForm]
    have hSnap : s.Ends (s.poolFullSnap (.voice v) (-180)) := by
      refine ⟨?_, (State.StandsBut.refl s).poolFullSnap (fun h => by cases h) _ _, fun f _ _ _ => by rw [poolFullSnap_fades], fun p => ?_⟩
      · unfold State.poolFullSnap
        rw [State.raise_engine]
        rfl
      · rw [reader_of_fetch (poolFullSnap_voice (-180)), reader_onReader, if_neg (voiceReader_ne_playerReader v p)]
    exact hSnap.trans (.enterIdle (hSnap.insts h) v _)

theorem State.Ends.prime (v : VoiceId) (n : SoundId) : s.Ends (s.prime v n) := by
  cases h : s.soundRec n with
  | none => rw [prime_none h]; exact .refl s
  | some d =>
    rw [prime_eq h]
    exact ((State.Ends.onVoice (t := s.onFetch fun b => { b with nextPrimeStamp := s.fetch.nextPrimeStamp + 1 })
      ⟨rfl, (State.StandsBut.refl s).congr rfl, fun _ _ _ _ => Iff.rfl, fun _ => rfl⟩ v _).raiseVoice v _)

/-- An evaluation with no `Inst` in the table tells nothing. -/
theorem State.Ends.evaluatePriming (h : s.engine.insts = []) : s.Ends s.evaluatePriming := by
  have hReleases : s.Ends ((List.finRange 24).foldl State.releaseUnwanted s) :=
    foldl_holds (P := fun t => s.Ends t) (f := State.releaseUnwanted) (fun t v ht => by
      rw [releaseUnwanted_eq]
      split
      · exact ht.trans (.enterIdle (ht.insts h) v _)
      · exact ht) _ (.refl s)
  have hPrimes : ∀ l : List (VoiceId × SoundId), s.Ends (l.foldl State.primeWanted ((List.finRange 24).foldl State.releaseUnwanted s)) := fun l =>
    foldl_holds (P := fun t => s.Ends t) (f := State.primeWanted) (fun t e ht => by
      unfold State.primeWanted
      split
      · exact ht.trans (.prime _ _)
      · exact ht) _ hReleases
  unfold State.evaluatePriming
  exact (hPrimes _).owe false

/-! ### The parts of STOP ALL -/

/-- The instances gone (R115). -/
def State.emptied (s : State) : State := s.onEngine fun b => { b with insts := [] }

/-- The voices in STARTING sent to IDLE (R115, step 1). -/
def State.startsStopped (s : State) : State :=
  s.startingVoices.foldl (fun s v => s.enterIdle (voiceReader v) "stopped") s.emptied

/-- The sounding voices stopped over a time (R37, R115, step 2). -/
def State.soundsStopped (s : State) (ms : Nat) : State := s.soundingVoices.foldl (fun s v => s.stopVoice v ms none) s.startsStopped

/-- No record owned: those on crosspoints gone, the others without their owner (R37, R115). -/
def State.unowned (s : State) : State := s.onFades fun b =>
  { b with pool := (b.pool.filter fun f => !f.ownedCrosspoint).map fun f => { f with owner := none } }

/-- STOP ALL before its report (R115). -/
def State.stopsAll (s : State) (ms : Nat) : State :=
  ((s.soundsStopped ms).unowned).onEngine fun b => { b with chain := none, halted := false }

theorem stopAll_eq (s : State) (ms : Nat) : s.stopAll ms =
    (s.stopsAll ms).raiseCue { name := "stopall", extra := " retired=" ++ natText s.engine.insts.length } := rfl

theorem soundsStopped_ends (s : State) (ms : Nat) : s.emptied.Ends (s.soundsStopped ms) := by
  have hStarts : s.emptied.Ends s.startsStopped :=
    foldl_holds (P := fun t => s.emptied.Ends t) (f := fun (t : State) v => t.enterIdle (voiceReader v) "stopped")
      (fun _ v ht => ht.trans (.enterIdle (ht.insts rfl) v _)) _ (.refl _)
  exact foldl_holds (P := fun t => s.emptied.Ends t) (f := fun (t : State) v => t.stopVoice v ms none)
    (fun _ v ht => ht.trans (.stopVoice (ht.insts rfl) v ms)) _ hStarts

/-- A fold over voices that leaves what it is not at leaves a voice before and after its turn. -/
theorem foldl_turn {f : State → VoiceId → State} {R : State → State → Prop} (hRefl : ∀ s, R s s) (hTrans : ∀ {s t u}, R s t → R t u → R s u)
    (hOther : ∀ (s : State) w, w ≠ v → R s (f s w)) {l : List VoiceId} (hl : l.Nodup) (hMem : v ∈ l) (s : State) :
    ∃ l₁ : List VoiceId, l₁.length < l.length ∧ R s (l₁.foldl f s) ∧ R (f (l₁.foldl f s) v) (l.foldl f s) := by
  have hFold : ∀ (l : List VoiceId) (t : State), v ∉ l → R t (l.foldl f t) := by
    intro l
    induction l with
    | nil => exact fun t _ => hRefl t
    | cons w l ih =>
      exact fun t hNot => hTrans (hOther t w fun h => hNot (h ▸ List.mem_cons_self)) (ih _ fun h => hNot (List.mem_cons_of_mem _ h))
  obtain ⟨l₁, l₂, rfl⟩ := List.append_of_mem hMem
  obtain ⟨-, hRest, hDisjoint⟩ := List.nodup_append.mp hl
  refine ⟨l₁, by rw [List.length_append, List.length_cons]; omega, hFold l₁ s fun h => hDisjoint v h v List.mem_cons_self rfl, ?_⟩
  rw [List.foldl_append, List.foldl_cons]
  exact hFold l₂ _ (List.nodup_cons.mp hRest).1

theorem foldl_apart {f : State → VoiceId → State} {R : State → State → Prop} (hRefl : ∀ s, R s s) (hTrans : ∀ {s t u}, R s t → R t u → R s u)
    (hOther : ∀ (s : State) w, w ≠ v → R s (f s w)) {l : List VoiceId} (hMem : v ∉ l) (s : State) : R s (l.foldl f s) := by
  induction l generalizing s with
  | nil => exact hRefl s
  | cons w l ih => exact hTrans (hOther s w fun h => hMem (h ▸ List.mem_cons_self)) (ih (fun h => hMem (List.mem_cons_of_mem _ h)) _)

theorem pick_nodup {n : Nat} (p : Fin n → Bool) : (pick p).Nodup := (List.nodup_finRange n).filter _

theorem pick_length {n : Nat} (p : Fin n → Bool) : (pick p).length ≤ n := by
  have h := List.length_filter_le p (List.finRange n)
  rw [List.length_finRange] at h
  exact h

theorem unowned_fadeOf (v : VoiceId) : s.unowned.fadeOf (.voice v) = (s.fadeOf (.voice v)).map fun f => { f with owner := none } := by
  unfold State.fadeOf State.unowned State.onFades
  dsimp only
  rw [List.find?_map, List.find?_filter]
  refine congrArg (Option.map _) (congrArg (List.find? · s.fades.pool) (funext fun f => ?_))
  by_cases h : f.target = .voice v
  · simp [Fade.ownedCrosspoint, h]
  · simp [h]

/-- The last steps of STOP ALL leave the voices and their reports. -/
theorem stopAll_stands (s : State) (ms : Nat) (v : VoiceId) : (s.soundsStopped ms).VoiceStands v (s.stopAll ms) := by
  rw [stopAll_eq]
  refine ⟨?_, ?_⟩
  · exact reader_of_fetch ((State.raiseCue_frame _ _).2.2.2.2.2.1) _
  · refine State.StandsBut.raiseCue (fun h => by cases h) ?_ _
    exact (State.StandsBut.refl _).congr rfl

/-! ### One voice through STOP ALL -/

theorem mem_startingVoices : v ∈ s.startingVoices ↔ (s.voice v).state = .starting := by
  unfold State.startingVoices
  rw [mem_pick, decide_eq_true_iff]

theorem mem_soundingVoices : v ∈ s.soundingVoices ↔ (s.voice v).sounding := by
  unfold State.soundingVoices Reader.sounding
  rw [mem_pick, decide_eq_true_iff]

theorem startsStopped_apart (h : (s.voice v).state ≠ .starting) : s.emptied.VoiceHeld v s.startsStopped :=
  foldl_apart .refl (fun h h' => h.trans h') (fun _ _ hw => .enterIdle hw _) (fun hMem => h (mem_startingVoices.mp hMem)) _

theorem soundsStopped_apart (h : ¬(s.voice v).sounding) : s.startsStopped.VoiceHeld v (s.soundsStopped ms) :=
  foldl_apart .refl (fun h h' => h.trans h') (fun _ _ hw => .stopVoice hw _ _) (fun hMem => h (mem_soundingVoices.mp hMem)) _

/-- A voice in STARTING is sent to IDLE at its turn, and stays so. -/
theorem stopAll_starting (h : (s.voice v).state = .starting) :
    ∃ w : State, w.voice v = s.voice v ∧ w.link.disabled = s.link.disabled ∧ (w.enterIdle (voiceReader v) "stopped").VoiceStands v (s.stopAll ms) := by
  obtain ⟨l, -, hBefore, hAfter⟩ := foldl_turn (f := fun s v => s.enterIdle (voiceReader v) "stopped") (R := State.VoiceHeld v) .refl
    (fun h h' => h.trans h') (fun _ _ hw => .enterIdle hw _) (pick_nodup _) (mem_startingVoices.mpr h) s.emptied
  have hSounds : s.startsStopped.VoiceHeld v (s.soundsStopped ms) := soundsStopped_apart fun hSounding => by
    unfold Reader.sounding at hSounding
    rw [h] at hSounding
    rcases hSounding with h | h <;> cases h
  have hKept : (l.foldl (fun (s : State) v => s.enterIdle (voiceReader v) "stopped") s.emptied).kept = s.emptied.kept :=
    foldl_keeps State.kept (fun (s : State) v => s.enterIdle (voiceReader v) "stopped") (fun t w => (State.enterIdle_frame t _ _).1) l _
  exact ⟨_, hBefore.voice, kept_disabled hKept, (hAfter.toVoiceStands.trans hSounds.toVoiceStands).trans (stopAll_stands s ms v)⟩

/-- A sounding voice is stopped at its turn, with the record it had and room for at least as many more as there are voices. -/
theorem stopAll_sounding (h : (s.voice v).sounding) (ms : Nat) :
    ∃ w : State, w.voice v = s.voice v ∧ w.link.disabled = s.link.disabled ∧ w.fadeOf (.voice v) = s.fadeOf (.voice v) ∧
      w.fades.pool.length < s.fades.pool.length + 24 ∧ (w.stopVoice v ms none).VoiceHeld v (s.soundsStopped ms) := by
  have hStarts : s.emptied.VoiceHeld v s.startsStopped := startsStopped_apart fun hStarting => by
    unfold Reader.sounding at h
    rw [hStarting] at h
    rcases h with h | h <;> cases h
  obtain ⟨l, hShort, hBefore, hAfter⟩ := foldl_turn (f := fun s v => s.stopVoice v ms none) (R := State.VoiceHeld v) .refl
    (fun h h' => h.trans h') (fun _ _ hw => .stopVoice hw _ _) (pick_nodup _) (mem_soundingVoices.mpr h) s.startsStopped
  have hLength : ∀ (l : List VoiceId) (t : State), (l.foldl (fun (s : State) v => s.stopVoice v ms none) t).fades.pool.length ≤
      t.fades.pool.length + l.length := by
    intro l
    induction l with
    | nil => exact fun t => Nat.le_refl _
    | cons w l ih =>
      intro t
      have hStep := stopVoice_length t w ms none
      have hRest := ih (t.stopVoice w ms none)
      rw [List.foldl_cons, List.length_cons]
      omega
  have hDrops : s.emptied.Drops s.startsStopped :=
    foldl_holds (P := fun t => s.emptied.Drops t) (f := fun (t : State) v => t.enterIdle (voiceReader v) "stopped")
      (fun _ v ht => ht.trans (.enterIdle _ _ _)) _ (.refl _)
  have hPool : s.startsStopped.fades.pool.length ≤ s.fades.pool.length := hDrops.pool.length_le
  have hKept : (l.foldl (fun (s : State) v => s.stopVoice v ms none) s.startsStopped).kept = s.emptied.kept :=
    (foldl_keeps State.kept (fun (s : State) v => s.stopVoice v ms none) (fun t w => (State.stopVoice_frame t _ _ _).1) l _).trans
      (foldl_keeps State.kept (fun (s : State) v => s.enterIdle (voiceReader v) "stopped") (fun t w => (State.enterIdle_frame t _ _).1) _ _)
  have hLong := hLength l s.startsStopped
  have hAll := pick_length fun v => (s.voice v).state = .playing ∨ (s.voice v).state = .stalled
  refine ⟨_, hBefore.voice.trans hStarts.voice, kept_disabled hKept, hBefore.fade.trans hStarts.fade, ?_, hAfter⟩
  have hFewer : l.length < 24 := Nat.lt_of_lt_of_le hShort hAll
  omega

/-- The end of an operation leaves a voice that sounds or is FAULTED. -/
theorem finish_held {x : State} (h : (x.voice v).sounding ∨ (x.voice v).state = .faulted) : x.VoiceHeld v x.finish := by
  have hStates : (x.voice v).isPriming = false ∧ (x.voice v).state ≠ .idle := by
    unfold Reader.isPriming
    rcases h with (h | h) | h <;> rw [h] <;> decide
  refine .finish ?_ (.inl hStates.2)
  unfold State.unwanted
  rw [hStates.1]
  rfl

/-- An operation that ends with a CUE report and no `Inst` in the table (R118). -/
theorem raiseCue_ends (h : u.engine.insts = []) (e : CueEvent) :
    ∃ w : State, (u.raiseCue e).Ends w ∧ w.fades.pool.Sublist u.fades.pool ∧ (u.raiseCue e).finish.fades = w.fades ∧
      (u.raiseCue e).finish.fetch = w.fetch ∧ (u.raiseCue e).finish.link = w.link ∧ (u.raiseCue e).finish.engine.insts = [] ∧
      (u.raiseCue e).finish.engine.chain = u.engine.chain := by
  have hVacant : (u.raiseCue e).engine.insts = [] := by
    rw [raiseCue_engine]
    exact h
  have hEvent : (u.raiseCue e).engine.opEvent = some (u.cueReport e) := by rw [raiseCue_engine]
  have hChain : (u.raiseCue e).engine.chain = u.engine.chain := by rw [raiseCue_engine]
  have hFades : (u.raiseCue e).fades = u.fades := (State.raiseCue_frame u e).2.2.1
  have hReady := raiseCue_standbyReady u e
  have hSettle : ∀ w : State, (u.raiseCue e).Ends w → w.standbyReady = u.standbyReady →
      w.settleReady = w.onEngine fun b => { b with readyShown := u.standbyReady, opEvent := none } := fun w hw hSame => by
    have hStill : w.engine.opEvent = some (u.cueReport e) := by rw [hw.engine]; exact hEvent
    have hIf : (u.cueReport e).ready = w.standbyReady := hSame.symm
    unfold State.settleReady
    dsimp only
    simp only [hStill]
    rw [if_pos hIf, hSame]
  have hFinish : ∃ w : State, (u.raiseCue e).Ends w ∧ w.fades.pool.Sublist u.fades.pool ∧
      (u.raiseCue e).finish = w.onEngine fun b => { b with readyShown := u.standbyReady, opEvent := none } := by
    unfold State.finish
    split
    · have hEnds : (u.raiseCue e).Ends (u.raiseCue e).evaluatePriming := .evaluatePriming hVacant
      refine ⟨_, hEnds, ?_, hSettle _ hEnds ((evaluatePriming_ready _).trans hReady)⟩
      rw [← hFades]
      exact (State.Drops.evaluatePriming (u.raiseCue e)).pool
    · exact ⟨_, .refl _, by rw [hFades], hSettle _ (.refl _) hReady⟩
  obtain ⟨w, hEnds, hPool, hEq⟩ := hFinish
  rw [hEq]
  refine ⟨w, hEnds, hPool, rfl, rfl, rfl, hEnds.insts hVacant, ?_⟩
  show w.engine.chain = _
  rw [hEnds.engine]
  exact hChain

/-- What every state after STOP ALL is in the engine, in the pool, of the players and of the reports. -/
theorem stopAll_ends (s : State) (ms : Nat) :
    (s.stopAll ms).finish.engine.insts = [] ∧ (s.stopAll ms).finish.engine.chain = none ∧
      (s.stopAll ms).finish.fades.pool.Sublist (s.soundsStopped ms).unowned.fades.pool ∧
      (∀ f row bus, f.target = .xpt row bus → (f ∈ (s.stopAll ms).finish.fades.pool ↔ f ∈ (s.soundsStopped ms).unowned.fades.pool)) ∧
      (∀ p : PlayerId, (s.stopAll ms).finish.reader (playerReader p) = s.reader (playerReader p)) ∧
      s.Raised (s.stopAll ms).finish .cue "!CUE event=stopall" := by
  have hSounds := soundsStopped_ends s ms
  have hPlayers : ∀ p : PlayerId, (s.stopsAll ms).reader (playerReader p) = s.reader (playerReader p) := hSounds.players
  have hVacant : (s.stopsAll ms).engine.insts = [] := hSounds.insts rfl
  have hFrame := State.raiseCue_frame (s.stopsAll ms) { name := "stopall", extra := " retired=" ++ natText s.engine.insts.length }
  have hDisabled : (s.stopsAll ms).link.disabled = s.link.disabled := by
    have hKept : (s.soundsStopped ms).kept = s.kept :=
      (foldl_keeps State.kept (fun (s : State) v => s.stopVoice v ms none) (fun t w => (State.stopVoice_frame t _ _ _).1) _ _).trans
        (foldl_keeps State.kept (fun (s : State) v => s.enterIdle (voiceReader v) "stopped") (fun t w => (State.enterIdle_frame t _ _).1) _ s.emptied)
    exact kept_disabled (t := s.soundsStopped ms) hKept
  have hRaised := raiseCue_raised_event (s := s) hDisabled { name := "stopall", extra := " retired=" ++ natText s.engine.insts.length }
  obtain ⟨w, hEnds, hPool, hFadesEnd, hFetchEnd, hLinkEnd, hInsts, hChain⟩ := raiseCue_ends hVacant { name := "stopall", extra := " retired=" ++ natText s.engine.insts.length }
  rw [stopAll_eq]
  obtain ⟨-, -, hFades, -, -, hFetch, -, -, -⟩ := hFrame
  dsimp only at hRaised
  generalize (s.stopsAll ms).raiseCue { name := "stopall", extra := " retired=" ++ natText s.engine.insts.length } = u at *
  refine ⟨hInsts, hChain, by rw [hFadesEnd]; exact hPool, fun f row bus hf => ?_, fun p => ?_, ?_⟩
  · rw [hFadesEnd, hEnds.xpts f row bus hf, hFades]
    exact Iff.rfl
  · rw [reader_of_fetch hFetchEnd, hEnds.players, reader_of_fetch hFetch]
    exact hPlayers p
  · rw [show "!CUE event=" ++ "stopall" ++ " cue=" = "!CUE event=stopall" ++ " cue=" by decide, String.append_assoc] at hRaised
    have hPart := hRaised.part (before := "") (part := "!CUE event=stopall") (after := " cue=" ++ optText cueText none) (by rw [String.empty_append])
    exact (hPart.stands hEnds.reports fun h => h rfl).congr (by rw [hLinkEnd])

/-- The records on crosspoints that no `Inst` owned, and they alone, stand through STOP ALL (R37). -/
theorem mem_unowned_xpt {f : Fade} {row : Row} {bus : Bus} (hf : f.target = .xpt row bus) :
    f ∈ s.unowned.fades.pool ↔ f ∈ s.fades.pool ∧ f.owner = none := by
  have hOwned : ∀ g : Fade, g.target = .xpt row bus → g.ownedCrosspoint = g.owner.isSome := fun g hg => by
    unfold Fade.ownedCrosspoint
    rw [hg]
  show f ∈ ((s.fades.pool.filter fun f => !f.ownedCrosspoint).map fun f => { f with owner := none }) ↔ _
  rw [List.mem_map]
  constructor
  · rintro ⟨g, hg, rfl⟩
    obtain ⟨hMem, hFree⟩ := List.mem_filter.mp hg
    have hNone : g.owner = none := by
      rw [hOwned g hf] at hFree
      simpa using hFree
    have hSame : { g with owner := none } = g := by rw [← hNone]
    rw [hSame]
    exact ⟨hMem, hNone⟩
  · rintro ⟨hMem, hNone⟩
    refine ⟨f, List.mem_filter.mpr ⟨hMem, ?_⟩, by rw [← hNone]⟩
    rw [hOwned f hf, hNone]
    rfl

theorem unowned_free {f : Fade} (h : f ∈ s.unowned.fades.pool) : f.owner = none := by
  obtain ⟨g, -, rfl⟩ := List.mem_map.mp h
  rfl

/-- STOP ALL has the engine run and leaves its other marks (R115). -/
theorem stopAll_marks (s : State) (ms : Nat) : (s.stopAll ms).finish.marks = { s.marks with halted := false } := by
  have hEngine := (soundsStopped_ends s ms).engine
  have hMarks : (s.stopsAll ms).marks = { (s.soundsStopped ms).marks with halted := false } := rfl
  rw [State.marks_finish, stopAll_eq, State.marks_raiseCue, hMarks]
  unfold State.marks
  rw [hEngine]
  rfl

theorem stopAll_disabled (s : State) (ms : Nat) : (s.stopAll ms).link.disabled = s.link.disabled := kept_disabled (State.stopAll_frame s ms).1

/-- A voice in STARTING, after STOP ALL (R115, step 1). -/
theorem stopAll_stopsStart (h : (s.voice v).state = .starting) :
    s.Stopped (s.stopAll ms).finish v ∧ s.StopRaised (s.stopAll ms).finish v "stopped" := by
  obtain ⟨w, hVoice, hDisabled, hStands⟩ := stopAll_starting (ms := ms) h
  have hRaised := (enterIdle_raised (s := w) (t := w) (v := v) rfl "stopped").origin hDisabled.symm
  refine finish_stopped ?_ ?_ (stopAll_disabled s ms) (hRaised.stands hStands.reports fun hKey => hKey rfl)
  · rw [hStands.voice, enterIdle_voice, if_pos rfl]
    exact toIdle_idle _
  · rw [hStands.voice, enterIdle_level, hVoice]

/-- A sounding voice that STOP ALL stops at once (R37, R115, log 46). -/
theorem stopAll_stopsSound (h : (s.voice v).sounding) (hNow : ms = 0 ∨ (s.voice v).level = -180) :
    s.Stopped (s.stopAll ms).finish v ∧ s.StopRaised (s.stopAll ms).finish v "stopped" := by
  obtain ⟨w, hVoice, hDisabled, -, -, hHeld⟩ := stopAll_sounding h ms
  rw [stopVoice_atOnce (by rw [hVoice]; exact h) (by rw [hVoice]; exact hNow)] at hHeld
  have hStands := hHeld.toVoiceStands.trans (stopAll_stands s ms v)
  have hRaised := (enterIdle_raised (s := w) (t := w) (v := v) rfl "stopped").origin hDisabled.symm
  refine finish_stopped ?_ ?_ (stopAll_disabled s ms) (hRaised.stands hStands.reports fun hKey => hKey rfl)
  · rw [hStands.voice, enterIdle_voice, if_pos rfl]
    exact toIdle_idle _
  · rw [hStands.voice, enterIdle_level, hVoice]

/-- A sounding voice that STOP ALL fades out over the time (R37, R115, step 2). -/
theorem stopAll_fadesSound (h : (s.voice v).sounding) (hTime : ms ≠ 0) (hLevel : (s.voice v).level ≠ -180)
    (hRoom : (s.fadeOf (.voice v)).isSome ∨ s.fades.pool.length + 24 ≤ 256) :
    (s.stopAll ms).finish.voice v = s.voice v ∧
      newFade (.voice v) (s.voice v).level (-180) ms none true ∈ (s.stopAll ms).finish.fades.pool := by
  obtain ⟨w, hVoice, -, hFade, hLength, hHeld⟩ := stopAll_sounding h ms
  have hOff : w.levelOf (.voice v) ≠ -180 := by
    show (w.voice v).level ≠ _
    rw [hVoice]
    exact hLevel
  have hPlace : (w.fadeOf (.voice v)).isSome ∨ w.fades.pool.length < 256 := by
    rw [hFade]
    exact hRoom.imp_right fun h => by omega
  rw [stopVoice_fades (by rw [hVoice]; exact h) hTime hOff hPlace] at hHeld
  have hSame : (s.stopAll ms).voice v = s.voice v :=
    (stopAll_stands s ms v).voice.trans (hHeld.voice.trans ((reader_of_fetch (requestFade_readers _ _ _ hOff hPlace) _).trans hVoice))
  have hRecord : (s.soundsStopped ms).fadeOf (.voice v) = some (newFade (.voice v) (s.voice v).level (-180) ms none true) := by
    rw [hHeld.fade, requestFade_fadeOf ms none true hOff hPlace]
    show some (newFade (.voice v) (w.voice v).level (-180) ms none true) = _
    rw [hVoice]
  have hUnowned : (s.stopAll ms).fadeOf (.voice v) = some (newFade (.voice v) (s.voice v).level (-180) ms none true) := by
    have hStops : (s.stopAll ms).fades = (s.soundsStopped ms).unowned.fades := (State.raiseCue_frame (s.stopsAll ms) _).2.2.1
    rw [fadeOf_congr (congrArg FadeBlock.pool hStops), unowned_fadeOf, hRecord]
    rfl
  have hEnd : (s.stopAll ms).VoiceHeld v (s.stopAll ms).finish := finish_held (.inl (by rw [hSame]; exact h))
  exact ⟨hEnd.voice.trans hSame, List.mem_of_find?_eq_some (hEnd.fade.trans hUnowned)⟩

/-- A FAULTED voice stands through STOP ALL (R115). -/
theorem stopAll_faulted (h : (s.voice v).state = .faulted) : (s.stopAll ms).finish.voice v = s.voice v := by
  have hSame : (s.stopAll ms).voice v = s.voice v := by
    refine (stopAll_stands s ms v).voice.trans ((soundsStopped_apart ?_).voice.trans (startsStopped_apart ?_).voice)
    · intro hSounds
      unfold Reader.sounding at hSounds
      rw [h] at hSounds
      rcases hSounds with h | h <;> cases h
    · rw [h]
      decide
  exact (finish_held (.inr (by rw [hSame]; exact h))).voice.trans hSame

theorem stopShow_eq {a : Option Int} (h : a = none ∧ ms = s.engine.stopAllMs ∨ ∃ x, a = some x ∧ (ms : Int) = max 0 (min 600000 x)) :
    stopShow a s = (s.stopAll ms).replies fun _ => "stopall t=" ++ natText ms ++ " voices=" ++
      natText (s.startingVoices.length + s.soundingVoices.length) ++ " retired=" ++ natText s.engine.insts.length := by
  rcases h with ⟨rfl, rfl⟩ | ⟨x, rfl, hMs⟩
  · rfl
  · obtain rfl : ms = heldNumber 0 Config.maxTimeMs x := Int.ofNat_inj.mp (hMs.trans (heldNumber_cast 0 600000 x).symm)
    rfl

end

end Sys2Proof.Machine

namespace Sys2Proof.Proofs

open Sys2Proof Sys2Proof.Machine

/-- Settles O41: the folds over the voices turn by turn, then the pool and the engine. -/
theorem stopAllEnds : Obligations.StopAllEnds := by
  intro s tag a ms hReady hTime
  have hRow := hReady.accepted (exec_stopAll s tag (.given a)) (stopShow_eq hTime)
  obtain ⟨hKept, hMatrix, hCast, hMic, hFoldback, hRouter, hLines⟩ := State.stopAll_frame s ms
  obtain ⟨hKeptEnd, hMatrixEnd, hCastEnd, hMicEnd, hFoldbackEnd, hRouterEnd, hLinesEnd⟩ := State.finish_frame (s.stopAll ms)
  have hAt : (s.stopAll ms).finish = { s with
      link := (s.stopAll ms).finish.link
      fades := (s.stopAll ms).finish.fades
      engine := (s.stopAll ms).finish.engine
      fetch := (s.stopAll ms).finish.fetch } :=
    (State.eq_at (hKeptEnd.trans hKept)).trans (by
      simp only [hMatrixEnd, hMatrix, hCastEnd, hCast, hMicEnd, hMic, hFoldbackEnd, hFoldback, hRouterEnd, hRouter, hLinesEnd, hLines])
  obtain ⟨hInsts, hChain, hPool, hXpts, hPlayers, hRaised⟩ := stopAll_ends s ms
  have hMarks := stopAll_marks s ms
  have hOwned : ∀ f row bus, f.target = .xpt row bus → (f ∈ (s.soundsStopped ms).fades.pool ↔ f ∈ s.fades.pool) :=
    (soundsStopped_ends s ms).xpts
  refine ⟨_, s.startingVoices.length + s.soundingVoices.length, hRow, ?_, congrArg (fun t : State => t.answered tag _) hAt, hInsts, hChain, congrArg Marks.halted hMarks,
    congrArg Marks.standby hMarks, congrArg Marks.lastFired hMarks, congrArg Marks.fired hMarks, congrArg Marks.stopAllMs hMarks,
    fun f hf => unowned_free (hPool.subset hf),
    fun f row bus hf => (hXpts f row bus hf).trans ((mem_unowned_xpt hf).trans (and_congr_left' (hOwned f row bus hf))), hPlayers,
    fun v h => stopAll_faulted h, hRaised, fun v h => stopAll_stopsStart h,
    fun v h => ⟨fun hNow => stopAll_stopsSound h hNow, fun hOver hLevel hRoom => stopAll_fadesSound h hOver hLevel hRoom⟩⟩
  exact State.replied_of (hKeptEnd.trans hKept) tag ("OK " ++ ("stopall t=" ++ natText ms ++ " voices=" ++
    natText (s.startingVoices.length + s.soundingVoices.length) ++ " retired=" ++ natText s.engine.insts.length))

end Sys2Proof.Proofs
end

section
/-! PROOFS. CAST, SELECT and AUTO (R52, R53, R58, R75, R78, R79). -/

namespace Sys2Proof.Machine

open Sys2Proof

section
variable {s t : State} {r : RoleId} {p q : PerfId}

/-- An accepted line that changes the cast table and reports, and no other block. -/
theorem State.Ready.recasts (hs : s.Ready) {c : Instr} {α : Type} {a : α} {f : α → State → Answer} {x : State → String}
    (hExec : exec c s = command c c.tag (.given a) f s) (h : f a s = t.replies x)
    (hFrame : t.kept = s.kept ∧ t.matrix = s.matrix ∧ t.fades = s.fades ∧ t.mic = s.mic ∧ t.engine = s.engine ∧ t.fetch = s.fetch ∧
      t.foldback = s.foldback ∧ t.router = s.router ∧ t.lines = s.lines) :
    exec c s = .next (t.answered c.tag ("OK " ++ x t)) ∧ s.Replied (t.answered c.tag ("OK " ++ x t)) c.tag ("OK " ++ x t) ∧
      t.answered c.tag ("OK " ++ x t) = { s with link := (t.answered c.tag ("OK " ++ x t)).link, cast := t.cast } := by
  obtain ⟨hKept, hMatrix, hFades, hMic, hEngine, hFetch, hFoldback, hRouter, hLines⟩ := hFrame
  have hAt : t = { s with link := t.link, cast := t.cast } :=
    (State.eq_at hKept).trans (by rw [hMatrix, hFades, hMic, hEngine, hFetch, hFoldback, hRouter, hLines])
  exact ⟨hs.accepts hExec h (hs.settled hEngine (kept_cues hKept) (by rw [hFetch])), State.replied_of hKept c.tag _,
    congrArg (fun t : State => t.answered c.tag _) hAt⟩

/-! ### CAST (R52, R53) -/

theorem heldElsewhere_iff {p : PerfId} : s.heldElsewhere r p = true ↔ ∃ r', (s.perf p).role = some r' ∧ r' ≠ r := by
  unfold State.heldElsewhere
  cases (s.perf p).role <;> simp

theorem castRole_same {p : Option PerfId} (h : (s.role r).holder = p) : s.castRole r p = s := if_pos h

/-- The roles after a CAST that changes the holder (R53, R56). -/
theorem castRole_role {p : Option PerfId} (hNew : (s.role r).holder ≠ p) (q : RoleId) : (s.castRole r p).role q =
    if r = q then { s.role r with holder := p, xfade := some { old := s.rowSource r, k := 0 } } else s.role q := by
  have hRaised : ∀ (t : State) x e, (t.raisePerf x e).role q = t.role q := fun t x e => by
    simp only [State.role, (State.raisePerf_frame t x e).2.2.2.1]
  have hBegun : ∀ t : State, ∀ old, ((t.onRole r fun x => { x with holder := p }).beginCrossfade r old).role q =
      if r = q then { t.role r with holder := p, xfade := some { old := old, k := 0 } } else t.role q := fun t old => by
    unfold State.beginCrossfade
    rw [role_onRole, role_onRole, if_pos rfl, role_onRole]
    split <;> rfl
  unfold State.castRole
  rw [if_neg hNew]
  cases (s.role r).holder <;> cases p <;> simp only [hRaised, hBegun] <;> rfl

/-- The performers after a CAST that changes the holder (R53). -/
theorem castRole_perf {p : Option PerfId} (hNew : (s.role r).holder ≠ p) (q : PerfId) : (s.castRole r p).perf q =
    if p = some q then { s.perf q with role := some r } else if (s.role r).holder = some q then { s.perf q with role := none } else s.perf q := by
  have hRaised : ∀ (t : State) x e, (t.raisePerf x e).perf q = t.perf q := fun t x e => by
    simp only [State.perf, (State.raisePerf_frame t x e).2.2.2.1]
  have hBegun : ∀ t : State, ∀ old, ((t.onRole r fun x => { x with holder := p }).beginCrossfade r old).perf q = t.perf q :=
    fun _ _ => rfl
  unfold State.castRole
  rw [if_neg hNew]
  cases hHolder : (s.role r).holder with
  | none =>
    cases p with
    | none => exact absurd hHolder hNew
    | some x =>
      simp only [hRaised, hBegun, perf_onPerf, Option.some.injEq]
      split
      · rename_i hx
        rw [hx]
      · rfl
  | some y =>
    cases p with
    | none =>
      simp only [hRaised, hBegun, perf_onPerf, Option.some.injEq]
      split
      · rename_i hy
        rw [hy]
        rfl
      · rfl
    | some x =>
      have hApart : y ≠ x := fun h => hNew (hHolder.trans (congrArg some h))
      simp only [hRaised, hBegun, perf_onPerf, Option.some.injEq]
      by_cases hx : x = q
      · subst hx
        rw [if_pos rfl, if_pos rfl, if_neg hApart]
      · rw [if_neg hx, if_neg hx]
        split
        · rename_i hy
          rw [hy]
        · rfl

/-- The PERF report of a performer, as raised (R80). -/
theorem raisePerf_raised (h : t.link.disabled = s.link.disabled) (p : PerfId) (event : String) :
    s.Raised (t.raisePerf p event) (.perf p) ("!PERF " ++ perfText p ++ " state=" ++ perfStateText (t.perf p).state ++ " active=" ++
      optText inText (t.perf p).active ++ " compromised=" ++ yesNo (t.perf p).compromised ++ " role=" ++
      optText roleText (t.perf p).role ++ " event=" ++ event) := by
  have hRaised := State.raised_raise (t := t) h (.perf p) "" ("!PERF " ++ perfText p ++ " state=" ++ perfStateText (t.perf p).state ++
    " active=" ++ optText inText (t.perf p).active ++ " compromised=" ++ yesNo (t.perf p).compromised ++ " role=" ++
    optText roleText (t.perf p).role ++ " event=" ++ event) ""
  rw [String.append_empty, String.empty_append] at hRaised
  exact hRaised

theorem raisePerf_role (h : t.link.disabled = s.link.disabled) (p : PerfId) (event : String) :
    s.Raised (t.raisePerf p event) (.perf p) (" role=" ++ optText roleText (t.perf p).role ++ " event=" ++ event) :=
  (raisePerf_raised h p event).part (after := "") (before := "!PERF " ++ perfText p ++ " state=" ++ perfStateText (t.perf p).state ++
    " active=" ++ optText inText (t.perf p).active ++ " compromised=" ++ yesNo (t.perf p).compromised) (by simp [String.append_assoc])

/-- A CAST before its reports (R53). -/
def State.recast (s : State) (r : RoleId) (p : Option PerfId) : State :=
  let released := (s.role r).holder.elim s fun q => s.onPerf q fun x => { x with role := none }
  let given := p.elim released fun q => released.onPerf q fun x => { x with role := some r }
  (given.onRole r fun x => { x with holder := p }).beginCrossfade r (s.rowSource r)

theorem castRole_eq {p : Option PerfId} (hNew : (s.role r).holder ≠ p) : s.castRole r p =
    p.elim ((s.role r).holder.elim (s.recast r p) fun q => (s.recast r p).raisePerf q "cast") fun x =>
      ((s.role r).holder.elim (s.recast r p) fun q => (s.recast r p).raisePerf q "cast").raisePerf x "cast" := by
  unfold State.castRole State.recast
  rw [if_neg hNew]
  cases (s.role r).holder <;> cases p <;> rfl

theorem recast_link (p : Option PerfId) : (s.recast r p).link = s.link := by
  unfold State.recast
  cases (s.role r).holder <;> cases p <;> rfl

/-- A report of another performer leaves one that is pending. -/
theorem State.Raised.raisePerf {text : String} (h : s.Raised t (.perf q) text) (hApart : q ≠ p) (event : String) :
    s.Raised (t.raisePerf p event) (.perf q) text :=
  h.raise_of_ne (fun hKey => hApart (ReportKey.perf.inj hKey)) _

/-- A CAST that changes the holder tells of both performers (R53). -/
theorem castRole_raised {p : Option PerfId} (hNew : (s.role r).holder ≠ p) (hMoves : p = some q ∨ (s.role r).holder = some q) :
    s.Raised (s.castRole r p) (.perf q) (" role=" ++ optText roleText ((s.castRole r p).perf q).role ++ " event=" ++ "cast") := by
  have hPerf : ∀ (t : State) x e, (t.raisePerf x e).perf q = t.perf q := fun t x e => by
    simp only [State.perf, (State.raisePerf_frame t x e).2.2.2.1]
  have hDisabled : (s.recast r p).link.disabled = s.link.disabled := by rw [recast_link]
  rw [castRole_eq hNew]
  generalize s.recast r p = w at *
  cases hHolder : (s.role r).holder with
  | none =>
    cases p with
    | none => exact absurd hHolder hNew
    | some x =>
      obtain rfl : x = q := Option.some.inj (hMoves.resolve_right (by rw [hHolder]; exact fun h => by cases h))
      simp only [Option.elim_some, Option.elim_none, hPerf]
      exact raisePerf_role hDisabled x "cast"
  | some y =>
    have hOld := raisePerf_role hDisabled y "cast"
    cases p with
    | none =>
      obtain rfl : y = q := Option.some.inj (hHolder.symm.trans (hMoves.resolve_left fun h => by cases h))
      simp only [Option.elim_some, Option.elim_none, hPerf]
      exact hOld
    | some x =>
      simp only [Option.elim_some, hPerf]
      by_cases hx : x = q
      · subst hx
        have hTold : (w.raisePerf y "cast").link.disabled = s.link.disabled := (kept_disabled (State.raisePerf_frame w y "cast").1).trans hDisabled
        have hNow := raisePerf_role hTold x "cast"
        rw [hPerf] at hNow
        exact hNow
      · obtain rfl : y = q := Option.some.inj (hHolder.symm.trans (hMoves.resolve_left fun h => hx (Option.some.inj h)))
        exact hOld.raisePerf (fun h => hx h.symm) "cast"

theorem castRole_kept_cast (p : Option PerfId) : (s.castRole r p).cast.claims = s.cast.claims ∧
    (s.castRole r p).cast.pages = s.cast.pages ∧ (s.castRole r p).cast.talkin = s.cast.talkin := by
  have hRaised : ∀ (t : State) x e, (t.raisePerf x e).cast = t.cast := fun t x e => (State.raisePerf_frame t x e).2.2.2.1
  unfold State.castRole
  dsimp only
  split
  · exact ⟨rfl, rfl, rfl⟩
  · cases (s.role r).holder <;> cases p <;> simp only [hRaised] <;> exact ⟨rfl, rfl, rfl⟩

theorem setCast_eq {a : CastArgs} {p : Option PerfId} (hr : ofNum 40 a.role = some r) (hp : optNum 48 a.perf = some p) :
    setCast a s = if p.any (s.heldElsewhere r) then .error .held else (s.castRole r p).replies fun s => s.castLine r := by
  unfold setCast
  rw [hr, hp, need_some, need_some, ok_bind, ok_bind]
  cases p.any (s.heldElsewhere r) <;> rfl

/-! ### SELECT and AUTO (R78, R79) -/

theorem setSelect_eq {a : SelectArgs} {i : InputId} (hp : ofNum 48 a.perf = some p) (hi : ofNum 64 a.input = some i) :
    setSelect a s = if (s.perf p).inputs.all (fun e => e.1 ≠ i) then .error .noSuch else (s.forceInput p i).replies fun s => s.perfLine p := by
  unfold setSelect
  rw [hp, hi, need_some, need_some, ok_bind, ok_bind]
  cases (s.perf p).inputs.all (fun e => e.1 ≠ i) <;> rfl

theorem forceInput_frame (p : PerfId) (i : InputId) : (s.forceInput p i).kept = s.kept ∧ (s.forceInput p i).matrix = s.matrix ∧
    (s.forceInput p i).fades = s.fades ∧ (s.forceInput p i).mic = s.mic ∧ (s.forceInput p i).engine = s.engine ∧
    (s.forceInput p i).fetch = s.fetch ∧ (s.forceInput p i).foldback = s.foldback ∧ (s.forceInput p i).router = s.router ∧
    (s.forceInput p i).lines = s.lines := by
  unfold State.forceInput
  simp

/-- A changeover leaves of its performer all but the active input, and begins a crossfade where that changes (R58). -/
theorem changeover_changes (s : State) (p : PerfId) (i : InputId) :
    (s.changeover p i).perf p = { s.perf p with active := some i } ∧
      (∀ r, (s.perf p).role = some r → (s.perf p).active ≠ some i →
        (s.changeover p i).role r = { s.role r with xfade := some { old := s.rowSource r, k := 0 } }) ∧
      ∀ r, (s.perf p).role ≠ some r ∨ (s.perf p).active = some i → (s.changeover p i).role r = s.role r := by
  unfold State.changeover
  by_cases ha : (s.perf p).active = some i
  · rw [if_pos ha]
    exact ⟨by rw [← ha], fun _ _ h => absurd ha h, fun _ _ => rfl⟩
  · rw [if_neg ha]
    cases hRole : (s.perf p).role with
    | none => exact ⟨State.perf_onPerf_same _ _ _, fun r h => (by cases h), fun _ _ => rfl⟩
    | some x =>
      refine ⟨State.perf_onPerf_same _ _ _, fun r h _ => ?_, fun r h => ?_⟩
      · obtain rfl : x = r := Option.some.inj h
        exact (role_onRole _ _ _ _).trans (if_pos rfl)
      · have hApart : x ≠ r := fun hEq => h.elim (fun h => h (congrArg some hEq)) ha
        exact (role_onRole _ _ _ _).trans (if_neg hApart)

/-- What a SELECT makes of the performer, the roles and the report (R58, R78). -/
theorem forceInput_leaves (s : State) (p : PerfId) (i : InputId) :
    s.OnlyPerf (s.forceInput p i) p ∧
      (s.forceInput p i).perf p = { s.perf p with active := some i, modeAuto := false, state := .manual, compromised := false } ∧
      s.Raised (s.forceInput p i) (.perf p) ("!PERF " ++ perfText p ++ " state=" ++ "manual" ++ " active=" ++ inText i ++ " compromised=" ++
        "no" ++ " role=" ++ optText roleText (s.perf p).role ++ " event=" ++ "select") ∧
      (∀ r, (s.forceInput p i).role r = (s.changeover p i).role r) := by
  have hKept : (s.changeover p i).link.disabled = s.link.disabled := kept_disabled (State.changeover_frame s p i).1
  have hOnly := s.changeover_onlyPerf p i fun x => { x with modeAuto := false, state := .manual, compromised := false }
  have hPerf : ((s.changeover p i).onPerf p fun x => { x with modeAuto := false, state := .manual, compromised := false }).perf p =
      { s.perf p with active := some i, modeAuto := false, state := .manual, compromised := false } := by
    rw [State.perf_onPerf_same, (changeover_changes s p i).1]
  have hRole : ∀ r, ((s.changeover p i).onPerf p fun x => { x with modeAuto := false, state := .manual, compromised := false }).role r =
      (s.changeover p i).role r := fun r => rfl
  have hRaised := raisePerf_raised (s := s)
    (t := (s.changeover p i).onPerf p fun x => { x with modeAuto := false, state := .manual, compromised := false }) hKept p "select"
  rw [hPerf] at hRaised
  unfold State.forceInput
  generalize (s.changeover p i).onPerf p (fun x => { x with modeAuto := false, state := .manual, compromised := false }) = w at *
  have hCast := (State.raisePerf_frame w p "select").2.2.2.1
  unfold State.OnlyPerf State.perf State.role at *
  rw [hCast]
  exact ⟨hOnly, hPerf, hRaised, hRole⟩

theorem candidates_eq {x : Perf} {i : InputId} (h : x.active = some i) : s.candidates x =
    x.inputs.filter fun e => (s.health e.1).any (fun h => h.state = .good) && e.1 ≠ i := by
  refine List.filter_congr fun e _ => ?_
  by_cases hEq : e.1 = i
  · subst hEq; simp [h]
  · have := Ne.symm hEq; simp [State.isGood, h, hEq, this]

/-- A performer set to automatic changeover, before selection (R79). -/
def State.inAuto (s : State) (p : PerfId) : State := s.onPerf p fun y => { y with modeAuto := true, state := placeState y.activePlace }

theorem inAuto_perf (s : State) (p : PerfId) :
    (s.inAuto p).perf p = { s.perf p with modeAuto := true, state := placeState (s.perf p).activePlace } := State.perf_onPerf_same s p _

theorem inAuto_onlyPerf (s : State) (p : PerfId) : s.OnlyPerf (s.inAuto p) p :=
  ⟨rfl, fun _ hq => (perf_onPerf _ _ _ _).trans (if_neg (Ne.symm hq))⟩

theorem State.OnlyPerf.trans {u : State} (h : s.OnlyPerf t p) (h' : t.OnlyPerf u p) : s.OnlyPerf u p := by
  refine ⟨?_, fun q hq => (h'.2 q hq).trans (h.2 q hq)⟩
  have hCast := h'.1
  rw [h.1] at hCast
  exact hCast

/-- AUTO runs selection where the active input is not GOOD, and otherwise leaves it (R79). -/
theorem setAuto_forms (s : State) (p : PerfId) : ∃ w : State, s.setAuto p = w.raisePerf p "auto" ∧ w.link.disabled = s.link.disabled ∧
    s.OnlyPerf w p ∧ ((∀ i, (s.perf p).active = some i → s.isGood i = true) → w = s.inAuto p) ∧
    ∀ i, (s.perf p).active = some i → s.isGood i = false → (s.inAuto p).Selected w p := by
  cases hActive : (s.perf p).active with
  | none =>
    refine ⟨s.inAuto p, ?_, rfl, inAuto_onlyPerf s p, fun _ => rfl, fun i h => by cases h⟩
    unfold State.setAuto State.inAuto
    dsimp only
    rw [hActive]
  | some i =>
    by_cases hGood : s.isGood i = true
    · refine ⟨s.inAuto p, ?_, rfl, inAuto_onlyPerf s p, fun _ => rfl, fun j h hNot => ?_⟩
      · unfold State.setAuto State.inAuto
        dsimp only
        rw [hActive]
        dsimp only
        rw [if_pos (by exact hGood)]
      · obtain rfl := Option.some.inj h
        rw [hGood] at hNot
        cases hNot
    · refine ⟨((s.inAuto p).select p).1, ?_, kept_disabled (State.select_frame (s.inAuto p) p).1,
        (inAuto_onlyPerf s p).trans (State.select_onlyPerf _ p), fun h => absurd (h i rfl) hGood, fun _ _ _ => State.select_selected _ p⟩
      unfold State.setAuto State.inAuto
      dsimp only
      rw [hActive]
      dsimp only
      rw [if_neg (by exact hGood)]

theorem placeState_some (x : Place) : placeState (some x) = if x = .main then .main else .spare := by
  cases x <;> rfl

/-- What selection makes of a performer just set to AUTO whose active input is not GOOD (R75, R79). -/
theorem inAuto_selected {i : InputId} (hActive : (s.perf p).active = some i) (hBad : s.isGood i = false) (h : (s.inAuto p).Selected t p) :
    (s.candidates (s.perf p) = [] → t.perf p = { s.perf p with modeAuto := true, state := .alarm }) ∧
      (s.candidates (s.perf p) ≠ [] → ∃ e before after, s.candidates (s.perf p) = before ++ e :: after ∧
        (∀ d ∈ before ++ after, s.lowBatt d.1 = false → s.lowBatt e.1 = false) ∧
        (∀ d ∈ before, s.lowBatt d.1 = s.lowBatt e.1 → s.rfOf d.1 < s.rfOf e.1) ∧
        (∀ d ∈ after, s.lowBatt d.1 = s.lowBatt e.1 → s.rfOf d.1 ≤ s.rfOf e.1) ∧
        t.perf p = { s.perf p with modeAuto := true, active := some e.1, state := placeState (some e.2), compromised := s.lowBatt e.1 }) := by
  obtain ⟨-, hChosen⟩ := h
  obtain ⟨hNone, hSome⟩ := hChosen i (s.candidates (s.perf p)) (by rw [inAuto_perf]; exact hActive)
    (by rw [inAuto_perf]; exact candidates_eq hActive)
  refine ⟨fun hEmpty => ?_, fun hFull => ?_⟩
  · have hState : ¬(s.health i).any (fun h => h.state = .good) = true := fun h => by
      have hGood : s.isGood i = true := h
      rw [hBad] at hGood
      cases hGood
    have hTo := (hNone hEmpty).2
    rw [inAuto_perf] at hTo
    rw [hTo]
    exact congrArg (fun x => ({ s.perf p with modeAuto := true, state := x } : Perf)) (if_neg hState)
  · obtain ⟨e, before, after, hSplit, hLow, hBefore, hAfter, hTo, -⟩ := hSome hFull
    rw [inAuto_perf] at hTo
    exact ⟨e, before, after, hSplit, hLow, hBefore, hAfter, by rw [placeState_some]; exact hTo⟩

theorem setAutoMode_eq {n : Nat} (hp : ofNum 48 n = some p) : setAutoMode n s = (s.setAuto p).replies fun s => s.perfLine p := by
  unfold setAutoMode
  rw [hp, need_some, ok_bind]

end

end Sys2Proof.Machine

namespace Sys2Proof.Proofs

open Sys2Proof Sys2Proof.Machine

/-- Settles O27: the role, the two performers and their reports, where the holder changes. -/
theorem castChangesHolder : Obligations.CastChangesHolder := by
  intro s tag a r p hReady hr hp
  have hAnswer := setCast_eq (s := s) hr hp
  refine ⟨fun ⟨q, r', hq, hRole, hOther⟩ => ?_, fun hFree => ?_⟩
  · have hHeld : p.any (s.heldElsewhere r) = true := by
      rw [hq]
      exact heldElsewhere_iff.mpr ⟨r', hRole, hOther⟩
    rw [if_pos hHeld] at hAnswer
    exact hReady.refuses (exec_cast s tag (.given a)) hAnswer
  · have hHeld : ¬p.any (s.heldElsewhere r) = true := fun h => by
      obtain ⟨q, hq, hElse⟩ := (Option.any_eq_true _ _).mp h
      obtain ⟨r', hRole, hOther⟩ := heldElsewhere_iff.mp hElse
      rcases hFree q hq with hNone | hSame
      · rw [hNone] at hRole; cases hRole
      · rw [hSame] at hRole
        exact hOther (Option.some.inj hRole).symm
    rw [if_neg hHeld] at hAnswer
    obtain ⟨hRow, hReply, hAt⟩ := hReady.recasts (exec_cast s tag (.given a)) hAnswer (State.castRole_frame s r p)
    obtain ⟨hClaims, hPages, hTalkin⟩ := castRole_kept_cast (s := s) (r := r) p
    refine ⟨_, hRow, hReply, hAt, hClaims, hPages, hTalkin, fun hSame => ?_, fun hNew => ⟨?_, fun r' hOther => ?_, fun q hq => ⟨?_, ?_⟩,
      fun q hq hOld => ⟨?_, ?_⟩, fun q hq hOld => ?_⟩⟩
    · rw [castRole_same hSame]
      exact ⟨rfl, rfl⟩
    · exact (castRole_role hNew r).trans (if_pos rfl)
    · exact (castRole_role hNew r').trans (if_neg (Ne.symm hOther))
    · exact (castRole_perf hNew q).trans (if_pos hq)
    · have hTold := castRole_raised (s := s) (q := q) hNew (.inl hq)
      rw [castRole_perf hNew, if_pos hq, String.append_assoc, show " event=" ++ "cast" = " event=cast" by decide] at hTold
      exact hTold
    · exact (castRole_perf hNew q).trans ((if_neg hq).trans (if_pos hOld))
    · have hTold := castRole_raised (s := s) (q := q) hNew (.inr hOld)
      rw [castRole_perf hNew, if_neg hq, if_pos hOld, show " role=" ++ optText roleText none ++ " event=" ++ "cast" = " role=none event=cast" by decide] at hTold
      exact hTold
    · exact (castRole_perf hNew q).trans ((if_neg hq).trans (if_neg hOld))

/-- Settles O29: a changeover, and then the fields of MANUAL. -/
theorem selectForces : Obligations.SelectForces := by
  intro s tag a p i hReady hp hi
  have hAnswer := setSelect_eq (s := s) hp hi
  refine ⟨fun hNone => ?_, fun ⟨e, he, hInput⟩ => ?_⟩
  · rw [if_pos (List.all_eq_true.mpr fun e he => decide_eq_true (hNone e he))] at hAnswer
    exact hReady.refuses (exec_select s tag (.given a)) hAnswer
  · have hOwn : ¬(s.perf p).inputs.all (fun e => e.1 ≠ i) = true := fun h => by
      have hNot := List.all_eq_true.mp h e he
      exact of_decide_eq_true hNot hInput
    rw [if_neg hOwn] at hAnswer
    obtain ⟨hRow, hReply, hAt⟩ := hReady.recasts (exec_select s tag (.given a)) hAnswer (forceInput_frame p i)
    obtain ⟨hOnly, hPerf, hRaised, hRoles⟩ := forceInput_leaves s p i
    obtain ⟨-, hFades, hStands⟩ := changeover_changes s p i
    have hText : "!PERF " ++ perfText p ++ " state=" ++ "manual" ++ " active=" ++ inText i ++ " compromised=" ++ "no" ++ " role=" ++
        optText roleText (s.perf p).role ++ " event=" ++ "select" = "!PERF " ++ perfText p ++ " state=manual active=" ++ inText i ++
        " compromised=no role=" ++ optText roleText (s.perf p).role ++ " event=select" := by
      rw [show " event=select" = " event=" ++ "select" by decide, show " state=manual active=" = " state=" ++ "manual" ++ " active=" by decide,
        show " compromised=no role=" = " compromised=" ++ "no" ++ " role=" by decide]
      simp only [String.append_assoc]
    rw [hText] at hRaised
    have hClaims : (s.forceInput p i).cast.claims = s.cast.claims := by rw [hOnly.1]
    exact ⟨_, hRow, hReply, hAt, hClaims, hPerf, hRaised, hOnly.2, fun r hr hNew => (hRoles r).trans (hFades r hr hNew),
      fun r hr => (hRoles r).trans (hStands r hr)⟩

/-- Settles O30: by the active input, GOOD or not, and selection by R75. -/
theorem autoReturns : Obligations.AutoReturns := by
  intro s tag n p hReady hp
  obtain ⟨hRow, hReply, hAt⟩ := hReady.recasts (exec_auto s tag (.given n)) (setAutoMode_eq hp) (State.setAuto_frame s p)
  obtain ⟨w, hEq, hDisabled, hOnly, hLeft, hSelects⟩ := setAuto_forms s p
  have hTold := raisePerf_raised (s := s) hDisabled p "auto"
  have hCast : (s.setAuto p).cast = w.cast := by rw [hEq]; exact (State.raisePerf_frame w p "auto").2.2.2.1
  have hPerfs : ∀ q, (s.setAuto p).perf q = w.perf q := fun q => by unfold State.perf; rw [hCast]
  have hClaims : (s.setAuto p).cast.claims = s.cast.claims := by rw [hCast, hOnly.1]
  rw [← hEq, ← hPerfs, String.append_assoc, show " event=" ++ "auto" = " event=auto" by decide] at hTold
  have hFields : (w.perf p).modeAuto = true ∧ (w.perf p).role = (s.perf p).role ∧ (w.perf p).main = (s.perf p).main ∧
      (w.perf p).spares = (s.perf p).spares ∧ (w.perf p).trim = (s.perf p).trim := by
    by_cases hGood : ∀ i, (s.perf p).active = some i → s.isGood i = true
    · rw [hLeft hGood, inAuto_perf]
      exact ⟨rfl, rfl, rfl, rfl, rfl⟩
    · simp only [not_forall, Bool.not_eq_true] at hGood
      obtain ⟨i, hActive, hBad⟩ := hGood
      obtain ⟨hAlarm, hChosen⟩ := inAuto_selected hActive hBad (hSelects i hActive hBad)
      by_cases hNone : s.candidates (s.perf p) = []
      · rw [hAlarm hNone]
        exact ⟨rfl, rfl, rfl, rfl, rfl⟩
      · obtain ⟨_, _, _, _, _, _, _, hTo⟩ := hChosen hNone
        rw [hTo]
        exact ⟨rfl, rfl, rfl, rfl, rfl⟩
  have hOthers : ∀ q, q ≠ p → (s.setAuto p).perf q = s.perf q := fun q hq => (hPerfs q).trans (hOnly.2 q hq)
  have hPerf := hPerfs p
  generalize s.setAuto p = t at *
  rw [← hPerf] at hFields
  obtain ⟨hAuto, hRole, hMain, hSpares, hTrim⟩ := hFields
  refine ⟨_, hRow, hReply, hAt, hClaims, hOthers, hAuto, hRole, hMain, hSpares, hTrim, hTold, fun hNone => ?_, fun i hActive hGood => ?_,
    fun i hActive hBad hEmpty => ?_, fun i hActive hBad hFull => ?_⟩
  · have hTo : t.perf p = { s.perf p with modeAuto := true, state := placeState (s.perf p).activePlace } := by
      rw [hPerf, hLeft (fun i h => by rw [hNone] at h; cases h), inAuto_perf]
    have hPlace : (s.perf p).activePlace = none := by
      unfold Perf.activePlace
      rw [hNone]
      rfl
    rw [hPlace] at hTo
    exact ⟨(congrArg Perf.active hTo).trans hNone, congrArg Perf.state hTo⟩
  · have hTo : t.perf p = { s.perf p with modeAuto := true, state := placeState (s.perf p).activePlace } := by
      rw [hPerf, hLeft (fun j h => by rw [hActive] at h; exact Option.some.inj h ▸ hGood), inAuto_perf]
    exact ⟨(congrArg Perf.active hTo).trans hActive, congrArg Perf.state hTo, (congrArg Perf.compromised hTo :)⟩
  · have hTo := hPerf.trans ((inAuto_selected hActive hBad (hSelects i hActive hBad)).1 hEmpty)
    exact ⟨(congrArg Perf.active hTo).trans hActive, congrArg Perf.state hTo, (congrArg Perf.compromised hTo :)⟩
  · obtain ⟨e, before, after, hSplit, hLow, hBefore, hAfter, hChosen⟩ := (inAuto_selected hActive hBad (hSelects i hActive hBad)).2 hFull
    have hTo := hPerf.trans hChosen
    exact ⟨e, before, after, hSplit, hLow, hBefore, hAfter, congrArg Perf.active hTo, congrArg Perf.state hTo, congrArg Perf.compromised hTo⟩

end Sys2Proof.Proofs
end

section
/-! PROOFS. The telemetry receiver (R61 to R63). -/

namespace Sys2Proof.Machine

open Sys2Proof

section
variable {s t u : State}

/-- An event in a calm state that leaves what STANDBY_READY depends on. -/
theorem State.Calm.event (hCalm : s.Calm) (hReset : s.inReset = false) {f : State → State} (hEngine : (f s).engine = s.engine)
    (hCues : (f s).cues = s.cues) (hReaders : (f s).fetch.readers = s.fetch.readers) : laterEvent f s = .next (f s) := by
  obtain ⟨hSettled, hPrompt⟩ := hCalm
  rw [laterEvent_running hReset hPrompt, finish_of_settled (settled_congr hSettled hEngine hCues hReaders)]

/-! ### A discard (R63) -/

theorem raise_told (h : t.link.disabled = s.link.disabled) (key : ReportKey) (text : String) : s.Raised (t.raise key text) key text := by
  have hRaised := State.raised_raise (t := t) h key "" text ""
  rw [String.append_empty, String.empty_append] at hRaised
  exact hRaised

theorem discard_checksum (s : State) : (s.discard .checksum).mic =
    { s.mic with tlm := { s.mic.tlm with framing := .hunt, checksum := bump s.mic.tlm.checksum } } := State.raise_mic _ _ _

theorem discard_channel (s : State) : (s.discard .channel).mic =
    { s.mic with tlm := { s.mic.tlm with framing := .hunt, channel := bump s.mic.tlm.channel } } := State.raise_mic _ _ _

theorem discard_sync (s : State) : (s.discard .sync).mic =
    { s.mic with tlm := { s.mic.tlm with framing := .hunt, sync := bump s.mic.tlm.sync } } := State.raise_mic _ _ _

theorem discard_incomplete (s : State) : (s.discard .incomplete).mic =
    { s.mic with tlm := { s.mic.tlm with framing := .hunt, incomplete := bump s.mic.tlm.incomplete } } := State.raise_mic _ _ _

theorem discard_raised (h : t.link.disabled = s.link.disabled) (cause : Discard) :
    s.Raised (t.discard cause) .tlm ((t.discard cause).mic.tlm.countText ++ " last=" ++ discardText cause) := by
  unfold State.discard
  rw [State.raise_mic]
  dsimp only
  generalize hDiscarded : t.onTlm _ = w
  have hDisabled : w.link.disabled = s.link.disabled := by rw [← hDiscarded]; exact h
  exact (raise_told hDisabled .tlm _).part (before := "!TLM ") (after := "") (by simp only [String.append_assoc, String.append_empty])

/-! ### The parts of the receiver that stand -/

/-- Of the microphone block nothing changed but the receiver and the records handed over. -/
def State.OnlyTlm (s t : State) : Prop := t.mic = { s.mic with tlm := t.mic.tlm, handed := t.mic.handed }

theorem State.OnlyTlm.trans (h : s.OnlyTlm t) (h' : t.OnlyTlm u) : s.OnlyTlm u := by
  unfold State.OnlyTlm at *
  rw [h] at h'
  exact h'

theorem discard_onlyTlm (s : State) (cause : Discard) : s.OnlyTlm (s.discard cause) ∧ (s.discard cause).mic.handed = s.mic.handed := by
  unfold State.OnlyTlm
  cases cause with
  | checksum => rw [discard_checksum]; exact ⟨rfl, rfl⟩
  | channel => rw [discard_channel]; exact ⟨rfl, rfl⟩
  | sync => rw [discard_sync]; exact ⟨rfl, rfl⟩
  | incomplete => rw [discard_incomplete]; exact ⟨rfl, rfl⟩

theorem huntByte_onlyTlm (s : State) (byte : Byte) (framing : Bool) :
    s.OnlyTlm (s.huntByte byte framing) ∧ (s.huntByte byte framing).mic.handed = s.mic.handed := by
  unfold State.huntByte
  split <;> exact ⟨rfl, rfl⟩

theorem checkRecord_onlyTlm (s : State) (l : List Byte) : s.OnlyTlm (s.checkRecord l) := by
  unfold State.checkRecord
  split
  · split
    · exact (discard_onlyTlm s _).1
    · split
      · exact (discard_onlyTlm s _).1
      · exact rfl
  · exact rfl

/-! ### A byte by the framing state (R62) -/

section
variable {byte : Byte} {framing : Bool} {l : List Byte}

theorem takeByte_sync (h : s.mic.tlm.framing = .hunt ∨ s.mic.tlm.framing = .waitSync) (hByte : byte = 0xA5) (hFraming : framing = false) :
    s.takeByte byte framing = s.onTlm fun t => { t with framing := .collect [byte], lastByte := s.now } := by
  have hIf : byte = 0xA5 ∧ !framing := ⟨hByte, by rw [hFraming]; rfl⟩
  unfold State.takeByte State.huntByte
  rcases h with h | h <;> rw [h] <;> exact if_pos hIf

theorem not_sync (h : byte ≠ 0xA5 ∨ framing = true) : ¬(byte = 0xA5 ∧ (!framing) = true) := fun ⟨hByte, hFraming⟩ =>
  h.elim (fun h => h hByte) fun h => by rw [h] at hFraming; cases hFraming

theorem takeByte_skipped (h : s.mic.tlm.framing = .hunt) (hNot : byte ≠ 0xA5 ∨ framing = true) :
    s.takeByte byte framing = s.onTlm fun t => { t with framing := .hunt, skipped := bump t.skipped } := by
  unfold State.takeByte State.huntByte
  rw [h]
  exact if_neg (not_sync hNot)

theorem takeByte_lost (h : s.mic.tlm.framing = .waitSync) (hNot : byte ≠ 0xA5 ∨ framing = true) :
    s.takeByte byte framing = s.discard .sync := by
  unfold State.takeByte
  rw [h]
  exact if_neg (not_sync hNot)

theorem takeByte_late (h : s.mic.tlm.framing = .collect l) (hGap : 96 < s.now - s.mic.tlm.lastByte) :
    s.takeByte byte framing = (s.discard .incomplete).huntByte byte framing := by
  unfold State.takeByte
  rw [h]
  exact if_pos hGap

theorem takeByte_broken (h : s.mic.tlm.framing = .collect l) (hGap : s.now - s.mic.tlm.lastByte ≤ 96) (hFraming : framing = true) :
    s.takeByte byte framing = s.discard .incomplete := by
  unfold State.takeByte
  rw [h]
  exact (if_neg (Nat.not_lt.mpr hGap)).trans (if_pos hFraming)

theorem takeByte_collects (h : s.mic.tlm.framing = .collect l) (hGap : s.now - s.mic.tlm.lastByte ≤ 96) (hFraming : framing = false)
    (hShort : l.length ≠ 5) :
    s.takeByte byte framing = s.onTlm fun t => { t with framing := .collect (l ++ [byte]), lastByte := s.now } := by
  unfold State.takeByte
  rw [h]
  exact (if_neg (Nat.not_lt.mpr hGap)).trans ((if_neg (by rw [hFraming]; decide)).trans (if_neg hShort))

/-- The receiver with one byte more of a record (R62). -/
def State.collected (s : State) (l : List Byte) : State := s.onTlm fun t => { t with framing := .collect l, lastByte := s.now }

theorem takeByte_checks {b0 ch rf batt flags : Byte} (h : s.mic.tlm.framing = .collect [b0, ch, rf, batt, flags])
    (hGap : s.now - s.mic.tlm.lastByte ≤ 96) (hFraming : framing = false) : s.takeByte byte framing =
      (s.collected [b0, ch, rf, batt, flags, byte]).checkRecord [b0, ch, rf, batt, flags, byte] := by
  unfold State.takeByte
  rw [h]
  exact (if_neg (Nat.not_lt.mpr hGap)).trans ((if_neg (by rw [hFraming]; decide)).trans (if_pos rfl))

theorem takeByte_onlyTlm (s : State) (byte : Byte) (framing : Bool) : s.OnlyTlm (s.takeByte byte framing) ∧
    ((∀ l, s.mic.tlm.framing = .collect l → l.length ≠ 5) → (s.takeByte byte framing).mic.handed = s.mic.handed) := by
  unfold State.takeByte
  cases hFraming : s.mic.tlm.framing with
  | hunt =>
    obtain ⟨hOnly, hHanded⟩ := huntByte_onlyTlm s byte framing
    exact ⟨hOnly, fun _ => hHanded⟩
  | waitSync =>
    obtain ⟨hOnly, hHanded⟩ := discard_onlyTlm s .sync
    dsimp only
    split
    · exact ⟨rfl, fun _ => rfl⟩
    · exact ⟨hOnly, fun _ => hHanded⟩
  | collect l =>
    obtain ⟨hOnly, hHanded⟩ := discard_onlyTlm s .incomplete
    dsimp only
    split
    · obtain ⟨hOnlyHunt, hHandedHunt⟩ := huntByte_onlyTlm (s.discard .incomplete) byte framing
      exact ⟨hOnly.trans hOnlyHunt, fun _ => hHandedHunt.trans hHanded⟩
    · split
      · exact ⟨hOnly, fun _ => hHanded⟩
      · split
        · rename_i hFull
          refine ⟨State.OnlyTlm.trans (t := s.onTlm fun t => { t with framing := .collect (l ++ [byte]), lastByte := s.now }) rfl
            (checkRecord_onlyTlm _ _), fun h => absurd hFull (h l rfl)⟩
        · exact ⟨rfl, fun _ => rfl⟩

end

/-! ### A complete record (R61, R63) -/

section
variable {b0 ch rf batt flags sum : Byte}

theorem checkRecord_checksum (h : ch + rf + batt + flags ≠ sum) :
    s.checkRecord [b0, ch, rf, batt, flags, sum] = s.discard .checksum := if_pos h

theorem checkRecord_channel (h : ch + rf + batt + flags = sum) (hChannel : ofNum 64 ch.toNat = none) :
    s.checkRecord [b0, ch, rf, batt, flags, sum] = s.discard .channel := by
  refine (if_neg (not_not.mpr h)).trans ?_
  rw [hChannel]

theorem checkRecord_good {i : InputId} (h : ch + rf + batt + flags = sum) (hChannel : ofNum 64 ch.toNat = some i) :
    s.checkRecord [b0, ch, rf, batt, flags, sum] = (s.onTlm fun t => { t with framing := .waitSync, good := bump t.good }).onMic fun b =>
      { b with handed := b.handed ++ [recordOf i rf batt flags] } := by
  refine (if_neg (not_not.mpr h)).trans ?_
  rw [hChannel]

end

end

end Sys2Proof.Machine

namespace Sys2Proof.Proofs

open Sys2Proof Sys2Proof.Machine

/-- Settles O31: by the framing state. -/
theorem telemetryByte : Obligations.TelemetryByte := by
  intro s byte framing hReset hCalm
  obtain ⟨hKept, hMatrix, hFades, hCast, hEngine, hFetch, hFoldback, hRouter, hLines⟩ := State.takeByte_frame s byte framing
  have hRow : exec (.telemetryByte byte framing) s = .next (s.takeByte byte framing) :=
    (exec_telemetryByte s byte framing).trans (hCalm.event hReset hEngine (kept_cues hKept) (by rw [hFetch]))
  have hAt : s.takeByte byte framing = { s with link := (s.takeByte byte framing).link, mic := (s.takeByte byte framing).mic } :=
    (State.eq_at hKept).trans (by rw [hMatrix, hFades, hCast, hEngine, hFetch, hFoldback, hRouter, hLines])
  obtain ⟨hOnly, hHanded⟩ := takeByte_onlyTlm s byte framing
  have hLast : ∀ (t : State) (cause : Discard), t.link.disabled = s.link.disabled →
      s.Raised (t.discard cause) .tlm ((t.discard cause).mic.tlm.countText ++ (" last=" ++ discardText cause)) := fun t cause h => by
    rw [← String.append_assoc]
    exact discard_raised h cause
  refine ⟨_, hRow, hAt, kept_link hKept, hOnly, hHanded, fun hByte hFraming hState => ?_, fun hNot hState => ?_, fun hNot hState => ?_,
    fun l hState hGap hFraming => ?_, fun l hState hGap => ?_, fun l hState hGap hFraming hShort => ?_,
    fun b0 ch rf batt flags hState hGap hFraming => ?_⟩
  · rw [takeByte_sync hState hByte hFraming]
    exact ⟨rfl, rfl⟩
  · rw [takeByte_skipped hState hNot]
    refine ⟨?_, rfl⟩
    show { s.mic.tlm with framing := .hunt, skipped := bump s.mic.tlm.skipped } = _
    rw [← hState]
    rfl
  · rw [takeByte_lost hState hNot]
    exact ⟨congrArg MicBlock.tlm (discard_sync s), hLast s .sync rfl⟩
  · rw [takeByte_broken hState hGap hFraming]
    exact ⟨congrArg MicBlock.tlm (discard_incomplete s), hLast s .incomplete rfl⟩
  · rw [takeByte_late hState hGap]
    have hTold := (hLast s .incomplete rfl).part (before := (s.discard .incomplete).mic.tlm.countText) (after := "")
      (part := " last=" ++ "partial") (by rw [String.append_empty]; rfl)
    have hMic := discard_incomplete s
    generalize s.discard .incomplete = w at *
    by_cases hSync : byte = 0xA5 ∧ framing = false
    · have hHunt : w.huntByte byte framing = w.onTlm fun t => { t with framing := .collect [byte], lastByte := w.now } :=
        if_pos ⟨hSync.1, by rw [hSync.2]; rfl⟩
      rw [hHunt, if_pos hSync]
      refine ⟨?_, hTold, rfl⟩
      show w.mic.tlm.incomplete = _
      rw [hMic]
      rfl
    · have hHunt : w.huntByte byte framing = w.onTlm fun t => { t with framing := .hunt, skipped := bump t.skipped } :=
        if_neg fun h => hSync ⟨h.1, by simpa using h.2⟩
      rw [hHunt, if_neg hSync]
      refine ⟨?_, hTold, rfl⟩
      show w.mic.tlm.incomplete = _
      rw [hMic]
      rfl
  · rw [takeByte_collects hState hGap hFraming hShort]
    exact ⟨rfl, rfl⟩
  · rw [takeByte_checks hState hGap hFraming]
    refine ⟨fun hSum => ?_, fun hSum hChannel => ?_, fun i hSum hChannel => ?_⟩
    · rw [checkRecord_checksum hSum]
      have hTold := hLast (s.collected [b0, ch, rf, batt, flags, byte]) .checksum rfl
      rw [discard_checksum]
      exact ⟨rfl, rfl, rfl, by rw [discard_checksum] at hTold; exact hTold⟩
    · rw [checkRecord_channel hSum hChannel]
      have hTold := hLast (s.collected [b0, ch, rf, batt, flags, byte]) .channel rfl
      rw [discard_channel]
      exact ⟨rfl, rfl, rfl, by rw [discard_channel] at hTold; exact hTold⟩
    · rw [checkRecord_good hSum hChannel]
      exact ⟨rfl, rfl, rfl⟩

end Sys2Proof.Proofs
end

section
/-! PROOFS. The health table, a valid record and the health timers (R65 to R81). -/

namespace Sys2Proof.Machine

open Sys2Proof

section
variable {s t u : State} {i : InputId} {p : PerfId} {x : HealthRec} {f : HealthRec → HealthRec}

/-! ### The state table (R67, R68, R72) -/

theorem restoring_iff {d : TlmRecord} {floor hyst : Nat} : d.restoring floor hyst = true ↔ goodRecord d floor hyst := by
  unfold TlmRecord.restoring goodRecord
  simp [and_assoc]

theorem bad_iff {d : TlmRecord} {floor : Nat} : d.bad floor = true ↔ badRecord d floor := by
  unfold TlmRecord.bad badRecord
  simp [or_assoc]

section
variable {d : TlmRecord} {floor : Nat} {sup : Supervision} {now : Nat}

theorem byRecord_noData (h : x.state = .noData) : x.byRecord d floor sup now =
    if d.restoring floor sup.hyst then { x with state := .good, cause := none } else { x with state := .down, cause := some d.downCause } := by
  unfold HealthRec.byRecord
  rw [h]

theorem byRecord_good (h : x.state = .good) : x.byRecord d floor sup now =
    if d.bad floor then { x with state := .fading, fadeStart := some now, dropoutAt := some (now + 48 * sup.dropout) } else x := by
  unfold HealthRec.byRecord
  rw [h]
  rfl

theorem byRecord_fading (h : x.state = .fading) : x.byRecord d floor sup now =
    if d.bad floor then x
    else { x with
      state := .good, cause := none, dropoutAt := none, fadeStart := none
      lastFade := some ((now - x.fadeStart.getD now) / 48) } := by
  unfold HealthRec.byRecord
  rw [h]
  rfl

theorem byRecord_down (h : x.state = .down) : x.byRecord d floor sup now =
    if d.restoring floor sup.hyst then { x with state := .recovering, restoreAt := some (now + 48 * sup.restore) }
    else { x with cause := some d.downCause } := by
  unfold HealthRec.byRecord
  rw [h]
  rfl

theorem byRecord_recovering (h : x.state = .recovering) : x.byRecord d floor sup now =
    if d.restoring floor sup.hyst then x else { x with state := .down, cause := some d.downCause, restoreAt := none } := by
  unfold HealthRec.byRecord
  rw [h]

/-- The table leaves what a record sets before it (R68, R72). -/
theorem byRecord_keeps (x : HealthRec) : (x.byRecord d floor sup now).last = x.last ∧ (x.byRecord d floor sup now).lastAt = x.lastAt ∧
    (x.byRecord d floor sup now).staleAt = x.staleAt ∧ (x.byRecord d floor sup now).overFlag = x.overFlag ∧
    (x.byRecord d floor sup now).lowBatt = x.lowBatt := by
  cases h : x.state with
  | noData => rw [byRecord_noData h]; split <;> exact ⟨rfl, rfl, rfl, rfl, rfl⟩
  | good => rw [byRecord_good h]; split <;> exact ⟨rfl, rfl, rfl, rfl, rfl⟩
  | fading => rw [byRecord_fading h]; split <;> exact ⟨rfl, rfl, rfl, rfl, rfl⟩
  | down => rw [byRecord_down h]; split <;> exact ⟨rfl, rfl, rfl, rfl, rfl⟩
  | recovering => rw [byRecord_recovering h]; split <;> exact ⟨rfl, rfl, rfl, rfl, rfl⟩

/-- What a record sets before the table (R68, R72). -/
theorem take_eq (x : HealthRec) : ∃ y : HealthRec, x.take d floor sup now = y.byRecord d floor sup now ∧ y.state = x.state ∧ y.cause = x.cause ∧
    y.dropoutAt = x.dropoutAt ∧ y.restoreAt = x.restoreAt ∧ y.fadeStart = x.fadeStart ∧ y.last = some d ∧ y.lastAt = now ∧
    y.staleAt = some (now + 48 * sup.stale) ∧ (y.overFlag = true ↔ sup.overThreshold ≤ d.rf) ∧
    (y.lowBatt = true ↔ ∃ n, d.batt = some n ∧ n < sup.batt) := by
  refine ⟨_, rfl, rfl, rfl, rfl, rfl, rfl, rfl, rfl, rfl, decide_eq_true_iff, ?_⟩
  cases d.batt with
  | none => exact ⟨(fun h => by cases h), fun ⟨_, h, _⟩ => by cases h⟩
  | some n => exact ⟨fun h => ⟨n, rfl, of_decide_eq_true h⟩, fun ⟨_, h, hLow⟩ => decide_eq_true (Option.some.inj h ▸ hLow)⟩

end

/-! ### A change of an input's health (R73 to R77, R80, R81) -/

/-- The event of a MIC report (R73). -/
theorem micEvent_state {y : HealthRec} (h : x.state ≠ y.state) :
    micEvent x y = some (if x.state = .fading ∧ y.state = .good then "restored" else healthText y.state) := by
  unfold micEvent
  rw [if_pos h]
  split <;> rfl

theorem micEvent_cause {y : HealthRec} (h : x.state = y.state) (hCause : x.cause ≠ y.cause) : micEvent x y = some "cause" :=
  (if_neg (not_not.mpr h)).trans (if_pos hCause)

theorem micEvent_bound {y : HealthRec} (h : x.state = y.state) (hCause : x.cause = y.cause)
    (hBound : x.overFlag ≠ y.overFlag ∨ x.lowBatt ≠ y.lowBatt) : micEvent x y = some "bound" :=
  (if_neg (not_not.mpr h)).trans ((if_neg (not_not.mpr hCause)).trans (if_pos hBound))

theorem micEvent_none {y : HealthRec} (h : x.state = y.state) (hCause : x.cause = y.cause) (hOver : x.overFlag = y.overFlag)
    (hLow : x.lowBatt = y.lowBatt) : micEvent x y = none :=
  (if_neg (not_not.mpr h)).trans ((if_neg (not_not.mpr hCause)).trans (if_neg fun hBound => hBound.elim (fun h => h hOver) fun h => h hLow))

/-- What a change of an input's state calls for: selection, revert, or nothing (R74, R77). -/
theorem afterHealth_none {a b : Health} (h : a = b ∨ (s.perf p).modeAuto = false) : s.afterHealth p i a b = (s, none) := by
  have hIf : (!(s.perf p).modeAuto || decide (a = b)) = true := by
    rcases h with h | h
    · rw [decide_eq_true h, Bool.or_true]
    · rw [h]; rfl
  unfold State.afterHealth
  dsimp only
  rw [if_pos hIf]

section
variable {a b : Health} (hMoves : a ≠ b) (hAuto : (s.perf p).modeAuto = true)
include hMoves hAuto

theorem afterHealth_down (hDown : b = .down) (hActive : (s.perf p).active = some i) : s.afterHealth p i a b = s.select p := by
  have hIf : ¬(!(s.perf p).modeAuto || decide (a = b)) = true := by rw [hAuto, decide_eq_false hMoves]; decide
  unfold State.afterHealth
  dsimp only
  rw [if_neg hIf, if_pos ⟨hDown, hActive⟩]

theorem afterHealth_alarm (hGood : b = .good) (hAlarm : (s.perf p).state = .alarm) : s.afterHealth p i a b = s.select p := by
  have hIf : ¬(!(s.perf p).modeAuto || decide (a = b)) = true := by rw [hAuto, decide_eq_false hMoves]; decide
  unfold State.afterHealth
  dsimp only
  rw [if_neg hIf, if_neg (fun h => by rw [hGood] at h; exact absurd h.1 (by decide)), if_pos ⟨hGood, hAlarm⟩]

theorem afterHealth_revert (hGood : b = .good) (hSpare : (s.perf p).state = .spare) (hRevert : (s.perf p).revertAuto = true)
    (hMain : (s.perf p).main = some i) : s.afterHealth p i a b = s.revert p i := by
  have hIf : ¬(!(s.perf p).modeAuto || decide (a = b)) = true := by rw [hAuto, decide_eq_false hMoves]; decide
  unfold State.afterHealth
  dsimp only
  rw [if_neg hIf, if_neg (fun h => by rw [hGood] at h; exact absurd h.1 (by decide)),
    if_neg (fun h => by rw [hSpare] at h; exact absurd h.2 (by decide)), if_pos ⟨hGood, hSpare, hRevert, hMain⟩]

end

/-- Selection by its steps: no active input, none left, or a winner (R75). -/
theorem select_idle (h : (s.perf p).active = none) : s.select p = (s, none) := by
  unfold State.select
  dsimp only
  rw [h]

/-- The state selection leaves a performer in where no input wins (R75, step 5). -/
def State.stayState (s : State) (p : PerfId) (i : InputId) : PerfState := if s.isGood i then placeState (s.perf p).activePlace else .alarm

theorem select_stays (h : (s.perf p).active = some i) (hNone : s.winner (s.shortlist (s.candidates (s.perf p))) = none) : s.select p =
    if (s.perf p).state = s.stayState p i then (s, none)
    else (s.onPerf p fun y => { y with state := s.stayState p i }, some (if s.stayState p i = .alarm then "alarm" else "recovered")) := by
  unfold State.select
  dsimp only
  rw [h]
  dsimp only
  rw [hNone]
  rfl

theorem select_won {e : InputId × Place} (h : (s.perf p).active = some i) (hWon : s.winner (s.shortlist (s.candidates (s.perf p))) = some e) :
    s.select p = ((s.changeover p e.1).onPerf p fun y => { y with state := placeState (some e.2), compromised := s.lowBatt e.1 },
      some "changeover") := by
  unfold State.select
  dsimp only
  rw [h]
  dsimp only
  rw [hWon]

/-- The winner is not the active input (R75, step 1). -/
theorem winner_new {e : InputId × Place} (h : (s.perf p).active = some i) (hWon : s.winner (s.shortlist (s.candidates (s.perf p))) = some e) :
    e.1 ≠ i := by
  have hSome : s.candidates (s.perf p) ≠ [] := fun hNone => by
    rw [hNone] at hWon
    cases hWon
  obtain ⟨e', before, after, hChosen, hSplit, -⟩ := s.winner_shortlist _ hSome
  obtain rfl : e' = e := Option.some.inj (hChosen.symm.trans hWon)
  have hMem : e' ∈ s.candidates (s.perf p) := by
    rw [hSplit]
    exact List.mem_append_right _ List.mem_cons_self
  rw [candidates_eq h] at hMem
  have hApart := (List.mem_filter.mp hMem).2
  simp only [Bool.and_eq_true, decide_eq_true_eq] at hApart
  exact hApart.2

/-- The event of a selection tells what it changed (R75, R80). -/
theorem select_event (h : (s.select p).1.perf p ≠ s.perf p) : (s.select p).2 = some
    (if ((s.select p).1.perf p).active ≠ (s.perf p).active then "changeover" else
      if ((s.select p).1.perf p).state = .alarm then "alarm" else "recovered") := by
  cases hActive : (s.perf p).active with
  | none =>
    rw [select_idle hActive] at h
    exact absurd rfl h
  | some i =>
    cases hWinner : s.winner (s.shortlist (s.candidates (s.perf p))) with
    | none =>
      rw [select_stays hActive hWinner] at h ⊢
      by_cases hState : (s.perf p).state = s.stayState p i
      · rw [if_pos hState] at h
        exact absurd rfl h
      · rw [if_neg hState]
        dsimp only
        rw [State.perf_onPerf_same, if_neg (not_not.mpr hActive)]
    | some e =>
      rw [select_won hActive hWinner]
      dsimp only
      rw [State.perf_onPerf_same, (changeover_changes s p e.1).1, if_pos fun hEq => winner_new hActive hWinner (Option.some.inj hEq)]

/-- What follows a change of an input's health, `w` having the new record: the performer, the MIC report and the PERF report (R81). -/
def State.healthTold (w : State) (p : PerfId) (i : InputId) (x y : HealthRec) : State :=
  State.raisePerfIf ((micEvent x y).elim (w.afterHealth p i x.state y.state).1 fun e =>
    (w.afterHealth p i x.state y.state).1.raiseMic i y p e) p (w.afterHealth p i x.state y.state).2

theorem changeHealth_eq {place : Place} (hHealth : s.health i = some x) (hClaim : s.claim i = some (p, place)) :
    s.changeHealth i f = (s.setHealth i (some (f x))).healthTold p i x (f x) := by
  unfold State.changeHealth State.healthTold
  rw [hHealth, hClaim]
  dsimp only
  cases micEvent x (f x) <;> rfl

theorem raisePerfIf_raised (h : t.link.disabled = s.link.disabled) (p : PerfId) (event : String) :
    s.Raised (t.raisePerfIf p (some event)) (.perf p) ("!PERF " ++ perfText p ++ " state=" ++ perfStateText (t.perf p).state ++ " active=" ++
      optText inText (t.perf p).active ++ " compromised=" ++ yesNo (t.perf p).compromised ++ " role=" ++
      optText roleText (t.perf p).role ++ " event=" ++ event) := raisePerf_raised h p event

theorem State.Raised.raisePerfIf {text : String} (h : s.Raised t (.mic i) text) (event : Option String) :
    s.Raised (t.raisePerfIf p event) (.mic i) text := by
  cases event with
  | none => exact h
  | some e => exact h.raise_of_ne (fun h => by cases h) _

theorem raiseMic_raised (h : t.link.disabled = s.link.disabled) (y : HealthRec) (p : PerfId) (event : String) :
    s.Raised (t.raiseMic i y p event) (.mic i) (" event=" ++ event) :=
  (raise_told h (.mic i) _).part (before := "!MIC " ++ healthFields i y p) (after := "") (by simp [String.append_assoc])

theorem State.PerfFollows.congr {a b : Health} (h : s.PerfFollows t p i a b) (hCast : u.cast = t.cast) : s.PerfFollows u p i a b := by
  unfold State.PerfFollows State.OnlyPerf State.Selected State.ChangesTo State.perf State.role at *
  rw [hCast]
  exact h

/-- The reports of a change of health, MIC and then PERF (R73, R80, R81). -/
theorem healthTold_spec (w : State) (p : PerfId) (i : InputId) (x y : HealthRec) : (w.healthTold p i x y).mic = w.mic ∧
    (w.healthTold p i x y).cast = (w.afterHealth p i x.state y.state).1.cast ∧ w.HealthRaised (w.healthTold p i x y) p i x y := by
  obtain ⟨hKept, -, -, hMic, -⟩ := State.afterHealth_frame (s := w) p i x.state y.state
  have hDisabled := kept_disabled hKept
  have hTold : ∀ (v : State) (event : Option String), v.link.disabled = w.link.disabled →
      (event.elim v fun e => v.raiseMic i y p e).link.disabled = w.link.disabled ∧
      (event.elim v fun e => v.raiseMic i y p e).mic = v.mic ∧ (event.elim v fun e => v.raiseMic i y p e).cast = v.cast := fun v event h => by
    cases event with
    | none => exact ⟨h, rfl, rfl⟩
    | some e =>
      obtain ⟨hKept, -, -, hCast, hMic, -⟩ := State.raiseMic_frame (s := v) i y p e
      exact ⟨(kept_disabled hKept).trans h, hMic, hCast⟩
  have hMicRaised : ∀ e, micEvent x y = some e → w.Raised (w.healthTold p i x y) (.mic i) (" event=" ++ e) := fun e h => by
    unfold State.healthTold
    rw [h]
    exact (raiseMic_raised hDisabled y p e).raisePerfIf _
  unfold State.healthTold at *
  have hStill := afterHealth_none (s := w) (p := p) (i := i) (a := x.state) (b := y.state)
  have hDown := fun hMoves hAuto => afterHealth_down (s := w) (p := p) (i := i) (a := x.state) (b := y.state) hMoves hAuto
  have hAlarm := fun hMoves hAuto => afterHealth_alarm (s := w) (p := p) (i := i) (a := x.state) (b := y.state) hMoves hAuto
  have hRevert := fun hMoves hAuto => afterHealth_revert (s := w) (p := p) (i := i) (a := x.state) (b := y.state) hMoves hAuto
  generalize w.afterHealth p i x.state y.state = r at *
  obtain ⟨hTellDisabled, hTellMic, hTellCast⟩ := hTold r.1 (micEvent x y) hDisabled
  have hSilent : micEvent x y = none → (State.raisePerfIf ((micEvent x y).elim r.1 fun e => r.1.raiseMic i y p e) p r.2) =
      r.1.raisePerfIf p r.2 := fun h => by rw [h]; rfl
  generalize (micEvent x y).elim r.1 (fun e => r.1.raiseMic i y p e) = v at *
  obtain ⟨-, -, -, hCast, hMicEnd, -⟩ := State.raisePerfIf_frame (s := v) p r.2
  have hPerfEnd : (v.raisePerfIf p r.2).perf p = r.1.perf p := by unfold State.perf; rw [hCast, hTellCast]
  have hPerf : v.perf p = r.1.perf p := by unfold State.perf; rw [hTellCast]
  have hSelected : r = w.select p → w.SelectionRaised (v.raisePerfIf p r.2) p := fun h hChanged => by
    rw [hPerfEnd] at hChanged ⊢
    have hEvent := select_event (s := w) (p := p) (by rw [← h]; exact hChanged)
    rw [← h] at hEvent
    have hTells := raisePerfIf_raised (s := w) hTellDisabled p
      (if (r.1.perf p).active ≠ (w.perf p).active then "changeover" else if (r.1.perf p).state = .alarm then "alarm" else "recovered")
    rw [hPerf, ← hEvent] at hTells
    exact hTells
  refine ⟨hMicEnd.trans (hTellMic.trans hMic), hCast.trans hTellCast, fun hMoves => ?_, fun hState hCause => ?_, fun hState hCause hBound => ?_,
    fun hState hCause hOver hLow => ?_, fun hMoves hAuto => ⟨fun hB hActive => ?_, fun hB hA => ?_, fun hB hS hR hM => ?_⟩⟩
  · exact hMicRaised _ (micEvent_state hMoves)
  · exact hMicRaised "cause" (micEvent_cause hState hCause)
  · exact hMicRaised "bound" (micEvent_bound hState hCause hBound)
  · rw [hSilent (micEvent_none hState hCause hOver hLow), hStill (.inl hState)]
    rfl
  · exact hSelected (hDown hMoves hAuto hB hActive)
  · exact hSelected (hAlarm hMoves hAuto hB hA)
  · have hRaised := raisePerfIf_raised (s := w) hTellDisabled p "revert"
    have hEvent : r.2 = some "revert" := by rw [hRevert hMoves hAuto hB hS hR hM]; rfl
    rw [hEvent]
    exact hRaised.part (after := "") (part := " event=" ++ "revert") (by rw [String.append_empty, String.append_assoc])

/-- A claimed input's change of health: the record, the performer, and the reports (R73, R74, R75, R77, R80, R81). -/
theorem changeHealth_follows {place : Place} (hHealth : s.health i = some x) (hClaim : s.claim i = some (p, place)) :
    (s.changeHealth i f).mic = { s.mic with health := put s.mic.health i (some (f x)) } ∧
      ({ s with mic := (s.changeHealth i f).mic } : State).PerfFollows (s.changeHealth i f) p i x.state (f x).state ∧
      ({ s with mic := (s.changeHealth i f).mic } : State).HealthRaised (s.changeHealth i f) p i x (f x) := by
  rw [changeHealth_eq hHealth hClaim]
  obtain ⟨hMic, hCast, hRaised⟩ := healthTold_spec (s.setHealth i (some (f x))) p i x (f x)
  have hFollows := (State.afterHealth_follows (s.setHealth i (some (f x))) p i x.state (f x).state).congr hCast
  generalize State.healthTold _ _ _ _ _ = t at *
  have hAt : ({ s with mic := t.mic } : State) = s.setHealth i (some (f x)) := by
    rw [hMic]
    rfl
  rw [hAt]
  exact ⟨hMic, hFollows, hRaised⟩

theorem changeHealth_untracked (h : s.health i = none) : s.changeHealth i f = s := by
  unfold State.changeHealth
  rw [h]

theorem changeHealth_unclaimed (h : s.claim i = none) : s.changeHealth i f = s := by
  unfold State.changeHealth
  rw [h]
  cases s.health i <;> rfl

/-- Of a change of health nothing is left but the record, the cast table and reports. -/
theorem changeHealth_leaves (s : State) (i : InputId) (f : HealthRec → HealthRec) : (s.changeHealth i f).kept = s.kept ∧
    s.changeHealth i f = { s with link := (s.changeHealth i f).link, mic := (s.changeHealth i f).mic, cast := (s.changeHealth i f).cast } := by
  obtain ⟨hKept, hMatrix, hFades, hEngine, hFetch, hFoldback, hRouter, hLines⟩ := State.changeHealth_frame (s := s) i f
  exact ⟨hKept, (State.eq_at hKept).trans (by rw [hMatrix, hFades, hEngine, hFetch, hFoldback, hRouter, hLines])⟩

/-- A change of health leaves every performer that has not claimed the input (R74). -/
theorem changeHealth_others {q : PerfId} (h : ∀ place, s.claim i ≠ some (q, place)) : (s.changeHealth i f).perf q = s.perf q := by
  cases hHealth : s.health i with
  | none => rw [changeHealth_untracked hHealth]
  | some x =>
    cases hClaim : s.claim i with
    | none => rw [changeHealth_unclaimed hClaim]
    | some c =>
      obtain ⟨p, place⟩ := c
      obtain ⟨-, ⟨hOnly, -⟩, -⟩ := changeHealth_follows (f := f) hHealth hClaim
      exact hOnly.2 q fun hEq => h place (by rw [hEq]; exact hClaim)

/-! ### The reference and the effective floor (R65) -/

theorem takeReference_leaves (s : State) (d : TlmRecord) :
    s.takeReference d = { s with mic := { s.mic with refRf := (s.takeReference d).mic.refRf, refStaleAt := (s.takeReference d).mic.refStaleAt } } ∧
      (s.mic.sup.ref = some d.channel →
        (s.takeReference d).mic.refRf = some d.rf ∧ (s.takeReference d).mic.refStaleAt = some (s.now + 48 * s.mic.sup.stale)) ∧
      (s.mic.sup.ref ≠ some d.channel →
        (s.takeReference d).mic.refRf = s.mic.refRf ∧ (s.takeReference d).mic.refStaleAt = s.mic.refStaleAt) := by
  unfold State.takeReference
  by_cases h : s.mic.sup.ref = some d.channel
  · rw [if_pos h]
    exact ⟨rfl, fun _ => ⟨rfl, rfl⟩, fun hNot => absurd h hNot⟩
  · rw [if_neg h]
    exact ⟨rfl, fun hRef => absurd hRef h, fun _ => ⟨rfl, rfl⟩⟩

theorem effectiveFloor_live {b : MicBlock} {rf : Nat} (hRef : b.sup.ref ≠ none) (hStale : b.refStaleAt ≠ none) (hRf : b.refRf = some rf) :
    b.effectiveFloor = min 100 (max b.sup.floor (rf + b.sup.margin)) := by
  have hLive : b.refLive = true := by
    unfold MicBlock.refLive
    rw [Option.isSome_iff_ne_none.mpr hRef, Option.isSome_iff_ne_none.mpr hStale]
    rfl
  unfold MicBlock.effectiveFloor
  rw [hRf]
  exact if_pos hLive

theorem effectiveFloor_alone {b : MicBlock} (h : b.sup.ref = none ∨ b.refStaleAt = none ∨ b.refRf = none) : b.effectiveFloor = b.sup.floor := by
  unfold MicBlock.effectiveFloor MicBlock.refLive
  cases hRf : b.refRf with
  | none => rfl
  | some rf =>
    rcases h with h | h | h
    · rw [h]; rfl
    · rw [h, Option.isSome_none, Bool.and_false]; rfl
    · rw [hRf] at h; cases h

/-- The floor is of the settings and the reference alone (R65). -/
theorem effectiveFloor_congr {b c : MicBlock} (hSup : c.sup = b.sup) (hRf : c.refRf = b.refRf) (hStale : c.refStaleAt = b.refStaleAt) :
    c.effectiveFloor = b.effectiveFloor := by
  unfold MicBlock.effectiveFloor MicBlock.refLive
  rw [hSup, hRf, hStale]

/-- A change of health leaves of the microphone block all but that record (R66). -/
theorem changeHealth_mic (s : State) (i : InputId) (f : HealthRec → HealthRec) :
    (s.changeHealth i f).mic = { s.mic with health := (s.changeHealth i f).mic.health } ∧
      ∀ j, j ≠ i → (s.changeHealth i f).health j = s.health j := by
  cases hHealth : s.health i with
  | none =>
    rw [changeHealth_untracked hHealth]
    exact ⟨rfl, fun _ _ => rfl⟩
  | some x =>
    cases hClaim : s.claim i with
    | none =>
      rw [changeHealth_unclaimed hClaim]
      exact ⟨rfl, fun _ _ => rfl⟩
    | some c =>
      obtain ⟨hMic, -⟩ := changeHealth_follows (f := f) hHealth hClaim
      refine ⟨by rw [hMic], fun j hj => ?_⟩
      show (s.changeHealth i f).mic.health.get j = _
      rw [hMic]
      exact get_put_ne _ _ _ _ (Ne.symm hj)

/-! ### A timer's expiry (R65, R69 to R71) -/

theorem passed_none : s.passed none = false := rfl

theorem passed_some {n : Nat} : s.passed (some n) = true ↔ n ≤ s.now := decide_eq_true_iff

theorem not_passed {o : Option Nat} (h : ∀ n, o = some n → s.now < n) : ¬s.passed o = true := by
  cases o with
  | none => exact fun h => by cases h
  | some n => exact fun hPassed => Nat.not_le.mpr (h n rfl) (passed_some.mp hPassed)

theorem dropoutDone_due (hHealth : s.health i = some x) (h : x.state = .fading ∧ s.passed x.dropoutAt) :
    s.dropoutDone i = s.changeHealth i HealthRec.dropout := by
  unfold State.dropoutDone
  rw [hHealth]
  exact if_pos h

theorem dropoutDone_early (h : ∀ x, s.health i = some x → ¬(x.state = .fading ∧ s.passed x.dropoutAt)) : s.dropoutDone i = s := by
  unfold State.dropoutDone
  cases hHealth : s.health i with
  | none => rfl
  | some x => exact if_neg (h x hHealth)

theorem restoreDone_due (hHealth : s.health i = some x) (h : x.state = .recovering ∧ s.passed x.restoreAt) :
    s.restoreDone i = s.changeHealth i HealthRec.restore := by
  unfold State.restoreDone
  rw [hHealth]
  exact if_pos h

theorem restoreDone_early (h : ∀ x, s.health i = some x → ¬(x.state = .recovering ∧ s.passed x.restoreAt)) : s.restoreDone i = s := by
  unfold State.restoreDone
  cases hHealth : s.health i with
  | none => rfl
  | some x => exact if_neg (h x hHealth)

theorem staleDone_due (hHealth : s.health i = some x) (h : s.passed x.staleAt) : s.staleDone i = s.changeHealth i HealthRec.goStale := by
  unfold State.staleDone
  rw [hHealth]
  exact if_pos h

theorem staleDone_early (h : ∀ x, s.health i = some x → ¬s.passed x.staleAt) : s.staleDone i = s := by
  unfold State.staleDone
  cases hHealth : s.health i with
  | none => rfl
  | some x => exact if_neg (h x hHealth)

/-- A health timer that has run out, as an event (R69 to R71). -/
theorem changeHealth_event {place : Place} (hCalm : s.Calm) (hReset : s.inReset = false) (hHealth : s.health i = some x)
    (hClaim : s.claim i = some (p, place)) {g : State → State} (hDone : g s = s.changeHealth i f) :
    ∃ t, laterEvent g s = .next t ∧ (t = { s with link := t.link, mic := t.mic, cast := t.cast } ∧ s.SameLink t ∧
        ∀ q, q ≠ p → t.perf q = s.perf q) ∧ t.mic = { s.mic with health := put s.mic.health i (some (f x)) } ∧
      ({ s with mic := t.mic } : State).PerfFollows t p i x.state (f x).state ∧
      ({ s with mic := t.mic } : State).HealthRaised t p i x (f x) := by
  obtain ⟨hKept, hAt⟩ := changeHealth_leaves s i f
  obtain ⟨hMic, hFollows, hRaised⟩ := changeHealth_follows (f := f) hHealth hClaim
  obtain ⟨-, -, -, hEngine, hFetch, -⟩ := State.changeHealth_frame (s := s) i f
  rw [← hDone] at hKept hAt hMic hFollows hRaised hEngine hFetch
  exact ⟨_, hCalm.event hReset hEngine (kept_cues hKept) (by rw [hFetch]), ⟨hAt, kept_link hKept, fun q hq => hFollows.1.2 q hq⟩, hMic,
    hFollows, hRaised⟩

theorem event_unchanged (hCalm : s.Calm) (hReset : s.inReset = false) {g : State → State} (h : g s = s) : laterEvent g s = .next s := by
  rw [hCalm.event hReset (by rw [h]) (by rw [h]) (by rw [h]), h]

end

end Sys2Proof.Machine

namespace Sys2Proof.Proofs

open Sys2Proof Sys2Proof.Machine

/-- Settles O32: row by row of R68. -/
theorem healthTable : Obligations.HealthTable := by
  intro h d f sup now
  obtain ⟨y, hTake, hState, hCause, hDropout, hRestore, hFade, hLast, hAt, hStale, hOver, hLow⟩ :=
    take_eq (d := d) (floor := f) (sup := sup) (now := now) h
  obtain ⟨hLastBy, hAtBy, hStaleBy, hOverBy, hLowBy⟩ := byRecord_keeps (d := d) (floor := f) (sup := sup) (now := now) y
  rw [hTake, hLastBy, hAtBy, hStaleBy, hOverBy, hLowBy, ← hState, ← hCause, ← hDropout, ← hRestore, ← hFade, ← restoring_iff, ← bad_iff]
  refine ⟨hLast, hAt, hStale, hOver, hLow, fun hRow hGood => ?_, fun hRow hNot => ?_, fun hRow hBad => ?_, fun hRow hNot => ?_,
    fun hRow hBad => ?_, fun start hRow hNot hStart => ?_, fun hRow hGood => ?_, fun hRow hNot => ?_, fun hRow hGood => ?_, fun hRow hNot => ?_⟩
  · rw [byRecord_noData hRow, if_pos hGood]
  · rw [byRecord_noData hRow, if_neg hNot]
    exact ⟨rfl, rfl⟩
  · rw [byRecord_good hRow, if_pos hBad]
    exact ⟨rfl, rfl, rfl⟩
  · rw [byRecord_good hRow, if_neg hNot]
    exact hRow
  · rw [byRecord_fading hRow, if_pos hBad]
    exact ⟨hRow, rfl⟩
  · rw [byRecord_fading hRow, if_neg hNot, hStart]
    exact ⟨rfl, rfl, rfl, rfl⟩
  · rw [byRecord_down hRow, if_pos hGood]
    exact ⟨rfl, rfl, rfl⟩
  · rw [byRecord_down hRow, if_neg hNot]
    exact ⟨hRow, rfl⟩
  · rw [byRecord_recovering hRow, if_pos hGood]
    exact ⟨hRow, rfl⟩
  · rw [byRecord_recovering hRow, if_neg hNot]
    exact ⟨rfl, rfl, rfl⟩

/-- Settles O34: each timer by whether it has run out. -/
theorem healthTimers : Obligations.HealthTimers := by
  intro s hReset hCalm
  refine ⟨fun n hAt hPassed => ?_, fun hEarly => ?_, fun i hNone => ⟨?_, ?_, ?_⟩, fun i h p place hHealth hClaim => ⟨fun n hState hAt hPassed => ?_,
    fun n hState hAt hPassed => ?_, fun n hAt hPassed => ?_, fun hEarly => ?_, fun hEarly => ?_, fun hEarly => ?_⟩⟩
  · have hDone : s.referenceDone = s.onMic fun b => { b with refStaleAt := none } := if_pos (by rw [hAt]; exact passed_some.mpr hPassed)
    rw [exec_referenceStale, hCalm.event hReset (by rw [hDone]; rfl) (by rw [hDone]; rfl) (by rw [hDone]; rfl), hDone]
    rfl
  · exact event_unchanged hCalm hReset (if_neg (not_passed hEarly))
  · exact event_unchanged hCalm hReset (g := fun s => s.dropoutDone i) (dropoutDone_early fun x hx => by rw [hNone] at hx; cases hx)
  · exact event_unchanged hCalm hReset (g := fun s => s.restoreDone i) (restoreDone_early fun x hx => by rw [hNone] at hx; cases hx)
  · exact event_unchanged hCalm hReset (g := fun s => s.staleDone i) (staleDone_early fun x hx => by rw [hNone] at hx; cases hx)
  · exact changeHealth_event hCalm hReset hHealth hClaim (g := fun s => s.dropoutDone i) (dropoutDone_due hHealth ⟨hState, by rw [hAt]; exact passed_some.mpr hPassed⟩)
  · exact changeHealth_event hCalm hReset hHealth hClaim (g := fun s => s.restoreDone i) (restoreDone_due hHealth ⟨hState, by rw [hAt]; exact passed_some.mpr hPassed⟩)
  · exact changeHealth_event hCalm hReset hHealth hClaim (g := fun s => s.staleDone i) (staleDone_due hHealth (by rw [hAt]; exact passed_some.mpr hPassed))
  · refine event_unchanged hCalm hReset (g := fun s => s.dropoutDone i) (dropoutDone_early fun x hx ⟨hState, hPassed⟩ => ?_)
    obtain rfl := Option.some.inj (hHealth.symm.trans hx)
    exact hEarly.elim (fun h => h hState) fun h => not_passed h hPassed
  · refine event_unchanged hCalm hReset (g := fun s => s.restoreDone i) (restoreDone_early fun x hx ⟨hState, hPassed⟩ => ?_)
    obtain rfl := Option.some.inj (hHealth.symm.trans hx)
    exact hEarly.elim (fun h => h hState) fun h => not_passed h hPassed
  · refine event_unchanged hCalm hReset (g := fun s => s.staleDone i) (staleDone_early fun x hx hPassed => ?_)
    obtain rfl := Option.some.inj (hHealth.symm.trans hx)
    exact not_passed hEarly hPassed

/-- Settles O33: the reference, and then the change of the input's health. -/
theorem validRecord : Obligations.ValidRecord := by
  intro s d rest hReset hCalm hHanded
  obtain ⟨hReference, hRef, hUnref⟩ := takeReference_leaves (s.onMic fun b => { b with handed := rest }) d
  have hTaken : s.takeHanded = ((s.onMic fun b => { b with handed := rest }).takeReference d).changeHealth d.channel fun h =>
      h.take d ((s.onMic fun b => { b with handed := rest }).takeReference d).mic.effectiveFloor
        ((s.onMic fun b => { b with handed := rest }).takeReference d).mic.sup
        ((s.onMic fun b => { b with handed := rest }).takeReference d).now := by
    unfold State.takeHanded
    rw [hHanded]
    rfl
  generalize (s.onMic fun b => { b with handed := rest }).takeReference d = v at *
  have hv : v = { s with mic := { s.mic with handed := rest, refRf := v.mic.refRf, refStaleAt := v.mic.refStaleAt } } := hReference
  have hKeptRef : v.kept = s.kept := by rw [hv]; rfl
  have hSup : v.mic.sup = s.mic.sup := by rw [hv]
  have hNow : v.now = s.now := by rw [hv]
  have hCast : v.cast = s.cast := by rw [hv]
  have hLink : v.link = s.link := by rw [hv]
  have hHealths : ∀ j, v.health j = s.health j := fun j => by rw [hv]; rfl
  have hClaims : ∀ j, v.claim j = s.claim j := fun j => by unfold State.claim; rw [hCast]
  have hAtMic : ∀ m : MicBlock, ({ v with mic := m } : State) = { s with mic := m } := fun m => by rw [hv]
  rw [hNow, hSup] at hTaken
  obtain ⟨hKept, hAt⟩ := changeHealth_leaves v d.channel fun h => h.take d v.mic.effectiveFloor s.mic.sup s.now
  obtain ⟨hMic, hOthers⟩ := changeHealth_mic v d.channel fun h => h.take d v.mic.effectiveFloor s.mic.sup s.now
  obtain ⟨-, -, -, hEngine, hFetch, -⟩ := State.changeHealth_frame (s := v) d.channel fun h => h.take d v.mic.effectiveFloor s.mic.sup s.now
  have hUnclaimed := changeHealth_unclaimed (s := v) (i := d.channel) (f := fun h => h.take d v.mic.effectiveFloor s.mic.sup s.now)
  have hPerfs := fun q => changeHealth_others (s := v) (i := d.channel) (f := fun h => h.take d v.mic.effectiveFloor s.mic.sup s.now) (q := q)
  have hFollows := fun h p place => changeHealth_follows (s := v) (i := d.channel) (x := h) (p := p) (place := place)
    (f := fun h => h.take d v.mic.effectiveFloor s.mic.sup s.now)
  rw [← hTaken] at hKept hAt hMic hOthers hEngine hFetch hUnclaimed
  simp only [← hTaken] at hPerfs hFollows
  have hRow : exec .validRecord s = .next s.takeHanded := (exec_validRecord s).trans
    (hCalm.event hReset (hEngine.trans (by rw [hv])) (kept_cues (hKept.trans hKeptRef)) (by rw [hFetch, hv]))
  have hFloor : s.takeHanded.mic.effectiveFloor = v.mic.effectiveFloor :=
    effectiveFloor_congr (by rw [hMic]) (by rw [hMic]) (by rw [hMic])
  generalize s.takeHanded = t at *
  have hSupEnd : t.mic.sup = s.mic.sup := by rw [hMic]; exact hSup
  refine ⟨t, hRow, hAt.trans (by rw [hv]), ?_, by rw [hMic, hv], by rw [hMic, hv], hSupEnd, fun h => ?_, fun h => ?_,
    fun j hj => (hOthers j hj).trans (hHealths j), fun h c hHealth hClaim => ?_, fun hRefSome hStale rf hRf => ?_, fun hAlone => ?_,
    fun hNone => ?_, fun q hq => ?_⟩
  · exact (kept_link hKept).trans (by rw [hLink])
  · rw [hMic]
    exact hRef h
  · rw [hMic]
    exact hUnref h
  · obtain ⟨p, place⟩ := c
    obtain ⟨hPut, hPerf, hRaised⟩ := hFollows h p place ((hHealths _).trans hHealth) ((hClaims _).trans hClaim)
    rw [hAtMic] at hPerf hRaised
    rw [hFloor]
    refine ⟨?_, hPerf, hRaised⟩
    unfold State.health
    rw [hPut]
    exact get_put_same _ _ _
  · rw [effectiveFloor_live hRefSome hStale hRf, hSupEnd]
  · rw [effectiveFloor_alone hAlone, hSupEnd]
  · rw [hUnclaimed ((hClaims _).trans hNone)]
    exact ⟨hHealths _, hCast, hLink⟩
  · rw [hPerfs q fun place => by rw [hClaims]; exact hq place]
    unfold State.perf
    rw [hCast]

end Sys2Proof.Proofs
end

section
/-! PROOFS. The commands of the cue list (R86, R92, R93, R94, R96). -/

namespace Sys2Proof.Machine

open Sys2Proof

section
variable {s t u : State} {n m : Nat} {l : List Cue} {g : List Cue → List Cue}

/-! ### Cues of a list by their numbers (R84) -/

/-- The cue of a number in a list. -/
def cueIn (l : List Cue) (n : Nat) : Option Cue := l.find? fun c => c.number = n

theorem cueAt_eq (s : State) (n : Nat) : s.cueAt n = cueIn s.cues n := rfl

theorem cueIn_cons_same {c : Cue} (h : c.number = n) : cueIn (c :: l) n = some c :=
  List.find?_cons_of_pos (decide_eq_true h)

theorem cueIn_cons_ne {c : Cue} (h : c.number ≠ n) : cueIn (c :: l) n = cueIn l n :=
  List.find?_cons_of_neg fun hEq => h (of_decide_eq_true hEq)

theorem cueIn_none (h : n ∉ l.map (·.number)) : cueIn l n = none :=
  List.find?_eq_none.mpr fun c hc hEq => h (List.mem_map.mpr ⟨c, hc, of_decide_eq_true hEq⟩)

/-- A header placed leaves every other cue (R86). -/
theorem placeCue_cueIn_ne (label : Name) (link : Link) (h : m ≠ n) (l : List Cue) : cueIn (placeCue n label link l) m = cueIn l m := by
  induction l with
  | nil => exact cueIn_cons_ne (Ne.symm h)
  | cons c l ih =>
    unfold placeCue
    split
    · exact cueIn_cons_ne (Ne.symm h)
    · split
      · rename_i hSame
        rw [cueIn_cons_ne (by exact fun hEq => h (hEq.symm.trans hSame.symm)), cueIn_cons_ne fun hEq => h (hEq.symm.trans hSame.symm)]
      · by_cases hc : c.number = m
        · rw [cueIn_cons_same hc, cueIn_cons_same hc]
        · rw [cueIn_cons_ne hc, cueIn_cons_ne hc, ih]

/-- A header placed keeps its cue's actions, and a new cue has none (R86). -/
theorem placeCue_cueIn (label : Name) (link : Link) (h : (l.map (·.number)).Pairwise (· < ·)) :
    cueIn (placeCue n label link l) n =
      some { number := n, label := label, link := link, actions := ((cueIn l n).map (·.actions)).getD [] } := by
  induction l with
  | nil => exact cueIn_cons_same rfl
  | cons c l ih =>
    obtain ⟨hHead, hTail⟩ := List.pairwise_cons.mp h
    unfold placeCue
    split
    · rename_i hLess
      have hNone : cueIn (c :: l) n = none := cueIn_none fun hMem => by
        rcases List.mem_cons.mp hMem with hEq | hMem
        · exact absurd hLess (by dsimp only at hEq; omega)
        · have hAfter := hHead n hMem
          dsimp only at hAfter
          omega
      rw [cueIn_cons_same rfl, hNone]
      rfl
    · split
      · rename_i hSame
        rw [cueIn_cons_same (by exact hSame.symm), cueIn_cons_same hSame.symm, hSame]
        rfl
      · rename_i hSame
        rw [cueIn_cons_ne (Ne.symm hSame), cueIn_cons_ne (Ne.symm hSame)]
        exact ih hTail

/-- A change of one cue's actions, by its number (R92, R93). -/
theorem changeActions_cueIn (f : List Action → List Action) (l : List Cue) (m : Nat) : cueIn (changeActions n f l) m =
    if m = n then (cueIn l m).map fun c => { c with actions := f c.actions } else cueIn l m := by
  induction l with
  | nil => split <;> rfl
  | cons c l ih =>
    have hHead : changeActions n f (c :: l) = (if c.number = n then { c with actions := f c.actions } else c) :: changeActions n f l := rfl
    rw [hHead]
    by_cases hm : c.number = m
    · rw [cueIn_cons_same hm, cueIn_cons_same (by split <;> exact hm)]
      by_cases hn : m = n
      · rw [if_pos hn, if_pos (hm.trans hn)]
        rfl
      · rw [if_neg hn, if_neg fun hEq => hn (hm.symm.trans hEq)]
    · rw [cueIn_cons_ne hm, cueIn_cons_ne (by split <;> exact hm), ih]

theorem dropped_cueIn (l : List Cue) : cueIn (l.filter fun c => c.number ≠ n) m = if m = n then none else cueIn l m := by
  unfold cueIn
  rw [List.find?_filter]
  split
  · rename_i h
    subst h
    exact List.find?_eq_none.mpr fun c _ => by simp
  · rename_i h
    refine congrArg (List.find? · l) (funext fun c => ?_)
    by_cases hc : c.number = m
    · simp [hc, h]
    · simp [hc]

/-! ### The action pool (R87) -/

/-- The entries a list of cues takes of the action pool. -/
def entries (l : List Cue) : Nat := (l.map fun c => c.actions.length).sum

theorem entries_cons (c : Cue) (l : List Cue) : entries (c :: l) = c.actions.length + entries l := List.sum_cons

/-- A change of one cue's actions changes the entries in use by theirs. -/
theorem entries_changeActions {c : Cue} (f : List Action → List Action) (hNumbers : (l.map (·.number)).Pairwise (· < ·))
    (hc : cueIn l n = some c) : entries (changeActions n f l) + c.actions.length = entries l + (f c.actions).length := by
  induction l with
  | nil => cases hc
  | cons d l ih =>
    obtain ⟨hHead, hTail⟩ := List.pairwise_cons.mp hNumbers
    have hCons : changeActions n f (d :: l) = (if d.number = n then { d with actions := f d.actions } else d) :: changeActions n f l := rfl
    rw [hCons, entries_cons, entries_cons]
    by_cases hd : d.number = n
    · rw [cueIn_cons_same hd] at hc
      obtain rfl := Option.some.inj hc
      have hRest : changeActions n f l = l := by
        refine (List.map_congr_left fun x hx => ?_).trans (List.map_id l)
        have hLess := hHead x.number (List.mem_map_of_mem hx)
        exact if_neg (by dsimp only at hLess; omega)
      rw [if_pos hd, hRest]
      dsimp only
      omega
    · rw [cueIn_cons_ne hd] at hc
      have := ih hTail hc
      rw [if_neg hd]
      omega

/-- A cue deleted frees its entries. -/
theorem entries_dropped {c : Cue} (hNumbers : (l.map (·.number)).Pairwise (· < ·)) (hc : cueIn l n = some c) :
    entries (l.filter fun c => c.number ≠ n) + c.actions.length = entries l := by
  induction l with
  | nil => cases hc
  | cons d l ih =>
    obtain ⟨hHead, hTail⟩ := List.pairwise_cons.mp hNumbers
    by_cases hd : d.number = n
    · rw [cueIn_cons_same hd] at hc
      obtain rfl := Option.some.inj hc
      have hRest : (l.filter fun c => c.number ≠ n) = l := List.filter_eq_self.mpr fun x hx => by
        have hLess := hHead x.number (List.mem_map_of_mem hx)
        exact decide_eq_true (by dsimp only at hLess; omega)
      rw [List.filter_cons_of_neg (by simpa using hd), hRest, entries_cons]
      omega
    · rw [cueIn_cons_ne hd] at hc
      have := ih hTail hc
      rw [List.filter_cons_of_pos (by simpa using hd), entries_cons, entries_cons]
      omega

theorem poolFree_eq (s : State) : s.poolFree = 4096 - entries s.cues := rfl

theorem poolFree_of_cues (h : t.cues = l) : t.poolFree = 4096 - entries l := by rw [poolFree_eq, h]

theorem cueAt_of_cues (h : t.cues = l) (n : Nat) : t.cueAt n = cueIn l n := by rw [cueAt_eq, h]

/-! ### An edit of a cue (R96) -/

/-- An edit of another cue than the standby one leaves what STANDBY_READY depends on. -/
theorem onCues_settled (hSettled : s.Settled) (hOther : ∀ m, m ≠ n → (s.onCues g).cueAt m = s.cueAt m) (hStandby : s.engine.standby ≠ some n) :
    (s.onCues g).Settled := by
  obtain ⟨hDue, hEvent, hShown⟩ := hSettled
  have hCue : (s.onCues g).standbyCue = s.standbyCue := by
    show s.engine.standby.bind (s.onCues g).cueAt = s.engine.standby.bind s.cueAt
    cases hAt : s.engine.standby with
    | none => rfl
    | some m => exact hOther m fun hEq => hStandby (hAt.trans (congrArg some hEq))
  refine ⟨hDue, hEvent, hShown.trans ?_⟩
  unfold State.standbyReady State.standbyPlays
  rw [hCue]
  rfl

/-- What an edit of a cue leaves, whatever follows it. -/
theorem edit_leaves (hOther : ∀ m, m ≠ n → (s.onCues g).cueAt m = s.cueAt m)
    (hFrame : u.kept = (s.onCues g).kept ∧ u.matrix = s.matrix ∧ u.cast = s.cast ∧ u.mic = s.mic ∧ u.foldback = s.foldback ∧
      u.router = s.router ∧ u.lines = s.lines)
    (hStill : s.engine.standby ≠ some n → u = s.onCues g) (tag : Tag) (text : String) :
    s.Replied (u.answered tag text) tag text ∧ s.CueEdit (u.answered tag text) n ∧ (u.answered tag text).cues = g s.cues := by
  obtain ⟨hKept, hMatrix, hCast, hMic, hFoldback, hRouter, hLines⟩ := hFrame
  have hCues : u.cues = g s.cues := kept_cues hKept
  refine ⟨State.replied_of (s := s.onCues g) hKept tag text, ⟨?_, fun m hm => ?_, fun hStandby => ?_⟩, hCues⟩
  · have hAt : u = { s with link := u.link, cues := u.cues, fades := u.fades, engine := u.engine, fetch := u.fetch } :=
      (State.eq_at hKept).trans (by rw [hMatrix, hCast, hMic, hFoldback, hRouter, hLines, hCues]; rfl)
    exact congrArg (fun t : State => t.answered tag text) hAt
  · show cueIn u.cues m = _
    rw [hCues]
    exact hOther m hm
  · rw [hStill hStandby]
    exact ⟨rfl, rfl, rfl, rfl⟩

theorem edited_frame (s : State) (n : Nat) : (s.edited n).kept = s.kept ∧ (s.edited n).matrix = s.matrix ∧ (s.edited n).cast = s.cast ∧
    (s.edited n).mic = s.mic ∧ (s.edited n).foldback = s.foldback ∧ (s.edited n).router = s.router ∧ (s.edited n).lines = s.lines := by
  unfold State.edited
  split
  · exact State.evaluatePriming_frame s
  · exact ⟨rfl, rfl, rfl, rfl, rfl, rfl, rfl⟩

/-- An edit with the evaluation of R117 that follows it (R96). -/
theorem edited_leaves (hSettled : s.Settled) (hOther : ∀ m, m ≠ n → (s.onCues g).cueAt m = s.cueAt m) (tag : Tag) (text : String) :
    s.Replied (((s.onCues g).edited n).finish.answered tag text) tag text ∧
      s.CueEdit (((s.onCues g).edited n).finish.answered tag text) n ∧
      (((s.onCues g).edited n).finish.answered tag text).cues = g s.cues ∧
      (((s.onCues g).edited n).finish.answered tag text).engine.standby = s.engine.standby := by
  obtain ⟨hKept, hMatrix, hCast, hMic, hFoldback, hRouter, hLines⟩ := edited_frame (s.onCues g) n
  obtain ⟨hKeptEnd, hMatrixEnd, hCastEnd, hMicEnd, hFoldbackEnd, hRouterEnd, hLinesEnd⟩ := State.finish_frame (s := (s.onCues g).edited n)
  have hStill : s.engine.standby ≠ some n → ((s.onCues g).edited n).finish = s.onCues g := fun h => by
    have hEdited : (s.onCues g).edited n = s.onCues g := if_neg h
    rw [hEdited, finish_of_settled (onCues_settled hSettled hOther h)]
  have hMarks : ((s.onCues g).edited n).finish.marks = s.marks := by
    rw [State.marks_finish]
    unfold State.edited
    split
    · exact State.marks_evaluatePriming _
    · rfl
  obtain ⟨hReply, hEdit, hCues⟩ := edit_leaves hOther ⟨hKeptEnd.trans hKept, hMatrixEnd.trans hMatrix, hCastEnd.trans hCast, hMicEnd.trans hMic,
    hFoldbackEnd.trans hFoldback, hRouterEnd.trans hRouter, hLinesEnd.trans hLines⟩ hStill tag text
  exact ⟨hReply, hEdit, hCues, marks_standby hMarks⟩

/-! ### CUE and CUEDEL (R86, R94) -/

section
variable {a : CueArgs}

theorem label_allowed (h : ∀ l, a.label = some l → l.all nameChar = true ∧ l.length ≤ 16) :
    nameAllowed (a.label.getD []) = true ∧ (a.label.getD []).length ≤ 16 := by
  cases hLabel : a.label with
  | none => exact ⟨rfl, Nat.zero_le _⟩
  | some l => exact h l hLabel

theorem setCue_eq (hRange : cueInRange a.cue = true) (hLabel : ∀ l, a.label = some l → l.all nameChar = true ∧ l.length ≤ 16) :
    setCue a s = if (s.cueAt a.cue).isNone && decide (512 ≤ s.cues.length) then .error .full else
      ((s.onCues (placeCue a.cue (a.label.getD []) (linkOf a.link))).edited a.cue).replies fun s => s.cueLine a.cue := by
  obtain ⟨hAllowed, hLength⟩ := label_allowed hLabel
  have hShort : decide (Config.labelChars < (a.label.getD []).length) = false := decide_eq_false (Nat.not_lt.mpr hLength)
  unfold setCue
  dsimp only
  rw [hAllowed, hRange, hShort]
  show (refuseIf ((s.cueAt a.cue).isNone && decide (512 ≤ s.cues.length)) .full >>= _) = _
  cases ((s.cueAt a.cue).isNone && decide (512 ≤ s.cues.length)) <;> rfl

end

theorem dropped_cueAfter : (s.onCues fun l => l.filter fun c => c.number ≠ n).cueAfter n = s.cueAfter n := by
  show ((s.cues.filter fun c => c.number ≠ n).find? fun c => n < c.number).map _ = _
  rw [List.find?_filter]
  refine congrArg (Option.map _) (congrArg (List.find? · s.cues) (funext fun c => ?_))
  by_cases h : n < c.number
  · simp [h, h.ne']
  · simp [h]

/-- What a cue's deletion leaves (R94, R96, R101). -/
theorem deleteCue_leaves (hSettled : s.Settled) (n : Nat) (tag : Tag) (text : String) :
    s.Replied ((s.deleteCue n).finish.answered tag text) tag text ∧ s.CueEdit ((s.deleteCue n).finish.answered tag text) n ∧
      ((s.deleteCue n).finish.answered tag text).cues = s.cues.filter (fun c => c.number ≠ n) ∧
      ((s.deleteCue n).finish.answered tag text).engine.standby = (if s.engine.standby = some n then s.cueAfter n else s.engine.standby) ∧
      (s.engine.standby = some n → s.Raised ((s.deleteCue n).finish.answered tag text) .cue "!CUE event=standby") := by
  have hOther : ∀ m, m ≠ n → (s.onCues fun l => l.filter fun c => c.number ≠ n).cueAt m = s.cueAt m := fun m hm =>
    (dropped_cueIn s.cues).trans (if_neg hm)
  by_cases hStandby : s.engine.standby = some n
  · have hDeleted : s.deleteCue n = (s.onCues fun l => l.filter fun c => c.number ≠ n).moveStandby (s.cueAfter n) := by
      rw [← dropped_cueAfter]
      exact if_pos hStandby
    have hMoves : (s.onCues fun l => l.filter fun c => c.number ≠ n).engine.standby ≠ s.cueAfter n := fun hEq =>
      State.cueAfter_ne (hEq.symm.trans hStandby)
    obtain ⟨hKept, hAt, hPosition, -, -, -, hRaised⟩ := moveStandby_changes hMoves
    rw [← hDeleted] at hKept hAt hPosition hRaised
    obtain ⟨hReply, hEdit, hCues⟩ := edit_leaves (n := n) (g := fun l => l.filter fun c => c.number ≠ n) hOther
      ⟨hKept, (congrArg State.matrix hAt :), (congrArg State.cast hAt :), (congrArg State.mic hAt :), (congrArg State.foldback hAt :),
        (congrArg State.router hAt :), (congrArg State.lines hAt :)⟩ (fun h => absurd hStandby h) tag text
    refine ⟨hReply, hEdit, hCues, by rw [if_pos hStandby]; exact hPosition, fun _ => ?_⟩
    exact (hRaised.origin (s' := s) rfl).part (before := "") (after := " cue=" ++ optText cueText (s.cueAfter n)) (by
      rw [show "!CUE event=standby cue=" = "!CUE event=standby" ++ " cue=" by decide, String.empty_append, String.append_assoc])
  · have hDeleted : (s.deleteCue n).finish = s.onCues fun l => l.filter fun c => c.number ≠ n := by
      have hEq : s.deleteCue n = s.onCues fun l => l.filter fun c => c.number ≠ n := if_neg hStandby
      rw [hEq, finish_of_settled (onCues_settled hSettled hOther hStandby)]
    obtain ⟨hReply, hEdit, hCues⟩ := edit_leaves (u := (s.deleteCue n).finish) (n := n) (g := fun l => l.filter fun c => c.number ≠ n) hOther
      (by rw [hDeleted]; exact ⟨rfl, rfl, rfl, rfl, rfl, rfl, rfl⟩) (fun _ => hDeleted) tag text
    refine ⟨hReply, hEdit, hCues, ?_, fun h => absurd h hStandby⟩
    rw [if_neg hStandby, hDeleted]
    rfl

theorem dropCue_eq {c : Cue} (hRange : cueInRange n = true) (hCue : s.cueAt n = some c) : dropCue n s = (s.deleteCue n).replies fun s =>
    "cue=" ++ cueText n ++ " deleted free=" ++ natText s.poolFree ++ " standby=" ++ standbyText s.engine.standby := by
  unfold dropCue
  rw [hRange, hCue]
  rfl

/-! ### ACT and ACTDEL (R92, R93) -/

theorem addAct_eq {a : ActArgs} {act : Action} {c : Cue} (hRange : cueInRange a.cue = true) (hAct : actionOf a.action = some act)
    (hCue : s.cueAt a.cue = some c) (hSound : s.soundMissing act = false) : addAct a s =
      if c.actions.any fun b => actionTarget b = actionTarget act then .error .duplicate
      else if s.rowClaimed act then .error .claimed
      else if decide (32 ≤ c.actions.length) || decide (s.poolFree = 0) then .error .full
      else ((s.onCues (changeActions a.cue (· ++ [act]))).edited a.cue).replies fun s =>
        "cue=" ++ cueText a.cue ++ " act=" ++ natText (c.actions.length + 1) ++ " free=" ++ natText s.poolFree := by
  unfold addAct
  rw [hRange, hAct, need_some, ok_bind, hCue, need_some, Bool.not_true, refuseIf_false, ok_bind, ok_bind, hSound, refuseIf_false, ok_bind]
  cases c.actions.any fun b => actionTarget b = actionTarget act
  · rw [refuseIf_false, ok_bind]
    cases s.rowClaimed act
    · rw [refuseIf_false, ok_bind]
      show (refuseIf (decide (32 ≤ c.actions.length) || decide (s.poolFree = 0)) .full >>= _) = _
      cases (decide (32 ≤ c.actions.length) || decide (s.poolFree = 0)) <;> rfl
    · rfl
  · rfl

theorem soundMissing_false {act : Action} (h : ∀ v n ms, act = .play v n ms → s.fetch.sounds.get n ≠ none) : s.soundMissing act = false := by
  cases act with
  | play v n ms =>
    have hSound := h v n ms rfl
    exact Option.isNone_eq_false_iff.mpr (Option.isSome_iff_ne_none.mpr hSound)
  | level row bus code ms => rfl
  | stop v ms => rfl
  | call k => rfl
  | line n on => rfl

theorem rowClaimed_iff {act : Action} : s.rowClaimed act = true ↔ ∃ i bus code ms, act = .level (.inp i) bus code ms ∧ s.claim i ≠ none := by
  cases act with
  | level row bus code ms =>
    cases row with
    | inp i =>
      show (s.claim i).isSome = true ↔ _
      rw [Option.isSome_iff_ne_none]
      exact ⟨fun h => ⟨i, bus, code, ms, rfl, h⟩, fun ⟨_, _, _, _, hEq, h⟩ => by cases hEq; exact h⟩
    | role r => exact ⟨(fun h => by cases h), fun ⟨_, _, _, _, hEq, _⟩ => by cases hEq⟩
    | voice v => exact ⟨(fun h => by cases h), fun ⟨_, _, _, _, hEq, _⟩ => by cases hEq⟩
  | play v n ms => exact ⟨(fun h => by cases h), fun ⟨_, _, _, _, hEq, _⟩ => by cases hEq⟩
  | stop v ms => exact ⟨(fun h => by cases h), fun ⟨_, _, _, _, hEq, _⟩ => by cases hEq⟩
  | call k => exact ⟨(fun h => by cases h), fun ⟨_, _, _, _, hEq, _⟩ => by cases hEq⟩
  | line n on => exact ⟨(fun h => by cases h), fun ⟨_, _, _, _, hEq, _⟩ => by cases hEq⟩

theorem dropAct_eq {a : ActIndexArgs} {act : Action} {c : Cue} (hRange : cueInRange a.cue = true) (hLow : 1 ≤ a.index) (hHigh : a.index ≤ 32)
    (hCue : s.cueAt a.cue = some c) (hAct : c.actions[a.index - 1]? = some act) : dropAct a s =
      ((s.onCues (changeActions a.cue fun l => l.eraseIdx (a.index - 1))).edited a.cue).replies fun s =>
        "cue=" ++ cueText a.cue ++ " actions=" ++ natText (c.actions.length - 1) ++ " free=" ++ natText s.poolFree := by
  have hUnder : decide (a.index < 1) = false := decide_eq_false (Nat.not_lt.mpr hLow)
  have hOver : decide (Config.actionsPerCue < a.index) = false := decide_eq_false (Nat.not_lt.mpr hHigh)
  unfold dropAct State.actAt
  rw [hRange, hUnder, hOver, hCue, need_some]
  show (need ErrCode.noSuch c.actions[a.index - 1]? >>= _) >>= _ = _
  rw [hAct]
  rfl

/-- A change of a cue's actions leaves every other cue. -/
theorem changeActions_other (f : List Action → List Action) : ∀ m, m ≠ n → (s.onCues (changeActions n f)).cueAt m = s.cueAt m := fun m hm =>
  (changeActions_cueIn f s.cues m).trans (if_neg hm)

end

end Sys2Proof.Machine

namespace Sys2Proof.Proofs

open Sys2Proof Sys2Proof.Machine

/-- Settles O35: the list by its numbers, and the pool by its sums. -/
theorem cueHeaders : Obligations.CueHeaders := by
  intro s tag hReady hCuesOk
  obtain ⟨hNumbers, -, -, hPool⟩ := hCuesOk
  refine ⟨fun a hRange hLabel hRoom => ?_, fun a hRange hLabel hNone hFull => ?_, fun n c hRange hCue => ?_⟩
  · have hIf : ¬((s.cueAt a.cue).isNone && decide (512 ≤ s.cues.length)) = true := fun h => by
      obtain ⟨hNone, hLength⟩ := (Bool.and_eq_true _ _).mp h
      exact absurd (hRoom (Option.isNone_iff_eq_none.mp hNone)) (Nat.not_lt.mpr (of_decide_eq_true hLength))
    have hAnswer := setCue_eq (s := s) hRange hLabel
    rw [if_neg hIf] at hAnswer
    have hOther : ∀ m, m ≠ a.cue → (s.onCues (placeCue a.cue (a.label.getD []) (linkOf a.link))).cueAt m = s.cueAt m := fun m hm =>
      placeCue_cueIn_ne _ _ hm s.cues
    obtain ⟨hReply, hEdit, hCues, hStandby⟩ := edited_leaves hReady.2 hOther tag
      ("OK " ++ ((s.onCues (placeCue a.cue (a.label.getD []) (linkOf a.link))).edited a.cue).finish.cueLine a.cue)
    refine ⟨_, hReady.accepted (exec_cue s tag (.given a)) hAnswer, hReply, hEdit, ?_, hStandby, ?_⟩
    · exact (cueAt_of_cues hCues a.cue).trans (placeCue_cueIn _ _ hNumbers)
    · exact (poolFree_of_cues hCues).trans (congrArg (4096 - ·) placeCue_sum)
  · have hAnswer := setCue_eq (s := s) hRange hLabel
    rw [hNone, hFull] at hAnswer
    exact hReady.refuses (exec_cue s tag (.given a)) hAnswer
  · obtain ⟨hReply, hEdit, hCues, hStandby, hRaised⟩ := deleteCue_leaves hReady.2 n tag ("OK " ++ ("cue=" ++ cueText n ++ " deleted free=" ++
      natText (s.deleteCue n).finish.poolFree ++ " standby=" ++ standbyText (s.deleteCue n).finish.engine.standby))
    refine ⟨_, hReady.accepted (exec_cueDel s tag (.given n)) (dropCue_eq hRange hCue), hReply, hEdit, ?_, ?_, hStandby, hRaised⟩
    · exact (cueAt_of_cues hCues n).trans ((dropped_cueIn s.cues).trans (if_pos rfl))
    · have hFreed := entries_dropped hNumbers hCue
      have hUsed : entries s.cues ≤ 4096 := hPool
      refine (poolFree_of_cues hCues).trans ?_
      rw [poolFree_eq]
      omega

/-- Settles O36: the checks of ACT in their order, and the cue that changes. -/
theorem cueActions : Obligations.CueActions := by
  intro s tag hReady hOk
  obtain ⟨hNumbers, -, hCuesOk, hPool⟩ := hOk
  have hUsed : entries s.cues ≤ 4096 := hPool
  refine ⟨fun a act c hRange hAct hCue hSound => ?_, fun a act c hRange hLow hCue hAct => ?_⟩
  · have hAnswer := addAct_eq (s := s) hRange hAct hCue (soundMissing_false hSound)
    refine ⟨fun ⟨b, hb, hSame⟩ => ?_, fun hNew => ?_⟩
    · rw [if_pos (List.any_eq_true.mpr ⟨b, hb, decide_eq_true hSame⟩)] at hAnswer
      exact hReady.refuses (exec_act s tag (.given a)) hAnswer
    · have hIf : ¬(c.actions.any fun b => actionTarget b = actionTarget act) = true := fun h => by
        obtain ⟨b, hb, hSame⟩ := List.any_eq_true.mp h
        exact hNew b hb (of_decide_eq_true hSame)
      rw [if_neg hIf] at hAnswer
      refine ⟨fun hClaimed => ?_, fun hFree => ?_⟩
      · rw [if_pos (rowClaimed_iff.mpr hClaimed)] at hAnswer
        exact hReady.refuses (exec_act s tag (.given a)) hAnswer
      · have hUnclaimed : ¬s.rowClaimed act = true := fun h => by
          obtain ⟨i, bus, code, ms, hLevel, hClaim⟩ := rowClaimed_iff.mp h
          exact hClaim (hFree i bus code ms hLevel)
        rw [if_neg hUnclaimed] at hAnswer
        refine ⟨fun hFull => ?_, fun hShort hRoom => ?_⟩
        · have hFullIf : (decide (32 ≤ c.actions.length) || decide (s.poolFree = 0)) = true := by
            rcases hFull with h | h
            · rw [h]; rfl
            · rw [h, Bool.or_comm]; rfl
          rw [if_pos hFullIf] at hAnswer
          exact hReady.refuses (exec_act s tag (.given a)) hAnswer
        · have hNotFull : ¬(decide (32 ≤ c.actions.length) || decide (s.poolFree = 0)) = true := by
            rw [decide_eq_false (Nat.not_le.mpr hShort), decide_eq_false hRoom.ne']
            decide
          rw [if_neg hNotFull] at hAnswer
          obtain ⟨hReply, hEdit, hCues, hStandby⟩ := edited_leaves hReady.2 (changeActions_other (s := s) (n := a.cue) (· ++ [act])) tag
            ("OK " ++ ("cue=" ++ cueText a.cue ++ " act=" ++ natText (c.actions.length + 1) ++ " free=" ++
              natText ((s.onCues (changeActions a.cue (· ++ [act]))).edited a.cue).finish.poolFree))
          refine ⟨_, hReady.accepted (exec_act s tag (.given a)) hAnswer, hReply, hEdit, ?_, hStandby, ?_⟩
          · refine (cueAt_of_cues hCues a.cue).trans ?_
            rw [changeActions_cueIn, if_pos rfl, ← cueAt_eq, hCue]
            rfl
          · have hMore := entries_changeActions (· ++ [act]) hNumbers hCue
            rw [List.length_append, List.length_singleton] at hMore
            have hBefore := poolFree_eq s
            refine (congrArg (· + 1) (poolFree_of_cues hCues)).trans ?_
            omega
  · obtain ⟨hMem, -⟩ := State.cueAt_mem_of_eq hCue
    have hIndex : a.index - 1 < c.actions.length := (List.getElem?_eq_some_iff.mp hAct).1
    have hHigh : a.index ≤ 32 := by
      have hMost : c.actions.length ≤ 32 := (hCuesOk c hMem).2
      omega
    obtain ⟨hReply, hEdit, hCues, hStandby⟩ := edited_leaves hReady.2 (changeActions_other (s := s) (n := a.cue) fun l => l.eraseIdx (a.index - 1)) tag
      ("OK " ++ ("cue=" ++ cueText a.cue ++ " actions=" ++ natText (c.actions.length - 1) ++ " free=" ++
        natText ((s.onCues (changeActions a.cue fun l => l.eraseIdx (a.index - 1))).edited a.cue).finish.poolFree))
    refine ⟨_, hReady.accepted (exec_actDel s tag (.given a)) (dropAct_eq hRange hLow hHigh hCue hAct), hReply, hEdit, ?_, hStandby, ?_⟩
    · refine (cueAt_of_cues hCues a.cue).trans ?_
      rw [changeActions_cueIn, if_pos rfl, ← cueAt_eq, hCue]
      rfl
    · have hFewer := entries_changeActions (fun l => l.eraseIdx (a.index - 1)) hNumbers hCue
      rw [List.length_eraseIdx_of_lt hIndex] at hFewer
      refine (poolFree_of_cues hCues).trans ?_
      rw [poolFree_eq]
      omega

end Sys2Proof.Proofs
end

section
/-! PROOFS. The foldback section: FB, the guard window, TALK and TALKBACK (R148 to R156). -/

namespace Sys2Proof.Machine

open Sys2Proof

section
variable {s t u : State} {k q : FbId}

theorem put_put {n : Nat} {α : Type} (v : Vector α n) (i : Fin n) (a b : α) : put (put v i a) i b = put v i b := by
  simp [put]

/-- An accepted line that changes the foldback block and reports, and no other block. -/
theorem State.Ready.refolds (hs : s.Ready) {c : Instr} {α : Type} {a : α} {f : α → State → Answer} {x : State → String}
    (hExec : exec c s = command c c.tag (.given a) f s) (h : f a s = t.replies x) (hKept : t.kept = s.kept ∨ t.link = s.link)
    (hFrame : t = { s with link := t.link, foldback := t.foldback }) :
    exec c s = .next (t.answered c.tag ("OK " ++ x t)) ∧ s.Replied (t.answered c.tag ("OK " ++ x t)) c.tag ("OK " ++ x t) ∧
      t.answered c.tag ("OK " ++ x t) = { s with link := (t.answered c.tag ("OK " ++ x t)).link, foldback := t.foldback } := by
  refine ⟨hs.accepts hExec h (hs.settled (by rw [hFrame]) (by rw [hFrame]) (by rw [hFrame])), ?_, congrArg (fun t : State => t.answered c.tag _) hFrame⟩
  rcases hKept with hKept | hLink
  · exact State.replied_of hKept c.tag _
  · unfold State.Replied State.answered
    rw [hLink]

/-! ### FB (R148, R150) -/

/-- A bus under the guard field of FB (R150). -/
def FbBus.guarded (b : FbBus) (on : Option Bool) : FbBus :=
  on.elim b fun on => if on then (if b.guard = .off then { b with guard := .armed } else b) else b.guardOff

/-- A bus under the fields of FB (R148). -/
def FbBus.fielded (b : FbBus) (a : FbArgs) : FbBus :=
  { b with ceiling := (a.ceiling.map ceilingLevel).getD b.ceiling, lock := a.lock.getD b.lock }

theorem applyFb_leaves (s : State) (k : FbId) (a : FbArgs) : (s.applyFb k a).kept = s.kept ∧
    (s.applyFb k a).foldback = { s.foldback with buses := put s.foldback.buses k (((s.bus k).fielded a).guarded a.guard) } ∧
    s.applyFb k a = { s with link := (s.applyFb k a).link, foldback := (s.applyFb k a).foldback } ∧
    (a.guard = some false → (s.bus k).red < 0 → ∃ w : State, w.link.disabled = s.link.disabled ∧ (w.bus k).red = 0 ∧
      s.applyFb k a = w.raiseGuard k "off" ((s.bus k).episode.getD (0, 0)) none) := by
  have hBus : (s.onBus k fun b => b.fielded a).bus k = (s.bus k).fielded a := (bus_onBus s k k _).trans (if_pos rfl)
  have hTwice : ∀ f : FbBus → FbBus, ((s.onBus k fun b => b.fielded a).onBus k f).foldback =
      { s.foldback with buses := put s.foldback.buses k (f ((s.bus k).fielded a)) } := fun f => by
    have hBuses : update (update s.foldback.buses k fun b => b.fielded a) k f = put s.foldback.buses k (f ((s.bus k).fielded a)) := by
      rw [update_eq_put, update_eq_put, put_put, get_put_same]
      rfl
    exact congrArg (fun v => ({ s.foldback with buses := v } : FoldbackBlock)) hBuses
  cases hGuard : a.guard with
  | none =>
    have hEq : s.applyFb k a = s.onBus k fun b => b.fielded a := by
      unfold State.applyFb
      rw [hGuard]
      rfl
    rw [hEq]
    exact ⟨rfl, rfl, rfl, fun h => by cases h⟩
  | some on =>
    have hEq : s.applyFb k a = (s.onBus k fun b => b.fielded a).setGuard k on := by
      unfold State.applyFb
      rw [hGuard]
      rfl
    rw [hEq]
    cases on with
    | true =>
      refine ⟨?_, ?_, ?_, fun h => by cases h⟩
      all_goals
        unfold State.setGuard
        dsimp only
        rw [if_pos rfl, hBus]
        by_cases hOff : ((s.bus k).fielded a).guard = .off
      · rw [if_pos hOff]; rfl
      · rw [if_neg hOff]; rfl
      · rw [if_pos hOff, hTwice]
        unfold FbBus.guarded
        rw [Option.elim_some, if_pos rfl, if_pos hOff]
      · rw [if_neg hOff]
        unfold FbBus.guarded
        rw [Option.elim_some, if_pos rfl, if_neg hOff]
        rfl
      · rw [if_pos hOff]; rfl
      · rw [if_neg hOff]; rfl
    | false =>
      have hOffBus : (((s.onBus k fun b => b.fielded a).onBus k FbBus.guardOff).bus k).red = 0 := by
        rw [bus_onBus, if_pos rfl]
        rfl
      have hOff : (s.onBus k fun b => b.fielded a).setGuard k false = if (s.bus k).red < 0 then
          ((s.onBus k fun b => b.fielded a).onBus k FbBus.guardOff).raiseGuard k "off" ((s.bus k).episode.getD (0, 0)) none
          else (s.onBus k fun b => b.fielded a).onBus k FbBus.guardOff := by
        unfold State.setGuard
        dsimp only
        rw [if_neg (by decide), hBus]
        rfl
      have hFold := hTwice FbBus.guardOff
      have hKept : ((s.onBus k fun b => b.fielded a).onBus k FbBus.guardOff).kept = s.kept := rfl
      have hAt : (s.onBus k fun b => b.fielded a).onBus k FbBus.guardOff =
          { s with foldback := ((s.onBus k fun b => b.fielded a).onBus k FbBus.guardOff).foldback } := rfl
      rw [hOff]
      generalize (s.onBus k fun b => b.fielded a).onBus k FbBus.guardOff = w at *
      have hDisabled : w.link.disabled = s.link.disabled := kept_disabled hKept
      by_cases hRed : (s.bus k).red < 0
      · rw [if_pos hRed]
        obtain ⟨hKeptOff, hMatrix, hFades, hCast, hMic, hEngine, hFetch, hFoldback, hRouter, hLines⟩ :=
          State.raiseGuard_frame (s := w) k "off" ((s.bus k).episode.getD (0, 0)) none
        refine ⟨hKeptOff.trans hKept, hFoldback.trans hFold, ?_, fun _ _ => ⟨w, hDisabled, hOffBus, rfl⟩⟩
        rw [hFoldback]
        refine (State.eq_at hKeptOff).trans ?_
        rw [hMatrix, hFades, hCast, hMic, hEngine, hFetch, hFoldback, hRouter, hLines, hAt]
      · rw [if_neg hRed]
        exact ⟨hKept, hFold, by rw [hAt], fun _ h => absurd h hRed⟩

/-- The fields of a bus after FB (R148, R150). -/
theorem guarded_fields (a : FbArgs) (b : FbBus) : ((b.fielded a).guarded a.guard).ceiling = (a.ceiling.map ceilingLevel).getD b.ceiling ∧
    ((b.fielded a).guarded a.guard).lock = a.lock.getD b.lock ∧
    (a.guard = none → (b.fielded a).guarded a.guard = b.fielded a) ∧
    (a.guard = some true → (b.fielded a).guarded a.guard = { b.fielded a with guard := if b.guard = .off then .armed else b.guard }) ∧
    (a.guard = some false → (b.fielded a).guarded a.guard = (b.fielded a).guardOff) := by
  cases hGuard : a.guard with
  | none => exact ⟨rfl, rfl, fun _ => rfl, fun h => (by cases h), fun h => by cases h⟩
  | some on =>
    cases on with
    | false => exact ⟨rfl, rfl, fun h => (by cases h), fun h => (by cases h), fun _ => rfl⟩
    | true =>
      have hOn : (b.fielded a).guarded (some true) = { b.fielded a with guard := if b.guard = .off then .armed else b.guard } := by
        by_cases hOff : b.guard = .off
        · rw [if_pos hOff]
          exact if_pos hOff
        · rw [if_neg hOff]
          exact if_neg hOff
      rw [hOn]
      exact ⟨rfl, rfl, fun h => (by cases h), fun _ => rfl, fun h => by cases h⟩

theorem setFb_eq {a : FbArgs} (hk : ofNum 16 a.fb = some k) (hField : a.lock ≠ none ∨ a.guard ≠ none ∨ a.ceiling ≠ none) :
    setFb a s = (s.applyFb k a).replies fun s => s.fbLine k := by
  have hSome : (a.lock.isNone && a.guard.isNone && a.ceiling.isNone) = false := by
    cases hLock : a.lock <;> cases hGuard : a.guard <;> cases hCeiling : a.ceiling <;> simp_all
  unfold setFb
  rw [hSome, refuseIf_false, ok_bind, hk, need_some, ok_bind]

/-! ### The end of a guard window (R150, R152, R153) -/

theorem endWindow_bus (s : State) (k q : FbId) : (s.endWindow k).bus q = if k = q then (s.bus k).endWindow else s.bus q := by
  have hRaised : ∀ (w : State) e x y, (w.raiseGuard k e x y).bus q = w.bus q := fun w e x y => by
    unfold State.bus
    rw [(State.raiseGuard_frame (s := w) k e x y).2.2.2.2.2.2.2.1]
  unfold State.endWindow
  dsimp only
  split
  · rw [hRaised, bus_onBus]
  · split
    · rw [hRaised, bus_onBus]
    · rw [bus_onBus]

theorem endWindow_foldback (s : State) (k : FbId) : (s.endWindow k).foldback = { s.foldback with buses := (s.endWindow k).foldback.buses } := by
  have hRaised : ∀ (w : State) e x y, (w.raiseGuard k e x y).foldback = w.foldback := fun w e x y =>
    (State.raiseGuard_frame (s := w) k e x y).2.2.2.2.2.2.2.1
  unfold State.endWindow
  dsimp only
  split
  · rw [hRaised]; rfl
  · split
    · rw [hRaised]; rfl
    · rfl

theorem endWindow_metering {b : FbBus} (h : b.guard = .metering) : b.endWindow = { b with
    red := guardUpdate (peakCode b.peak) b.ceiling b.red, lastP := some (peakCode b.peak), peak := 0
    episode := nextEpisode b.episode (guardUpdate (peakCode b.peak) b.ceiling b.red) } := by
  obtain ⟨lock, guard, ceiling, red, peak, lastP, episode, member, duck, ramp, skips⟩ := b
  obtain rfl : guard = .metering := h
  rfl

/-- The reports of a window's end (R153). -/
theorem endWindow_reports (s : State) (k : FbId) : s.endWindow k =
    if (s.bus k).red = 0 ∧ (s.bus k).endWindow.red < 0 then
      (s.onBus k FbBus.endWindow).raiseGuard k "reduce" ((s.bus k).endWindow.episode.getD (0, 0)) (s.bus k).endWindow.lastP
    else if (s.bus k).red < 0 ∧ (s.bus k).endWindow.red = 0 then
      (s.onBus k FbBus.endWindow).raiseGuard k "clear" ((s.bus k).episode.getD (0, 0)) (s.bus k).endWindow.lastP
    else s.onBus k FbBus.endWindow := by
  have hBus : (s.onBus k FbBus.endWindow).bus k = (s.bus k).endWindow := (bus_onBus s k k _).trans (if_pos rfl)
  unfold State.endWindow
  dsimp only
  rw [hBus]

/-- The windows of some buses end. -/
theorem foldl_endWindow {l : List FbId} (hl : l.Nodup) (s : State) :
    (∀ q, (l.foldl State.endWindow s).bus q = if q ∈ l then (s.bus q).endWindow else s.bus q) ∧
      (l.foldl State.endWindow s).foldback = { s.foldback with buses := (l.foldl State.endWindow s).foldback.buses } ∧
      (l.foldl State.endWindow s).link.disabled = s.link.disabled := by
  induction l generalizing s with
  | nil => exact ⟨fun _ => rfl, rfl, rfl⟩
  | cons k l ih =>
    obtain ⟨hNot, hRest⟩ := List.nodup_cons.mp hl
    obtain ⟨hBus, hFold, hDisabled⟩ := ih hRest (s.endWindow k)
    rw [List.foldl_cons]
    refine ⟨fun q => ?_, ?_, hDisabled.trans (kept_disabled (State.endWindow_frame (s := s) k).1)⟩
    · rw [hBus q, endWindow_bus]
      by_cases hq : k = q
      · subst hq
        rw [if_neg hNot, if_pos rfl, if_pos List.mem_cons_self]
      · rw [if_neg hq]
        by_cases hMem : q ∈ l
        · rw [if_pos hMem, if_pos (List.mem_cons_of_mem _ hMem)]
        · rw [if_neg hMem, if_neg fun h => (List.mem_cons.mp h).elim (fun h => hq h.symm) hMem]
    · rw [hFold, endWindow_foldback]

theorem State.Raised.endWindow {text : String} (h : s.Raised t (.guard k) text) (hApart : k ≠ q) :
    s.Raised (t.endWindow q) (.guard k) text := by
  have hKey : ReportKey.guard k ≠ .guard q := fun hEq => hApart (ReportKey.guard.inj hEq)
  have hBus : s.Raised (t.onBus q FbBus.endWindow) (.guard k) text := h.congr rfl
  rw [endWindow_reports]
  split
  · exact hBus.raise_of_ne hKey _
  · split
    · exact hBus.raise_of_ne hKey _
    · exact hBus

/-- What a bus raises at its turn stands at the end of the windows. -/
theorem endWindows_raised {text : String} (h : ∀ w : State, w.bus k = s.bus k → w.link.disabled = s.link.disabled →
    s.Raised (w.endWindow k) (.guard k) text) : s.Raised s.endWindows (.guard k) text := by
  obtain ⟨l₁, l₂, hSplit⟩ := List.append_of_mem (List.mem_finRange k)
  have hNodup := List.nodup_finRange 16
  rw [hSplit] at hNodup
  obtain ⟨hFirst, hLast, hDisjoint⟩ := List.nodup_append.mp hNodup
  obtain ⟨hBefore, -, hDisabled⟩ := foldl_endWindow hFirst s
  have hTurn := h (l₁.foldl State.endWindow s) (by rw [hBefore, if_neg fun hMem => hDisjoint k hMem k List.mem_cons_self rfl]) hDisabled
  have hAfter : ∀ (l : List FbId) (t : State), k ∉ l → s.Raised t (.guard k) text → s.Raised (l.foldl State.endWindow t) (.guard k) text := by
    intro l
    induction l with
    | nil => exact fun t _ ht => ht
    | cons q l ih => exact fun t hNot ht => ih _ (fun hMem => hNot (List.mem_cons_of_mem _ hMem)) (ht.endWindow fun hEq => hNot (hEq ▸ List.mem_cons_self))
  unfold State.endWindows
  rw [hSplit, List.foldl_append, List.foldl_cons]
  exact (hAfter l₂ _ (List.nodup_cons.mp hLast).1 hTurn).congr rfl

theorem endWindows_leaves (s : State) : s.endWindows = { s with link := s.endWindows.link, foldback := s.endWindows.foldback } ∧
    s.endWindows.foldback = { s.foldback with buses := s.endWindows.foldback.buses, window := 0 } ∧
    ∀ q, s.endWindows.bus q = (s.bus q).endWindow := by
  obtain ⟨hBus, hFold, -⟩ := foldl_endWindow (List.nodup_finRange 16) s
  obtain ⟨hKept, hMatrix, hFades, hCast, hMic, hEngine, hFetch, hRouter, hLines⟩ := State.endWindows_frame (s := s)
  have hAt : s.endWindows = { s with link := s.endWindows.link, foldback := s.endWindows.foldback } :=
    (State.eq_at hKept).trans (by rw [hMatrix, hFades, hCast, hMic, hEngine, hFetch, hRouter, hLines])
  have hEq : s.endWindows = ((List.finRange 16).foldl State.endWindow s).onFoldback fun b => { b with window := 0 } := by
    unfold State.endWindows
    rfl
  have hSame : ∀ q, (((List.finRange 16).foldl State.endWindow s).onFoldback fun b => { b with window := 0 }).bus q = (s.bus q).endWindow := fun q =>
    Eq.trans (by unfold State.bus State.onFoldback; dsimp only) ((hBus q).trans (if_pos (List.mem_finRange q)))
  exact ⟨hAt, by rw [hEq, State.onFoldback_foldback, hFold], fun q => by rw [hEq]; exact hSame q⟩

theorem raiseGuard_raised (h : t.link.disabled = s.link.disabled) (event : String) (episode : LevelCode × Nat) (peak : Option LevelCode) :
    s.Raised (t.raiseGuard k event episode peak) (.guard k) ("!GUARD " ++ fbText k ++ " state=" ++ (if event = "reduce" then "reducing" else "clear") ++
      " red=" ++ levelText (t.bus k).red ++ " deepest=" ++ levelText episode.1 ++ " windows=" ++ natText episode.2 ++ " ceiling=" ++
      levelText (t.bus k).ceiling ++ " peak=" ++ optText levelText peak ++ " event=" ++ event) := raise_told h _ _

theorem raiseGuard_clear (h : t.link.disabled = s.link.disabled) (hZero : (t.bus k).red = 0) {event : String} (hEvent : event ≠ "reduce")
    (episode : LevelCode × Nat) (peak : Option LevelCode) : s.Raised (t.raiseGuard k event episode peak) (.guard k)
      ("!GUARD " ++ fbText k ++ " state=clear red=0.0 deepest=" ++ levelText episode.1 ++ " windows=" ++ natText episode.2) := by
  have hRaised := raiseGuard_raised (k := k) h event episode peak
  rw [hZero, if_neg hEvent, show levelText 0 = "0.0" by decide] at hRaised
  refine hRaised.part (before := "") (after := " ceiling=" ++ levelText (t.bus k).ceiling ++ " peak=" ++ optText levelText peak ++ " event=" ++ event) ?_
  rw [show " state=clear red=0.0 deepest=" = " state=" ++ ("clear" ++ (" red=" ++ ("0.0" ++ " deepest="))) by decide]
  simp only [String.append_assoc, String.empty_append]

theorem raiseGuard_part {event before part after : String} (h : t.link.disabled = s.link.disabled) (episode : LevelCode × Nat)
    (peak : Option LevelCode) (hText : "!GUARD " ++ fbText k ++ " state=" ++ (if event = "reduce" then "reducing" else "clear") ++
      " red=" ++ levelText (t.bus k).red ++ " deepest=" ++ levelText episode.1 ++ " windows=" ++ natText episode.2 ++ " ceiling=" ++
      levelText (t.bus k).ceiling ++ " peak=" ++ optText levelText peak ++ " event=" ++ event = before ++ (part ++ after)) :
    s.Raised (t.raiseGuard k event episode peak) (.guard k) part := (raiseGuard_raised h event episode peak).part hText

theorem raiseGuard_event (h : t.link.disabled = s.link.disabled) (event : String) (episode : LevelCode × Nat) (peak : Option LevelCode) :
    s.Raised (t.raiseGuard k event episode peak) (.guard k) (" peak=" ++ optText levelText peak ++ " event=" ++ event) :=
  raiseGuard_part h episode peak (after := "") (before := "!GUARD " ++ fbText k ++ " state=" ++ (if event = "reduce" then "reducing" else "clear") ++
    " red=" ++ levelText (t.bus k).red ++ " deepest=" ++ levelText episode.1 ++ " windows=" ++ natText episode.2 ++ " ceiling=" ++
    levelText (t.bus k).ceiling) (by simp only [String.append_assoc, String.append_empty])

/-- A bus whose reduction leaves 0 tells of it (R153). -/
theorem endWindow_reduces (h : t.link.disabled = s.link.disabled) (hZero : (t.bus k).red = 0) (hRed : (t.bus k).endWindow.red < 0) :
    s.Raised (t.endWindow k) (.guard k) ("!GUARD " ++ fbText k ++ " state=reducing red=" ++ levelText (t.bus k).endWindow.red) ∧
      s.Raised (t.endWindow k) (.guard k) (" peak=" ++ optText levelText (t.bus k).endWindow.lastP ++ " event=reduce") := by
  have hBus : (t.onBus k FbBus.endWindow).bus k = (t.bus k).endWindow := (bus_onBus t k k _).trans (if_pos rfl)
  rw [endWindow_reports, if_pos ⟨hZero, hRed⟩]
  have hDisabled : (t.onBus k FbBus.endWindow).link.disabled = s.link.disabled := h
  generalize t.onBus k FbBus.endWindow = w at *
  have hEvent := raiseGuard_event (k := k) hDisabled "reduce" ((t.bus k).endWindow.episode.getD (0, 0)) (t.bus k).endWindow.lastP
  rw [String.append_assoc, show " event=" ++ "reduce" = " event=reduce" by decide] at hEvent
  refine ⟨?_, hEvent⟩
  refine raiseGuard_part hDisabled _ _ (before := "") (after := " deepest=" ++ levelText ((t.bus k).endWindow.episode.getD (0, 0)).1 ++ " windows=" ++
    natText ((t.bus k).endWindow.episode.getD (0, 0)).2 ++ " ceiling=" ++ levelText (w.bus k).ceiling ++ " peak=" ++
    optText levelText (t.bus k).endWindow.lastP ++ " event=" ++ "reduce") ?_
  rw [if_pos rfl, hBus, show " state=reducing red=" = " state=" ++ ("reducing" ++ " red=") by decide]
  simp only [String.append_assoc, String.empty_append]

/-- A bus whose reduction returns to 0 tells of it (R153). -/
theorem endWindow_clears (h : t.link.disabled = s.link.disabled) (hRed : (t.bus k).red < 0) (hZero : (t.bus k).endWindow.red = 0) :
    s.Raised (t.endWindow k) (.guard k) ("!GUARD " ++ fbText k ++ " state=clear red=0.0") ∧
      s.Raised (t.endWindow k) (.guard k) (" peak=" ++ optText levelText (t.bus k).endWindow.lastP ++ " event=clear") := by
  have hBus : (t.onBus k FbBus.endWindow).bus k = (t.bus k).endWindow := (bus_onBus t k k _).trans (if_pos rfl)
  rw [endWindow_reports, if_neg (fun hBoth => by rw [hBoth.1] at hRed; exact absurd hRed (by decide)), if_pos ⟨hRed, hZero⟩]
  have hDisabled : (t.onBus k FbBus.endWindow).link.disabled = s.link.disabled := h
  generalize t.onBus k FbBus.endWindow = w at *
  have hEvent := raiseGuard_event (k := k) hDisabled "clear" ((t.bus k).episode.getD (0, 0)) (t.bus k).endWindow.lastP
  rw [String.append_assoc, show " event=" ++ "clear" = " event=clear" by decide] at hEvent
  refine ⟨?_, hEvent⟩
  refine (raiseGuard_clear hDisabled (hBus ▸ hZero) (by decide) _ _).part (before := "")
    (after := " deepest=" ++ levelText ((t.bus k).episode.getD (0, 0)).1 ++ " windows=" ++ natText ((t.bus k).episode.getD (0, 0)).2) ?_
  rw [show " state=clear red=0.0 deepest=" = " state=clear red=0.0" ++ " deepest=" by decide]
  simp only [String.append_assoc, String.empty_append]

/-! ### TALK and TALKBACK (R154 to R156) -/

section
variable {b : FoldbackBlock} {goal : LevelCode} {ms : Nat}

theorem rampMembers_bus (b : FoldbackBlock) (goal : LevelCode) (ms : Nat) (k : FbId) : (b.rampMembers goal ms).buses.get k =
    if (b.buses.get k).member then { b.buses.get k with ramp := beginRamp (b.buses.get k).duck goal ms } else b.buses.get k := get_map _ _ _

theorem rampMembers_block (b : FoldbackBlock) (goal : LevelCode) (ms : Nat) :
    b.rampMembers goal ms = { b with buses := (b.rampMembers goal ms).buses } := rfl

/-- TALK sets the command, and a change of talk begins a ramp on each member bus (R155, R156). -/
theorem setTalk_block (b : FoldbackBlock) (on : Bool) : b.setTalk on = { b with buses := (b.setTalk on).buses, talkCommand := on } := by
  unfold FoldbackBlock.setTalk FoldbackBlock.afterTalk
  split
  · rfl
  · split <;> rfl

theorem setTalk_active (b : FoldbackBlock) (on : Bool) : (b.setTalk on).talkActive = (on || b.heldLines.toList.any id) := by
  rw [setTalk_block]
  rfl

theorem setTalk_bus (b : FoldbackBlock) (on : Bool) (k : FbId) : (b.setTalk on).buses.get k =
    if (b.setTalk on).talkActive = b.talkActive ∨ (b.buses.get k).member = false then b.buses.get k
    else { b.buses.get k with
      ramp := if on then beginRamp (b.buses.get k).duck (-(b.talkDepth : Int)) 50 else beginRamp (b.buses.get k).duck 0 300 } := by
  rw [setTalk_active]
  have hActive : ({ b with talkCommand := on } : FoldbackBlock).talkActive = (on || b.heldLines.toList.any id) := rfl
  unfold FoldbackBlock.setTalk FoldbackBlock.afterTalk
  rw [hActive]
  by_cases hSame : (on || b.heldLines.toList.any id) = b.talkActive
  · rw [if_pos hSame, if_pos (.inl hSame)]
  · rw [if_neg hSame]
    have hOn : b.talkActive = !on := by
      unfold FoldbackBlock.talkActive at hSame ⊢
      generalize b.heldLines.toList.any id = held at hSame ⊢
      revert hSame
      cases on <;> cases b.talkCommand <;> cases held <;> decide
    by_cases hMember : (b.buses.get k).member = true
    · rw [if_neg (not_or.mpr ⟨hSame, by rw [hMember]; decide⟩)]
      cases on with
      | true =>
        rw [if_neg (by rw [hOn]; decide), rampMembers_bus, if_pos hMember, if_pos rfl]
        rfl
      | false => rw [if_pos (by rw [hOn]; rfl), rampMembers_bus, if_pos hMember, if_neg (by decide)]
    · rw [if_pos (c := _ ∨ _) (Or.inr (Bool.eq_false_iff.mpr hMember))]
      split <;> rw [rampMembers_bus, if_neg hMember]

/-- A new depth (R156). -/
theorem setDepth_block (b : FoldbackBlock) (depth : Nat) : b.setDepth depth = { b with buses := (b.setDepth depth).buses, talkDepth := depth } := by
  unfold FoldbackBlock.setDepth
  split
  · rename_i h
    rw [h]
  · dsimp only
    split <;> rfl

theorem setDepth_bus (b : FoldbackBlock) (depth : Nat) (k : FbId) : (b.setDepth depth).buses.get k =
    if depth ≠ b.talkDepth ∧ b.talkActive = true ∧ (b.buses.get k).member = true then
      { b.buses.get k with ramp := beginRamp (b.buses.get k).duck (-(depth : Int)) 50 }
    else b.buses.get k := by
  unfold FoldbackBlock.setDepth
  by_cases hSame : depth = b.talkDepth
  · rw [if_pos hSame, if_neg fun h => h.1 hSame]
  · rw [if_neg hSame]
    dsimp only
    have hActive : ({ b with talkDepth := depth } : FoldbackBlock).talkActive = b.talkActive := rfl
    rw [hActive]
    by_cases hTalk : b.talkActive = true
    · rw [if_pos hTalk, rampMembers_bus]
      by_cases hMember : (b.buses.get k).member = true
      · rw [if_pos (by exact hMember), if_pos ⟨hSame, hTalk, hMember⟩]
        rfl
      · rw [if_neg (by exact hMember), if_neg fun h => hMember h.2.2]
    · rw [if_neg hTalk, if_neg fun h => hTalk h.2.1]

theorem setMembers_bus (b : FoldbackBlock) (members : FbId → Bool) (k : FbId) :
    (b.setMembers members).buses.get k = (b.buses.get k).setMember b.talkActive b.ducked (members k) := get_ofFn _ _

theorem setMember_eq (active : Bool) (ducked : LevelCode) (member : Bool) (x : FbBus) : x.setMember active ducked member =
    { x with
      member := member
      ramp :=
        if x.member = true ∧ member = false then beginRamp x.duck 0 300
        else if active = true ∧ member = true ∧ x.member = false then beginRamp x.duck ducked 50 else x.ramp } := by
  obtain ⟨lock, guard, ceiling, red, peak, lastP, episode, isMember, duck, ramp, skips⟩ := x
  unfold FbBus.setMember FbBus.rampTo
  cases isMember <;> cases member <;> cases active <;> rfl

end

/-- The level and the depth of a TALKBACK, before its members (R154). -/
def talkbackSettings (a : TalkbackArgs) (b : FoldbackBlock) : FoldbackBlock :=
  a.depth.elim { b with talkLevel := (a.level.map talkbackLevel).getD b.talkLevel } fun d =>
    FoldbackBlock.setDepth { b with talkLevel := (a.level.map talkbackLevel).getD b.talkLevel } (talkbackDepth d)

theorem applyTalkback_eq (a : TalkbackArgs) (l : Option (List FbId)) (b : FoldbackBlock) : applyTalkback a l b =
    l.elim (talkbackSettings a b) fun l => (talkbackSettings a b).setMembers fun k => l.contains k := by
  unfold applyTalkback talkbackSettings
  cases a.depth <;> cases l <;> rfl

theorem talkbackSettings_block (a : TalkbackArgs) (b : FoldbackBlock) : talkbackSettings a b = { b with
    buses := (talkbackSettings a b).buses
    talkLevel := (a.level.map talkbackLevel).getD b.talkLevel
    talkDepth := (a.depth.map talkbackDepth).getD b.talkDepth } := by
  unfold talkbackSettings
  cases a.depth with
  | none => rfl
  | some d => exact setDepth_block _ _

theorem talkbackSettings_bus (a : TalkbackArgs) (b : FoldbackBlock) (k : FbId) : (talkbackSettings a b).buses.get k =
    if (a.depth.map talkbackDepth).getD b.talkDepth ≠ b.talkDepth ∧ b.talkActive = true ∧ (b.buses.get k).member = true then
      { b.buses.get k with ramp := beginRamp (b.buses.get k).duck (-((a.depth.map talkbackDepth).getD b.talkDepth : Int)) 50 }
    else b.buses.get k := by
  unfold talkbackSettings
  cases a.depth with
  | none => exact (if_neg fun h => h.1 rfl).symm
  | some d => exact setDepth_bus _ _ k

theorem applyTalkback_block (a : TalkbackArgs) (l : Option (List FbId)) (b : FoldbackBlock) : applyTalkback a l b = { b with
    buses := (applyTalkback a l b).buses
    talkLevel := (a.level.map talkbackLevel).getD b.talkLevel
    talkDepth := (a.depth.map talkbackDepth).getD b.talkDepth } := by
  rw [applyTalkback_eq]
  cases l with
  | none => exact talkbackSettings_block a b
  | some l =>
    rw [Option.elim_some]
    unfold FoldbackBlock.setMembers
    rw [talkbackSettings_block]

/-- A bus after TALKBACK (R154, R156). -/
theorem applyTalkback_bus {members : FbId → Bool} (a : TalkbackArgs) (l : Option (List FbId)) (b : FoldbackBlock)
    (hMembers : l = none ∧ (∀ k, members k = (b.buses.get k).member) ∨ ∃ m, l = some m ∧ ∀ k, members k = decide (k ∈ m)) (k : FbId) :
    (applyTalkback a l b).buses.get k = { b.buses.get k with
      member := members k
      ramp :=
        if (b.buses.get k).member = true ∧ members k = false then beginRamp (b.buses.get k).duck 0 300
        else if b.talkActive = true ∧ members k = true ∧
            ((b.buses.get k).member = false ∨ (applyTalkback a l b).talkDepth ≠ b.talkDepth) then
          beginRamp (b.buses.get k).duck (-((applyTalkback a l b).talkDepth : Int)) 50
        else (b.buses.get k).ramp } := by
  have hDepth : (applyTalkback a l b).talkDepth = (a.depth.map talkbackDepth).getD b.talkDepth := by rw [applyTalkback_block]
  have hSettings := talkbackSettings_bus a b k
  have hActive : (talkbackSettings a b).talkActive = b.talkActive := by rw [talkbackSettings_block]; rfl
  have hDucked : (talkbackSettings a b).ducked = -((a.depth.map talkbackDepth).getD b.talkDepth : Int) := by rw [talkbackSettings_block]; rfl
  have hBus : (applyTalkback a l b).buses.get k =
      if members k = ((talkbackSettings a b).buses.get k).member then (talkbackSettings a b).buses.get k
      else ((talkbackSettings a b).buses.get k).setMember b.talkActive (-((a.depth.map talkbackDepth).getD b.talkDepth : Int)) (members k) := by
    have hMember : ((talkbackSettings a b).buses.get k).member = (b.buses.get k).member := by
      rw [hSettings]
      split <;> rfl
    rw [applyTalkback_eq]
    rcases hMembers with ⟨rfl, hSame⟩ | ⟨m, rfl, hIn⟩
    · rw [Option.elim_none, if_pos ((hSame k).trans hMember.symm)]
    · rw [Option.elim_some, setMembers_bus, hActive, hDucked, show m.contains k = members k by rw [hIn, List.contains_eq_mem]]
      split
      · rename_i hSame
        exact if_pos hSame
      · rfl
  rw [hBus, hSettings, hDepth]
  generalize (a.depth.map talkbackDepth).getD b.talkDepth = depth
  generalize b.buses.get k = x
  rw [setMember_eq]
  obtain ⟨lock, guard, ceiling, red, peak, lastP, episode, isMember, duck, ramp, skips⟩ := x
  by_cases hMoves : depth = b.talkDepth
  · cases isMember <;> cases members k <;> cases b.talkActive <;> simp [hMoves]
  · cases isMember <;> cases members k <;> cases b.talkActive <;> simp [hMoves]

theorem setTalkback_eq {a : TalkbackArgs} {l : Option (List FbId)} (hField : a.level ≠ none ∨ a.depth ≠ none ∨ a.members ≠ none)
    (hMembers : a.members = none ∧ l = none ∨ ∃ m x, a.members = some m ∧ membersOf m = some x ∧ x.Nodup ∧ l = some x) :
    setTalkback a s = (s.onFoldback (applyTalkback a l)).replies State.talkbackText := by
  have hSome : (a.level.isNone && a.depth.isNone && a.members.isNone) = false := by
    cases hLevel : a.level <;> cases hDepth : a.depth <;> cases hList : a.members <;> simp_all
  unfold setTalkback
  rw [hSome, refuseIf_false, ok_bind]
  rcases hMembers with ⟨hNone, rfl⟩ | ⟨m, x, hList, hOf, hNodup, rfl⟩
  · rw [hNone]
    rfl
  · rw [hList]
    dsimp only
    rw [hOf, need_some]
    show (refuseIf (!decide x.Nodup) .duplicate >>= _) = _
    rw [decide_eq_true hNodup]
    rfl

end

end Sys2Proof.Machine

namespace Sys2Proof.Proofs

open Sys2Proof Sys2Proof.Machine

/-- Settles O49: the fields of FB, and a window's end bus by bus. -/
theorem foldbackAndGuard : Obligations.FoldbackAndGuard := by
  refine ⟨fun s tag a k hReady hk hField => ?_, fun s hReset hCalm => ⟨fun hEarly => ?_, fun hDue => ?_⟩⟩
  · obtain ⟨hKept, hFold, hAt, hOff⟩ := applyFb_leaves s k a
    obtain ⟨hRow, hReply, hEnd⟩ := hReady.refolds (exec_fb s tag (.given a)) (setFb_eq hk hField) (.inl hKept) hAt
    have hBus : (s.applyFb k a).bus k = ((s.bus k).fielded a).guarded a.guard := by
      unfold State.bus
      rw [hFold]
      exact get_put_same _ _ _
    obtain ⟨hCeiling, hLock, hNone, hOn, hGuardOff⟩ := guarded_fields a (s.bus k)
    rw [← hBus] at hFold hCeiling hLock hNone hOn hGuardOff
    rw [hFold] at hEnd
    generalize s.applyFb k a = t at *
    have hFields : (s.bus k).fielded a = { s.bus k with lock := (t.bus k).lock, ceiling := (t.bus k).ceiling } := by
      rw [hLock, hCeiling]
      rfl
    refine ⟨_, hRow, hReply, hEnd, hCeiling, hLock, fun h => (hNone h).trans hFields, fun h => ?_, fun h => ⟨?_, fun hRed => ?_, fun hRed => ?_⟩⟩
    · refine (hOn h).trans ?_
      rw [hFields]
      rfl
    · refine (hGuardOff h).trans ?_
      rw [hFields]
      rfl
    · obtain ⟨w, hDisabled, hZero, rfl⟩ := hOff h hRed
      exact raiseGuard_clear hDisabled hZero (by decide) _ _
    · obtain ⟨w, hDisabled, -, rfl⟩ := hOff h hRed
      exact (raiseGuard_event hDisabled "off" _ none).part (before := " peak=" ++ "none") (after := "") (part := " event=off") (by
        rw [String.append_empty, show " event=off" = " event=" ++ "off" by decide, String.append_assoc]; rfl)
  · exact event_unchanged hCalm hReset (g := State.windowDone) (if_neg (Nat.not_le.mpr hEarly))
  · obtain ⟨hAt, hFold, hBus⟩ := endWindows_leaves s
    have hDone : s.windowDone = s.endWindows := if_pos hDue
    obtain ⟨hKept, -, -, -, -, hEngine, hFetch, -⟩ := State.endWindows_frame (s := s)
    have hRow : exec .guardWindowEnd s = .next s.endWindows := by
      rw [exec_guardWindowEnd, hCalm.event hReset (f := State.windowDone) (by rw [hDone, hEngine]) (by rw [hDone, kept_cues hKept])
        (by rw [hDone, hFetch]), hDone]
    refine ⟨_, hRow, kept_link hKept, ?_, fun k => ⟨fun hOff => ?_, fun hArmed => ?_, fun hMetering => ?_⟩⟩
    · rw [← hFold]
      exact hAt
    · rw [hBus]
      unfold FbBus.endWindow
      rw [hOff]
    · rw [hBus]
      unfold FbBus.endWindow
      rw [hArmed]
    · have hMeters := endWindow_metering hMetering
      have hReduces : (s.bus k).red = 0 → (s.bus k).endWindow.red < 0 → _ ∧ _ := fun hZero hRed => ⟨
        endWindows_raised (s := s) (k := k) (text := "!GUARD " ++ fbText k ++ " state=reducing red=" ++ levelText (s.bus k).endWindow.red)
          fun w hw hDisabled => hw ▸ (endWindow_reduces hDisabled (hw.symm ▸ hZero) (hw.symm ▸ hRed)).1,
        endWindows_raised (s := s) (k := k) (text := " peak=" ++ optText levelText (s.bus k).endWindow.lastP ++ " event=reduce")
          fun w hw hDisabled => hw ▸ (endWindow_reduces hDisabled (hw.symm ▸ hZero) (hw.symm ▸ hRed)).2⟩
      have hClears : (s.bus k).red < 0 → (s.bus k).endWindow.red = 0 → _ ∧ _ := fun hRed hZero => ⟨
        endWindows_raised (s := s) (k := k) (text := "!GUARD " ++ fbText k ++ " state=clear red=0.0")
          fun w hw hDisabled => (endWindow_clears hDisabled (hw.symm ▸ hRed) (hw.symm ▸ hZero)).1,
        endWindows_raised (s := s) (k := k) (text := " peak=" ++ optText levelText (s.bus k).endWindow.lastP ++ " event=clear")
          fun w hw hDisabled => hw ▸ (endWindow_clears hDisabled (hw.symm ▸ hRed) (hw.symm ▸ hZero)).2⟩
      rw [hMeters] at hReduces hClears
      refine ⟨_, rfl, ?_, fun hZero hRed => (hReduces hZero hRed).1, fun hZero hRed => (hReduces hZero hRed).2,
        fun hRed hZero => (hClears hRed hZero).1, fun hRed hZero => (hClears hRed hZero).2⟩
      rw [hBus, hMeters]
      unfold nextEpisode
      cases (s.bus k).episode <;> rfl

/-- Settles O50: the ramps by what changes of talk, the members and the depth. -/
theorem talkAndTalkback : Obligations.TalkAndTalkback := by
  intro s tag hReady
  refine ⟨fun on => ?_, fun a members hField hMembers => ?_⟩
  · obtain ⟨hRow, hReply, hEnd⟩ := hReady.refolds (t := s.onFoldback fun b => b.setTalk on) (exec_talk s tag (.given on)) rfl (.inr rfl) rfl
    refine ⟨_, hRow, hReply, hEnd.trans ?_, rfl, fun k => setTalk_bus s.foldback on k⟩
    exact congrArg (fun b => ({ s with link := _, foldback := b } : State)) (setTalk_block s.foldback on)
  · obtain ⟨l, hAnswer, hList⟩ : ∃ l, setTalkback a s = (s.onFoldback (applyTalkback a l)).replies State.talkbackText ∧
        (l = none ∧ (∀ k, members k = (s.foldback.buses.get k).member) ∨ ∃ m, l = some m ∧ ∀ k, members k = decide (k ∈ m)) := by
      rcases hMembers with ⟨hNone, hSame⟩ | ⟨m, x, hGiven, hOf, hNodup, hIn⟩
      · exact ⟨none, setTalkback_eq hField (.inl ⟨hNone, rfl⟩), .inl ⟨rfl, hSame⟩⟩
      · exact ⟨some x, setTalkback_eq hField (.inr ⟨m, x, hGiven, hOf, hNodup, rfl⟩), .inr ⟨x, rfl, hIn⟩⟩
    obtain ⟨hRow, hReply, hEnd⟩ := hReady.refolds (t := s.onFoldback (applyTalkback a l)) (exec_talkback s tag (.given a)) hAnswer (.inr rfl) rfl
    refine ⟨_, hRow, hReply, hEnd.trans ?_, rfl, fun k => applyTalkback_bus a l s.foldback hList k⟩
    exact congrArg (fun b => ({ s with link := _, foldback := b } : State)) (applyTalkback_block a l s.foldback)

end Sys2Proof.Proofs
end

section
/-! PROOFS. ZONE and the ends of calls (R161, R170, R175, R176, R177). -/

namespace Sys2Proof.Machine

open Sys2Proof

section
variable {s t u : State} {id : Nat}

/-! ### What the router's walks leave of its own block -/

/-- The ends of the calls in the way of a grant keep what each end keeps. -/
theorem cleared_keeps {P : State → Prop} (hClose : ∀ (t : State) (c : Call) (cause : CallCause) (by_ : Option Nat), P t → P (t.closeCall c cause by_))
    (hs : P s) (c : Call) (player : Option PlayerId) : P (s.cleared c player) :=
  foldl_holds (P := P) (f := fun (s : State) d => s.closeCall d .preempted (some c.id)) (fun t d ht => hClose t d _ _ ht) _ hs

/-- The counters and the presets of the router are those given. -/
def State.Counting (nextId admitStamp : Nat) (presets : Vector (Option CallRequest) 16) (t : State) : Prop :=
  t.router.nextId = nextId ∧ t.router.admitStamp = admitStamp ∧ t.router.presets = presets

theorem counting_routed (nextId admitStamp : Nat) (presets : Vector (Option CallRequest) 16) : Routed (State.Counting nextId admitStamp presets) := by
  have hClose : ∀ (t : State) (c : Call) (cause : CallCause) (by_ : Option Nat), State.Counting nextId admitStamp presets t →
      State.Counting nextId admitStamp presets (t.closeCall c cause by_) := fun t c cause by_ ht => by
    unfold State.Counting at *
    rw [closeCall_router]
    exact ht
  refine ⟨fun ht _ => hClose _ _ _ _ ht, fun {t} {c} {player} ht _ _ => ?_⟩
  have hCleared := cleared_keeps hClose ht c player
  unfold State.Counting at *
  rw [grantCall_router, seated_router]
  exact hCleared

/-- Of the zones nothing changed but the holding calls and the duck ramps. -/
def State.ZonesHeld (s t : State) : Prop := ∀ z, t.zone z = { s.zone z with holding := (t.zone z).holding, ramp := (t.zone z).ramp }

theorem zonesHeld_routed (s : State) : Routed s.ZonesHeld := by
  have hClose : ∀ (t : State) (c : Call) (cause : CallCause) (by_ : Option Nat), s.ZonesHeld t → s.ZonesHeld (t.closeCall c cause by_) :=
    fun t c cause by_ ht z => by
      rw [closeCall_zone]
      split
      · unfold Zone.release
        rw [ht z]
      · exact ht z
  refine ⟨fun ht _ => hClose _ _ _ _ ht, fun {t} {c} {player} ht _ _ z => ?_⟩
  have hCleared : s.ZonesHeld (t.cleared c player) := cleared_keeps hClose ht c player
  have hZone : (t.grantCall c player).zone z = ((t.cleared c player).seated c player).zone z := by
    unfold State.zone
    rw [grantCall_router]
  rw [hZone, seated_zone]
  split
  · unfold Zone.take
    rw [hCleared z]
  · exact hCleared z

/-- With no call WAITING a walk leaves everything (R170). -/
theorem walk_idle (h : ∀ c ∈ s.router.calls, c.grant ≠ none) : s.walk = s := by
  have hNone : (s.router.calls.filter fun c => c.grant.isNone) = [] := List.filter_eq_nil_iff.mpr fun c hc hWaiting =>
    h c hc (Option.isNone_iff_eq_none.mp hWaiting)
  have hOnce : s.walkOnce = { state := s } := by
    unfold State.walkOnce
    rw [hNone]
    rfl
  unfold State.walk State.walkUpTo
  dsimp only
  rw [hOnce]
  rfl

/-- Where the router and the players alone changed, STANDBY_READY stands as last reported. -/
theorem walked_settled (hSettled : s.Settled) (hEngine : t.engine = s.engine) (hCues : t.cues = s.cues) (hPlayers : s.PlayersOnly t) : t.Settled :=
  settled_readers hSettled hEngine hCues fun v n => by rw [hPlayers.voices v]

/-- A walk touches no more than the router and the players (R170). -/
theorem walk_leaves (s : State) : s.walk.kept = s.kept ∧ s.walk = { s with link := s.walk.link, router := s.walk.router, fetch := s.walk.fetch } ∧
    s.PlayersOnly s.walk := by
  obtain ⟨hKept, hMatrix, hFades, hCast, hMic, hEngine, hFoldback, hLines⟩ := State.walk_frame (s := s)
  exact ⟨hKept, (State.eq_at hKept).trans (by rw [hMatrix, hFades, hCast, hMic, hEngine, hFoldback, hLines]),
    (playersOnly_routed s).walk (.refl s)⟩

/-! ### The end of a call (R175, R176, R177) -/

section
variable {c : Call} {cause : CallCause} {p : PlayerId}

theorem closeCall_fetch (c : Call) (cause : CallCause) (by_ : Option Nat) : (s.closeCall c cause by_).fetch = ((s.freed c).silenced c).fetch := by
  rw [closeCall_eq]
  exact State.raise_fetch _ _ _

theorem silenced_none (h : c.player = none) : s.silenced c = s := by
  unfold State.silenced
  rw [h]

theorem silenced_some (h : c.player = some p) : s.silenced c = s.stopPlayer p := by
  unfold State.silenced
  rw [h]

/-- A player stopped is IDLE, and tells of it where it was not (R137, R175). -/
theorem stopPlayer_told (hDisabled : t.link.disabled = s.link.disabled) (p : PlayerId) : ((t.stopPlayer p).reader (playerReader p)).state = .idle ∧
    ((t.reader (playerReader p)).state ≠ .idle → s.Raised (t.stopPlayer p) (.player p) " event=stopped") := by
  refine ⟨?_, fun hRuns => ?_⟩
  · rw [stopPlayer_reader]
    split
    · rfl
    · rename_i h
      exact Decidable.not_not.mp fun hRuns => h ⟨rfl, hRuns⟩
  · rw [stopPlayer_eq, if_neg hRuns, ← readerKey_player p]
    exact raiseReader_raised (s := s) (t := (t.clearRing (playerReader p)).onReader (playerReader p) Reader.toIdle) hDisabled _ "stopped"

theorem freed_reader (c : Call) (r : ReaderId) : (s.freed c).reader r = s.reader r := reader_of_fetch (freed_fetch c) r

/-- A call that leaves the table stops its player (R175). -/
theorem closeCall_player (hDisabled : t.link.disabled = s.link.disabled) (hPlayer : c.player = some p) (cause : CallCause) (by_ : Option Nat) :
    ((t.closeCall c cause by_).reader (playerReader p)).state = .idle ∧
      ((t.reader (playerReader p)).state ≠ .idle → s.Raised (t.closeCall c cause by_) (.player p) " event=stopped") := by
  have hFreed : (t.freed c).link.disabled = s.link.disabled := by rw [freed_link]; exact hDisabled
  obtain ⟨hIdle, hTold⟩ := stopPlayer_told hFreed p
  rw [freed_reader] at hTold
  rw [← silenced_some hPlayer] at hIdle hTold
  refine ⟨?_, fun hRuns => ?_⟩
  · rw [reader_of_fetch (closeCall_fetch c cause by_)]
    exact hIdle
  · have hDropped : s.Raised (((t.freed c).silenced c).dropCall c.id) (.player p) " event=stopped" := (hTold hRuns).congr rfl
    rw [closeCall_eq]
    exact hDropped.raise_of_ne (fun h => by cases h) _

/-- A call that ends or is removed (R175, R181). -/
theorem endCall_gone (hMem : c ∈ s.router.calls) (cause : CallCause) : s.CallGone (s.endCall c cause) c ∧
    s.Raised (s.endCall c cause) (.call c.id) (" cause=" ++ causeText cause ++ " by=none event=ended") := by
  obtain ⟨hKept, hMatrix, hFades, hCast, hMic, hEngine, hFoldback, hLines⟩ := State.endCall_frame (s := s) c cause
  have hAt : s.endCall c cause = { s with link := (s.endCall c cause).link, router := (s.endCall c cause).router, fetch := (s.endCall c cause).fetch } :=
    (State.eq_at hKept).trans (by rw [hMatrix, hFades, hCast, hMic, hEngine, hFoldback, hLines])
  have hText : " cause=" ++ causeText cause ++ " by=" ++ optText natText none ++ " event=ended" = " cause=" ++ causeText cause ++ " by=none event=ended" := by
    rw [show " by=none event=ended" = " by=" ++ (optText natText none ++ " event=ended") by decide]
    simp only [String.append_assoc]
  have hLeaves : ∀ d ∈ (s.closeCall c cause none).router.calls, d.id ≠ c.id := fun d hd => by
    rw [closeCall_router] at hd
    exact of_decide_eq_true (List.mem_filter.mp hd).2
  have hGone : s.Gone c.id (" cause=" ++ causeText cause ++ " by=none event=ended") (s.endCall c cause) := by
    refine (gone_routed s c.id _).walk ⟨hLeaves, ?_⟩
    have hRaised := closeCall_raised (s := s) (t := s) rfl c cause none
    rw [hText] at hRaised
    exact hRaised
  obtain ⟨hNextId, -, hPresets⟩ := (counting_routed s.router.nextId s.router.admitStamp s.router.presets).endCall ⟨rfl, rfl, rfl⟩ hMem cause
  refine ⟨⟨hAt, ((playersOnly_routed s).endCall (.refl s) hMem cause).voices, ?_, hPresets, hNextId, ?_, fun hOthers => ?_⟩, hGone.2⟩
  · exact List.find?_eq_none.mpr fun d hd => by simpa using hGone.1 d hd
  · refine hGone.2.part (before := " cause=" ++ causeText cause ++ " by=none") (after := "") ?_
    rw [String.append_empty, show " by=none event=ended" = " by=none" ++ " event=ended" by decide]
    simp only [String.append_assoc]
  · have hStill : s.endCall c cause = s.closeCall c cause none := walk_idle fun d hd => by
      have hApart := hLeaves d hd
      rw [closeCall_router] at hd
      exact hOthers d (List.mem_filter.mp hd).1 hApart
    rw [hStill]
    refine ⟨by rw [closeCall_router], fun z hLive hz => ?_, fun z hFree => ?_, fun p hp => closeCall_player rfl hp cause none, fun hNone => ?_⟩
    · rw [closeCall_zone, if_pos ⟨Option.isSome_iff_ne_none.mpr hLive, hz⟩]
      rfl
    · rw [closeCall_zone, if_neg fun h => hFree.elim (fun hNone => Option.isSome_iff_ne_none.mp h.1 hNone) fun hNot => hNot h.2]
    · rw [closeCall_fetch, silenced_none hNone, freed_fetch]

theorem finishCall_eq (hLow : 1 ≤ id) (hHigh : id ≤ 255) (cause : CallCause) : finishCall cause id s =
    (s.callAt id).elim (.error .noSuch) fun c => (s.endCall c cause).replies fun _ => "call=" ++ natText id ++ " state=ended cause=" ++ causeText cause := by
  have hRange : idOutOfRange id = false := by
    unfold idOutOfRange
    rw [decide_eq_false (Nat.not_lt.mpr hLow), decide_eq_false (Nat.not_lt.mpr hHigh)]
    rfl
  unfold finishCall
  rw [hRange, refuseIf_false, ok_bind]
  cases s.callAt id <;> rfl

theorem finishCall_range (h : id = 0 ∨ 255 < id) (cause : CallCause) : finishCall cause id s = .error .range := by
  have hRange : idOutOfRange id = true := by
    unfold idOutOfRange
    rcases h with rfl | h
    · rfl
    · rw [decide_eq_true h, Bool.or_true]
  unfold finishCall
  rw [hRange]
  rfl

theorem expiredBy_iff {now : Nat} : c.expiredBy now = true ↔ c.grant = none ∧ 0 < c.req.expiry ∧ c.admittedAt + 48 * c.req.expiry ≤ now := by
  unfold Call.expiredBy
  rw [Bool.and_eq_true, Bool.and_eq_true, decide_eq_true_iff, decide_eq_true_iff, Option.isNone_iff_eq_none, and_assoc]
  exact Iff.rfl

theorem callDone_due (hCall : s.callAt id = some c) (h : c.expiredBy s.now = true) : s.callDone id = s.endCall c .expired := by
  unfold State.callDone
  rw [hCall]
  exact if_pos h

theorem callDone_early (hCall : s.callAt id = some c) (h : ¬c.expiredBy s.now = true) : s.callDone id = s := by
  unfold State.callDone
  rw [hCall]
  exact if_neg h

/-- The end of a call leaves STANDBY_READY as last reported. -/
theorem endCall_settled (hSettled : s.Settled) (hMem : c ∈ s.router.calls) (cause : CallCause) : (s.endCall c cause).kept = s.kept ∧ (s.endCall c cause).Settled := by
  obtain ⟨hKept, -, -, -, -, hEngine, -, -⟩ := State.endCall_frame (s := s) c cause
  exact ⟨hKept, walked_settled hSettled hEngine (kept_cues hKept) ((playersOnly_routed s).endCall (.refl s) hMem cause)⟩

theorem State.CallGone.answered (h : s.CallGone t c) (tag : Tag) (text : String) : s.CallGone (t.answered tag text) c := by
  obtain ⟨hAt, hRest⟩ := h
  exact ⟨(congrArg (fun t : State => t.answered tag text) hAt :), hRest⟩

/-- CALLEND and CALLCANCEL: the call named ends, or the id is refused (R176). -/
theorem finishCall_row (hReady : s.Ready) {i : Instr} (cause : CallCause) (text : String) (hText : causeText cause = text)
    (hExec : exec i s = command i i.tag (.given id) (finishCall cause) s) :
    (∀ c, 1 ≤ id → id ≤ 255 → s.callAt id = some c →
      ∃ t, exec i s = .next t ∧ s.Replied t i.tag ("OK " ++ ("call=" ++ natText id ++ " state=ended cause=" ++ text)) ∧ s.CallGone t c ∧
        s.Raised t (.call id) (" cause=" ++ text ++ " by=none event=ended")) ∧
    (1 ≤ id → id ≤ 255 → s.callAt id = none → exec i s = .next (s.refused i.tag .noSuch)) ∧
    (id = 0 ∨ 255 < id → exec i s = .next (s.refused i.tag .range)) := by
  refine ⟨fun c hLow hHigh hCall => ?_, fun hLow hHigh hNone => hReady.refuses hExec ?_, fun hOut => hReady.refuses hExec (finishCall_range hOut cause)⟩
  · obtain ⟨hGone, hRaised⟩ := endCall_gone (State.callAt_mem hCall) cause
    obtain ⟨hKept, hSettled⟩ := endCall_settled hReady.2 (State.callAt_mem hCall) cause
    rw [State.callAt_id hCall, hText] at hRaised
    have hAnswer := finishCall_eq (s := s) hLow hHigh cause
    rw [hCall, hText] at hAnswer
    exact ⟨_, hReady.accepts hExec hAnswer hSettled, State.replied_of hKept _ _, hGone.answered _ _, hRaised⟩
  · rw [finishCall_eq hLow hHigh, hNone]
    rfl

end

/-! ### ZONE (R161) -/

theorem setZone_eq {a : ZoneArgs} {z : ZoneId} {l : Option (List GroupId)} (hField : zoneHasField a = true)
    (hName : ∀ n, a.name = some n → n.all nameChar = true ∧ n.length ≤ 12) (hz : ofNum 24 a.zone = some z)
    (hGroups : a.groups = none ∧ l = none ∨ ∃ m x, a.groups = some m ∧ nums 8 m = some x ∧ x.Nodup ∧ l = some x) :
    setZone a s = ((s.onZone z (applyZone a l)).walk).replies fun s => s.zoneLine z := by
  have hAllowed : a.name.all nameAllowed = true := by
    cases hAt : a.name with
    | none => rfl
    | some n => exact (hName n hAt).1
  have hShort : (a.name.any fun n => decide (Config.nameChars < n.length)) = false := by
    cases hAt : a.name with
    | none => rfl
    | some n => exact decide_eq_false (Nat.not_lt.mpr (hName n hAt).2)
  unfold setZone
  rw [hField, hAllowed, hShort, hz, need_some]
  rcases hGroups with ⟨hNone, rfl⟩ | ⟨m, x, hSome, hNums, hNodup, rfl⟩
  · rw [hNone]
    rfl
  · rw [hSome]
    dsimp only
    rw [hNums, need_some]
    show (refuseIf (!decide x.Nodup) .duplicate >>= _) = _
    rw [decide_eq_true hNodup]
    rfl

theorem applyZone_eq {a : ZoneArgs} {l : Option (List GroupId)} {x : Zone} {groups : GroupId → Bool}
    (h : l = none ∧ (∀ g, groups g = x.groups.get g) ∨ ∃ m, l = some m ∧ ∀ g, groups g = decide (g ∈ m)) : applyZone a l x = { x with
      name := a.name.getD x.name, relay := a.relay.getD x.relay, level := (a.level.map relayLevel).getD x.level
      trim := (a.trim.map callTrim).getD x.trim, quiet := a.quiet.getD x.quiet, groups := .ofFn groups } := by
  have hGroups : (l.map fun l => Vector.ofFn fun g => l.contains g).getD x.groups = .ofFn groups := by
    rcases h with ⟨rfl, hSame⟩ | ⟨m, rfl, hIn⟩
    · refine Vector.ext fun i hi => ?_
      rw [Vector.getElem_ofFn, hSame, Vector.get_eq_getElem]
      rfl
    · refine congrArg Vector.ofFn (funext fun g => ?_)
      rw [hIn, List.contains_eq_mem]
  unfold applyZone
  rw [hGroups]

end

end Sys2Proof.Machine

namespace Sys2Proof.Proofs

open Sys2Proof Sys2Proof.Machine

/-- Settles O51: the zone's fields, and then what a walk leaves. -/
theorem zoneFields : Obligations.ZoneFields := by
  intro s tag a z groups hReady hField hName hz hGroups
  obtain ⟨l, hAnswer, hList⟩ : ∃ l, setZone a s = ((s.onZone z (applyZone a l)).walk).replies (fun s => s.zoneLine z) ∧
      (l = none ∧ (∀ g, groups g = (s.zone z).groups.get g) ∨ ∃ m, l = some m ∧ ∀ g, groups g = decide (g ∈ m)) := by
    rcases hGroups with ⟨hNone, hSame⟩ | ⟨m, x, hGiven, hNums, hNodup, hIn⟩
    · exact ⟨none, setZone_eq hField hName hz (.inl ⟨hNone, rfl⟩), .inl ⟨rfl, hSame⟩⟩
    · exact ⟨some x, setZone_eq hField hName hz (.inr ⟨m, x, hGiven, hNums, hNodup, rfl⟩), .inr ⟨x, rfl, hIn⟩⟩
  have hZone : (s.onZone z (applyZone a l)).zone z = applyZone a l (s.zone z) := (zone_onZone _ _ _ _).trans (if_pos rfl)
  have hOthers : ∀ z', z' ≠ z → (s.onZone z (applyZone a l)).zone z' = s.zone z' := fun z' h => (zone_onZone _ _ _ _).trans (if_neg (Ne.symm h))
  have hRouter : (s.onZone z (applyZone a l)).router = { s.router with zones := put s.router.zones z (applyZone a l (s.zone z)) } := rfl
  rw [applyZone_eq hList] at hZone hRouter
  have hStart : ∀ w : State, w = s.onZone z (applyZone a l) → w.kept = s.kept ∧ w = { s with router := w.router } := fun w hw => by
    rw [hw]; exact ⟨rfl, rfl⟩
  generalize s.onZone z (applyZone a l) = w at *
  obtain ⟨hKeptFirst, hFirst⟩ := hStart w rfl
  obtain ⟨hKept, hAt, hPlayers⟩ := walk_leaves w
  have hZones : w.ZonesHeld w.walk := (zonesHeld_routed w).walk fun _ => rfl
  obtain ⟨hNextId, -, hPresets⟩ := (counting_routed w.router.nextId w.router.admitStamp w.router.presets).walk ⟨rfl, rfl, rfl⟩
  have hIdle := walk_idle (s := w)
  have hEngine : w.walk.engine = s.engine := (congrArg State.engine hAt).trans (by rw [hFirst])
  have hVoices : ∀ v : VoiceId, w.walk.voice v = s.voice v := fun v => (hPlayers.voices v).trans (by rw [hFirst]; rfl)
  have hSettled : w.walk.Settled := settled_readers hReady.2 hEngine (kept_cues (hKept.trans hKeptFirst)) fun v n => by rw [hVoices v]
  have hRow := hReady.accepts (exec_zone s tag (.given a)) hAnswer hSettled
  have hAtStart : w.walk = { s with link := w.walk.link, router := w.walk.router, fetch := w.walk.fetch } := hAt.trans (by rw [hFirst])
  refine ⟨_, hRow, State.replied_of (hKept.trans hKeptFirst) tag _, congrArg (fun t : State => t.answered tag _) hAtStart, hVoices, ?_,
    fun z' hz' => ?_, ?_, ?_, fun hNone => ?_⟩
  · refine (hZones z).trans ?_
    rw [hZone]
    rfl
  · refine (hZones z').trans ?_
    rw [hOthers z' hz']
    rfl
  · exact hPresets.trans (by rw [hRouter])
  · exact hNextId.trans (by rw [hRouter])
  · have hSame : w.walk = w := hIdle (by rw [hRouter]; exact hNone)
    rw [hSame]
    refine ⟨?_, (congrArg State.fetch hFirst :), ?_, ?_, ?_⟩
    · refine hRouter.trans ?_
      rw [← hZone]
      rfl
    · exact (congrArg Zone.holding hZone :)
    · exact (congrArg Zone.ramp hZone :)
    · exact (congrArg (fun t : State => t.link.reports) hFirst :)

/-- Settles O53: the end of a call, and the walk that follows it. -/
theorem callEnds : Obligations.CallEnds := by
  refine ⟨fun s tag id cancel hReady => ?_, fun s id c hReset hCalm hCall => ⟨fun hWaiting hExpiry hPassed => ?_, fun hEarly => ?_⟩⟩
  · cases cancel
    · exact finishCall_row hReady .ended "ended" rfl (exec_callEnd s tag (.given id))
    · exact finishCall_row hReady .cancelled "cancelled" rfl (exec_callCancel s tag (.given id))
  · have hDue := callDone_due hCall (expiredBy_iff.mpr ⟨hWaiting, hExpiry, hPassed⟩)
    obtain ⟨hGone, hRaised⟩ := endCall_gone (State.callAt_mem hCall) .expired
    obtain ⟨hKept, hSettled⟩ := endCall_settled hCalm.1 (State.callAt_mem hCall) .expired
    rw [State.callAt_id hCall] at hRaised
    refine ⟨s.endCall c .expired, ?_, kept_link hKept, hGone, hRaised⟩
    rw [exec_expired, laterEvent_running hReset hCalm.2, hDue, finish_of_settled hSettled]
  · refine (exec_expired s id).trans (event_unchanged hCalm hReset (g := fun s => s.callDone id) (callDone_early hCall fun h => ?_))
    obtain ⟨hWaiting, hExpiry, hPassed⟩ := expiredBy_iff.mp h
    rcases hEarly with hLive | hNone | hNotYet
    · exact hLive hWaiting
    · exact absurd hExpiry (by rw [hNone]; decide)
    · exact absurd hPassed (Nat.not_le.mpr hNotYet)

end Sys2Proof.Proofs
end

section
/-! PROOFS. The clock monitor (R206, R207). -/

namespace Sys2Proof.Machine

open Sys2Proof

section
variable {s : State} {ps : Nat}

/-- An event that changes the clock alone, and perhaps reports it. -/
theorem clock_event (hReset : s.inReset = false) (hCalm : s.Calm) {f : State → State} {u : State} (h : f s = u)
    (hEngine : u.engine = s.engine) (hCues : u.cues = s.cues) (hReaders : u.fetch.readers = s.fetch.readers) : laterEvent f s = .next u := by
  rw [hCalm.event hReset (by rw [h, hEngine]) (by rw [h, hCues]) (by rw [h, hReaders]), h]

theorem loseClock_locked (h : s.clock.monitor = .locked) : s.loseClock =
    { s with clock := { wclk := false, monitor := .absent, count := 0, losses := min (s.clock.losses + 1) 65535, begun := 0 } }.raiseClock "lost" :=
  if_pos h

theorem loseClock_other (h : s.clock.monitor ≠ .locked) : s.loseClock = s := if_neg h

theorem dropQualifying_qualifying (h : s.clock.monitor = .qualifying) :
    s.dropQualifying = { s with clock := { s.clock with monitor := .absent, count := 0 } } := if_pos h

theorem dropQualifying_other (h : s.clock.monitor ≠ .qualifying) : s.dropQualifying = s := if_neg h

theorem lockClock_last (h : s.clock.monitor = .qualifying) (hCount : s.clock.count = 4799) : s.lockClock =
    { s with clock := { wclk := true, monitor := .locked, count := 4800, losses := s.clock.losses, begun := 1 } }.raiseClock "restored" :=
  if_pos ⟨h, hCount⟩

theorem lockClock_other (h : s.clock.monitor ≠ .qualifying ∨ s.clock.count ≠ 4799) : s.lockClock = s :=
  if_neg fun hBoth => h.elim (fun hNot => hNot hBoth.1) fun hNot => hNot hBoth.2

theorem inTolerance_iff : inTolerance ps = true ↔ 10 ^ 12 ≤ 49000 * ps ∧ 47000 * ps ≤ 10 ^ 12 := decide_eq_true_iff

/-! ### An edge of WCLK by the state of the monitor (R206) -/

theorem clockEdge_absent (h : s.clock.monitor = .absent) :
    s.clockEdge ps = { s with clock := { s.clock with monitor := .qualifying, count := 0 } } := by
  unfold State.clockEdge
  rw [h]
  rfl

theorem clockEdge_locked (h : s.clock.monitor = .locked) :
    s.clockEdge ps = { s with clock := { s.clock with begun := s.clock.begun + 1 } } := by
  unfold State.clockEdge
  rw [h]
  rfl

theorem clockEdge_qualifying (h : s.clock.monitor = .qualifying) : s.clockEdge ps = if inTolerance ps then
    if s.clock.count < 4799 then { s with clock := { s.clock with count := s.clock.count + 1 } } else s.lockClock
    else { s with clock := { s.clock with count := 0 } } := by
  unfold State.clockEdge
  rw [h]
  rfl

end

/-- The CLOCK report after a change of the monitor. -/
theorem raiseClock_shows (s : State) (b : ClockBlock) (event : String) :
    s.SameLink ({ s with clock := b }.raiseClock event) ∧
      { s with clock := b }.raiseClock event = { s with link := ({ s with clock := b }.raiseClock event).link, clock := b } ∧
      s.Raised ({ s with clock := b }.raiseClock event) .clock ("!CLOCK " ++ b.text ++ " event=" ++ event ++ " losses=" ++ natText b.losses) := by
  refine ⟨?_, ?_, raise_told (t := { s with clock := b }) rfl .clock _⟩
  · exact State.raise_link { s with clock := b } .clock _
  · exact State.raise_eq { s with clock := b } .clock _

end Sys2Proof.Machine

namespace Sys2Proof.Proofs

open Sys2Proof Sys2Proof.Machine

/-- Settles O58: each event by the state of the monitor. -/
theorem clockMonitor : Obligations.ClockMonitor := by
  intro s hReset hCalm
  refine ⟨fun hLocked => ?_, fun hOther => ?_, fun hQualifying => ?_, fun hOther => ?_, fun ps => ⟨fun hAbsent => ?_, fun hQualifying hOut => ?_,
    fun hQualifying hLow hHigh hCount => ?_, fun hLocked => ?_⟩, fun slots pins => ⟨fun hLocked hNone => ?_, fun hFrame => ?_⟩,
    fun c hQualifying hCount hLast => ?_, fun hOther => ?_⟩
  · obtain ⟨hLink, hAt, hRaised⟩ := raiseClock_shows s
      { wclk := false, monitor := .absent, count := 0, losses := min (s.clock.losses + 1) 65535, begun := 0 } "lost"
    exact ⟨_, (exec_clockLost s).trans (clock_event hReset hCalm (loseClock_locked hLocked) (State.raise_engine _ _ _) (State.raise_cues _ _ _)
      (congrArg FetchBlock.readers (State.raise_fetch _ _ _))), hLink, hAt, hRaised⟩
  · exact (exec_clockLost s).trans (event_unchanged hCalm hReset (loseClock_other hOther))
  · exact (exec_qualifyingTimeout s).trans (clock_event hReset hCalm (dropQualifying_qualifying hQualifying) rfl rfl rfl)
  · exact (exec_qualifyingTimeout s).trans (event_unchanged hCalm hReset (dropQualifying_other hOther))
  · exact (exec_wclkRisingEdge s ps).trans (clock_event hReset hCalm (f := fun s => s.clockEdge ps) (clockEdge_absent hAbsent) rfl rfl rfl)
  · have hEdge : s.clockEdge ps = { s with clock := { s.clock with count := 0 } } := by
      rw [clockEdge_qualifying hQualifying, if_neg]
      intro h
      obtain ⟨hLow, hHigh⟩ := inTolerance_iff.mp h
      omega
    exact (exec_wclkRisingEdge s ps).trans (clock_event hReset hCalm (f := fun s => s.clockEdge ps) hEdge rfl rfl rfl)
  · have hEdge : s.clockEdge ps = { s with clock := { s.clock with count := s.clock.count + 1 } } := by
      rw [clockEdge_qualifying hQualifying, if_pos (inTolerance_iff.mpr ⟨hLow, hHigh⟩), if_pos hCount]
    exact (exec_wclkRisingEdge s ps).trans (clock_event hReset hCalm (f := fun s => s.clockEdge ps) hEdge rfl rfl rfl)
  · exact (exec_wclkRisingEdge s ps).trans (clock_event hReset hCalm (f := fun s => s.clockEdge ps) (clockEdge_locked hLocked) rfl rfl rfl)
  · have hStill : s.frame slots pins = s := by
      refine if_neg fun h => ?_
      have hBegun := (State.frameBegun_iff s).mp h hLocked
      rw [hNone] at hBegun
      exact absurd hBegun (by decide)
    rw [exec_frame, event_running hReset, hStill, finish_of_settled hCalm.1]
  · obtain ⟨t, hExec, hKept⟩ := exec_frame_kept hReset (fun hLocked => hFrame.elim (fun hNot => absurd hLocked hNot) id) slots pins
    exact ⟨t, hExec, congrArg Kept.now hKept, congrArg Kept.clock hKept⟩
  · obtain ⟨hLink, hAt, hRaised⟩ := raiseClock_shows s
      { wclk := true, monitor := .locked, count := 4800, losses := s.clock.losses, begun := 1 } "restored"
    have hLock := lockClock_last hQualifying hCount
    refine ⟨_, ?_, hLink, hAt, hRaised⟩
    have hRow : ∀ f : State → State, f s = s.lockClock → laterEvent f s = .next _ := fun f hf =>
      clock_event hReset hCalm (hf.trans hLock) (State.raise_engine _ _ _) (State.raise_cues _ _ _)
        (congrArg FetchBlock.readers (State.raise_fetch _ _ _))
    rcases hLast with rfl | ⟨ps, rfl, hLow, hHigh⟩
    · exact (exec_clockRestored s).trans (hRow State.lockClock rfl)
    · refine (exec_wclkRisingEdge s ps).trans (hRow (fun s => s.clockEdge ps) ?_)
      show s.clockEdge ps = s.lockClock
      rw [clockEdge_qualifying hQualifying, if_pos (inTolerance_iff.mpr ⟨hLow, hHigh⟩), if_neg (by omega)]
  · exact (exec_clockRestored s).trans (event_unchanged hCalm hReset (lockClock_other hOther))

end Sys2Proof.Proofs
end

section
/-! PROOFS. Received lines, the transmitter, the failing lines and REPORT (R193 to R200). -/

namespace Sys2Proof.Machine

open Sys2Proof

section
variable {s t : State} {chars : List RxChar} {metFull : Bool}

/-! ### Received lines (R193, R194) -/

theorem receiveLine_empty (h : Text.emptyLine (Text.keptChars chars) = true) : s.receiveLine chars metFull = s := if_pos h

/-- Whether a character of a line had a framing error. -/
def framed (chars : List RxChar) : Bool := (Text.keptChars chars).any (·.framing)

theorem framed_iff : framed chars = true ↔ ∃ c ∈ Text.keptChars chars, c.framing = true := List.any_eq_true

theorem framed_if (x y : Nat) : (if framed chars then x else y) = if ∃ c ∈ Text.keptChars chars, c.framing = true then x else y :=
  if_congr framed_iff rfl rfl

theorem framed_false (h : ∀ c ∈ Text.keptChars chars, c.framing = false) : framed chars = false :=
  List.any_eq_false.mpr fun c hc => by rw [h c hc]; decide

/-- The framing error of a line is counted, and the line is then taken or discarded. -/
theorem receiveLine_eq (h : Text.emptyLine (Text.keptChars chars) = false) : s.receiveLine chars metFull =
    if metFull then (if framed chars then s.framingLine else s).overflowLine
    else (if framed chars then s.framingLine else s).enqueueLine (Text.parseLine (Text.lineChars (Text.keptChars chars))) :=
  if_neg (by rw [h]; decide)

theorem framingLine_eq (s : State) : s.framingLine = { s with link := { s.link with
    framing := min (s.link.framing + 1) 65535, reports := s.framingLine.link.reports } } := by
  refine (State.raise_eq _ .link _).trans ?_
  rw [State.raise_link]
  rfl

theorem framingLine_raised (s : State) : s.Raised s.framingLine .link ("!LINK event=framing overflow=" ++ natText s.link.overflow ++ " framing=" ++
    natText (min (s.link.framing + 1) 65535) ++ " long=" ++ natText s.link.long) :=
  raise_told (s := s) (t := s.onLink fun b => { b with framing := bump b.framing }) rfl .link _

theorem overflowLine_eq (s : State) : s.overflowLine = { s with link := { s.link with
    overflow := min (s.link.overflow + 1) 65535, reports := s.overflowLine.link.reports } } := by
  refine (State.raise_eq _ .link _).trans ?_
  rw [State.raise_link]
  rfl

theorem overflowLine_raised (h : t.link.disabled = s.link.disabled) : s.Raised t.overflowLine .link ("!LINK event=overflow overflow=" ++
    natText (min (t.link.overflow + 1) 65535) ++ " framing=" ++ natText t.link.framing ++ " long=" ++ natText t.link.long) :=
  raise_told (s := s) (t := t.onLink fun b => { b with overflow := bump b.overflow }) h .link _

theorem enqueueLine_room (h : s.link.rxq.length < 8) (c : Instr) : s.enqueueLine c = { s with link := { s.link with rxq := s.link.rxq ++ [c] } } :=
  if_neg (Nat.not_le.mpr h)

theorem enqueueLine_full (h : 8 ≤ s.link.rxq.length) (c : Instr) : s.enqueueLine c = s.overflowLine := if_pos h

/-- A line that meets a full queue is discarded, its framing error counted first. -/
theorem receiveLine_full (h : Text.emptyLine (Text.keptChars chars) = false) (hFull : metFull = true ∨ 8 ≤ s.link.rxq.length) :
    s.receiveLine chars metFull = (if framed chars then s.framingLine else s).overflowLine := by
  rw [receiveLine_eq h]
  cases metFull with
  | true => rfl
  | false =>
    refine enqueueLine_full ?_ _
    have hLength := hFull.resolve_left (by decide)
    split
    · rw [framingLine_eq]; exact hLength
    · exact hLength

/-- A discarded line: the counts, and the report that shows them (R193, R194, R201). -/
theorem discarded_shows (s : State) (b : Bool) :
    (if b then s.framingLine else s).overflowLine = { s with link := { s.link with
      overflow := min (s.link.overflow + 1) 65535
      framing := if b then min (s.link.framing + 1) 65535 else s.link.framing
      reports := (if b then s.framingLine else s).overflowLine.link.reports } } ∧
    s.Raised (if b then s.framingLine else s).overflowLine .link ("!LINK event=overflow overflow=" ++
      natText (min (s.link.overflow + 1) 65535) ++ " framing=" ++
      natText (if b then min (s.link.framing + 1) 65535 else s.link.framing) ++ " long=" ++ natText s.link.long) := by
  cases b with
  | false => exact ⟨overflowLine_eq s, overflowLine_raised rfl⟩
  | true =>
    have hFramed := framingLine_eq s
    have hAt := overflowLine_eq s.framingLine
    have hRaised := overflowLine_raised (s := s) (t := s.framingLine) (by rw [hFramed])
    simp only [if_true]
    generalize s.framingLine.overflowLine = u at *
    generalize s.framingLine = w at *
    have hOverflow : w.link.overflow = s.link.overflow := by rw [hFramed]
    have hFraming : w.link.framing = min (s.link.framing + 1) 65535 := by rw [hFramed]
    have hLong : w.link.long = s.link.long := by rw [hFramed]
    rw [hOverflow, hFraming, hLong] at hRaised
    exact ⟨hAt.trans (by rw [hFramed]), hRaised⟩

/-! ### The transmitter (R198, R199) -/

theorem beginLine_paused {b : LinkBlock} (h : b.paused = true) : b.beginLine = b := if_pos h

theorem beginLine_reply {b : LinkBlock} {r : String} {rest : List String} (h : b.paused = false) (hReplies : b.replies = r :: rest) :
    b.beginLine = { b with replies := rest, sending := some (r ++ "\n") } := by
  unfold LinkBlock.beginLine
  rw [h, hReplies]
  rfl

theorem beginLine_report {b : LinkBlock} {r : Report} {rest : List Report} (h : b.paused = false) (hReplies : b.replies = [])
    (hReports : b.reports = r :: rest) : b.beginLine = { b with reports := rest, sending := some (r.text ++ "\n") } := by
  unfold LinkBlock.beginLine
  rw [h, hReplies, hReports]
  rfl

theorem beginLine_none {b : LinkBlock} (h : b.paused = false) (hReplies : b.replies = []) (hReports : b.reports = []) : b.beginLine = b := by
  unfold LinkBlock.beginLine
  rw [h, hReplies, hReports]
  rfl

end

/-! ### REPORT (R200) -/

section
variable {a : ReportArgs} {was : Bool} {kind : ReportKind} {on : Bool} {disabled : List ReportKind}

theorem kindEnabled_eq : kindEnabled a was kind = ((a.kinds.find? fun e => e.1 = kind).map (·.2)).getD (a.all.getD was) := by
  unfold kindEnabled
  cases a.kinds.find? fun e => e.1 = kind <;> rfl

/-- A kind that is named takes its own field. -/
theorem kindEnabled_named (hNodup : (a.kinds.map (·.1)).Nodup) (h : (kind, on) ∈ a.kinds) : kindEnabled a was kind = on := by
  have hFound : a.kinds.find? (fun e => e.1 = kind) = some (kind, on) := by
    obtain ⟨e, hFind⟩ := Option.isSome_iff_exists.mp (List.find?_isSome (p := fun e : ReportKind × Bool => decide (e.1 = kind)) |>.mpr ⟨(kind, on), h, decide_eq_true (p := kind = kind) rfl⟩)
    have hKey : e.1 = kind := by simpa using List.find?_some hFind
    rw [hFind, List.inj_on_of_nodup_map hNodup (List.mem_of_find?_eq_some hFind) h hKey]
  rw [kindEnabled_eq, hFound]
  rfl

/-- A kind that is not named takes `all=`, and without it stands. -/
theorem kindEnabled_other (h : ∀ on, (kind, on) ∉ a.kinds) : kindEnabled a was kind = a.all.getD was := by
  have hNone : a.kinds.find? (fun e => e.1 = kind) = none := List.find?_eq_none.mpr fun e he hKey => by
    have hName : e.1 = kind := of_decide_eq_true hKey
    exact h e.2 (hName ▸ he)
  rw [kindEnabled_eq, hNone]
  rfl

theorem mem_kindNames (k : ReportKind) : k ∈ kindNames.map (·.1) := by cases k <;> decide

theorem mem_disabledAfter : kind ∈ disabledAfter a disabled ↔ kindEnabled a (!disabled.contains kind) kind = false := by
  unfold disabledAfter
  rw [List.mem_filter, Bool.not_eq_true']
  exact ⟨And.right, fun h => ⟨mem_kindNames kind, h⟩⟩

theorem setMask_eq {s : State} (h : a.all ≠ none ∨ a.kinds ≠ []) : setMask a s =
    (s.onLink fun b => b.setMask (disabledAfter a b.disabled)).replies State.maskText := by
  have hField : (a.all.isNone && a.kinds.isEmpty) = false := by
    cases hAll : a.all with
    | some on => rfl
    | none =>
      cases hKinds : a.kinds with
      | nil => exact absurd (h.resolve_left fun hSome => hSome hAll) fun hNot => hNot hKinds
      | cons e rest => rfl
  unfold setMask
  rw [hField]
  rfl

end

end Sys2Proof.Machine

namespace Sys2Proof.Proofs

open Sys2Proof Sys2Proof.Machine

/-- Settles O57: the link's events one by one, and the mask by each kind's field. -/
theorem linkEvents : Obligations.LinkEvents := by
  refine ⟨fun s => ⟨fun tag hTakes => ?_, fun chars metFull hReset hCalm => ⟨fun hEmpty => ?_, fun hLine => ⟨fun hFull => ?_, fun hFree hRoom => ⟨fun hClean => ?_, fun hFramed => ?_⟩⟩⟩,
    fun hReset hCalm => ⟨fun hPaused => ?_, fun hGo => ⟨fun r rest hReplies => ?_, fun r rest hReplies hReports => ?_, fun hReplies hReports => ?_⟩⟩,
    fun asserted => rfl⟩, fun s tag a hReady hField hNodup => ?_⟩
  · exact ⟨congrArg Host.Outcome.next (commandLine_of_takes hTakes _ _), congrArg Host.Outcome.next (commandLine_of_takes hTakes _ _),
      congrArg Host.Outcome.next (commandLine_of_takes hTakes _ _)⟩
  · exact (exec_lineReceived s chars metFull).trans (event_unchanged hCalm hReset (g := fun s => s.receiveLine chars metFull) (receiveLine_empty hEmpty))
  · obtain ⟨hAt, hRaised⟩ := discarded_shows s (framed chars)
    have hDiscards := receiveLine_full (s := s) hLine hFull
    generalize (if framed chars then s.framingLine else s).overflowLine = u at *
    refine ⟨u, (exec_lineReceived s chars metFull).trans (clock_event hReset hCalm (f := fun s => s.receiveLine chars metFull) hDiscards
      (by rw [hAt]) (by rw [hAt]) (by rw [hAt])), ?_, ?_⟩
    · rw [framed_if] at hAt
      exact hAt
    · have hOverflow : u.link.overflow = _ := congrArg (fun t : State => t.link.overflow) hAt
      have hFraming : u.link.framing = _ := congrArg (fun t : State => t.link.framing) hAt
      rw [hOverflow, hFraming]
      exact hRaised
  · have hTaken : s.receiveLine chars metFull = { s with link := { s.link with
        rxq := s.link.rxq ++ [Text.parseLine (Text.lineChars (Text.keptChars chars))] } } := by
      rw [receiveLine_eq hLine, hFree, framed_false hClean]
      exact enqueueLine_room hRoom _
    exact (exec_lineReceived s chars metFull).trans (clock_event hReset hCalm (f := fun s => s.receiveLine chars metFull) hTaken rfl rfl rfl)
  · have hTaken : s.receiveLine chars metFull = s.framingLine.enqueueLine (Text.parseLine (Text.lineChars (Text.keptChars chars))) := by
      rw [receiveLine_eq hLine, hFree, framed_iff.mpr hFramed]
      rfl
    have hAt := framingLine_eq s
    have hRaised := framingLine_raised s
    generalize s.framingLine = w at *
    have hQueue : w.link.rxq = s.link.rxq := by rw [hAt]
    rw [enqueueLine_room (by rw [hQueue]; exact hRoom), hQueue] at hTaken
    refine ⟨_, (exec_lineReceived s chars metFull).trans (clock_event hReset hCalm (f := fun s => s.receiveLine chars metFull) hTaken
      (by rw [hAt]) (by rw [hAt]) (by rw [hAt])), ?_, ?_⟩
    · exact congrArg (fun t : State => { t with link := { t.link with
        rxq := s.link.rxq ++ [Text.parseLine (Text.lineChars (Text.keptChars chars))] } }) hAt
    · have hFraming : w.link.framing = min (s.link.framing + 1) 65535 := by rw [hAt]
      rw [← hFraming] at hRaised
      exact hRaised
  · exact (exec_transmitLine s).trans (event_unchanged hCalm hReset (g := fun s => s.onLink LinkBlock.beginLine)
      (congrArg (fun b => { s with link := b }) (beginLine_paused hPaused)))
  · exact (exec_transmitLine s).trans (clock_event hReset hCalm (f := fun s => s.onLink LinkBlock.beginLine)
      (congrArg (fun b => { s with link := b }) (beginLine_reply hGo hReplies)) rfl rfl rfl)
  · exact (exec_transmitLine s).trans (clock_event hReset hCalm (f := fun s => s.onLink LinkBlock.beginLine)
      (congrArg (fun b => { s with link := b }) (beginLine_report hGo hReplies hReports)) rfl rfl rfl)
  · exact (exec_transmitLine s).trans (event_unchanged hCalm hReset (g := fun s => s.onLink LinkBlock.beginLine)
      (congrArg (fun b => { s with link := b }) (beginLine_none hGo hReplies hReports)))
  · refine ⟨_, hReady.accepts (exec_report s tag (.given a)) (setMask_eq hField) (hReady.settled rfl rfl rfl), rfl, rfl,
      fun kind on hIn => ?_, fun kind hNot => ?_, ?_⟩
    · refine mem_disabledAfter.trans ?_
      rw [kindEnabled_named hNodup hIn]
    · refine mem_disabledAfter.trans ?_
      rw [kindEnabled_other hNot]
      cases a.all with
      | none => simp
      | some on => simp
    · refine List.filter_congr fun r _ => ?_
      rw [decide_not, List.contains_eq_mem]
      rfl

end Sys2Proof.Proofs
end

section
/-! PROOFS. The grant walk: what it depends on, what a visit does, and where the walks end (R170, R171). -/

namespace Sys2Proof.Machine

open Sys2Proof

/-! ### Folds -/

/-- Two folds over one list keep a relation that each step keeps. -/
theorem foldl_rel {α β : Type} {R : β → β → Prop} {f g : β → α → β} (h : ∀ s t a, R s t → R (f s a) (g t a)) (l : List α) {s t : β} (hs : R s t) :
    R (l.foldl f s) (l.foldl g t) := by
  induction l generalizing s t with
  | nil => exact hs
  | cons a l ih => exact ih (h s t a hs)

/-- A fold keeps what each step by a member of the list keeps. -/
theorem foldl_holds_mem {α β : Type} {P : β → Prop} {f : β → α → β} (l : List α) (h : ∀ s, ∀ a ∈ l, P s → P (f s a)) {s : β} (hs : P s) :
    P (l.foldl f s) := by
  induction l generalizing s with
  | nil => exact hs
  | cons a l ih => exact ih (fun t b hb => h t b (List.mem_cons_of_mem a hb)) (h s a List.mem_cons_self hs)

/-- The first of a list in an order of two: each member in turn is kept or gives way to the next. -/
def firstBy {α : Type} (r : α → α → Bool) (l : List α) (best : Option α) : Option α :=
  l.foldl (fun best c => best.elim (some c) fun d => if r d c then some d else some c) best

theorem firstBy_mem {α : Type} {r : α → α → Bool} {l : List α} {best : Option α} {x : α} (h : firstBy r l best = some x) :
    x ∈ l ∨ best = some x := by
  induction l generalizing best with
  | nil => exact .inr h
  | cons c l ih =>
    rcases ih h with hIn | hBest
    · exact .inl (List.mem_cons_of_mem c hIn)
    · cases best with
      | none => exact .inl (Option.some.inj hBest ▸ List.mem_cons_self)
      | some d =>
        dsimp only [Option.elim] at hBest
        split at hBest
        · exact .inr hBest
        · exact .inl (Option.some.inj hBest ▸ List.mem_cons_self)

/-- A member that comes before every other is the first. -/
theorem firstBy_eq {α : Type} {r : α → α → Bool} {x : α} {l : List α} {best : Option α} (hIn : x ∈ l ∨ best = some x)
    (hBest : ∀ d, best = some d → d = x ∨ r x d = true ∧ r d x = false) (hRest : ∀ c ∈ l, c = x ∨ r x c = true ∧ r c x = false) :
    firstBy r l best = some x := by
  induction l generalizing best with
  | nil => exact hIn.resolve_left (by simp)
  | cons c l ih =>
    obtain ⟨hHead, hTail⟩ := List.forall_mem_cons.mp hRest
    refine ih ?_ (fun d hd => ?_) hTail
    · cases best with
      | none =>
        rcases hIn with hIn | hNo
        · rcases List.mem_cons.mp hIn with rfl | hIn
          · exact .inr rfl
          · exact .inl hIn
        · cases hNo
      | some d =>
        dsimp only [Option.elim]
        by_cases hd : d = x
        · subst hd
          rcases hHead with rfl | ⟨hFirst, -⟩
          · right; split <;> rfl
          · right; rw [if_pos hFirst]
        · have hBefore := (hBest d rfl).resolve_left hd
          rcases hIn with hIn | hSome
          · rcases List.mem_cons.mp hIn with rfl | hIn
            · right; rw [if_neg (by rw [hBefore.2]; decide)]
            · exact .inl hIn
          · exact absurd (Option.some.inj hSome) hd
    · cases best with
      | none => exact Option.some.inj hd ▸ hHead
      | some e =>
        dsimp only [Option.elim] at hd
        split at hd
        · exact hBest d hd
        · exact Option.some.inj hd ▸ hHead

/-! ### What the router's operations depend on -/

section
variable {s t : State}

theorem sameRouter_closeCall (h : s.router = t.router) (c : Call) (cause cause' : CallCause) (by_ by' : Option Nat) :
    (s.closeCall c cause by_).router = (t.closeCall c cause' by').router := by
  have hFreed : (s.freed c).router = (t.freed c).router := by
    unfold State.freed
    split
    · refine foldl_rel (R := fun (s t : State) => s.router = t.router) (f := fun s z => s.onZone z Zone.release)
        (g := fun s z => s.onZone z Zone.release) (fun s t z h => ?_) _ h
      simp only [State.onZone, State.onRouter_router, h]
    · exact h
  rw [closeCall_router, closeCall_router, hFreed, h]

theorem sameRouter_grantCall (h : s.router = t.router) (c : Call) (player : Option PlayerId) :
    (s.grantCall c player).router = (t.grantCall c player).router := by
  have hWay : s.inTheWay c player = t.inTheWay c player := by
    unfold State.inTheWay State.zone
    rw [h]
  have hCleared : (s.cleared c player).router = (t.cleared c player).router := by
    unfold State.cleared
    rw [hWay]
    exact foldl_rel (R := fun (s t : State) => s.router = t.router) (f := fun s d => s.closeCall d .preempted (some c.id))
      (g := fun s d => s.closeCall d .preempted (some c.id)) (fun s t d h => sameRouter_closeCall h d _ _ _ _) _ h
  rw [grantCall_router, grantCall_router]
  unfold State.seated
  refine foldl_rel (R := fun (s t : State) => s.router = t.router) (f := fun s z => s.onZone z (Zone.take c.id c.req.duck))
    (g := fun s z => s.onZone z (Zone.take c.id c.req.duck)) (fun s t z h => ?_) _ ?_
  · simp only [State.onZone, State.onRouter_router, h]
  · rw [State.onRouter_router, State.onRouter_router, hCleared]

theorem sameRouter_grantable (h : s.router = t.router) (reserved : List ZoneId) (c : Call) : s.grantable reserved c = t.grantable reserved c := by
  have hAt : ({ t with router := s.router } : State) = t := by rw [h]
  rw [← hAt]
  rfl

theorem sameRouter_callAt (h : s.router = t.router) (id : Nat) : s.callAt id = t.callAt id := by
  unfold State.callAt
  rw [h]

/-! ### A visit (R170) -/

section
variable {w : Walk} {id : Nat} {c : Call} {player : Option PlayerId}

theorem visit_other (h : ∀ c, w.state.callAt id = some c → c.grant ≠ none) : w.visit id = w := by
  unfold Walk.visit
  cases hCall : w.state.callAt id with
  | none => rfl
  | some c => exact if_pos (Option.isSome_iff_ne_none.mpr (h c hCall))

theorem visit_granted (hCall : w.state.callAt id = some c) (hWaiting : c.grant = none) (h : w.state.grantable w.reserved c = some player) :
    w.visit id = { w with state := w.state.grantCall c player, granted := true } := by
  unfold Walk.visit
  rw [hCall]
  dsimp only
  rw [hWaiting, h]
  rfl

theorem visit_reserves (hCall : w.state.callAt id = some c) (hWaiting : c.grant = none) (h : w.state.grantable w.reserved c = none) :
    w.visit id = { w with reserved := w.reserved ++ c.zones } := by
  unfold Walk.visit
  rw [hCall]
  dsimp only
  rw [hWaiting, h]
  rfl

/-- The three cases of a visit. -/
theorem visit_cases (w : Walk) (id : Nat) : w.visit id = w ∨
    (∃ c, w.state.callAt id = some c ∧ c.grant = none ∧ w.state.grantable w.reserved c = none ∧ w.visit id = { w with reserved := w.reserved ++ c.zones }) ∨
    ∃ c player, w.state.callAt id = some c ∧ c.grant = none ∧ w.state.grantable w.reserved c = some player ∧
      w.visit id = { w with state := w.state.grantCall c player, granted := true } := by
  by_cases h : ∀ c, w.state.callAt id = some c → c.grant ≠ none
  · exact .inl (visit_other h)
  · obtain ⟨c, hAt⟩ := Classical.not_forall.mp h
    obtain ⟨hCall, hNot⟩ := Classical.not_imp.mp hAt
    have hWaiting : c.grant = none := Decidable.not_not.mp hNot
    cases hGrant : w.state.grantable w.reserved c with
    | none => exact .inr (.inl ⟨c, hCall, hWaiting, hGrant, visit_reserves hCall hWaiting hGrant⟩)
    | some player => exact .inr (.inr ⟨c, player, hCall, hWaiting, hGrant, visit_granted hCall hWaiting hGrant⟩)

end

/-- Two walks alike but for what lies beyond the router. -/
def Walk.Alike (w x : Walk) : Prop := w.state.router = x.state.router ∧ w.reserved = x.reserved ∧ w.granted = x.granted

theorem Walk.Alike.visit {w x : Walk} (h : w.Alike x) (id : Nat) : (w.visit id).Alike (x.visit id) := by
  obtain ⟨hRouter, hReserved, hGranted⟩ := h
  have hCalls := sameRouter_callAt hRouter id
  rcases visit_cases w id with hSame | ⟨c, hCall, hWaiting, hNone, hVisit⟩ | ⟨c, player, hCall, hWaiting, hSome, hVisit⟩
  · by_cases hOther : ∀ c, w.state.callAt id = some c → c.grant ≠ none
    · rw [hSame, visit_other (w := x) (fun c hc => hOther c (hCalls.trans hc))]
      exact ⟨hRouter, hReserved, hGranted⟩
    · obtain ⟨c, hAt⟩ := Classical.not_forall.mp hOther
      obtain ⟨hCall, hNot⟩ := Classical.not_imp.mp hAt
      have hWaiting : c.grant = none := Decidable.not_not.mp hNot
      have hGrantable : x.state.grantable x.reserved c = w.state.grantable w.reserved c := by
        rw [hReserved, sameRouter_grantable hRouter]
      cases hGrant : w.state.grantable w.reserved c with
      | none =>
        rw [visit_reserves hCall hWaiting hGrant, visit_reserves (hCalls.symm.trans hCall) hWaiting (hGrantable.trans hGrant)]
        exact ⟨hRouter, by rw [hReserved], hGranted⟩
      | some player =>
        rw [visit_granted hCall hWaiting hGrant, visit_granted (hCalls.symm.trans hCall) hWaiting (hGrantable.trans hGrant)]
        exact ⟨sameRouter_grantCall hRouter c player, hReserved, rfl⟩
  · rw [hReserved, sameRouter_grantable hRouter] at hNone
    rw [hVisit, visit_reserves (hCalls.symm.trans hCall) hWaiting hNone]
    exact ⟨hRouter, by rw [hReserved], hGranted⟩
  · rw [hReserved, sameRouter_grantable hRouter] at hSome
    rw [hVisit, visit_granted (hCalls.symm.trans hCall) hWaiting hSome]
    exact ⟨sameRouter_grantCall hRouter c player, hReserved, rfl⟩

theorem sameRouter_walkOnce (h : s.router = t.router) : s.walkOnce.Alike t.walkOnce := by
  unfold State.walkOnce
  rw [h]
  exact foldl_rel (R := Walk.Alike) (fun _ _ id h => h.visit id) _ ⟨h, rfl, rfl⟩

theorem walkUpTo_succ (n : Nat) (s : State) : s.walkUpTo (n + 1) = if s.walkOnce.granted then s.walkOnce.state.walkUpTo n else s.walkOnce.state := rfl

theorem sameRouter_walkUpTo (n : Nat) (h : s.router = t.router) : (s.walkUpTo n).router = (t.walkUpTo n).router := by
  induction n generalizing s t with
  | zero => exact h
  | succ n ih =>
    obtain ⟨hRouter, -, hGranted⟩ := sameRouter_walkOnce h
    rw [walkUpTo_succ, walkUpTo_succ, hGranted]
    split
    · exact ih hRouter
    · exact hRouter

/-- What a walk leaves of the router depends on the router alone. -/
theorem sameRouter_walk (h : s.router = t.router) : s.walk.router = t.walk.router := by
  unfold State.walk
  rw [h]
  exact sameRouter_walkUpTo _ h

end

/-! ### Where the walks end (R170) -/

section
variable {s : State}

/-- The number of WAITING calls. -/
def State.waitingCount (s : State) : Nat := s.router.calls.countP fun c => c.grant.isNone

/-- A grant takes a call out of WAITING. -/
theorem grantCall_waitingCount {c : Call} (hc : c ∈ s.router.calls) (hWaiting : c.grant = none) (player : Option PlayerId) :
    (s.grantCall c player).waitingCount < s.waitingCount := by
  have hCleared : (s.cleared c player).router.calls = s.router.calls.filter fun d => ∀ e ∈ s.inTheWay c player, d.id ≠ e.id :=
    foldl_closeCall_calls _ _ _
  have hApart : ∀ d : Call, ((if d.id = c.id then c.goneLive (s.cleared c player).router.grantStamp player else d).grant.isNone = true) →
      decide (d.grant.isNone = true ∧ d.id ≠ c.id) = true := fun d h => by
    by_cases hId : d.id = c.id
    · rw [if_pos hId] at h
      exact Bool.noConfusion h
    · rw [if_neg hId] at h
      exact decide_eq_true ⟨h, hId⟩
  have hLeft : (s.grantCall c player).waitingCount ≤ s.router.calls.countP fun d => decide (d.grant.isNone = true ∧ d.id ≠ c.id) := by
    unfold State.waitingCount
    rw [grantCall_router, seated_router, hCleared]
    dsimp only
    rw [List.countP_map]
    exact (List.countP_mono_left fun d _ h => hApart d h).trans List.filter_sublist.countP_le
  refine lt_of_le_of_lt hLeft ?_
  unfold State.waitingCount
  have hSplit : (s.router.calls.countP fun d => decide (d.grant.isNone = true ∧ d.id ≠ c.id)) =
      ((s.router.calls.filter fun d => d.grant.isNone).filter fun d => decide (d.id ≠ c.id)).length := by
    rw [List.countP_eq_length_filter, List.filter_filter]
    refine congrArg List.length (List.filter_congr fun d _ => ?_)
    rw [Bool.and_comm, Bool.decide_and, Bool.decide_eq_true]
  rw [hSplit, List.countP_eq_length_filter]
  refine List.length_filter_lt_length_iff_exists.mpr ⟨c, List.mem_filter.mpr ⟨hc, by rw [hWaiting]; rfl⟩, ?_⟩
  simp

/-- The state of a walk in progress: with nothing granted it is the one the walk began with, and a grant has taken a call out of WAITING. -/
def Walk.From (s : State) (w : Walk) : Prop :=
  (w.granted = false → w.state = s) ∧ w.state.waitingCount ≤ s.waitingCount ∧ (w.granted = true → w.state.waitingCount < s.waitingCount)

theorem Walk.From.visit {w : Walk} (h : w.From s) (id : Nat) : (w.visit id).From s := by
  obtain ⟨hSame, hLe, hLt⟩ := h
  rcases visit_cases w id with hVisit | ⟨c, -, -, -, hVisit⟩ | ⟨c, player, hCall, hWaiting, -, hVisit⟩
  · rw [hVisit]; exact ⟨hSame, hLe, hLt⟩
  · rw [hVisit]; exact ⟨hSame, hLe, hLt⟩
  · rw [hVisit]
    have hDrop := grantCall_waitingCount (State.callAt_mem hCall) hWaiting player
    have hNow : (w.state.grantCall c player).waitingCount < s.waitingCount := lt_of_lt_of_le hDrop hLe
    exact ⟨fun h => Bool.noConfusion h, hNow.le, fun _ => hNow⟩

theorem walkOnce_from (s : State) : s.walkOnce.From s := by
  unfold State.walkOnce
  exact foldl_holds (P := Walk.From s) (f := Walk.visit) (fun _ id h => Walk.From.visit h id) _ ⟨fun _ => rfl, le_rfl, fun h => Bool.noConfusion h⟩

/-- More walks than WAITING calls end where no walk grants. -/
theorem walkUpTo_enough {n m : Nat} (hn : s.waitingCount < n) (hm : s.waitingCount < m) : s.walkUpTo n = s.walkUpTo m := by
  induction n generalizing s m with
  | zero => exact absurd hn (Nat.not_lt_zero _)
  | succ n ih =>
    obtain ⟨m, rfl⟩ : ∃ k, m = k + 1 := ⟨m - 1, by omega⟩
    obtain ⟨-, -, hLt⟩ := walkOnce_from s
    rw [walkUpTo_succ, walkUpTo_succ]
    split
    · rename_i hGranted
      have := hLt hGranted
      exact ih (by omega) (by omega)
    · rfl

theorem walkUpTo_last {n : Nat} (hn : s.waitingCount < n) : (s.walkUpTo n).walkOnce.granted = false := by
  induction n generalizing s with
  | zero => exact absurd hn (Nat.not_lt_zero _)
  | succ n ih =>
    obtain ⟨hSame, -, hLt⟩ := walkOnce_from s
    rw [walkUpTo_succ]
    split
    · rename_i hGranted
      have := hLt hGranted
      exact ih (by omega)
    · rename_i hNone
      have hFalse : s.walkOnce.granted = false := Bool.eq_false_iff.mpr hNone
      rw [hSame hFalse, hFalse]

theorem waitingCount_le (s : State) : s.waitingCount ≤ s.router.calls.length := List.countP_le_length

/-- A walk that grants is followed by another, until one grants nothing (R170). -/
theorem walk_follows (s : State) : (s.walkOnce.granted = false → s.walk = s) ∧ (s.walkOnce.granted = true → s.walk = s.walkOnce.state.walk) ∧
    s.walk.walkOnce.granted = false := by
  obtain ⟨hSame, -, hLt⟩ := walkOnce_from s
  have hCount := waitingCount_le s
  refine ⟨fun hNone => ?_, fun hGranted => ?_, walkUpTo_last (by omega)⟩
  · unfold State.walk
    rw [walkUpTo_succ, if_neg (by rw [hNone]; decide), hSame hNone]
  · have hFewer := hLt hGranted
    have hLeft := waitingCount_le s.walkOnce.state
    have hNext : s.walk = s.walkOnce.state.walkUpTo s.router.calls.length := by
      unfold State.walk
      rw [walkUpTo_succ, if_pos hGranted]
    rw [hNext]
    exact walkUpTo_enough (by omega) (by omega)

end

end Sys2Proof.Machine
end

section
/-! PROOFS. A call granted: what may be taken, and what the grant leaves (R171, R172). -/

namespace Sys2Proof.Machine

open Sys2Proof

section
variable {s t : State} {c : Call} {player : Option PlayerId} {p : PlayerId}

/-! ### Zones and players a call may take (R171) -/

theorem zoneOpen_eq (pri : Nat) (z : ZoneId) : s.zoneOpen pri z =
    ((s.zone z).holding.bind s.callAt).elim true fun d => decide (d.req.pri < pri) := by
  unfold State.zoneOpen
  cases (s.zone z).holding with
  | none => rfl
  | some id => cases h : s.callAt id <;> simp [h]

theorem zoneFor_iff {reserved : List ZoneId} {z : ZoneId} :
    (!reserved.contains z && s.zoneOpen c.req.pri z) = true ↔ s.ZoneFor reserved c z := by
  have hOpen : s.zoneOpen c.req.pri z = true ↔ ∀ id d, (s.zone z).holding = some id → s.callAt id = some d → d.req.pri < c.req.pri := by
    rw [zoneOpen_eq]
    cases hHeld : (s.zone z).holding with
    | none => exact ⟨fun _ id d h => (by cases h), fun _ => rfl⟩
    | some id =>
      cases hCall : s.callAt id with
      | none =>
        refine ⟨fun _ id' d h h' => ?_, fun _ => by rw [Option.bind_some, hCall]; rfl⟩
        rw [← Option.some.inj h, hCall] at h'
        cases h'
      | some d =>
        rw [Option.bind_some, hCall]
        refine ⟨fun hPri id' e h h' => ?_, fun h => decide_eq_true (h id d rfl hCall)⟩
        rw [← Option.some.inj h, hCall] at h'
        exact Option.some.inj h' ▸ of_decide_eq_true hPri
  rw [Bool.and_eq_true, hOpen, Bool.not_eq_true', List.contains_eq_mem, decide_eq_false_iff_not]
  exact Iff.rfl

theorem grantable_zones {reserved : List ZoneId} (h : ∀ z ∈ c.zones, s.ZoneFor reserved c z) : s.grantable reserved c = s.sourceFor c :=
  if_pos (List.all_eq_true.mpr fun z hz => zoneFor_iff.mpr (h z hz))

theorem grantable_none {reserved : List ZoneId} (h : ∃ z ∈ c.zones, ¬s.ZoneFor reserved c z) : s.grantable reserved c = none := by
  obtain ⟨z, hz, hNot⟩ := h
  exact if_neg fun hAll => hNot (zoneFor_iff.mp (List.all_eq_true.mp hAll z hz))

theorem grantable_noSource {reserved : List ZoneId} (h : s.sourceFor c = none) : s.grantable reserved c = none := by
  unfold State.grantable
  rw [h]
  exact ite_self none

theorem sourceFor_sound {n : SoundId} (h : c.req.src = .sound n) : s.sourceFor c = (s.playerFor c.req.pri).map some := by
  unfold State.sourceFor
  rw [h]

theorem sourceFor_page {n : PageId} (h : c.req.src = .page n) : s.sourceFor c = if s.pageUsed n then none else some none := by
  unfold State.sourceFor
  rw [h]

theorem pageUsed_iff {n : PageId} : s.pageUsed n = true ↔ ∃ d ∈ s.router.calls, d.grant ≠ none ∧ d.req.src = .page n := by
  unfold State.pageUsed
  rw [List.any_eq_true]
  refine exists_congr fun d => and_congr_right fun _ => ?_
  rw [decide_eq_true_iff, Option.isSome_iff_ne_none]

theorem playerCall_holds {d : Call} (h : s.playerCall p = some d) : d ∈ s.router.calls ∧ d.player = some p :=
  ⟨List.mem_of_find?_eq_some h, by simpa using List.find?_some h⟩

/-- The one call that holds a player. -/
theorem State.CallsOk.playerCall (h : s.CallsOk) {d : Call} (hd : d ∈ s.router.calls) (hPlayer : d.player = some p) : s.playerCall p = some d := by
  obtain ⟨-, -, -, -, hPlayers⟩ := h
  have hFound : ∃ e, s.playerCall p = some e := Option.isSome_iff_exists.mp
    (List.find?_isSome (p := fun c : Call => decide (c.player = some p)) |>.mpr ⟨d, hd, decide_eq_true hPlayer⟩)
  obtain ⟨e, he⟩ := hFound
  obtain ⟨hMem, hHeld⟩ := playerCall_holds he
  have hApart := List.pairwise_filterMap.mp hPlayers
  by_cases hSame : d = e
  · rw [hSame]; exact he
  · have hSymm : Std.Symm fun a b : Call => ∀ x, a.player = some x → ∀ y, b.player = some y → x ≠ y := ⟨fun a b h x hx y hy => (h y hy x hx).symm⟩
    exact absurd rfl (hApart.forall hd hMem hSame p hPlayer p hHeld)

/-- The LIVE recorded calls of a priority below a given one. -/
def State.outranked (s : State) (pri : Nat) : List Call := s.router.calls.filter fun c => c.player.isSome ∧ c.req.pri < pri

theorem playerFor_eq (pri : Nat) : s.playerFor pri =
    ((pick fun p => (s.playerCall p).isNone).head?).elim ((firstBy givesUpFirst (s.outranked pri) none).bind Call.player) some := by
  have hStep : (fun (best : Option Call) (c : Call) => best.elim (some c) fun d => if givesUpFirst d c then some d else some c) =
      fun best c =>
        match best with
        | none => some c
        | some d => if givesUpFirst d c then some d else some c := by
    funext best c
    cases best <;> rfl
  unfold State.playerFor firstBy
  rw [hStep]
  cases (pick fun p => (s.playerCall p).isNone).head? <;> rfl

theorem pick_player_head {f : PlayerId → Bool} (hp : f p = true) (hFirst : ∀ q, q < p → f q = false) : (pick f).head? = some p := by
  unfold pick
  rw [show List.finRange 2 = [0, 1] from rfl]
  rcases ((by decide : ∀ p : PlayerId, p = 0 ∨ p = 1) p) with rfl | rfl
  · rw [List.filter_cons_of_pos hp]
    rfl
  · rw [List.filter_cons_of_neg (by rw [hFirst 0 (by decide)]; decide), List.filter_cons_of_pos hp]
    rfl

theorem pick_player_none {f : PlayerId → Bool} (h : ∀ q, f q = false) : (pick f).head? = none := by
  have hNil : pick f = [] := List.filter_eq_nil_iff.mpr fun q _ => by rw [h q]; decide
  rw [hNil]
  rfl

/-- The player a recorded call takes (R171). -/
theorem playerFor_taken (hOk : s.CallsOk) (h : s.PlayerTaken c p) : s.playerFor c.req.pri = some p := by
  rw [playerFor_eq]
  rcases h with ⟨hFree, hLower⟩ | ⟨hHeld, d, g, hCall, hGrant, hPri, hFirst⟩
  · rw [pick_player_head (by rw [hFree]; rfl) fun q hq => by rw [Option.isNone_eq_false_iff, Option.isSome_iff_ne_none]; exact hLower q hq]
    rfl
  · obtain ⟨hMem, hPlayer⟩ := playerCall_holds hCall
    have hTaken : firstBy givesUpFirst (s.outranked c.req.pri) none = some d := by
      refine firstBy_eq (.inl (List.mem_filter.mpr ⟨hMem, decide_eq_true ⟨by rw [hPlayer]; rfl, hPri⟩⟩)) (fun _ h => by cases h) fun e he => ?_
      obtain ⟨hIn, hRank⟩ := List.mem_filter.mp he
      obtain ⟨hSome, hLow⟩ := of_decide_eq_true hRank
      obtain ⟨q, hq⟩ := Option.isSome_iff_exists.mp hSome
      have hOther := hOk.playerCall hIn hq
      by_cases hqp : q = p
      · subst hqp
        exact .inl (Option.some.inj (hOther.symm.trans hCall))
      · obtain ⟨x, hx⟩ : ∃ x, e.grant = some x := by
          cases hg : e.grant with
          | none => rw [Call.player_none hg] at hq; cases hq
          | some x => exact ⟨x, rfl⟩
        have hBefore := hFirst q e x hqp hOther hx hLow
        right
        unfold givesUpFirst
        rw [hGrant, hx]
        dsimp only [Option.map_some, Option.getD_some]
        simp only [Bool.or_eq_true, Bool.and_eq_true, decide_eq_true_iff, Bool.or_eq_false_iff, Bool.and_eq_false_iff, decide_eq_false_iff_not]
        omega
    rw [pick_player_none fun q => by rw [Option.isNone_eq_false_iff, Option.isSome_iff_ne_none]; exact hHeld q, hTaken]
    exact hPlayer

/-- With every player held by a call of no lower priority there is none to take. -/
theorem playerFor_none (hOk : s.CallsOk) (h : ∀ p, ∃ d, s.playerCall p = some d ∧ c.req.pri ≤ d.req.pri) : s.playerFor c.req.pri = none := by
  have hNil : s.outranked c.req.pri = [] := List.filter_eq_nil_iff.mpr fun e he hRank => by
    obtain ⟨hSome, hLow⟩ := of_decide_eq_true hRank
    obtain ⟨q, hq⟩ := Option.isSome_iff_exists.mp hSome
    obtain ⟨d, hCall, hPri⟩ := h q
    have hSame : e = d := Option.some.inj ((hOk.playerCall he hq).symm.trans hCall)
    rw [hSame] at hLow
    omega
  rw [playerFor_eq, hNil, pick_player_none fun q => by
    obtain ⟨d, hCall, -⟩ := h q
    rw [hCall]
    rfl]
  rfl

/-! ### The calls in the way of a grant (R172) -/

theorem mem_inTheWay {d : Call} : d ∈ s.inTheWay c player ↔ d ∈ s.router.calls ∧ s.endedBy c player d = true := by
  unfold State.inTheWay State.endedBy
  rw [List.mem_filter, decide_eq_true_iff]
  simp only [Bool.and_eq_true, Bool.or_eq_true, decide_eq_true_iff]

/-- The calls left are those the grant does not end. -/
theorem cleared_table (hOk : s.CallsOk) : (s.cleared c player).router.calls = s.router.calls.filter fun d => !s.endedBy c player d := by
  unfold State.cleared
  rw [foldl_closeCall_calls]
  refine List.filter_congr fun d hd => ?_
  rw [Bool.eq_iff_iff, decide_eq_true_iff, Bool.not_eq_true']
  refine ⟨fun h => ?_, fun h e he hId => ?_⟩
  · by_contra hEnds
    exact h d (mem_inTheWay.mpr ⟨hd, by simpa using hEnds⟩) rfl
  · obtain ⟨hIn, hEnds⟩ := mem_inTheWay.mp he
    rw [hOk.eq_of_id hd hIn hId, hEnds] at h
    cases h

/-- The router with calls ended: its zones and its calls alone changed. -/
def State.OnlyCalls (s t : State) : Prop := t.router = { s.router with zones := t.router.zones, calls := t.router.calls }

theorem cleared_onlyCalls : s.OnlyCalls (s.cleared c player) :=
  cleared_keeps (P := s.OnlyCalls) (fun t d cause by_ ht => by
    unfold State.OnlyCalls at *
    rw [closeCall_router]
    dsimp only
    rw [ht]) rfl c player

/-- A zone of a call that ended is released, and any other stands. -/
theorem foldl_closeCall_zone (k : CallCause) (b : Option Nat) (l : List Call) (z : ZoneId) :
    (l.foldl (fun (s : State) d => s.closeCall d k b) s).zone z =
      if ∃ d ∈ l, d.grant.isSome ∧ z ∈ d.zones then (s.zone z).release else s.zone z := by
  induction l generalizing s with
  | nil => simp
  | cons d l ih =>
    rw [List.foldl_cons, ih, closeCall_zone]
    by_cases hHead : d.grant.isSome ∧ z ∈ d.zones
    · have hIn : ∃ e ∈ d :: l, e.grant.isSome ∧ z ∈ e.zones := ⟨d, List.mem_cons_self, hHead⟩
      rw [if_pos hHead, if_pos hIn]
      split <;> rfl
    · rw [if_neg hHead]
      refine if_congr ?_ rfl rfl
      simp only [List.mem_cons, exists_eq_or_imp, hHead, false_or]

theorem cleared_zone (z : ZoneId) : (s.cleared c player).zone z =
    if ∃ d ∈ s.router.calls, s.endedBy c player d = true ∧ z ∈ d.zones then (s.zone z).release else s.zone z := by
  have hLive : ∀ d : Call, s.endedBy c player d = true → d.grant.isSome = true := fun d h => by
    unfold State.endedBy at h
    exact (Bool.and_eq_true _ _ ▸ h).1
  unfold State.cleared
  rw [foldl_closeCall_zone]
  refine if_congr ⟨?_, ?_⟩ rfl rfl
  · rintro ⟨d, hd, -, hz⟩
    obtain ⟨hIn, hEnds⟩ := mem_inTheWay.mp hd
    exact ⟨d, hIn, hEnds, hz⟩
  · rintro ⟨d, hIn, hEnds, hz⟩
    exact ⟨d, mem_inTheWay.mpr ⟨hIn, hEnds⟩, hLive d hEnds, hz⟩

theorem grantCall_zone (z : ZoneId) : (s.grantCall c player).zone z =
    if z ∈ c.zones then ((s.cleared c player).zone z).take c.id c.req.duck else (s.cleared c player).zone z := by
  rw [← seated_zone (s := s.cleared c player) c player z]
  unfold State.zone
  rw [grantCall_router]

/-! ### What the grant tells (R181) -/

theorem closeCall_disabled (c : Call) (cause : CallCause) (by_ : Option Nat) : (s.closeCall c cause by_).link.disabled = s.link.disabled :=
  kept_disabled (State.closeCall_frame s c cause by_).1

theorem cleared_disabled : (s.cleared c player).link.disabled = s.link.disabled :=
  cleared_keeps (P := fun t => t.link.disabled = s.link.disabled) (fun _ d cause by_ ht => (closeCall_disabled d cause by_).trans ht) rfl c player

theorem seated_fetch : (s.seated c player).fetch = s.fetch := by
  unfold State.seated
  rw [foldl_onZone_fetch]
  rfl

theorem seated_link : (s.seated c player).link = s.link := by
  unfold State.seated
  rw [foldl_onZone_link]
  rfl

/-- The steps of a grant once the calls in its way have ended. -/
def State.installed (s : State) (c : Call) (player : Option PlayerId) : State :=
  ((s.seated c player).sounded c player).raiseCall (c.goneLive s.router.grantStamp player) .live player none none "granted"

theorem grantCall_installed : s.grantCall c player = (s.cleared c player).installed c player := grantCall_eq c player

theorem sounded_stands {K : ReportKey → Prop} (hK : ∀ q, player = some q → K (.player q)) (h : s.StandsBut K t) : s.StandsBut K (t.sounded c player) := by
  unfold State.sounded
  split
  · rename_i q n _
    cases hSound : t.soundRec n with
    | none => rw [startPlayer_none hSound]; exact h
    | some d =>
      rw [startPlayer_eq hSound]
      refine State.StandsBut.raiseReader ?_ (by rw [readerKey_player]; exact hK q rfl) _
      exact h.congr rfl
  · exact h

theorem installed_stands {K : ReportKey → Prop} (hK : ∀ q, player = some q → K (.player q)) (hc : K (.call c.id)) (h : s.StandsBut K t) :
    s.StandsBut K (t.installed c player) := (sounded_stands hK (h.congr (by rw [seated_link]))).raise hc _

theorem sounded_reader {q : ReaderId} (hq : ∀ x, player = some x → playerReader x ≠ q) : (s.sounded c player).reader q = s.reader q := by
  unfold State.sounded
  split
  · exact startPlayer_reader _ _ (hq _ rfl)
  · rfl

theorem raiseCall_reader (s : State) (c : Call) (st : CallState) (player : Option PlayerId) (cause : Option CallCause) (by_ : Option Nat) (event : String)
    (q : ReaderId) : (s.raiseCall c st player cause by_ event).reader q = s.reader q := reader_of_fetch (State.raise_fetch _ _ _) q

theorem installed_reader {q : ReaderId} (hq : ∀ x, player = some x → playerReader x ≠ q) : (s.installed c player).reader q = s.reader q := by
  unfold State.installed
  rw [raiseCall_reader, sounded_reader hq, reader_of_fetch seated_fetch]

theorem sounded_disabled : (s.sounded c player).link.disabled = s.link.disabled := by
  unfold State.sounded
  split
  · exact kept_disabled (State.startPlayer_frame _ _ _).1
  · rfl

/-- The CALL report of a grant. -/
theorem grantCall_raised : s.Raised (s.grantCall c player) (.call c.id) " event=granted" := by
  have hDisabled : (((s.cleared c player).seated c player).sounded c player).link.disabled = s.link.disabled := by
    rw [sounded_disabled, seated_link, cleared_disabled]
  rw [grantCall_eq]
  refine (raise_told hDisabled _ _).part (before := "!CALL " ++ callFields (c.goneLive (s.cleared c player).router.grantStamp player) .live player none ++
    " by=" ++ optText natText none) (after := "") ?_
  simp only [String.append_assoc, String.append_empty]
  rw [show " event=granted" = " event=" ++ "granted" by decide]

theorem stopPlayer_sounds (q : PlayerId) : (s.stopPlayer q).fetch.sounds = s.fetch.sounds := by
  rw [stopPlayer_eq]
  split
  · rfl
  · obtain ⟨-, -, -, -, -, -, hFetch, -⟩ := State.raiseReader_frame ((s.clearRing (playerReader q)).onReader (playerReader q) Reader.toIdle) (playerReader q) "stopped"
    rw [hFetch]
    rfl

/-- The player of a granted recorded call starts its sound (R137, R172). -/
theorem grantCall_starts {n : SoundId} {d : Sound} (hSource : c.req.src = .sound n) (hSound : s.fetch.sounds.get n = some d) :
    ((s.grantCall c (some p)).reader (playerReader p)).state = .starting ∧ ((s.grantCall c (some p)).reader (playerReader p)).sound = some (n, d) ∧
      s.Raised (s.grantCall c (some p)) (.player p) " event=starting" := by
  have hRec : ((s.cleared c (some p)).seated c (some p)).soundRec n = some d := by
    have hCleared : (s.cleared c (some p)).fetch.sounds = s.fetch.sounds :=
      cleared_keeps (P := fun t => t.fetch.sounds = s.fetch.sounds) (fun t d cause by_ ht =>
        ((congrArg FetchBlock.sounds (closeCall_fetch d cause by_)).trans (by
          unfold State.silenced
          split
          · exact (stopPlayer_sounds _).trans (by rw [freed_fetch, ht])
          · rw [freed_fetch, ht]))) rfl c (some p)
    unfold State.soundRec
    rw [seated_fetch, hCleared]
    exact hSound
  have hSounded : ((s.cleared c (some p)).seated c (some p)).sounded c (some p) = ((s.cleared c (some p)).seated c (some p)).startPlayer p n := by
    unfold State.sounded
    rw [hSource]
  have hDisabled : ((s.cleared c (some p)).seated c (some p)).link.disabled = s.link.disabled := by rw [seated_link, cleared_disabled]
  have hEq := startPlayer_eq (p := p) hRec
  rw [grantCall_eq, hSounded]
  generalize (s.cleared c (some p)).router.grantStamp = stamp
  generalize (s.cleared c (some p)).seated c (some p) = u at *
  have hReader : (u.startPlayer p n).reader (playerReader p) =
      { ((u.clearRing (playerReader p)).reader (playerReader p)).load n d .starting with playMoment := u.now } := by
    rw [hEq, State.raiseReader_reader, reader_onReader, if_pos rfl]
  have hRaised : s.Raised (u.startPlayer p n) (.player p) " event=starting" := by
    rw [hEq, ← readerKey_player p]
    exact raiseReader_raised (s := s)
      (t := (u.clearRing (playerReader p)).onReader (playerReader p) fun x => { x.load n d .starting with playMoment := u.now }) hDisabled _ "starting"
  generalize u.startPlayer p n = w at *
  have hAt := (raiseCall_reader w (c.goneLive stamp (some p)) .live (some p) none none "granted" (playerReader p)).trans hReader
  have hTold : s.Raised (w.raiseCall (c.goneLive stamp (some p)) .live (some p) none none "granted") (.player p) " event=starting" :=
    hRaised.raise_of_ne (fun h => by cases h) _
  generalize w.raiseCall (c.goneLive stamp (some p)) .live (some p) none none "granted" = x at *
  rw [hAt]
  exact ⟨rfl, rfl, hTold⟩

/-- A player that a call left, and what it tells of it. -/
def State.Hushed (s : State) (p : PlayerId) (t : State) : Prop :=
  (t.reader (playerReader p)).state = .idle ∧ ((s.reader (playerReader p)).state ≠ .idle → s.Raised t (.player p) " event=stopped")

theorem stopPlayer_idle (h : (s.reader (playerReader p)).state = .idle) : s.stopPlayer p = s := if_pos h

theorem State.Hushed.stopPlayer (h : s.Hushed p t) (q : PlayerId) : s.Hushed p (t.stopPlayer q) := by
  obtain ⟨hIdle, hTold⟩ := h
  by_cases hq : q = p
  · rw [hq, stopPlayer_idle hIdle]
    exact ⟨hIdle, hTold⟩
  · have hApart : playerReader q ≠ playerReader p := fun e => hq (ReportKey.player.inj (by rw [← readerKey_player, ← readerKey_player, e]))
    refine ⟨?_, fun hRuns => (hTold hRuns).stands (K := fun key => key ≠ .player p) ?_ fun h => h rfl⟩
    · rw [stopPlayer_reader, if_neg fun h => hApart h.1]
      exact hIdle
    · rw [stopPlayer_eq]
      split
      · exact .refl t
      · refine State.StandsBut.raiseReader ((State.StandsBut.refl t).congr (u := (t.clearRing (playerReader q)).onReader (playerReader q) Reader.toIdle) rfl) ?_ _
        rw [readerKey_player]
        exact fun h => hq (ReportKey.player.inj h)

theorem State.Hushed.closeCall (h : s.Hushed p t) (c : Call) (cause : CallCause) (by_ : Option Nat) : s.Hushed p (t.closeCall c cause by_) := by
  have hFreed : s.Hushed p (t.freed c) := by
    obtain ⟨hIdle, hTold⟩ := h
    exact ⟨by rw [freed_reader]; exact hIdle, fun hRuns => (hTold hRuns).congr (by rw [freed_link])⟩
  have hSilenced : s.Hushed p ((t.freed c).silenced c) := by
    unfold State.silenced
    split
    · exact hFreed.stopPlayer _
    · exact hFreed
  obtain ⟨hIdle, hTold⟩ := hSilenced
  rw [closeCall_eq]
  refine ⟨?_, fun hRuns => ?_⟩
  · rw [raiseCall_reader]
    exact hIdle
  · have hDropped : s.Raised (((t.freed c).silenced c).dropCall c.id) (.player p) " event=stopped" := (hTold hRuns).congr rfl
    exact hDropped.raise_of_ne (fun h => by cases h) _

/-- A fold of ends stops the player of each call ended. -/
theorem foldl_closeCall_stopped (k : CallCause) (b : Option Nat) {l : List Call} {d : Call} (hd : d ∈ l) (hPlayer : d.player = some p)
    (h : s.Hushed p t ∨ t.link.disabled = s.link.disabled ∧ t.reader (playerReader p) = s.reader (playerReader p)) :
    s.Hushed p (l.foldl (fun (s : State) d => s.closeCall d k b) t) := by
  have hAlready : ∀ (l : List Call) {u : State}, s.Hushed p u → s.Hushed p (l.foldl (fun (s : State) d => s.closeCall d k b) u) := fun l u hu =>
    foldl_holds (P := s.Hushed p) (f := fun (s : State) d => s.closeCall d k b) (fun _ c hu => hu.closeCall c _ _) l hu
  have hStops : ∀ {e : Call} {u : State}, e.player = some p → (s.Hushed p u ∨ u.link.disabled = s.link.disabled ∧ u.reader (playerReader p) = s.reader (playerReader p)) →
      s.Hushed p (u.closeCall e k b) := fun {e} {u} he hu => by
    rcases hu with hu | ⟨hDisabled, hSame⟩
    · exact hu.closeCall _ _ _
    · obtain ⟨hIdle, hTold⟩ := closeCall_player (s := s) hDisabled he k b
      exact ⟨hIdle, fun hRuns => hTold (by rw [hSame]; exact hRuns)⟩
  induction l generalizing t with
  | nil => cases hd
  | cons e l ih =>
    rw [List.foldl_cons]
    by_cases he : e.player = some p
    · exact hAlready l (hStops he h)
    · have hd' : d ∈ l := (List.mem_cons.mp hd).resolve_left fun hEq => he (hEq ▸ hPlayer)
      refine ih hd' ?_
      rcases h with h | ⟨hDisabled, hSame⟩
      · exact .inl (h.closeCall _ _ _)
      · refine .inr ⟨(closeCall_disabled _ _ _).trans hDisabled, ?_⟩
        rw [reader_of_fetch (closeCall_fetch e k b)]
        unfold State.silenced
        cases hp : e.player with
        | none => exact (freed_reader e _).trans hSame
        | some q =>
          have hApart : playerReader q ≠ playerReader p := fun hEq => he (hp.trans (congrArg some (ReportKey.player.inj (by
            rw [← readerKey_player, ← readerKey_player, hEq]))))
          dsimp only
          rw [stopPlayer_reader, if_neg fun h => hApart h.1]
          exact (freed_reader e _).trans hSame

/-- Each call a grant ends is told as preempted (R175, R181). -/
theorem cleared_told {d : Call} (hOk : s.CallsOk) (hd : d ∈ s.router.calls) (hEnds : s.endedBy c player d = true) :
    s.Raised (s.cleared c player) (.call d.id) (" cause=preempted by=" ++ natText c.id ++ " event=ended") := by
  have hText : " cause=" ++ causeText .preempted ++ " by=" ++ optText natText (some c.id) ++ " event=ended" =
      " cause=preempted by=" ++ natText c.id ++ " event=ended" := by
    rw [show " cause=" ++ causeText .preempted ++ " by=" = " cause=preempted by=" by decide]
    rfl
  obtain ⟨before, after, hSplit⟩ := List.append_of_mem (mem_inTheWay (player := player).mpr ⟨hd, hEnds⟩)
  have hIds : ((before ++ d :: after).map (·.id)).Nodup := by
    rw [← hSplit]
    exact (List.filter_sublist.map _).nodup hOk.2.1
  unfold State.cleared
  rw [hSplit, List.foldl_append, List.foldl_cons]
  have hBefore : (before.foldl (fun (s : State) d => s.closeCall d .preempted (some c.id)) s).link.disabled = s.link.disabled :=
    foldl_holds (P := fun t : State => t.link.disabled = s.link.disabled) (f := fun (s : State) d => s.closeCall d .preempted (some c.id))
      (fun _ e ht => (closeCall_disabled e _ _).trans ht) before rfl
  have hRaised := closeCall_raised (s := s) hBefore d .preempted (some c.id)
  rw [hText] at hRaised
  refine hRaised.stands (K := fun key => key ≠ .call d.id) (State.StandsBut.foldl (.refl _) fun e t he => ?_) fun h => h rfl
  refine closeCall_stands (fun q h => by cases h) (.refl t) (fun h => ?_) _ _
  rw [List.map_append, List.map_cons] at hIds
  have hApart := (List.nodup_cons.mp (List.nodup_append.mp hIds).2.1).1
  exact hApart (ReportKey.call.inj h ▸ List.mem_map_of_mem he)

/-- What a grant does (R172, R175). -/
theorem grantCall_granted (hOk : s.CallsOk) (hCall : s.callAt c.id = some c) (hWaiting : c.grant = none) : s.Granted (s.grantCall c player) c player := by
  have hMem : c ∈ s.router.calls := State.callAt_mem hCall
  have hOnly := cleared_onlyCalls (s := s) (c := c) (player := player)
  have hStamp : (s.cleared c player).router.grantStamp = s.router.grantStamp := by rw [hOnly]
  have hEndedOther : ∀ d ∈ s.router.calls, s.endedBy c player d = true → d.id ≠ c.id := fun d hd hEnds hId => by
    rw [hOk.eq_of_id hd hMem hId] at hEnds
    unfold State.endedBy at hEnds
    rw [hWaiting] at hEnds
    cases hEnds
  refine ⟨?_, ?_, fun z hz => ?_, fun z hz hEnded => ?_, fun z hz hNone => ?_, fun n p d hSource hPlayer hSound => ?_,
    fun d p hd hEnds hPlayer hOther => ?_, grantCall_raised, fun d hd hEnds => ?_⟩
  · rw [grantCall_router, seated_router, hStamp]
    dsimp only
    rw [hOnly]
  · rw [grantCall_router, seated_router, hStamp, cleared_table hOk]
    rfl
  · rw [grantCall_zone, if_pos hz, cleared_zone]
    split <;> rfl
  · obtain ⟨d, hd, hEnds, hIn⟩ := hEnded
    rw [grantCall_zone, if_neg hz, cleared_zone, if_pos ⟨d, hd, hEnds, hIn⟩]
    rfl
  · rw [grantCall_zone, if_neg hz, cleared_zone, if_neg]
    rintro ⟨d, hd, hEnds, hIn⟩
    exact hNone d hd hEnds hIn
  · subst hPlayer
    exact grantCall_starts hSource hSound
  · have hStopped : s.Hushed p (s.cleared c player) :=
      foldl_closeCall_stopped .preempted (some c.id) (mem_inTheWay.mpr ⟨hd, hEnds⟩) hPlayer (.inr ⟨rfl, rfl⟩)
    obtain ⟨hIdle, hTold⟩ := hStopped
    have hApart : ∀ x, player = some x → playerReader x ≠ playerReader p := fun x hx hEq => hOther (hx.trans (congrArg some (ReportKey.player.inj (by
      rw [← readerKey_player, ← readerKey_player, hEq]))))
    rw [grantCall_installed]
    refine ⟨by rw [installed_reader hApart]; exact hIdle, fun hRuns => (hTold hRuns).stands (K := fun key => key ≠ .player p)
      (installed_stands (fun q hq h => ?_) (fun h => by cases h) (.refl _)) fun h => h rfl⟩
    exact hOther (hq.trans (congrArg some (ReportKey.player.inj h)))
  · have hTold := cleared_told (player := player) hOk hd hEnds
    rw [grantCall_installed]
    refine hTold.stands (K := fun key => key ≠ .call d.id) (installed_stands (fun q _ h => by cases h) (fun h => ?_) (.refl _)) fun h => h rfl
    exact hEndedOther d hd hEnds (ReportKey.call.inj h).symm

end

end Sys2Proof.Machine
end

section
/-! PROOFS. CALL and PRESET: admission, displacement and the grant walk (R167 to R172). -/

namespace Sys2Proof.Machine

open Sys2Proof

section
variable {s t u : State} {q : CallRequest} {id : Nat} {c0 : Call}

/-! ### The next id (R167) -/

/-- The free id is the first at or after the counter that no call holds. -/
theorem freeId_search {b : RouterBlock} (hRoom : b.calls.length < Config.maxCalls) :
    ∃ j, j < 255 ∧ b.freeId = (b.nextId - 1 + j) % 255 + 1 ∧ ∀ i < j, ∃ d ∈ b.calls, d.id = (b.nextId - 1 + i) % 255 + 1 := by
  obtain ⟨-, hFree⟩ := RouterBlock.freeId_spec hRoom
  cases hFind : ((List.range 255).map (idAfter b.nextId)).find? fun id => b.calls.all fun c => c.id ≠ id with
  | none =>
    have hTaken : ((List.range 255).map (idAfter b.nextId)) ⊆ b.calls.map (·.id) := fun id hid => by
      have := List.find?_eq_none.mp hFind id hid
      simpa using this
    have hLength := ((idAfter_injOn b.nextId).subperm hTaken).length_le
    rw [List.length_map, List.length_map, List.length_range] at hLength
    exact absurd hRoom (by rw [Config.maxCalls]; omega)
  | some id =>
    have hId : b.freeId = id := by
      unfold RouterBlock.freeId
      rw [hFind]
      rfl
    obtain ⟨-, j, hj, hAt, hBefore⟩ := List.find?_eq_some_iff_getElem.mp hFind
    have hLength : j < 255 := by simpa using hj
    refine ⟨j, hLength, ?_, fun i hi => ?_⟩
    · rw [hId, ← hAt, List.getElem_map, List.getElem_range]
      rfl
    · have hNot := hBefore i hi
      rw [List.getElem_map, List.getElem_range] at hNot
      rw [Bool.not_eq_true', List.all_eq_false] at hNot
      obtain ⟨d, hd, hTaken⟩ := hNot
      exact ⟨d, hd, Decidable.by_contra fun h => hTaken (decide_eq_true h)⟩

/-! ### Room (R168, R169) -/

theorem lastWaiting_eq (b : RouterBlock) : b.lastWaiting = firstBy displacedFirst (b.calls.filter fun c => c.grant.isNone) none := by
  have hStep : (fun (best : Option Call) (c : Call) => best.elim (some c) fun d => if displacedFirst d c then some d else some c) =
      fun best c =>
        match best with
        | none => some c
        | some d => if displacedFirst d c then some d else some c := by
    funext best c
    cases best <;> rfl
  unfold RouterBlock.lastWaiting firstBy
  exact congrArg (fun step => List.foldl step none (b.calls.filter fun c => c.grant.isNone)) hStep.symm

theorem lastWaiting_waits {b : RouterBlock} {c : Call} (h : b.lastWaiting = some c) : c ∈ b.calls ∧ c.grant = none := by
  rw [lastWaiting_eq] at h
  obtain ⟨hMem, hWaiting⟩ := List.mem_filter.mp ((firstBy_mem h).resolve_right (fun hNo => by cases hNo))
  exact ⟨hMem, Option.isNone_iff_eq_none.mp hWaiting⟩

/-- The WAITING call of the lowest priority, and of the latest admission between equals. -/
theorem lastWaiting_of {b : RouterBlock} {out : Call} (hMem : out ∈ b.calls) (hWaiting : out.grant = none)
    (hLowest : ∀ d ∈ b.calls, d ≠ out → d.grant = none → out.req.pri < d.req.pri ∨ out.req.pri = d.req.pri ∧ d.stamp < out.stamp) :
    b.lastWaiting = some out := by
  rw [lastWaiting_eq]
  refine firstBy_eq (.inl (List.mem_filter.mpr ⟨hMem, by rw [hWaiting]; rfl⟩)) (fun _ h => by cases h) fun d hd => ?_
  obtain ⟨hIn, hWaits⟩ := List.mem_filter.mp hd
  by_cases hSame : d = out
  · exact .inl hSame
  · have hBefore := hLowest d hIn hSame (Option.isNone_iff_eq_none.mp hWaits)
    right
    unfold displacedFirst
    simp only [Bool.or_eq_true, Bool.and_eq_true, decide_eq_true_iff, Bool.or_eq_false_iff, Bool.and_eq_false_iff, decide_eq_false_iff_not]
    omega

theorem room_of_place {b : RouterBlock} (h : b.calls.length < 16) (pri : Nat) : b.room pri = .free := if_pos h

theorem room_of_full {b : RouterBlock} {pri : Nat} (hFull : b.calls.length = 16) (h : ∀ d ∈ b.calls, d.grant = none → pri ≤ d.req.pri) :
    b.room pri = .full := by
  unfold RouterBlock.room
  rw [if_neg (by rw [hFull, Config.maxCalls]; decide)]
  cases hLast : b.lastWaiting with
  | none => rfl
  | some c =>
    obtain ⟨hMem, hWaiting⟩ := lastWaiting_waits hLast
    exact if_neg (Nat.not_lt.mpr (h c hMem hWaiting))

theorem room_of_last {b : RouterBlock} {pri : Nat} {out : Call} (hFull : b.calls.length = 16) (hLast : b.lastWaiting = some out) (hPri : out.req.pri < pri) :
    b.room pri = .displacing out := by
  unfold RouterBlock.room
  rw [if_neg (by rw [hFull, Config.maxCalls]; decide), hLast]
  exact if_pos hPri

/-! ### One call through the walks (R168, R170, R172) -/

/-- The event the reply and the report of a call tell, by its grant. -/
def grantEvent (g : Option Grant) : String := if g.isNone then " event=admitted" else " event=granted"

/-- The call of an id stands in the table with this grant, and its report tells of it. -/
def State.Seated (s : State) (c0 : Call) (g : Option Grant) (t : State) : Prop :=
  (∀ d ∈ t.router.calls, d.id = c0.id → d = { c0 with grant := g }) ∧ { c0 with grant := g } ∈ t.router.calls ∧ s.Raised t (.call c0.id) (grantEvent g)

/-- A call through the ends and the grants of calls: it stands in the table, or has ended. -/
def State.Followed (s : State) (c0 : Call) (t : State) : Prop :=
  t.link.disabled = s.link.disabled ∧ (s.Gone c0.id " event=ended" t ∨ ∃ g, s.Seated c0 g t)

/-- The end of another call. -/
theorem State.Seated.closeOther {g : Option Grant} (h : s.Seated c0 g t) {c : Call} (hc : c.id ≠ c0.id) (cause : CallCause) (by_ : Option Nat) :
    s.Seated c0 g (t.closeCall c cause by_) := by
  obtain ⟨hOne, hIn, hRaised⟩ := h
  refine ⟨fun d hd hId => ?_, ?_, hRaised.stands (closeCall_stands (K := fun key => key ≠ .call c0.id) (fun q h => by cases h) (.refl t)
    (fun h => hc (ReportKey.call.inj h)) _ _) fun h => h rfl⟩
  · rw [closeCall_router] at hd
    exact hOne d (List.mem_filter.mp hd).1 hId
  · rw [closeCall_router]
    exact List.mem_filter.mpr ⟨hIn, decide_eq_true fun h => hc h.symm⟩

/-- Its own end. -/
theorem closeCall_ends (h : t.link.disabled = s.link.disabled) {c : Call} (hc : c.id = id) (cause : CallCause) (by_ : Option Nat) :
    s.Gone id " event=ended" (t.closeCall c cause by_) := by
  subst hc
  refine ⟨fun d hd => ?_, (closeCall_raised h c cause by_).part (before := " cause=" ++ causeText cause ++ " by=" ++ optText natText by_) (after := "") ?_⟩
  · rw [closeCall_router] at hd
    exact of_decide_eq_true (List.mem_filter.mp hd).2
  · simp only [String.append_assoc, String.append_empty]

theorem State.Gone.closeOther {part : String} (h : s.Gone id part t) {c : Call} (hc : c.id ≠ id) (cause : CallCause) (by_ : Option Nat) :
    s.Gone id part (t.closeCall c cause by_) := by
  obtain ⟨hCalls, hRaised⟩ := h
  refine ⟨fun d hd => ?_, hRaised.stands (closeCall_stands (K := fun key => key ≠ .call id) (fun q h => by cases h) (.refl t)
    (fun h => hc (ReportKey.call.inj h)) _ _) fun h => h rfl⟩
  rw [closeCall_router] at hd
  exact hCalls d (List.mem_filter.mp hd).1

theorem State.Followed.close (h : s.Followed c0 t) (c : Call) (cause : CallCause) (by_ : Option Nat) : s.Followed c0 (t.closeCall c cause by_) := by
  obtain ⟨hDisabled, hCase⟩ := h
  refine ⟨(closeCall_disabled c cause by_).trans hDisabled, ?_⟩
  by_cases hc : c.id = c0.id
  · exact .inl (closeCall_ends hDisabled hc cause by_)
  · exact hCase.imp (fun h => h.closeOther hc cause by_) fun ⟨g, h⟩ => ⟨g, h.closeOther hc cause by_⟩

theorem installed_calls (c : Call) (player : Option PlayerId) : (t.installed c player).router.calls =
    t.router.calls.map fun d => if d.id = c.id then c.goneLive t.router.grantStamp player else d := by
  unfold State.installed State.raiseCall
  rw [State.raise_router, sounded_router, seated_router]

theorem installed_disabled (c : Call) (player : Option PlayerId) : (t.installed c player).link.disabled = t.link.disabled := by
  unfold State.installed State.raiseCall
  rw [State.raise_link, sounded_disabled, seated_link]

/-- The grant of another call. -/
theorem State.Followed.installOther (h : s.Followed c0 t) {c : Call} (hc : c.id ≠ c0.id) (player : Option PlayerId) :
    s.Followed c0 (t.installed c player) := by
  obtain ⟨hDisabled, hCase⟩ := h
  have hStands : t.StandsBut (fun key => key ≠ .call c0.id) (t.installed c player) :=
    installed_stands (fun q _ h => by cases h) (fun h => hc (ReportKey.call.inj h)) (.refl t)
  refine ⟨(installed_disabled c player).trans hDisabled, ?_⟩
  rcases hCase with ⟨hCalls, hRaised⟩ | ⟨g, hOne, hIn, hRaised⟩
  · refine .inl ⟨fun d hd hId => ?_, hRaised.stands hStands fun h => h rfl⟩
    rw [installed_calls] at hd
    obtain ⟨e, he, rfl⟩ := List.mem_map.mp hd
    split at hId
    · exact hc hId
    · exact hCalls e he hId
  · refine .inr ⟨g, fun d hd hId => ?_, ?_, hRaised.stands hStands fun h => h rfl⟩
    · rw [installed_calls] at hd
      obtain ⟨e, he, rfl⟩ := List.mem_map.mp hd
      split at hId
      · exact absurd hId hc
      · rename_i hApart
        rw [if_neg hApart]
        exact hOne e he hId
    · rw [installed_calls]
      refine List.mem_map.mpr ⟨_, hIn, if_neg fun h => hc h.symm⟩

/-- A call followed through the router's walks. -/
theorem followed_routed (s : State) (c0 : Call) : Routed (s.Followed c0) where
  close ht _ := ht.close _ _ _
  grant := fun {t} {c} {player} ht hMem hWaiting => by
    by_cases hc : c.id = c0.id
    · obtain ⟨hDisabled, hCase⟩ := ht
      rcases hCase with hGone | ⟨g, hSeated⟩
      · exact absurd hc (hGone.1 c hMem)
      · have hSelf : c = { c0 with grant := g } := hSeated.1 c hMem hc
        have hNone : g = none := by rw [hSelf] at hWaiting; exact hWaiting
        have hCleared : s.Seated c0 g (t.cleared c player) := by
          unfold State.cleared
          refine foldl_holds_mem (P := s.Seated c0 g) _ (fun u e he hu => hu.closeOther (fun hId => ?_) _ _) hSeated
          obtain ⟨hIn, hEnds⟩ := mem_inTheWay.mp he
          have hSame : e = { c0 with grant := g } := hSeated.1 e hIn hId
          unfold State.endedBy at hEnds
          rw [hSame, hNone] at hEnds
          cases hEnds
        obtain ⟨hOne, hIn, -⟩ := hCleared
        have hTold := grantCall_raised (s := t) (c := c) (player := player)
        rw [hc] at hTold
        refine ⟨(kept_disabled (State.grantCall_frame t c player).1).trans hDisabled, .inr ⟨some ⟨(t.cleared c player).router.grantStamp, player⟩, fun d hd hId => ?_, ?_,
          hTold.origin hDisabled.symm⟩⟩
        · rw [grantCall_installed, installed_calls] at hd
          obtain ⟨e, he, rfl⟩ := List.mem_map.mp hd
          split at hId
          · rename_i hEq
            rw [if_pos hEq, hSelf]
            rfl
          · rename_i hApart
            exact absurd (hId.trans hc.symm) hApart
        · rw [grantCall_installed, installed_calls]
          refine List.mem_map.mpr ⟨_, hIn, (if_pos hc.symm).trans ?_⟩
          rw [hSelf]
          rfl
    · have hCleared : s.Followed c0 (t.cleared c player) := cleared_keeps (P := s.Followed c0) (fun u d cause by_ hu => hu.close d cause by_) ht c player
      rw [grantCall_installed]
      exact hCleared.installOther hc player

/-! ### Admission (R168, R169) -/

theorem callStateOf_none (h : t.callAt id = none) : t.callStateOf id = .ended := by
  unfold State.callStateOf
  rw [h]

theorem callStateOf_some {c : Call} (h : t.callAt id = some c) : t.callStateOf id = c.state := by
  unfold State.callStateOf
  rw [h]

/-- What the reply and the report of a followed call say of it. -/
theorem State.Followed.shows (h : s.Followed c0 t) :
    (t.callStateOf c0.id = .ended ∧ s.Raised t (.call c0.id) (" event=" ++ "ended") ∧ t.callAt c0.id = none) ∨
    ∃ g, t.callAt c0.id = some { c0 with grant := g } ∧ t.callStateOf c0.id = ({ c0 with grant := g } : Call).state ∧
      s.Raised t (.call c0.id) (grantEvent g) := by
  obtain ⟨-, ⟨hCalls, hRaised⟩ | ⟨g, hOne, hIn, hRaised⟩⟩ := h
  · have hNone : t.callAt c0.id = none := List.find?_eq_none.mpr fun d hd => by simpa using hCalls d hd
    rw [show " event=ended" = " event=" ++ "ended" by decide] at hRaised
    exact .inl ⟨callStateOf_none hNone, hRaised, hNone⟩
  · obtain ⟨d, hd⟩ := Option.isSome_iff_exists.mp
      (List.find?_isSome (p := fun c : Call => decide (c.id = c0.id)) |>.mpr ⟨_, hIn, decide_eq_true rfl⟩)
    have hCall : t.callAt c0.id = some d := hd
    have hSelf := hOne d (State.callAt_mem hCall) (State.callAt_id hCall)
    rw [hSelf] at hCall
    exact .inr ⟨g, hCall, callStateOf_some hCall, hRaised⟩

/-- The state before the call enters: the one the request is checked in, but for a call displaced (R169). -/
structure State.Enters (s s1 : State) : Prop where
  at_ : s1 = { s with link := s1.link, router := s1.router }
  kept : s1.kept = s.kept
  stamp : s1.router.admitStamp = s.router.admitStamp
  presets : s1.router.presets = s.router.presets
  room : s1.router.calls.length < 16

section
variable {s1 : State} {line : Option LineId}

/-- The state with a request in the table, before its walk. -/
theorem enterCall_admitting (zones : List ZoneId) (line : Option LineId) : (s1.enterCall q zones line).router = { s1.router with
    calls := insertCall (s1.newCall q zones line) s1.router.calls
    nextId := idAfter s1.router.freeId 1
    admitStamp := s1.router.admitStamp + 1 } := State.raise_router _ _ _

theorem enterCall_followed (h : s.Enters s1) (zones : List ZoneId) : s.Followed (s1.newCall q zones line) (s1.enterCall q zones line) := by
  have hDisabled : s1.link.disabled = s.link.disabled := kept_disabled h.kept
  obtain ⟨-, hFree⟩ := RouterBlock.freeId_spec h.room
  have hPerm := insertCall_perm (s1.newCall q zones line) s1.router.calls
  refine ⟨?_, .inr ⟨none, fun d hd hId => ?_, ?_, ?_⟩⟩
  · exact (congrArg LinkBlock.disabled (State.raise_link _ _ _)).trans hDisabled
  · rw [enterCall_admitting] at hd
    rcases List.mem_cons.mp (hPerm.mem_iff.mp hd) with rfl | hOld
    · rfl
    · exact absurd hId (hFree d hOld)
  · rw [enterCall_admitting]
    exact hPerm.mem_iff.mpr List.mem_cons_self
  · refine (raise_told (s := s) (t := s1.onRouter fun b => { b with
        calls := insertCall (s1.newCall q zones line) b.calls
        nextId := idAfter s1.router.freeId 1
        admitStamp := b.admitStamp + 1 }) hDisabled _ _).part (before := "!CALL " ++ callFields (s1.newCall q zones line) .waiting none none ++
      " by=" ++ optText natText none) (after := "") ?_
    simp only [String.append_assoc, String.append_empty]
    rw [show grantEvent none = " event=" ++ "admitted" by decide]
    rfl

/-- What an admission leaves (R167, R168, R170). -/
theorem enterCall_admitted (h : s.Enters s1) (line : Option LineId) :
    s.Admitted (s1.enterCall q (s.resolve q) line).walk q line s1.router.freeId
      ((s1.enterCall q (s.resolve q) line).walk.callStateOf s1.router.freeId) := by
  have hFollowed := (followed_routed s (s1.newCall q (s.resolve q) line)).walk (enterCall_followed (line := line) h (s.resolve q))
  obtain ⟨-, hWalked, hPlayers⟩ := walk_leaves (s1.enterCall q (s.resolve q) line)
  obtain ⟨hNextId, hStamp, hPresets⟩ := (counting_routed (s1.enterCall q (s.resolve q) line).router.nextId
    (s1.enterCall q (s.resolve q) line).router.admitStamp (s1.enterCall q (s.resolve q) line).router.presets).walk ⟨rfl, rfl, rfl⟩
  have hEnter : s1.enterCall q (s.resolve q) line = { s1 with link := (s1.enterCall q (s.resolve q) line).link, router := (s1.enterCall q (s.resolve q) line).router } :=
    (State.raise_eq _ _ _).trans (by rw [enterCall_admitting]; rfl)
  obtain ⟨⟨hLow, hHigh⟩, -⟩ := RouterBlock.freeId_spec h.room
  have hNow : (s1.newCall q (s.resolve q) line).admittedAt = s.now := by rw [h.at_]; rfl
  have hAdmit : (s1.newCall q (s.resolve q) line).stamp = s.router.admitStamp := h.stamp
  rw [enterCall_admitting] at hNextId hStamp hPresets
  generalize (s1.enterCall q (s.resolve q) line).walk = w at *
  generalize s1.enterCall q (s.resolve q) line = e at *
  have hVoices : ∀ v : VoiceId, w.voice v = s.voice v := fun v => (hPlayers.voices v).trans (by rw [hEnter, h.at_]; rfl)
  have hAt : w = { s with link := w.link, router := w.router, fetch := w.fetch } := hWalked.trans (by rw [hEnter, h.at_])
  have hNext : w.router.nextId = s1.router.freeId % 255 + 1 := hNextId.trans (by
    unfold idAfter
    dsimp only
    congr 2
    omega)
  have hStamped : w.router.admitStamp = s.router.admitStamp + 1 := hStamp.trans (congrArg (· + 1) h.stamp)
  have hShows := hFollowed.shows
  rw [show (s1.newCall q (s.resolve q) line).id = s1.router.freeId from rfl] at hShows
  refine ⟨hAt, hVoices, hLow, hHigh, hNext, hStamped, hPresets.trans h.presets, ?_⟩
  rcases hShows with ⟨hState, hRaised, hNone⟩ | ⟨g, hCall, hState, hRaised⟩
  · rw [hState]
    exact ⟨hRaised, .inl ⟨rfl, hNone⟩⟩
  · cases g with
    | none =>
      rw [hState]
      rw [show grantEvent none = " event=" ++ "admitted" by decide] at hRaised
      exact ⟨hRaised, .inr ⟨_, hCall, rfl, rfl, hAdmit, hNow, rfl, rfl⟩⟩
    | some x =>
      rw [hState]
      rw [show grantEvent (some x) = " event=granted" from rfl, show " event=granted" = " event=" ++ "granted" by decide] at hRaised
      exact ⟨hRaised, .inr ⟨_, hCall, rfl, rfl, hAdmit, hNow, rfl, rfl⟩⟩

/-- The router after an admission is the one a walk leaves of the table with the request in it. -/
theorem enterCall_walked (h : s.Enters s1) (calls : List Call) (hRouter : s1.router = { s.router with calls := calls }) :
    (s1.enterCall q (s.resolve q) none).walk.router = (s.admitting q calls s1.router.freeId).walk.router := by
  refine sameRouter_walk ?_
  obtain ⟨⟨hLow, -⟩, -⟩ := RouterBlock.freeId_spec h.room
  have hNext : idAfter s1.router.freeId 1 = s1.router.freeId % 255 + 1 := by
    unfold idAfter
    congr 2
    omega
  have hNow : s1.now = s.now := by rw [h.at_]
  rw [enterCall_admitting, hNext]
  unfold State.newCall State.admitting
  rw [hNow]
  generalize s1.router.freeId = id
  rw [hRouter]

theorem enterCall_kept (h : s.Enters s1) (zones : List ZoneId) : (s1.enterCall q zones line).walk.kept = s.kept :=
  (walk_leaves _).1.trans ((State.enterCall_frame s1 q zones line).1.trans h.kept)

theorem enterCall_settled (hSettled : s.Settled) (h : s.Enters s1) : (s1.enterCall q (s.resolve q) line).walk.Settled := by
  obtain ⟨hAt, hVoices, -⟩ := enterCall_admitted (q := q) h line
  exact settled_readers hSettled (by rw [hAt]) (by rw [hAt]) fun v n => by rw [hVoices v]

end

/-- The two ways a request is admitted, and the state the call enters (R168, R169). -/
theorem submit_free (hZones : s.resolve q ≠ []) (hRoom : s.router.calls.length < 16) (line : Option LineId) :
    s.submit q line = .ok (s.router.freeId, (s.enterCall q (s.resolve q) line).walk) := by
  unfold State.submit
  dsimp only
  rw [if_neg (by rw [List.isEmpty_iff]; exact hZones), room_of_place hRoom]

theorem submit_displacing {out : Call} (hZones : s.resolve q ≠ []) (hRoom : s.router.room q.pri = .displacing out) (line : Option LineId) :
    s.submit q line = .ok ((s.dropCall out.id).router.freeId,
      ((s.closeCall out .displaced (some (s.dropCall out.id).router.freeId)).enterCall q (s.resolve q) line).walk) := by
  unfold State.submit
  dsimp only
  rw [if_neg (by rw [List.isEmpty_iff]; exact hZones), hRoom]

theorem submit_noZones (hZones : s.resolve q = []) (line : Option LineId) : s.submit q line = .error .noZones := by
  unfold State.submit
  rw [hZones]
  rfl

theorem submit_full (hZones : s.resolve q ≠ []) (hRoom : s.router.room q.pri = .full) (line : Option LineId) : s.submit q line = .error .queueFull := by
  unfold State.submit
  dsimp only
  rw [if_neg (by rw [List.isEmpty_iff]; exact hZones), hRoom]

theorem enters_self (hRoom : s.router.calls.length < 16) : s.Enters s := ⟨rfl, rfl, rfl, rfl, hRoom⟩

/-- A WAITING call displaced holds nothing. -/
theorem displaced_router {out : Call} (hWaiting : out.grant = none) (by_ : Option Nat) :
    (s.closeCall out .displaced by_).router = { s.router with calls := s.router.calls.filter fun d => d.id ≠ out.id } := by
  have hFreed : s.freed out = s := if_neg (by rw [hWaiting]; decide)
  rw [closeCall_router, hFreed]

theorem enters_displaced {out : Call} (hWaiting : out.grant = none) (hMem : out ∈ s.router.calls) (hFull : s.router.calls.length = 16) (by_ : Option Nat) :
    s.Enters (s.closeCall out .displaced by_) := by
  have hRouter := displaced_router (s := s) hWaiting by_
  have hFreed : s.freed out = s := if_neg (by rw [hWaiting]; decide)
  have hEq : s.closeCall out .displaced by_ = (s.dropCall out.id).raiseCall out .ended none (some .displaced) by_ "ended" := by
    rw [closeCall_eq, hFreed, silenced_none (Call.player_none hWaiting)]
  refine ⟨?_, (State.closeCall_frame s out .displaced by_).1, by rw [hRouter], by rw [hRouter], ?_⟩
  · rw [hEq]
    exact State.raise_eq _ _ _ |>.trans (by rw [State.raiseCall, State.raise_router]; rfl)
  · rw [hRouter]
    exact lt_of_lt_of_eq (List.length_filter_lt_length_iff_exists.mpr ⟨out, hMem, by simp⟩) hFull

/-- The call displaced is gone, and told so, unless its id is the new call's (R169, R181). -/
theorem displaced_told {out : Call} {zones : List ZoneId} {id : Nat} (hWaiting : out.grant = none) :
    out.id ≠ (s.closeCall out .displaced (some id)).router.freeId →
      s.Gone out.id (" cause=displaced by=" ++ natText id ++ " event=ended") ((s.closeCall out .displaced (some id)).enterCall q zones none).walk := by
  intro hApart
  have hText : " cause=" ++ causeText .displaced ++ " by=" ++ optText natText (some id) ++ " event=ended" =
      " cause=displaced by=" ++ natText id ++ " event=ended" := by
    rw [show " cause=" ++ causeText .displaced ++ " by=" = " cause=displaced by=" by decide]
    rfl
  have hRouter := displaced_router (s := s) hWaiting (some id)
  have hRaised := closeCall_raised (s := s) (t := s) rfl out .displaced (some id)
  rw [hText] at hRaised
  have hEntered : s.Raised ((s.closeCall out .displaced (some id)).enterCall q zones none) (.call out.id) (" cause=displaced by=" ++ natText id ++ " event=ended") :=
    State.Raised.raise_of_ne (t := (s.closeCall out .displaced (some id)).onRouter fun b => { b with
      calls := insertCall ((s.closeCall out .displaced (some id)).newCall q zones none) b.calls
      nextId := idAfter (s.closeCall out .displaced (some id)).router.freeId 1
      admitStamp := b.admitStamp + 1 }) (hRaised.congr rfl) (fun h => hApart (ReportKey.call.inj h)) _
  refine (gone_routed s out.id _).walk ⟨fun d hd => ?_, hEntered⟩
  rw [enterCall_admitting] at hd
  rcases List.mem_cons.mp ((insertCall_perm _ _).mem_iff.mp hd) with rfl | hOld
  · exact hApart.symm
  · rw [hRouter] at hOld
    exact of_decide_eq_true (List.mem_filter.mp hOld).2

theorem State.Admitted.answered {line : Option LineId} {st : CallState} (h : s.Admitted t q line id st) (tag : Tag) (text : String) :
    s.Admitted (t.answered tag text) q line id st := by
  obtain ⟨hAt, hRest⟩ := h
  exact ⟨(congrArg (fun t : State => t.answered tag text) hAt :), hRest⟩

theorem num_of_ofNum {k n : Nat} {i : Fin n} (h : ofNum n k = some i) : num i = k := by
  unfold ofNum at h
  split at h
  · rename_i hRange
    rw [← Option.some.inj h]
    exact Nat.sub_add_cancel hRange.1
  · cases h

/-- CALL and PRESET submit their request, and tell of it. -/
theorem submits_row {tag : Tag} {c : Instr} {note : String} (hReady : s.Ready)
    (hWay : (∃ a, c = .call tag (.given a) ∧ s.checkRequest a = .ok q ∧ note = "") ∨
      ∃ n k, c = .preset tag (.given n) ∧ ofNum 16 n = some k ∧ s.router.presets.get k = some q ∧ note = " preset=" ++ natText n) :
    (∀ e, s.submit q none = .error e → exec c s = .next (s.refused tag e)) ∧
    ∀ id t, s.submit q none = .ok (id, t) → t.Settled → exec c s = .next (t.answered tag ("OK " ++ ("call=" ++ natText id ++ " state=" ++
      callStateText (t.callStateOf id) ++ note))) := by
  rcases hWay with ⟨a, rfl, hChecked, rfl⟩ | ⟨n, k, rfl, hn, hPreset, rfl⟩
  · have hAnswer : makeCall a s = s.submit q none >>= fun x => x.2.replies fun t => "call=" ++ natText x.1 ++ " state=" ++ callStateText (t.callStateOf x.1) := by
      unfold makeCall
      rw [hChecked]
      rfl
    refine ⟨fun e he => ?_, fun id t ht hSettled => ?_⟩
    · rw [he] at hAnswer
      exact hReady.refuses (exec_call s tag (.given a)) hAnswer
    · rw [ht] at hAnswer
      rw [String.append_empty]
      exact hReady.accepts (exec_call s tag (.given a)) hAnswer hSettled
  · have hNum : num k = n := num_of_ofNum hn
    have hAnswer : firePreset n s = s.submit q none >>= fun x => x.2.replies fun t => "call=" ++ natText x.1 ++ " state=" ++
        callStateText (t.callStateOf x.1) ++ " preset=" ++ natText n := by
      unfold firePreset
      rw [hn, need_some, ok_bind, hPreset, need_some, ok_bind, hNum]
    refine ⟨fun e he => ?_, fun id t ht hSettled => ?_⟩
    · rw [he] at hAnswer
      exact hReady.refuses (exec_preset s tag (.given n)) hAnswer
    · rw [ht] at hAnswer
      simp only [← String.append_assoc]
      exact hReady.accepts (exec_preset s tag (.given n)) hAnswer hSettled

end

end Sys2Proof.Machine

namespace Sys2Proof.Proofs

open Sys2Proof Sys2Proof.Machine

/-- Settles O52: a visit by what the call may take, the walks by the number of WAITING calls, and each admission followed through its walk. -/
theorem callAdmission : Obligations.CallAdmission := by
  refine ⟨fun w c hOk hCall hWaiting => ⟨fun hBlocked => ?_, fun player hZones hSource => ?_⟩, fun w id h => visit_other h,
    fun s => ⟨rfl, walk_follows s⟩, fun s tag c q note hReady hWay => ?_⟩
  · refine visit_reserves hCall hWaiting ?_
    rcases hBlocked with hZone | ⟨n, hSound, hHeld⟩ | ⟨n, hPage, hUsed⟩
    · exact grantable_none hZone
    · refine grantable_noSource ?_
      rw [sourceFor_sound hSound, playerFor_none hOk hHeld]
      rfl
    · refine grantable_noSource ?_
      rw [sourceFor_page hPage, if_pos (pageUsed_iff.mpr hUsed)]
  · have hGrantable : w.state.grantable w.reserved c = some player := by
      rw [grantable_zones hZones]
      rcases hSource with ⟨n, p, hSound, rfl, hTaken⟩ | ⟨n, hPage, rfl, hFree⟩
      · rw [sourceFor_sound hSound, playerFor_taken hOk hTaken]
        rfl
      · rw [sourceFor_page hPage, if_neg fun hUsed => ?_]
        obtain ⟨d, hd, hLive, hSame⟩ := pageUsed_iff.mp hUsed
        exact hFree d hd hLive hSame
    rw [visit_granted hCall hWaiting hGrantable]
    exact ⟨rfl, rfl, grantCall_granted hOk hCall hWaiting⟩
  · obtain ⟨hRefuses, hAccepts⟩ := submits_row hReady hWay
    refine ⟨fun hNone => hRefuses _ (submit_noZones hNone none), fun hZones hFull hLow => hRefuses _ (submit_full hZones (room_of_full hFull hLow) none),
      fun hZones hRoom => ?_, fun out hZones hFull hMem hWaiting hPri hLowest => ?_⟩
    · have hEnters := enters_self (s := s) hRoom
      obtain ⟨-, hFree⟩ := RouterBlock.freeId_spec (b := s.router) hRoom
      exact ⟨_, _, _, hAccepts _ _ (submit_free hZones hRoom none) (enterCall_settled hReady.2 hEnters), State.replied_of (enterCall_kept hEnters _) _ _,
        (enterCall_admitted hEnters none).answered _ _, hFree, enterCall_walked hEnters _ rfl, freeId_search hRoom⟩
    · have hLast := lastWaiting_of hMem hWaiting fun d hd hNe hWaits => (hLowest d hd hNe hWaits).2
      have hSubmit := submit_displacing hZones (room_of_last hFull hLast hPri) none
      have hEnters := enters_displaced hWaiting hMem hFull (some (s.dropCall out.id).router.freeId)
      have hRouter := displaced_router (s := s) hWaiting (some (s.dropCall out.id).router.freeId)
      have hId : (s.closeCall out .displaced (some (s.dropCall out.id).router.freeId)).router.freeId = (s.dropCall out.id).router.freeId := by
        rw [hRouter]
        rfl
      have hRoom : (s.dropCall out.id).router.calls.length < Config.maxCalls := by
        have h := hEnters.room
        rw [hRouter] at h
        exact h
      obtain ⟨-, hFree⟩ := RouterBlock.freeId_spec hRoom
      obtain ⟨j, hj, hAt, hBefore⟩ := freeId_search hRoom
      have hAdmitted := enterCall_admitted (q := q) hEnters none
      have hWalked := enterCall_walked (q := q) hEnters _ hRouter
      have hTold := displaced_told (s := s) (q := q) (zones := s.resolve q) (id := (s.dropCall out.id).router.freeId) hWaiting
      rw [hId] at hAdmitted hWalked hTold
      refine ⟨_, _, _, hAccepts _ _ hSubmit (enterCall_settled hReady.2 hEnters), State.replied_of (enterCall_kept hEnters _) _ _, hAdmitted.answered _ _,
        fun d hd hOut => ?_, fun hApart => (hTold hApart).2, hWalked, fun d hd hSame => ?_, j, hj, hAt, fun i hi => ?_⟩
      · by_contra hApart
        exact (hTold hApart).1 d hd hOut
      · by_contra hApart
        exact hFree d (List.mem_filter.mpr ⟨hd, decide_eq_true hApart⟩) hSame
      · obtain ⟨d, hd, hTaken⟩ := hBefore i hi
        obtain ⟨hIn, hApart⟩ := List.mem_filter.mp hd
        exact ⟨d, hIn, of_decide_eq_true hApart, hTaken⟩

end Sys2Proof.Proofs
end

section
/-! PROOFS. LINESET, and the lamps a frame drives (R183, R184, R188). -/

namespace Sys2Proof.Machine

open Sys2Proof

section
variable {s t : State} {n : LineId} {c : Call} {k : PresetId}

/-! ### The end of a line's role (R184, R186) -/

theorem release_preset (h : (s.line n).fn = .preset k) : s.release n = s.releaseLine n := by
  unfold State.release
  rw [h]

theorem release_talk (h : (s.line n).fn = .talk) : s.release n = { s with foldback := s.foldback.holdLine n false } := by
  unfold State.release
  rw [h]
  rfl

theorem release_other (hTalk : (s.line n).fn ≠ .talk) (hPreset : ∀ k, (s.line n).fn ≠ .preset k) : s.release n = s := by
  unfold State.release
  cases h : (s.line n).fn with
  | talk => exact absurd h hTalk
  | preset k => exact absurd h (hPreset k)
  | _ => rfl

theorem releaseLine_none (h : ∀ c ∈ s.router.calls, c.line ≠ some n) : s.releaseLine n = s := by
  have hNone : s.router.calls.find? (fun c => c.line = some n) = none := List.find?_eq_none.mpr fun c hc => by simpa using h c hc
  unfold State.releaseLine
  rw [hNone]

theorem releaseLine_some (h : s.router.calls.find? (fun c => c.line = some n) = some c) : s.releaseLine n = s.endCall c .released := by
  unfold State.releaseLine
  rw [h]

/-- The call a line holds ends with the release of the line. -/
theorem releaseLine_gone (h : s.router.calls.find? (fun c => c.line = some n) = some c) :
    s.CallGone (s.releaseLine n) c ∧ s.Raised (s.releaseLine n) (.call c.id) " cause=released by=none event=ended" := by
  rw [releaseLine_some h]
  obtain ⟨hGone, hRaised⟩ := endCall_gone (List.mem_of_find?_eq_some h) .released
  rw [show " cause=" ++ causeText .released ++ " by=none event=ended" = " cause=released by=none event=ended" by decide] at hRaised
  exact ⟨hGone, hRaised⟩

/-- A change of the router and the players, or of the held set, at most. -/
structure State.Releases (s t : State) : Prop where
  kept : t.kept = s.kept
  at_ : t = { s with link := t.link, foldback := t.foldback, router := t.router, fetch := t.fetch }
  voices : ∀ v : VoiceId, t.voice v = s.voice v

theorem State.Releases.settled (h : s.Releases t) (hSettled : s.Settled) : t.Settled :=
  settled_readers hSettled (by rw [h.at_]) (by rw [h.at_]) fun v n => by rw [h.voices v]

theorem release_releases (s : State) (n : LineId) : s.Releases (s.release n) := by
  by_cases hTalk : (s.line n).fn = .talk
  · rw [release_talk hTalk]
    obtain ⟨hLevel, hDepth, hCommand, -, -⟩ := s.foldback.holdLine_keeps n false
    refine ⟨?_, rfl, fun _ => rfl⟩
    unfold State.kept
    dsimp only
    rw [hLevel, hDepth, hCommand]
  · by_cases hPreset : ∃ k, (s.line n).fn = .preset k
    · obtain ⟨k, hk⟩ := hPreset
      rw [release_preset hk]
      cases hFound : s.router.calls.find? fun c => c.line = some n with
      | none =>
        have hNone : ∀ c ∈ s.router.calls, c.line ≠ some n := fun c hc => by simpa using List.find?_eq_none.mp hFound c hc
        rw [releaseLine_none hNone]
        exact ⟨rfl, rfl, fun _ => rfl⟩
      | some c =>
        have hMem := List.mem_of_find?_eq_some hFound
        obtain ⟨⟨hAt, hVoices, -⟩, -⟩ := releaseLine_gone hFound
        rw [releaseLine_some hFound] at *
        exact ⟨(State.endCall_frame s c .released).1, hAt.trans (by rw [(State.endCall_frame s c .released).2.2.2.2.2.2.1]), hVoices⟩
    · rw [release_other hTalk (not_exists.mp hPreset)]
      exact ⟨rfl, rfl, fun _ => rfl⟩

/-- The release of a line with another function leaves the talkback. -/
theorem release_foldback (hTalk : (s.line n).fn ≠ .talk) : (s.release n).foldback = s.foldback := by
  by_cases hPreset : ∃ k, (s.line n).fn = .preset k
  · obtain ⟨k, hk⟩ := hPreset
    rw [release_preset hk]
    unfold State.releaseLine
    cases s.router.calls.find? fun c => c.line = some n with
    | none => rfl
    | some c =>
      obtain ⟨-, -, -, -, -, -, hFoldback, -⟩ := State.endCall_frame s c .released
      exact hFoldback
  · rw [release_other hTalk (not_exists.mp hPreset)]

/-- The release of a line with another function leaves the router and the players. -/
theorem release_router (hPreset : ∀ k, (s.line n).fn ≠ .preset k) : (s.release n).router = s.router ∧ (s.release n).fetch = s.fetch := by
  by_cases hTalk : (s.line n).fn = .talk
  · rw [release_talk hTalk]
    exact ⟨rfl, rfl⟩
  · rw [release_other hTalk hPreset]
    exact ⟨rfl, rfl⟩

/-! ### LINESET (R184) -/

theorem setLine_same {fn : LineFn} {high : Bool} (h : (s.line n).fn = fn ∧ (s.line n).activeHigh = high) : s.setLine n fn high = s := if_pos h

theorem setLine_change {fn : LineFn} {high : Bool} (h : ¬((s.line n).fn = fn ∧ (s.line n).activeHigh = high)) :
    s.setLine n fn high = (s.release n).onLine n (LineRec.configure fn high (s.lines.pins.get n)) := if_neg h

theorem configure_input {fn : LineFn} (h : fn.isOutput = false) (high pin : Bool) (r : LineRec) : LineRec.configure fn high pin r =
    { r with fn := fn, activeHigh := high, debounced := some (decide (pin = high)), count := 0, drive := none } :=
  if_neg (by rw [h]; decide)

theorem configure_output {fn : LineFn} (h : fn.isOutput = true) (high pin : Bool) (r : LineRec) : LineRec.configure fn high pin r =
    { r with fn := fn, activeHigh := high, debounced := none, count := 0 } := if_pos h

theorem setLineset_eq {a : LinesetArgs} {fn : LineFn} {high : Bool} (hField : a.fn ≠ none ∨ a.polHigh ≠ none) (hn : ofNum 16 a.line = some n)
    (hFn : a.fn = none ∧ fn = (s.line n).fn ∨ ∃ f, a.fn = some f ∧ lineFnOf f = some fn) (hHigh : high = a.polHigh.getD (s.line n).activeHigh) :
    setLineset a s = (s.setLine n fn high).replies fun s => s.lineLine n := by
  have hGiven : (a.fn.isNone && a.polHigh.isNone) = false := by
    rw [Bool.and_eq_false_iff, Option.isNone_eq_false_iff, Option.isNone_eq_false_iff, Option.isSome_iff_ne_none, Option.isSome_iff_ne_none]
    exact hField
  unfold setLineset
  rw [hGiven, refuseIf_false, ok_bind, hn, need_some, ok_bind, hHigh]
  rcases hFn with ⟨hNone, rfl⟩ | ⟨f, hSome, hName⟩
  · rw [hNone]
    rfl
  · rw [hSome]
    dsimp only
    rw [hName]
    rfl

end

/-! ### The lamps of a frame (R188) -/

/-- What a frame leaves of a line. -/
theorem frame_line {s t u : State} {slots : Vector Word32 64} {pins : Vector Bool 16} (n : LineId) (hReset : s.inReset = false) (hFrame : s.HasFrame)
    (hu : u = s.takeDue) (hExec : exec (.frame slots pins) s = .next t) :
    t.line n = ({ u.line n with drive := u.lampOf (u.line n) } : LineRec).frame (pins.get n) := by
  rw [exec_frame_eq hReset hFrame, ← hu] at hExec
  obtain rfl := Host.Outcome.next.inj hExec
  obtain ⟨-, -, -, -, -, -, hLines⟩ := State.finish_frame (u.computed slots pins)
  unfold State.line
  rw [hLines, computed_lines]
  exact get_ofFn _ _

theorem LineRec.frame_eq (pin : Bool) (r : LineRec) : r.frame pin = { r with count := (r.frame pin).count } := by
  unfold LineRec.frame
  split
  · rfl
  · split <;> rfl

theorem LineRec.frame_count_none {pin : Bool} {r : LineRec} (h : r.debounced = none) : (r.frame pin).count = r.count := by
  unfold LineRec.frame
  rw [h]

theorem LineRec.frame_count_some {pin active : Bool} {r : LineRec} (h : r.debounced = some active) :
    (r.frame pin).count = if (pin = r.activeHigh ↔ active = true) then 0 else r.count + 1 := by
  have hSame : pinActive r.activeHigh pin = active ↔ (pin = r.activeHigh ↔ active = true) := by
    unfold pinActive
    cases active <;> simp
  unfold LineRec.frame
  rw [h]
  dsimp only
  split
  · rename_i hEq
    rw [if_pos (hSame.mp hEq)]
  · rename_i hNe
    rw [if_neg fun h => hNe (hSame.mpr h)]

section
variable {u : State} {r : LineRec}

theorem condition_input (h : r.fn.isOutput = false) : u.condition r = none := by
  unfold State.condition
  cases hFn : r.fn <;> first | rfl | (rw [hFn] at h; cases h)

theorem vector_any {α : Type} {n : Nat} (v : Vector α n) (f : α → Bool) : v.toList.any f = true ↔ ∃ i : Fin n, f (v.get i) = true := by
  simp only [List.any_eq_true, Vector.mem_toList_iff, Vector.mem_iff_getElem]
  exact ⟨fun ⟨_, ⟨i, hi, h⟩, hf⟩ => ⟨⟨i, hi⟩, by rw [Vector.get_eq_getElem]; exact h ▸ hf⟩,
    fun ⟨i, hf⟩ => ⟨_, ⟨i.val, i.isLt, rfl⟩, by rw [Vector.get_eq_getElem] at hf; exact hf⟩⟩

/-- The condition of each output function, by what it stands for (R188). -/
theorem condition_output {on : Prop}
    (h : r.fn = .cueActive ∧ (on ↔ u.engine.insts ≠ []) ∨ r.fn = .standbyReady ∧ (on ↔ u.standbyReady = true) ∨
      r.fn = .halted ∧ (on ↔ u.engine.halted = true) ∨ r.fn = .micAlert ∧ (on ↔ ∃ p, (u.perf p).state = .alarm ∨ (u.perf p).state = .spare) ∨
      (∃ z, r.fn = .callLive z ∧ (on ↔ (u.zone z).holding ≠ none)) ∨ r.fn = .callWaiting ∧ (on ↔ ∃ c ∈ u.router.calls, c.grant = none) ∨
      r.fn = .voiceFault ∧ (on ↔ ∃ r, (u.reader r).state = .faulted) ∨ r.fn = .cueLine ∧ (on ↔ r.cueLine = true)) :
    ∃ x, u.condition r = some x ∧ (x = true ↔ on) := by
  unfold State.condition
  rcases h with ⟨hFn, hOn⟩ | ⟨hFn, hOn⟩ | ⟨hFn, hOn⟩ | ⟨hFn, hOn⟩ | ⟨z, hFn, hOn⟩ | ⟨hFn, hOn⟩ | ⟨hFn, hOn⟩ | ⟨hFn, hOn⟩ <;> rw [hFn]
  · refine ⟨_, rfl, ?_⟩
    rw [hOn]
    unfold State.cueActive
    rw [Bool.not_eq_true', List.isEmpty_eq_false_iff]
  · exact ⟨_, rfl, hOn.symm⟩
  · exact ⟨_, rfl, hOn.symm⟩
  · refine ⟨_, rfl, ?_⟩
    rw [hOn]
    unfold State.micAlert
    rw [vector_any]
    exact exists_congr fun p => decide_eq_true_iff
  · refine ⟨_, rfl, ?_⟩
    rw [hOn]
    exact Option.isSome_iff_ne_none
  · refine ⟨_, rfl, ?_⟩
    rw [hOn]
    unfold State.callWaiting
    rw [List.any_eq_true]
    exact exists_congr fun c => and_congr_right fun _ => Option.isNone_iff_eq_none
  · refine ⟨_, rfl, ?_⟩
    rw [hOn]
    unfold State.voiceFault
    rw [vector_any]
    exact exists_congr fun q => decide_eq_true_iff
  · exact ⟨_, rfl, hOn.symm⟩

theorem lampOf_input (h : r.fn.isOutput = false) : u.lampOf r = none := by
  unfold State.lampOf
  rw [condition_input h]
  rfl

theorem lampOf_output {x : Bool} (h : u.condition r = some x) : ∃ level, u.lampOf r = some level ∧ (level = r.activeHigh ↔ x = true) := by
  refine ⟨decide (x = r.activeHigh), ?_, ?_⟩
  · unfold State.lampOf
    rw [h]
    rfl
  · cases x <;> cases r.activeHigh <;> decide

/-- The lamps, and what a frame leaves of a line (R188). -/
theorem frame_lamps {s t u : State} {slots : Vector Word32 64} {pins : Vector Bool 16} {n : LineId} (hReset : s.inReset = false) (hFrame : s.HasFrame)
    (hu : u = s.takeDue) (hExec : exec (.frame slots pins) s = .next t) :
    ((u.line n).fn.isOutput = false → (t.line n).drive = none) ∧
    (∀ on : Prop,
      ((u.line n).fn = .cueActive ∧ (on ↔ u.engine.insts ≠ []) ∨ (u.line n).fn = .standbyReady ∧ (on ↔ u.standbyReady = true) ∨
        (u.line n).fn = .halted ∧ (on ↔ u.engine.halted = true) ∨
        (u.line n).fn = .micAlert ∧ (on ↔ ∃ p, (u.perf p).state = .alarm ∨ (u.perf p).state = .spare) ∨
        (∃ z, (u.line n).fn = .callLive z ∧ (on ↔ (u.zone z).holding ≠ none)) ∨
        (u.line n).fn = .callWaiting ∧ (on ↔ ∃ c ∈ u.router.calls, c.grant = none) ∨
        (u.line n).fn = .voiceFault ∧ (on ↔ ∃ r, (u.reader r).state = .faulted) ∨
        (u.line n).fn = .cueLine ∧ (on ↔ (u.line n).cueLine = true)) →
      ∃ level, (t.line n).drive = some level ∧ (level = (u.line n).activeHigh ↔ on)) ∧
    t.line n = { u.line n with count := (t.line n).count, drive := (t.line n).drive } := by
  have hLine := frame_line n hReset hFrame hu hExec
  refine ⟨fun hInput => ?_, fun on hCase => ?_, ?_⟩
  · rw [hLine, LineRec.frame_eq]
    exact lampOf_input hInput
  · obtain ⟨x, hCondition, hOn⟩ := condition_output hCase
    obtain ⟨level, hLamp, hLevel⟩ := lampOf_output hCondition
    refine ⟨level, ?_, hLevel.trans hOn⟩
    rw [hLine, LineRec.frame_eq]
    exact hLamp
  · rw [hLine, LineRec.frame_eq]

end

end Sys2Proof.Machine

namespace Sys2Proof.Proofs

open Sys2Proof Sys2Proof.Machine

/-- Settles O55: the end of the old role, the new record, and the lamps of a frame. -/
theorem lineConfigured : Obligations.LineConfigured := by
  intro s tag a n fn high hReady hField hn hFn hHigh
  have hAnswer := setLineset_eq (s := s) hField hn hFn hHigh
  by_cases hSame : fn = (s.line n).fn ∧ high = (s.line n).activeHigh
  · obtain ⟨rfl, rfl⟩ := hSame
    rw [setLine_same ⟨rfl, rfl⟩] at hAnswer
    exact ⟨_, hReady.accepts (exec_lineset s tag (.given a)) hAnswer hReady.2, State.replied_of rfl tag _, rfl, rfl, fun _ _ => rfl, fun _ => rfl,
      fun _ => ⟨rfl, rfl, rfl, rfl⟩, fun hNot => absurd ⟨rfl, rfl⟩ hNot, fun _ _ u _ _ _ h h' hu hExec => frame_lamps h h' hu hExec⟩
  · rw [setLine_change fun h => hSame ⟨h.1.symm, h.2.symm⟩] at hAnswer
    have hReleases := release_releases s n
    have hTalk := release_talk (s := s) (n := n)
    have hPreset := fun k => release_preset (s := s) (n := n) (k := k)
    have hFoldback := release_foldback (s := s) (n := n)
    have hRouter := release_router (s := s) (n := n)
    have hHolds := FoldbackBlock.holdLine_keeps s.foldback n false
    generalize s.release n = w at *
    have hLines : w.lines = s.lines := by rw [hReleases.at_]
    have hLine : (w.onLine n (LineRec.configure fn high (s.lines.pins.get n))).line n = LineRec.configure fn high (s.lines.pins.get n) (s.line n) := by
      refine (line_onLine _ _ _ _).trans ((if_pos rfl).trans ?_)
      unfold State.line
      rw [hLines]
    have hRow := hReady.accepts (exec_lineset s tag (.given a)) hAnswer (settled_congr (hReleases.settled hReady.2) rfl rfl rfl)
    have hAt : w.onLine n (LineRec.configure fn high (s.lines.pins.get n)) = { s with
        link := w.link, foldback := w.foldback, router := w.router, fetch := w.fetch
        lines := (w.onLine n (LineRec.configure fn high (s.lines.pins.get n))).lines } :=
      congrArg (fun t : State => { t with lines := (w.onLine n (LineRec.configure fn high (s.lines.pins.get n))).lines }) hReleases.at_
    have hKept : (w.onLine n (LineRec.configure fn high (s.lines.pins.get n))).kept = s.kept := hReleases.kept
    have hPins : (w.onLine n (LineRec.configure fn high (s.lines.pins.get n))).lines.pins = s.lines.pins :=
      (congrArg LineBlock.pins hLines :)
    have hApart : ∀ m, m ≠ n → (w.onLine n (LineRec.configure fn high (s.lines.pins.get n))).line m = s.line m := fun m hm => by
      refine (line_onLine _ _ _ _).trans ((if_neg fun h => hm h.symm).trans ?_)
      unfold State.line
      rw [hLines]
    refine ⟨_, hRow, State.replied_of hKept tag _, (congrArg (fun t : State => t.answered tag _) hAt :), hPins, hApart, hReleases.voices, fun h => absurd h hSame,
      fun _ => ⟨fun hInput => hLine.trans (configure_input hInput _ _ _), fun hOutput => hLine.trans (configure_output hOutput _ _ _), fun hNot => ?_, fun hIs => ?_,
        fun hNot => ?_, fun k c hIs hHeld => ?_, fun k hIs hNone => ?_⟩, fun _ _ u _ _ _ h h' hu hExec => frame_lamps h h' hu hExec⟩
    · exact hFoldback hNot
    · obtain ⟨-, -, hCommand, hHeld, -⟩ := hHolds
      rw [hTalk hIs] at *
      exact ⟨hHeld, hCommand⟩
    · exact hRouter hNot
    · rw [hPreset k hIs] at *
      obtain ⟨⟨-, -, hGone, -⟩, hRaised⟩ := releaseLine_gone hHeld
      exact ⟨hGone, hRaised⟩
    · have hStill : w = s := (hPreset k hIs).trans (releaseLine_none hNone)
      rw [hStill]
      exact ⟨rfl, rfl⟩

end Sys2Proof.Proofs
end

section
/-! PROOFS. A chain with a time of 0 and a FRAME with no frame begun (R111, R206). -/

namespace Sys2Proof.Machine

open Sys2Proof

section
variable {s : State} {ch : Chain}

/-- A chain whose time has run out while its target is not standby is removed, and told as void (R112). -/
theorem expireChain_void (hChain : s.engine.chain = some ch) (hHalted : s.engine.halted = false) (hDue : ch.due = true)
    (hStandby : s.engine.standby ≠ some ch.target) :
    s.expireChain = ({ s with engine := { s.engine with chain := none } } : State).raiseCue { name := "chainvoid", cue := some ch.target } := by
  unfold State.expireChain
  rw [hChain]
  dsimp only
  rw [if_neg (by rw [hHalted, hDue]; decide)]
  split
  · rename_i h
    rw [if_neg (by exact hStandby)] at h
    cases h
  · rfl

/-- While LOCKED with no frame begun FRAME computes nothing (R206). -/
theorem frame_idle (hLocked : s.clock.monitor = .locked) (hNone : s.clock.begun = 0) (slots : Vector Word32 64) (pins : Vector Bool 16) :
    s.frame slots pins = s := by
  refine if_neg fun h => ?_
  have hBegun := (State.frameBegun_iff s).mp h hLocked
  rw [hNone] at hBegun
  exact absurd hBegun (by decide)

end

/-- A part whose chain with a time of 0 has yet to expire, its target not standby, while the clock is LOCKED with no frame begun. -/
def gapState : State := { State.reset with
  clock := { monitor := .locked, begun := 0 }
  engine := { State.reset.engine with chain := some { target := 1, ms := 0, elapsed := 0, fromStart := false, setBy := 1 } } }

theorem gapState_settled : gapState.Settled := ⟨rfl, rfl, rfl⟩

end Sys2Proof.Machine

namespace Sys2Proof.Proofs

open Sys2Proof Sys2Proof.Machine

/-- Refutes O37: a FRAME with no frame begun, as in the 2 ms before the loss of WCLK is found, computes nothing (R206), and so it takes
no expiry before it. A chain with a time of 0 still stands after that FRAME, where the statement has it expired before every event. -/
theorem not_goFires : ¬Obligations.GoFires := by
  intro h
  obtain ⟨-, -, -, hPrompt⟩ := h gapState
  have hVoid := expireChain_void (s := gapState) rfl rfl rfl (by decide)
  have hFinish := raiseCue_finish (u := { gapState with engine := { gapState.engine with chain := none } }) rfl
    { name := "chainvoid", cue := some 1 }
  have hEngine := raiseCue_engine { gapState with engine := { gapState.engine with chain := none } } { name := "chainvoid", cue := some 1 }
  have hClock : (({ gapState with engine := { gapState.engine with chain := none } } : State).raiseCue { name := "chainvoid", cue := some 1 }).clock =
      gapState.clock := kept_clock (State.raiseCue_frame _ _).1
  have hReset : (({ gapState with engine := { gapState.engine with chain := none } } : State).raiseCue { name := "chainvoid", cue := some 1 }).inReset =
      false := kept_inReset (State.raiseCue_frame _ _).1
  have hExpiry : exec .chainExpiry gapState = .next gapState.expireChain.finish := by
    rw [exec_chainExpiry, event_running rfl]
  have hSettled := finish_settled (s := ({ gapState with engine := { gapState.engine with chain := none } } : State).raiseCue
    { name := "chainvoid", cue := some 1 })
  rw [hVoid] at hExpiry
  rw [hFinish] at hExpiry hSettled
  generalize ({ gapState with engine := { gapState.engine with chain := none } } : State).raiseCue { name := "chainvoid", cue := some 1 } = w at *
  have hChain : w.engine.chain = none := by rw [hEngine]
  generalize ht : (w.onEngine fun b => { b with
    readyShown := ({ gapState with engine := { gapState.engine with chain := none } } : State).standbyReady, opEvent := none }) = t at *
  have hChainEnd : t.engine.chain = none := by rw [← ht]; exact hChain
  have hNoPrompt : t.promptChain = false := by
    unfold State.promptChain
    rw [hChainEnd]
    rfl
  have hSame := hPrompt _ t rfl rfl rfl rfl rfl hExpiry hNoPrompt (.frame (.replicate 64 0) (.replicate 16 false)) (by decide) rfl
    (fun hLine => Bool.noConfusion hLine)
  have hClockEnd : t.clock = gapState.clock := by rw [← ht]; exact hClock
  have hResetEnd : t.inReset = false := by rw [← ht]; exact hReset
  rw [exec_frame, exec_frame, event_running rfl, event_running hResetEnd, frame_idle rfl rfl, frame_idle (by rw [hClockEnd]; rfl) (by rw [hClockEnd]; rfl),
    finish_of_settled gapState_settled, finish_of_settled hSettled] at hSame
  have hGap := congrArg (fun u : State => u.engine.chain) (Host.Outcome.next.inj hSame)
  rw [hChainEnd] at hGap
  cases hGap

end Sys2Proof.Proofs
end

section
/-! PROOFS. Rows silenced: crosspoints snapped to OFF one after another, each record on them removed and its owner told (R15, R36, R46). -/

namespace Sys2Proof.Machine

open Sys2Proof

/-- The report held for the end of an operation is no part of what an owner told changes. -/
theorem told_opEvent (b : EngineBlock) (e : Option CueReport) (o : Option InstSlot) :
    ({ b with opEvent := e } : EngineBlock).told o = { b.told o with opEvent := e } := by
  cases o with
  | none => rw [told_none, told_none]
  | some slot =>
    cases h : b.insts.find? fun i => i.slot = slot with
    | none => rw [told_of_none h, told_of_none (b := { b with opEvent := e }) h]
    | some i =>
      rw [told_of_some h, told_of_some (b := { b with opEvent := e }) h]
      split <;> rfl

theorem told_firing (b : EngineBlock) (o : Option InstSlot) : (b.told o).firing = b.firing := by
  rw [told_eq]

/-- The owners of the records on some targets told, one after another. -/
def EngineBlock.toldAll (b : EngineBlock) (s : State) (l : List Target) : EngineBlock := l.foldl (fun b x => b.told (s.ownerOf x)) b

theorem toldAll_firing (b : EngineBlock) (s : State) (l : List Target) : (b.toldAll s l).firing = b.firing := by
  unfold EngineBlock.toldAll
  induction l generalizing b with
  | nil => rfl
  | cons x l ih => exact (ih _).trans (told_firing b _)

theorem toldAll_event {b : EngineBlock} (h : b.opEvent = none) (s : State) (l : List Target) : (b.toldAll s l).opEvent = none := by
  unfold EngineBlock.toldAll
  induction l generalizing b with
  | nil => exact h
  | cons x l ih => exact ih ((congrArg EngineBlock.opEvent (told_eq b _)).trans h)

theorem toldAll_append (b : EngineBlock) (s : State) (l l' : List Target) : b.toldAll s (l ++ l') = (b.toldAll s l).toldAll s l' :=
  List.foldl_append

/-- `t` is `s` with the crosspoints of `l` at OFF, the records on them gone and their owners told in the order of `l`; the cast
table, the supervisor and the reports may differ. -/
structure State.Silences (s t : State) (l : List Target) : Prop where
  kept : t.kept = s.kept
  xpt : ∀ row bus, t.xpt row bus = if .xpt row bus ∈ l then offCode else s.xpt row bus
  matrix : t.matrix = { s.matrix with xpts := t.matrix.xpts }
  fades : t.fades = { s.fades with pool := s.fades.pool.filter fun f => f.target ∉ l }
  engine : s.engine.firing = none → t.engine = { s.engine.toldAll s l with opEvent := t.engine.opEvent }
  fetch : t.fetch = s.fetch
  foldback : t.foldback = s.foldback
  router : t.router = s.router
  lines : t.lines = s.lines
  shown : s.Shown false → t.Shown false

section
variable {s t u : State} {l l' : List Target}

theorem State.Silences.refl (s : State) : s.Silences s [] where
  kept := rfl
  xpt _ _ := (if_neg List.not_mem_nil).symm
  matrix := rfl
  fades := by
    have hAll : s.fades.pool.filter (fun f => f.target ∉ ([] : List Target)) = s.fades.pool :=
      List.filter_eq_self.mpr fun f _ => decide_eq_true List.not_mem_nil
    rw [hAll]
  engine _ := rfl
  fetch := rfl
  foldback := rfl
  router := rfl
  lines := rfl
  shown h := h

/-- A change of the cast table, the supervisor and the reports alone. -/
theorem State.Silences.outside (h : s.Silences t l) (hKept : u.kept = t.kept) (hMatrix : u.matrix = t.matrix) (hFades : u.fades = t.fades)
    (hEngine : u.engine = t.engine) (hFetch : u.fetch = t.fetch) (hFoldback : u.foldback = t.foldback) (hRouter : u.router = t.router)
    (hLines : u.lines = t.lines) : s.Silences u l where
  kept := hKept.trans h.kept
  xpt row bus := (xpt_congr hMatrix row bus).trans (h.xpt row bus)
  matrix := by rw [hMatrix]; exact h.matrix
  fades := hFades.trans h.fades
  engine hFiring := by rw [hEngine]; exact h.engine hFiring
  fetch := hFetch.trans h.fetch
  foldback := hFoldback.trans h.foldback
  router := hRouter.trans h.router
  lines := hLines.trans h.lines
  shown hs := (h.shown hs).outside hEngine (kept_cues hKept) (by rw [hFetch])

/-- A target not silenced keeps its record and its owner. -/
theorem State.Silences.ownerOf (h : s.Silences t l) {x : Target} (hx : x ∉ l) : t.ownerOf x = s.ownerOf x := by
  have hFade : t.fadeOf x = s.fadeOf x := by
    unfold State.fadeOf
    rw [h.fades]
    refine (List.find?_filter ..).trans (congrArg (fun q => List.find? q s.fades.pool) (funext fun f => ?_))
    by_cases hf : f.target = x <;> simp [hf, hx]
  unfold State.ownerOf
  rw [hFade]

theorem State.Silences.snap (h : s.Silences t l) {row : Row} {bus : Bus} (hNew : .xpt row bus ∉ l) :
    s.Silences (t.snapLevel (.xpt row bus) offCode) (l ++ [.xpt row bus]) := by
  obtain ⟨hKept, -, -, hFoldback, hRouter, hLines⟩ := State.snapLevel_frame t (.xpt row bus) offCode
  have hMem : ∀ x, x ∈ l ++ [.xpt row bus] ↔ x ∈ l ∨ x = .xpt row bus := fun x => by rw [List.mem_append, List.mem_singleton]
  have hMatrix := snapLevel_matrix (s := t) row bus offCode
  constructor
  case kept => exact hKept.trans h.kept
  case xpt =>
    intro row' bus'
    rw [snapLevel_xpt, h.xpt]
    by_cases hSame : row = row' ∧ bus = bus'
    · obtain ⟨rfl, rfl⟩ := hSame
      rw [if_pos ⟨rfl, rfl⟩, if_pos ((hMem _).mpr (.inr rfl))]
    · have hIff : (Target.xpt row' bus' ∈ l ++ [.xpt row bus]) ↔ Target.xpt row' bus' ∈ l := by
        rw [hMem, or_iff_left fun hEq => hSame (by injection hEq with h1 h2; exact ⟨h1.symm, h2.symm⟩)]
      rw [if_neg hSame]
      simp only [hIff]
  case matrix =>
    have hTrims : (t.snapLevel (.xpt row bus) offCode).matrix = { t.matrix with
        xpts := (t.snapLevel (.xpt row bus) offCode).matrix.xpts } := by rw [hMatrix]; rfl
    rw [h.matrix] at hTrims
    exact hTrims
  case fades =>
    rw [snapLevel_fades, h.fades]
    dsimp only
    rw [List.filter_filter]
    refine congrArg (fun p => ({ s.fades with pool := p } : FadeBlock)) (List.filter_congr fun f _ => ?_)
    rw [← Bool.decide_and]
    exact decide_eq_decide.mpr (by rw [hMem, not_or, and_comm])
  case engine =>
    intro hFiring
    have hNow := h.engine hFiring
    have hSnap := snapLevel_told (s := t) (x := .xpt row bus) (c := offCode)
      (by rw [hNow]; exact (toldAll_firing _ _ _).trans hFiring)
    rw [h.ownerOf hNew, hNow, told_opEvent] at hSnap
    rw [toldAll_append]
    exact hSnap
  case fetch => exact (State.snapLevel_xpt_fetch t row bus offCode).trans h.fetch
  case foldback => exact hFoldback.trans h.foldback
  case router => exact hRouter.trans h.router
  case lines => exact hLines.trans h.lines
  case shown => exact fun hs => (((h.shown hs).removeFade (.xpt row bus)).setXpt row bus offCode :)

/-- Crosspoints silenced one after another. -/
theorem State.Silences.snaps (h : s.Silences t l) (hNodup : (l ++ l').Nodup) (hXpts : ∀ x ∈ l', ∃ row bus, x = .xpt row bus) :
    s.Silences (l'.foldl (fun s x => s.snapLevel x offCode) t) (l ++ l') := by
  induction l' generalizing t l with
  | nil => rw [List.append_nil]; exact h
  | cons x l' ih =>
    obtain ⟨row, bus, rfl⟩ := hXpts x List.mem_cons_self
    rw [List.append_cons] at hNodup ⊢
    have hNew : .xpt row bus ∉ l := fun hm =>
      (List.nodup_append.mp (List.nodup_append.mp hNodup).1).2.2 _ hm _ (List.mem_singleton_self _) rfl
    exact ih (h.snap hNew) hNodup fun y hy => hXpts y (List.mem_cons_of_mem _ hy)

/-! ### The crosspoints of an input row -/

theorem mem_rowTargets {i : InputId} {x : Target} : x ∈ rowTargets i ↔ ∃ bus, x = .xpt (.inp i) bus := by
  unfold rowTargets
  rw [List.mem_map]
  exact ⟨fun ⟨b, _, h⟩ => ⟨b, h.symm⟩, fun ⟨b, h⟩ => ⟨b, mem_allBuses b, h.symm⟩⟩

theorem rowTargets_nodup (i : InputId) : (rowTargets i).Nodup :=
  allBuses_nodup.map fun a b h => by injection h

theorem xpt_mem_rowTargets {i : InputId} {row : Row} {bus : Bus} : .xpt row bus ∈ rowTargets i ↔ row = .inp i := by
  rw [mem_rowTargets]
  exact ⟨fun ⟨b, h⟩ => by injection h, fun h => ⟨bus, by rw [h]⟩⟩

/-- A row silenced after others. -/
theorem State.Silences.row (h : s.Silences t l) (hNodup : l.Nodup) {i : InputId} (hNew : ∀ x ∈ rowTargets i, x ∉ l) :
    s.Silences (t.silenceRow i) (l ++ rowTargets i) :=
  h.snaps (List.nodup_append.mpr ⟨hNodup, rowTargets_nodup i, fun x hx y hy hEq => hNew y hy (hEq ▸ hx)⟩)
    fun x hx => (mem_rowTargets.mp hx).elim fun bus h => ⟨.inp i, bus, h⟩

theorem silenceRow_silences (s : State) (i : InputId) : s.Silences (s.silenceRow i) (rowTargets i) :=
  (State.Silences.refl s).row List.nodup_nil fun _ _ => List.not_mem_nil

end

end Sys2Proof.Machine
end

section
/-! PROOFS. The inputs of a performer set: the entering ones claimed, silenced and tracked, the leaving ones released, and the claims in
their new places (R46, R48, R66). -/

namespace Sys2Proof.Machine

open Sys2Proof

/-- What some element of a list brings about, and the others leave, stands after the list, where an invariant holds throughout. -/
theorem foldl_reaches {α β : Type} {I P : β → Prop} {f : β → α → β} {l : List α} {a : α} {s : β} (hs : I s) (ha : a ∈ l)
    (hInv : ∀ s, ∀ b ∈ l, I s → I (f s b)) (hSet : ∀ s, I s → P (f s a)) (hKeep : ∀ s, ∀ b ∈ l, I s → P s → P (f s b)) :
    P (l.foldl f s) := by
  obtain ⟨before, after, rfl⟩ := List.mem_iff_append.mp ha
  have hBefore : I (before.foldl f s) := foldl_holds_mem before (fun s b hb => hInv s b (List.mem_append_left _ hb)) hs
  rw [List.foldl_append, List.foldl_cons]
  have hAfter : ∀ b ∈ after, b ∈ before ++ a :: after := fun b hb => List.mem_append_right _ (List.mem_cons_of_mem _ hb)
  exact (foldl_holds_mem (P := fun s => I s ∧ P s) after (fun s b hb h => ⟨hInv s b (hAfter b hb) h.1, hKeep s b (hAfter b hb) h.1 h.2⟩)
    ⟨hInv _ a ha hBefore, hSet _ hBefore⟩).2

/-- Of what the shared operations keep, of the supervisor but for the health records, and of the cast table but for the claims,
nothing changes. -/
structure State.Reclaims (s t : State) : Prop where
  kept : t.kept = s.kept
  mic : t.mic = { s.mic with health := t.mic.health }
  cast : t.cast = { s.cast with claims := t.cast.claims }

section
variable {s t u : State} {p : PerfId} {e : InputId × Place} {i : InputId}

theorem State.Reclaims.refl (s : State) : s.Reclaims s := ⟨rfl, rfl, rfl⟩

theorem State.Reclaims.trans (h : s.Reclaims t) (h' : t.Reclaims u) : s.Reclaims u := by
  refine ⟨h'.kept.trans h.kept, ?_, ?_⟩
  · have hMic := h'.mic
    rw [h.mic] at hMic
    exact hMic
  · have hCast := h'.cast
    rw [h.cast] at hCast
    exact hCast

theorem State.Reclaims.perf (h : s.Reclaims t) (q : PerfId) : t.perf q = s.perf q := by
  unfold State.perf
  rw [h.cast]

theorem State.Reclaims.role (h : s.Reclaims t) (r : RoleId) : t.role r = s.role r := by
  unfold State.role
  rw [h.cast]

theorem State.Reclaims.foldl {α : Type} {f : State → α → State} (hf : ∀ (s : State) a, s.Reclaims (f s a)) (l : List α) (h : s.Reclaims t) :
    s.Reclaims (l.foldl f t) := foldl_holds (P := fun t => s.Reclaims t) (fun t a ht => ht.trans (hf t a)) l h

/-! ### One input -/

theorem claimInput_reclaims (s : State) (p : PerfId) (e : InputId × Place) : s.Reclaims (s.claimInput p e) := by
  obtain ⟨-, hCast, hMic, -⟩ := State.silenceRow_frame (s.onCast fun b => { b with claims := put b.claims e.1 (some (p, e.2)) }) e.1
  refine ⟨State.kept_claimInput s p e, ?_, ?_⟩
  · unfold State.claimInput State.track State.raiseMic State.setHealth
    dsimp only
    rw [State.raise_mic, State.onMic_mic, hMic]
    rfl
  · unfold State.claimInput
    rw [(State.track_frame _ _ _).2.2.2.1, hCast]
    rfl

theorem releaseInput_reclaims (s : State) (p : PerfId) (e : InputId × Place) : s.Reclaims (s.releaseInput p e) := by
  refine ⟨State.kept_releaseInput s p e, ?_, ?_⟩
  · unfold State.releaseInput State.untrack State.setHealth
    rw [State.raise_mic, State.onMic_mic]
    rfl
  · unfold State.releaseInput
    rw [(State.untrack_frame _ _ _).2.2.2.1]
    rfl

theorem placeInput_reclaims (s : State) (p : PerfId) (e : InputId × Place) : s.Reclaims (s.placeInput p e) := ⟨rfl, rfl, rfl⟩

theorem claimInput_claim (s : State) (p : PerfId) (e : InputId × Place) (i : InputId) :
    (s.claimInput p e).claim i = if e.1 = i then some (p, e.2) else s.claim i := by
  unfold State.claimInput State.claim
  rw [(State.track_frame _ _ _).2.2.2.1, (State.silenceRow_frame _ _).2.1]
  exact get_put ..

theorem releaseInput_claim (s : State) (p : PerfId) (e : InputId × Place) (i : InputId) :
    (s.releaseInput p e).claim i = if e.1 = i then none else s.claim i := by
  unfold State.releaseInput State.claim
  rw [(State.untrack_frame _ _ _).2.2.2.1]
  exact get_put ..

theorem placeInput_claim (s : State) (p : PerfId) (e : InputId × Place) (i : InputId) :
    (s.placeInput p e).claim i = if e.1 = i then some (p, e.2) else s.claim i := get_put ..

theorem claimInput_health (s : State) (p : PerfId) (e : InputId × Place) (i : InputId) : (s.claimInput p e).health i =
    if e.1 = i then some { staleAt := some (s.now + 48 * s.mic.sup.stale) } else s.health i := by
  obtain ⟨hKept, -, hMic, -⟩ := State.silenceRow_frame (s.onCast fun b => { b with claims := put b.claims e.1 (some (p, e.2)) }) e.1
  unfold State.claimInput State.track State.raiseMic State.health
  dsimp only
  rw [State.raise_mic]
  refine (health_setHealth _ _ _ _).trans ?_
  unfold State.expiry State.health
  rw [hMic, kept_now hKept]
  rfl

theorem releaseInput_health (s : State) (p : PerfId) (e : InputId × Place) (i : InputId) :
    (s.releaseInput p e).health i = if e.1 = i then none else s.health i := by
  unfold State.releaseInput State.untrack State.health
  rw [State.raise_mic]
  exact health_setHealth ..

/-- A row silenced raises CUE reports alone. -/
theorem silenceRow_stands (s : State) (i : InputId) : s.StandsBut (.cue = ·) (s.silenceRow i) :=
  (State.StandsBut.refl s).foldl fun x t _ => (State.StandsBut.refl t).snapLevel rfl x offCode

theorem track_raised (h : t.link.disabled = s.link.disabled) (i : InputId) (p : PerfId) :
    s.Raised (t.track i p) (.mic i) (" perf=" ++ perfText p ++ " event=tracked") := by
  have hText : ∀ x : HealthRec, ∃ before, "!MIC " ++ healthFields i x p ++ " event=" ++ "tracked" =
      before ++ ((" perf=" ++ perfText p ++ " event=tracked") ++ "") := fun x => by
    unfold healthFields
    rw [show " event=tracked" = " event=" ++ "tracked" by decide]
    exact ⟨_, by simp only [← String.append_assoc, String.append_empty]; rfl⟩
  unfold State.track State.raiseMic
  dsimp only
  obtain ⟨before, hEq⟩ := hText { staleAt := some (t.expiry t.mic.sup.stale) }
  rw [hEq]
  exact State.raised_raise (s := s) (t := t.setHealth i _) h _ _ _ _

theorem untrack_raised (h : t.link.disabled = s.link.disabled) (i : InputId) (p : PerfId) :
    s.Raised (t.untrack i p) (.mic i) (" perf=" ++ perfText p ++ " event=released") := by
  have hText : "!MIC " ++ inText i ++
      " state=none cause=none rf=none batt=none pilot=none mute=none bound=none fade=none perf=" ++ perfText p ++ " event=released" =
      ("!MIC " ++ inText i ++ " state=none cause=none rf=none batt=none pilot=none mute=none bound=none fade=none") ++
        ((" perf=" ++ perfText p ++ " event=released") ++ "") := by
    rw [show " state=none cause=none rf=none batt=none pilot=none mute=none bound=none fade=none perf=" =
      " state=none cause=none rf=none batt=none pilot=none mute=none bound=none fade=none" ++ " perf=" by decide]
    simp only [String.append_assoc, String.append_empty]
  unfold State.untrack
  rw [hText]
  exact State.raised_raise (s := s) (t := t.setHealth i none) h _ _ _ _

/-- The tracking of other inputs leaves a MIC report. -/
theorem State.Raised.track {part : String} {j : InputId} (h : s.Raised t (.mic i) part) (hOther : j ≠ i) (p : PerfId) :
    s.Raised (t.track j p) (.mic i) part := by
  unfold State.track State.raiseMic
  exact State.Raised.raise_of_ne (h.congr (u := t.setHealth j _) rfl) (fun hKey => hOther (by injection hKey with hKey; exact hKey.symm)) _

theorem State.Raised.untrack {part : String} {j : InputId} (h : s.Raised t (.mic i) part) (hOther : j ≠ i) (p : PerfId) :
    s.Raised (t.untrack j p) (.mic i) part := by
  unfold State.untrack
  exact State.Raised.raise_of_ne (h.congr (u := t.setHealth j none) rfl) (fun hKey => hOther (by injection hKey with hKey; exact hKey.symm)) _

theorem claimInput_tracked (h : t.kept = s.kept) (p : PerfId) (e : InputId × Place) :
    s.Raised (t.claimInput p e) (.mic e.1) (" perf=" ++ perfText p ++ " event=tracked") := by
  have hRow : ((t.onCast fun b => { b with claims := put b.claims e.1 (some (p, e.2)) }).silenceRow e.1).kept = s.kept :=
    (State.silenceRow_frame _ e.1).1.trans h
  unfold State.claimInput
  generalize (t.onCast fun b => { b with claims := put b.claims e.1 (some (p, e.2)) }).silenceRow e.1 = w at *
  exact track_raised (kept_disabled hRow) e.1 p

theorem releaseInput_released (h : t.kept = s.kept) (p : PerfId) (e : InputId × Place) :
    s.Raised (t.releaseInput p e) (.mic e.1) (" perf=" ++ perfText p ++ " event=released") :=
  untrack_raised (s := s) (t := t.onCast fun b => { b with claims := put b.claims e.1 none }) (kept_disabled (s := s) (t := t) h) e.1 p

/-- The claims and releases of other inputs leave a MIC report. -/
theorem State.Raised.claimInput {part : String} (h : s.Raised t (.mic i) part) (hOther : e.1 ≠ i) (p : PerfId) :
    s.Raised (t.claimInput p e) (.mic i) part := by
  have hRow : s.Raised ((t.onCast fun b => { b with claims := put b.claims e.1 (some (p, e.2)) }).silenceRow e.1) (.mic i) part :=
    State.Raised.stands (h.congr (u := t.onCast fun b => { b with claims := put b.claims e.1 (some (p, e.2)) }) rfl)
      (silenceRow_stands _ e.1) (fun h => by cases h)
  exact hRow.track hOther p

theorem State.Raised.releaseInput {part : String} (h : s.Raised t (.mic i) part) (hOther : e.1 ≠ i) (p : PerfId) :
    s.Raised (t.releaseInput p e) (.mic i) part :=
  (h.congr (u := t.onCast fun b => { b with claims := put b.claims e.1 none }) rfl).untrack hOther p

/-- The row of a claimed input is silenced. -/
theorem State.Silences.claimInput {l : List Target} (h : s.Silences t l) (hNodup : l.Nodup) (p : PerfId) {e : InputId × Place}
    (hNew : ∀ x ∈ rowTargets e.1, x ∉ l) : s.Silences (t.claimInput p e) (l ++ rowTargets e.1) := by
  have hClaimed : s.Silences (t.onCast fun b => { b with claims := put b.claims e.1 (some (p, e.2)) }) l :=
    h.outside rfl rfl rfl rfl rfl rfl rfl rfl
  obtain ⟨hKept, hMatrix, hFades, -, hEngine, hFetch, hFoldback, hRouter, hLines⟩ := State.track_frame
    ((t.onCast fun b => { b with claims := put b.claims e.1 (some (p, e.2)) }).silenceRow e.1) e.1 p
  exact (hClaimed.row hNodup hNew).outside hKept hMatrix hFades hEngine hFetch hFoldback hRouter hLines

theorem State.Silences.releaseInput {l : List Target} (h : s.Silences t l) (p : PerfId) (e : InputId × Place) :
    s.Silences (t.releaseInput p e) l := by
  obtain ⟨hKept, hMatrix, hFades, -, hEngine, hFetch, hFoldback, hRouter, hLines⟩ := State.untrack_frame
    (t.onCast fun b => { b with claims := put b.claims e.1 none }) e.1 p
  exact h.outside hKept hMatrix hFades hEngine hFetch hFoldback hRouter hLines

/-- The rows of several inputs, one after another. -/
def rowsTargets (l : List (InputId × Place)) : List Target := l.flatMap fun e => rowTargets e.1

theorem xpt_mem_rowsTargets {l : List (InputId × Place)} {row : Row} {bus : Bus} :
    .xpt row bus ∈ rowsTargets l ↔ ∃ e ∈ l, row = .inp e.1 := by
  unfold rowsTargets
  rw [List.mem_flatMap]
  exact exists_congr fun e => and_congr_right fun _ => xpt_mem_rowTargets

theorem mem_rowsTargets {l : List (InputId × Place)} {x : Target} : x ∈ rowsTargets l ↔ ∃ e ∈ l, ∃ bus, x = .xpt (.inp e.1) bus := by
  unfold rowsTargets
  rw [List.mem_flatMap]
  exact exists_congr fun e => and_congr_right fun _ => mem_rowTargets

theorem State.Silences.claimInputs {l : List Target} {new : List (InputId × Place)} (h : s.Silences t l) (hNodup : l.Nodup)
    (hApart : (new.map (·.1)).Nodup) (hNew : ∀ e ∈ new, ∀ x ∈ rowTargets e.1, x ∉ l) (p : PerfId) :
    s.Silences (new.foldl (fun s e => s.claimInput p e) t) (l ++ rowsTargets new) := by
  induction new generalizing t l with
  | nil => rw [show rowsTargets [] = [] from rfl, List.append_nil]; exact h
  | cons e new ih =>
    obtain ⟨hFirst, hRest⟩ := List.nodup_cons.mp hApart
    have hHere := hNew e List.mem_cons_self
    have hGrown : (l ++ rowTargets e.1).Nodup :=
      List.nodup_append.mpr ⟨hNodup, rowTargets_nodup e.1, fun x hx y hy hEq => hHere y hy (hEq ▸ hx)⟩
    rw [show rowsTargets (e :: new) = rowTargets e.1 ++ rowsTargets new from rfl, ← List.append_assoc]
    have hStep := h.claimInput hNodup p hHere
    rw [List.foldl_cons]
    generalize t.claimInput p e = w at *
    refine ih hStep hGrown hRest fun d hd x hx hMem => ?_
    rcases List.mem_append.mp hMem with hOld | hSame
    · exact hNew d (List.mem_cons_of_mem _ hd) x hx hOld
    · obtain ⟨b, rfl⟩ := mem_rowTargets.mp hx
      have hInput : d.1 = e.1 := by
        have hRow := xpt_mem_rowTargets.mp hSame
        injection hRow
      exact hFirst (List.mem_map.mpr ⟨d, hd, hInput⟩)

end

/-! ### The inputs of a performer (R43, R48) -/

/-- A performer's record with its inputs set (R48). -/
def Perf.withInputs (x : Perf) (main : Option InputId) (spares : List InputId) : Perf :=
  { x with main := main, spares := spares, active := main, state := if x.modeAuto then .main else .manual, compromised := false }

theorem Perf.inputs_fst (x : Perf) : x.inputs.map (·.1) = x.main.toList ++ x.spares.take 2 := by
  have hZip : ∀ l : List InputId, (l.zip [Place.spare1, Place.spare2]).map (·.1) = l.take 2 := fun l => by
    match l with
    | [] => rfl
    | [_] => rfl
    | _ :: _ :: _ => simp
  unfold Perf.inputs
  rw [List.map_append, hZip]
  cases x.main <;> rfl

theorem Perf.inputs_nodup {x : Perf} (h : (x.main.toList ++ x.spares).Nodup) : (x.inputs.map (·.1)).Nodup := by
  rw [x.inputs_fst]
  exact h.sublist ((List.Sublist.refl _).append (List.take_sublist 2 _))

theorem Perf.mem_inputs {x : Perf} {i : InputId} {place : Place} (h : (i, place) ∈ x.inputs) : i ∈ x.main.toList ++ x.spares := by
  have hMem : i ∈ x.inputs.map (·.1) := List.mem_map_of_mem (f := (·.1)) h
  rw [x.inputs_fst] at hMem
  exact (((List.Sublist.refl _).append (List.take_sublist 2 _)).mem hMem :)

/-- The entries of `l` whose input is in none of `m`. -/
def inputsOnlyIn (l m : List (InputId × Place)) : List (InputId × Place) := l.filter fun e => m.all fun o => o.1 ≠ e.1

theorem mem_inputsOnlyIn {l m : List (InputId × Place)} {i : InputId} {place : Place} :
    (i, place) ∈ inputsOnlyIn l m ↔ (i, place) ∈ l ∧ ∀ old, (i, old) ∉ m := by
  unfold inputsOnlyIn
  rw [List.mem_filter, List.all_eq_true]
  refine and_congr_right fun _ => ⟨fun h old hm => of_decide_eq_true (h _ hm) rfl, fun h o ho => decide_eq_true fun hEq => ?_⟩
  have hEq : o.1 = i := hEq
  exact h o.2 (hEq ▸ ho)

section
variable (s : State) (p : PerfId) (main : Option InputId) (spares : List InputId)

/-- The entries of the inputs a performer gets, of those that enter, and of those that leave. -/
def State.newInputs : List (InputId × Place) := ((s.perf p).withInputs main spares).inputs
def State.entering : List (InputId × Place) := inputsOnlyIn (s.newInputs p main spares) (s.perf p).inputs
def State.leaving : List (InputId × Place) := inputsOnlyIn (s.perf p).inputs (s.newInputs p main spares)

/-- The state in which the entering inputs are claimed, and that in which the leaving ones are released too. -/
def State.claimsEntering : State :=
  (s.entering p main spares).foldl (fun s e => s.claimInput p e) (s.onPerf p fun x => x.withInputs main spares)
def State.releasesLeaving : State := (s.leaving p main spares).foldl (fun s e => s.releaseInput p e) (s.claimsEntering p main spares)
def State.placesInputs : State := (s.newInputs p main spares).foldl (fun s e => s.placeInput p e) (s.releasesLeaving p main spares)

theorem setInputs_eq : s.setInputs p main spares = (s.placesInputs p main spares).raisePerf p "inputs" := by
  have hNew : ((s.onPerf p fun x => x.withInputs main spares).perf p).inputs = s.newInputs p main spares :=
    congrArg Perf.inputs (State.perf_onPerf_same s p _)
  unfold State.placesInputs State.releasesLeaving State.claimsEntering State.entering State.leaving
  rw [← hNew]
  rfl

theorem claimsEntering_reclaims : (s.onPerf p fun x => x.withInputs main spares).Reclaims (s.claimsEntering p main spares) :=
  (State.Reclaims.refl _).foldl (fun s e => claimInput_reclaims s p e) _

theorem releasesLeaving_reclaims : (s.onPerf p fun x => x.withInputs main spares).Reclaims (s.releasesLeaving p main spares) :=
  (claimsEntering_reclaims s p main spares).foldl (fun s e => releaseInput_reclaims s p e) _

theorem placesInputs_reclaims : (s.onPerf p fun x => x.withInputs main spares).Reclaims (s.placesInputs p main spares) :=
  (releasesLeaving_reclaims s p main spares).foldl (fun s e => placeInput_reclaims s p e) _

end

end Sys2Proof.Machine
end

section
/-! PROOFS. What the setting of a performer's inputs leaves in the claims, the supervisor, the matrix, the fades and the engine
(R46, R48, R66). -/

namespace Sys2Proof.Machine

open Sys2Proof

section
variable {s t : State} {p : PerfId} {main : Option InputId} {spares : List InputId} {i : InputId} {place : Place}

theorem mem_entering : (i, place) ∈ s.entering p main spares ↔ (i, place) ∈ s.newInputs p main spares ∧ ∀ old, (i, old) ∉ (s.perf p).inputs :=
  mem_inputsOnlyIn

theorem mem_leaving : (i, place) ∈ s.leaving p main spares ↔ (i, place) ∈ (s.perf p).inputs ∧ ∀ new, (i, new) ∉ s.newInputs p main spares :=
  mem_inputsOnlyIn

/-- An input of one list of entries is not one of another that has none of it. -/
theorem input_apart {l : List (InputId × Place)} {e : InputId × Place} (he : e ∈ l) (h : ∀ x, (i, x) ∉ l) : e.1 ≠ i :=
  fun hEq => h e.2 (hEq ▸ he)

theorem entering_apart (h : ∀ place, (i, place) ∉ s.entering p main spares) : ∀ e ∈ s.entering p main spares, e.1 ≠ i :=
  fun _ he => input_apart he h

theorem setInputs_reclaims (s : State) (p : PerfId) (main : Option InputId) (spares : List InputId) :
    (s.onPerf p fun x => x.withInputs main spares).Reclaims (s.setInputs p main spares) := by
  rw [setInputs_eq]
  refine (placesInputs_reclaims s p main spares).trans ?_
  generalize s.placesInputs p main spares = w
  obtain ⟨hKept, -, -, hCast, hMic, -⟩ := State.raisePerf_frame w p "inputs"
  exact ⟨hKept, by rw [hMic], by rw [hCast]⟩

theorem setInputs_silences (hApart : ((s.newInputs p main spares).map (·.1)).Nodup) :
    s.Silences (s.setInputs p main spares) (rowsTargets (s.entering p main spares)) := by
  have hStart : s.Silences (s.onPerf p fun x => x.withInputs main spares) [] :=
    (State.Silences.refl s).outside rfl rfl rfl rfl rfl rfl rfl rfl
  have hClaimed : s.Silences (s.claimsEntering p main spares) (rowsTargets (s.entering p main spares)) :=
    hStart.claimInputs List.nodup_nil (hApart.sublist (List.Sublist.map _ List.filter_sublist)) (fun _ _ _ _ => List.not_mem_nil) p
  have hReleased : s.Silences (s.releasesLeaving p main spares) (rowsTargets (s.entering p main spares)) :=
    foldl_holds (P := fun t => s.Silences t (rowsTargets (s.entering p main spares))) (fun t e ht => ht.releaseInput p e) _ hClaimed
  have hPlaced : s.Silences (s.placesInputs p main spares) (rowsTargets (s.entering p main spares)) :=
    foldl_holds (P := fun t => s.Silences t (rowsTargets (s.entering p main spares)))
      (f := fun t e => t.placeInput p e) (fun t e ht => ht.outside rfl rfl rfl rfl rfl rfl rfl rfl) _ hReleased
  rw [setInputs_eq]
  generalize s.placesInputs p main spares = w at *
  obtain ⟨hKept, hMatrix, hFades, -, -, hEngine, hFetch, hFoldback, hRouter, hLines⟩ := State.raisePerf_frame w p "inputs"
  exact hPlaced.outside hKept hMatrix hFades hEngine hFetch hFoldback hRouter hLines

/-- A PERF report of an event, as raised (R80). -/
def State.PerfTold (s t : State) (p : PerfId) (event : String) : Prop :=
  s.Raised t (.perf p) ("!PERF " ++ perfText p) ∧ s.Raised t (.perf p) (" event=" ++ event)

theorem perfTold (h : t.link.disabled = s.link.disabled) (p : PerfId) (event : String) : s.PerfTold (t.raisePerf p event) p event := by
  have hRaised := raisePerf_raised h p event
  refine ⟨hRaised.part (before := "") (after := " state=" ++ perfStateText (t.perf p).state ++ " active=" ++
    optText inText (t.perf p).active ++ " compromised=" ++ yesNo (t.perf p).compromised ++ " role=" ++ optText roleText (t.perf p).role ++
    " event=" ++ event) (by simp [String.append_assoc]), hRaised.part (after := "") (before := "!PERF " ++ perfText p ++ " state=" ++
    perfStateText (t.perf p).state ++ " active=" ++ optText inText (t.perf p).active ++ " compromised=" ++ yesNo (t.perf p).compromised ++
    " role=" ++ optText roleText (t.perf p).role) (by simp [String.append_assoc])⟩

/-! ### The claims -/

theorem setInputs_claim (s : State) (p : PerfId) (main : Option InputId) (spares : List InputId) (i : InputId) :
    (s.setInputs p main spares).claim i = (s.placesInputs p main spares).claim i := by
  unfold State.claim
  rw [setInputs_eq, (State.raisePerf_frame _ _ _).2.2.2.1]

theorem setInputs_claimed (hApart : ((s.newInputs p main spares).map (·.1)).Nodup) (h : (i, place) ∈ s.newInputs p main spares) :
    (s.setInputs p main spares).claim i = some (p, place) := by
  rw [setInputs_claim]
  unfold State.placesInputs
  refine foldl_reaches (I := fun _ => True) (P := fun t : State => t.claim i = some (p, place)) (a := (i, place)) trivial h
    (fun _ _ _ _ => trivial) (fun t _ => (placeInput_claim t p _ i).trans (if_pos rfl)) fun t e he _ ht => ?_
  rw [placeInput_claim]
  split
  · rename_i hEq
    rw [List.inj_on_of_nodup_map hApart he h hEq]
  · exact ht

/-- The places of other inputs leave a claim. -/
theorem placesInputs_claim (h : ∀ x, (i, x) ∉ s.newInputs p main spares) :
    (s.setInputs p main spares).claim i = (s.releasesLeaving p main spares).claim i := by
  rw [setInputs_claim]
  exact foldl_holds_mem (P := fun t : State => t.claim i = (s.releasesLeaving p main spares).claim i) _
    (fun t e he ht => ((placeInput_claim t p e i).trans (if_neg (input_apart he h))).trans ht) rfl

theorem setInputs_freed (h : (i, place) ∈ s.leaving p main spares) : (s.setInputs p main spares).claim i = none := by
  rw [placesInputs_claim (mem_leaving.mp h).2]
  refine foldl_reaches (I := fun _ => True) (P := fun t : State => t.claim i = none) (a := (i, place)) trivial h
    (fun _ _ _ _ => trivial) (fun t _ => (releaseInput_claim t p _ i).trans (if_pos rfl)) fun t e he _ ht => ?_
  rw [releaseInput_claim, ht, ite_self]

theorem setInputs_unclaimed (hNew : ∀ x, (i, x) ∉ s.newInputs p main spares) (hOld : ∀ x, (i, x) ∉ (s.perf p).inputs) :
    (s.setInputs p main spares).claim i = s.claim i := by
  have hEntering : ∀ x, (i, x) ∉ s.entering p main spares := fun x h => hNew x (mem_entering.mp h).1
  have hLeaving : ∀ x, (i, x) ∉ s.leaving p main spares := fun x h => hOld x (mem_leaving.mp h).1
  rw [placesInputs_claim hNew]
  have hClaimed : (s.claimsEntering p main spares).claim i = s.claim i :=
    foldl_holds_mem (P := fun t : State => t.claim i = s.claim i) _
      (fun t e he ht => ((claimInput_claim t p e i).trans (if_neg (input_apart he hEntering))).trans ht) rfl
  exact foldl_holds_mem (P := fun t : State => t.claim i = s.claim i) _
    (fun t e he ht => ((releaseInput_claim t p e i).trans (if_neg (input_apart he hLeaving))).trans ht) hClaimed

/-! ### The health records and the MIC reports -/

/-- The claims in their places and the PERF report leave the health records and the MIC reports. -/
theorem placesInputs_mic (s : State) (p : PerfId) (main : Option InputId) (spares : List InputId) :
    (s.placesInputs p main spares).mic = (s.releasesLeaving p main spares).mic ∧
      (s.placesInputs p main spares).link = (s.releasesLeaving p main spares).link :=
  foldl_holds (P := fun t : State => t.mic = (s.releasesLeaving p main spares).mic ∧ t.link = (s.releasesLeaving p main spares).link)
    (f := fun t e => t.placeInput p e) (fun _ _ ht => ht) _ ⟨rfl, rfl⟩

theorem setInputs_health (s : State) (p : PerfId) (main : Option InputId) (spares : List InputId) (i : InputId) :
    (s.setInputs p main spares).health i = (s.releasesLeaving p main spares).health i := by
  unfold State.health
  rw [setInputs_eq, (State.raisePerf_frame _ _ _).2.2.2.2.1, (placesInputs_mic s p main spares).1]

theorem setInputs_mic_raised {part : String} (h : s.Raised (s.releasesLeaving p main spares) (.mic i) part) :
    s.Raised (s.setInputs p main spares) (.mic i) part := by
  rw [setInputs_eq]
  exact (h.congr (congrArg LinkBlock.reports (placesInputs_mic s p main spares).2)).raise_of_ne (fun h => by cases h) _

/-- An input tracked: its record as it begins, and its report (R66). -/
def State.Tracks (s t : State) (p : PerfId) (i : InputId) : Prop :=
  t.health i = some { staleAt := some (s.now + 48 * s.mic.sup.stale) } ∧ s.Raised t (.mic i) (" perf=" ++ perfText p ++ " event=tracked")

/-- An input released: no record, and its report (R66). -/
def State.Untracks (s t : State) (p : PerfId) (i : InputId) : Prop :=
  t.health i = none ∧ s.Raised t (.mic i) (" perf=" ++ perfText p ++ " event=released")

theorem setInputs_tracked (hApart : ((s.newInputs p main spares).map (·.1)).Nodup) (h : (i, place) ∈ s.entering p main spares) :
    s.Tracks (s.setInputs p main spares) p i := by
  have hSet : ∀ t : State, (s.onPerf p fun x => x.withInputs main spares).Reclaims t → s.Tracks (t.claimInput p (i, place)) p i := by
    intro t ht
    refine ⟨(claimInput_health t p _ i).trans ((if_pos rfl).trans ?_), claimInput_tracked (e := (i, place)) ht.kept p⟩
    rw [kept_now ht.kept, ht.mic]
    rfl
  have hClaimed : s.Tracks (s.claimsEntering p main spares) p i := by
    refine foldl_reaches (I := fun t : State => (s.onPerf p fun x => x.withInputs main spares).Reclaims t)
      (P := fun t : State => s.Tracks t p i) (a := (i, place)) (.refl _) h
      (fun t e _ ht => ht.trans (claimInput_reclaims t p e)) hSet fun t e he ht hP => ?_
    by_cases hEq : e.1 = i
    · rw [List.inj_on_of_nodup_map hApart (List.mem_of_mem_filter he) (List.mem_of_mem_filter h) hEq]
      exact hSet t ht
    · exact ⟨(claimInput_health t p e i).trans ((if_neg hEq).trans hP.1), hP.2.claimInput hEq p⟩
  have hReleased : s.Tracks (s.releasesLeaving p main spares) p i :=
    foldl_holds_mem (P := fun t : State => s.Tracks t p i) _ (fun t e he ht => by
      have hOther : e.1 ≠ i := input_apart (List.mem_of_mem_filter he) (mem_entering.mp h).2
      exact ⟨(releaseInput_health t p e i).trans ((if_neg hOther).trans ht.1), ht.2.releaseInput hOther p⟩) hClaimed
  exact ⟨(setInputs_health s p main spares i).trans hReleased.1, setInputs_mic_raised hReleased.2⟩

theorem setInputs_released (h : (i, place) ∈ s.leaving p main spares) : s.Untracks (s.setInputs p main spares) p i := by
  have hReleased : s.Untracks (s.releasesLeaving p main spares) p i := by
    have hSet : ∀ (t : State) (e : InputId × Place), e.1 = i → t.kept = s.kept → s.Untracks (t.releaseInput p e) p i := by
      rintro t e rfl ht
      exact ⟨(releaseInput_health t p e e.1).trans (if_pos rfl), releaseInput_released ht p e⟩
    refine foldl_reaches (I := fun t : State => t.kept = s.kept) (P := fun t : State => s.Untracks t p i) (a := (i, place))
      (claimsEntering_reclaims s p main spares).kept h (fun t e _ ht => (releaseInput_reclaims t p e).kept.trans ht)
      (fun t ht => hSet t _ rfl ht) fun t e _ ht hP => ?_
    by_cases hEq : e.1 = i
    · exact hSet t e hEq ht
    · exact ⟨(releaseInput_health t p e i).trans ((if_neg hEq).trans hP.1), hP.2.releaseInput hEq p⟩
  exact ⟨(setInputs_health s p main spares i).trans hReleased.1, setInputs_mic_raised hReleased.2⟩

theorem setInputs_untouched (hEntering : ∀ x, (i, x) ∉ s.entering p main spares) (hLeaving : ∀ x, (i, x) ∉ s.leaving p main spares) :
    (s.setInputs p main spares).health i = s.health i := by
  rw [setInputs_health]
  have hClaimed : (s.claimsEntering p main spares).health i = s.health i :=
    foldl_holds_mem (P := fun t : State => t.health i = s.health i) _
      (fun t e he ht => ((claimInput_health t p e i).trans (if_neg (input_apart he hEntering))).trans ht) rfl
  exact foldl_holds_mem (P := fun t : State => t.health i = s.health i) _
    (fun t e he ht => ((releaseInput_health t p e i).trans (if_neg (input_apart he hLeaving))).trans ht) hClaimed

/-- The PERF report of new inputs (R48, R80). -/
theorem setInputs_told (s : State) (p : PerfId) (main : Option InputId) (spares : List InputId) :
    s.PerfTold (s.setInputs p main spares) p "inputs" := by
  rw [setInputs_eq]
  exact perfTold (kept_disabled (placesInputs_reclaims s p main spares).kept) p "inputs"

end

end Sys2Proof.Machine
end

section
/-! PROOFS. PERF: the fields set, then the mode, and then selection where the active input is DOWN (R47, R48, R79, R81). -/

namespace Sys2Proof.Machine

open Sys2Proof

section
variable {s t u b : State} {p : PerfId} {i : InputId}

/-! ### Selection -/

/-- Selection depends on the cast table and the supervisor, and of the cast table on no claim. -/
theorem State.Selected.congr (h : s.Selected t p) (hPerf : ∀ q, u.perf q = s.perf q) (hRole : ∀ r, u.role r = s.role r) (hMic : u.mic = s.mic) :
    u.Selected t p := by
  have hHealth : ∀ i, u.health i = s.health i := fun i => by unfold State.health; rw [hMic]
  have hBatt : ∀ i, u.lowBatt i = s.lowBatt i := fun i => by unfold State.lowBatt; rw [hHealth]
  have hRf : ∀ i, u.rfOf i = s.rfOf i := fun i => by unfold State.rfOf; rw [hHealth]
  have hSource : ∀ r, u.rowSource r = s.rowSource r := fun r => by unfold State.rowSource; simp only [hPerf, hRole]
  unfold State.Selected State.ChangesTo at *
  simp only [hPerf, hRole, hHealth, hBatt, hRf, hSource]
  exact h

theorem State.Selected.congr_right (h : s.Selected t p) (hCast : u.cast = t.cast) : s.Selected u p := by
  unfold State.Selected State.ChangesTo State.perf State.role at *
  rw [hCast]
  exact h

/-- Selection leaves all of a performer but its active input, state and flag, and the holders and names of the roles. -/
theorem State.Selected.fields (h : s.Selected t p) : t.perf p = { s.perf p with
      active := (t.perf p).active, state := (t.perf p).state, compromised := (t.perf p).compromised } ∧
    ∀ r, (t.role r).holder = (s.role r).holder ∧ (t.role r).name = (s.role r).name := by
  obtain ⟨hIdle, hActive⟩ := h
  cases hAt : (s.perf p).active with
  | none =>
    obtain ⟨hPerf, hRole⟩ := hIdle hAt
    exact ⟨by rw [hPerf], fun r => by rw [hRole r]; exact ⟨rfl, rfl⟩⟩
  | some i =>
    obtain ⟨hNone, hSome⟩ := hActive i _ hAt rfl
    by_cases hEmpty : (s.perf p).inputs.filter (fun e => (s.health e.1).any (fun h => h.state = .good) && e.1 ≠ i) = []
    · obtain ⟨hRole, hPerf⟩ := hNone hEmpty
      exact ⟨by rw [hPerf], fun r => by rw [hRole r]; exact ⟨rfl, rfl⟩⟩
    · obtain ⟨e, _, _, _, _, _, _, hPerf, hFades, hStands⟩ := hSome hEmpty
      refine ⟨by rw [hPerf], fun r => ?_⟩
      by_cases hMoves : (s.perf p).role = some r ∧ (s.perf p).active ≠ some e.1
      · rw [hFades r hMoves.1 hMoves.2]
        exact ⟨rfl, rfl⟩
      · rw [hStands r (by by_cases hr : (s.perf p).role = some r
                          · exact .inr (not_not.mp fun hne => hMoves ⟨hr, hne⟩)
                          · exact .inl hr)]
        exact ⟨rfl, rfl⟩

theorem isGood_of_isDown (h : s.isDown i = true) : s.isGood i = false := by
  unfold State.isDown State.isGood at *
  cases hAt : s.health i with
  | none => rfl
  | some x =>
    rw [hAt] at h
    have hDown : x.state = .down := of_decide_eq_true h
    show decide (x.state = .good) = false
    rw [hDown]
    rfl

theorem selectIfDown_idle (h : ∀ i, (s.perf p).modeAuto = true → (s.perf p).active = some i → s.isDown i = false) : s.selectIfDown p = s := by
  unfold State.selectIfDown
  have hIdle : ((s.perf p).modeAuto && (s.perf p).active.any s.isDown) = false := by
    cases hAuto : (s.perf p).modeAuto with
    | false => rfl
    | true =>
      cases hActive : (s.perf p).active with
      | none => rfl
      | some i => exact h i hAuto hActive
  rw [hIdle]
  rfl

theorem selectIfDown_eq (hAuto : (s.perf p).modeAuto = true) (hActive : (s.perf p).active = some i) (hDown : s.isDown i = true) :
    s.selectIfDown p = (s.select p).1.raisePerfIf p (s.select p).2 := by
  unfold State.selectIfDown
  rw [hAuto, hActive, Option.any_some, hDown]
  rfl

/-! ### The mode (R49, R79) -/

/-- The mode a PERF carries set, and then selection, where it carries inputs (R47, R81). -/
def State.staged (b : State) (p : PerfId) (auto : Option Bool) (inputs : Bool) : State :=
  if inputs then (auto.elim b (b.setMode p)).selectIfDown p else auto.elim b (b.setMode p)

/-- The performer whose selection may follow: just set to AUTO, or as it stands. -/
def State.inMode (b : State) (p : PerfId) (auto : Option Bool) : State := if auto = some true then b.inAuto p else b

/-- What calls for selection: an active input that is not GOOD, of a performer set to AUTO, and one that is DOWN among new inputs. -/
def State.Wants (b : State) (p : PerfId) (auto : Option Bool) (inputs : Bool) : Prop :=
  ∃ i, (b.perf p).active = some i ∧ (auto = some true ∧ b.isGood i = false ∨ inputs = true ∧ b.isDown i = true)

/-- What the mode, and the selection after it, make of a performer. -/
structure State.Staged (b t : State) (p : PerfId) (auto : Option Bool) (inputs : Bool) : Prop where
  only : b.OnlyPerf t p
  fields : t.perf p = { b.perf p with
    modeAuto := auto.getD (b.perf p).modeAuto, active := (t.perf p).active, state := (t.perf p).state, compromised := (t.perf p).compromised }
  holders : ∀ r, (t.role r).holder = (b.role r).holder ∧ (t.role r).name = (b.role r).name
  manual : auto.getD (b.perf p).modeAuto = false → t.perf p = { b.perf p with
      modeAuto := false, state := if (b.perf p).modeAuto = true then .manual else (b.perf p).state } ∧ (∀ r, t.role r = b.role r) ∧
    ((b.perf p).modeAuto = true → b.PerfTold t p "manual")
  selects : auto.getD (b.perf p).modeAuto = true → b.Wants p auto inputs → (b.inMode p auto).Selected t p
  stands : auto.getD (b.perf p).modeAuto = true → ¬b.Wants p auto inputs → t.perf p = (b.inMode p auto).perf p ∧
    (∀ r, t.role r = b.role r) ∧ (auto = some true → b.PerfTold t p "auto") ∧ (auto = none → t = b)

theorem raisePerf_cast (s : State) (p : PerfId) (event : String) : (s.raisePerf p event).cast = s.cast := (State.raisePerf_frame s p event).2.2.2.1

/-- A performer's mode set to MANUAL (R49). -/
theorem staged_manual (inputs : Bool) : b.Staged (b.staged p (some false) inputs) p (some false) inputs := by
  have hPerf : (b.setMode p false).perf p = { b.perf p with
      modeAuto := false, state := if (b.perf p).modeAuto = true then .manual else (b.perf p).state } ∧
      (∀ r, (b.setMode p false).role r = b.role r) ∧ ((b.perf p).modeAuto = true → b.PerfTold (b.setMode p false) p "manual") ∧
      b.OnlyPerf (b.setMode p false) p := by
    unfold State.setMode
    rw [if_neg (by decide)]
    by_cases hAuto : (b.perf p).modeAuto = true
    · rw [if_pos hAuto, if_pos hAuto]
      have hSet : (b.onPerf p fun x => { x with modeAuto := false, state := .manual }).perf p =
          { b.perf p with modeAuto := false, state := .manual } := State.perf_onPerf_same b p _
      have hOthers : ∀ q, q ≠ p → (b.onPerf p fun x => { x with modeAuto := false, state := .manual }).perf q = b.perf q := fun q hq =>
        (perf_onPerf _ _ _ _).trans (if_neg (Ne.symm hq))
      have hRoles : ∀ r, (b.onPerf p fun x => { x with modeAuto := false, state := .manual }).role r = b.role r := fun _ => rfl
      have hCast : (b.onPerf p fun x => { x with modeAuto := false, state := .manual }).cast = { b.cast with
          perfs := (b.onPerf p fun x => { x with modeAuto := false, state := .manual }).cast.perfs
          roles := (b.onPerf p fun x => { x with modeAuto := false, state := .manual }).cast.roles } := rfl
      have hDisabled : (b.onPerf p fun x => { x with modeAuto := false, state := .manual }).link.disabled = b.link.disabled := rfl
      generalize b.onPerf p (fun x => { x with modeAuto := false, state := .manual }) = w at *
      have hTold := perfTold hDisabled p "manual"
      have hPerfs : ∀ q, (w.raisePerf p "manual").perf q = w.perf q := fun q => congrArg (fun c : CastBlock => c.perfs.get q) (raisePerf_cast w p _)
      have hRolesToo : ∀ r, (w.raisePerf p "manual").role r = w.role r := fun r => congrArg (fun c : CastBlock => c.roles.get r) (raisePerf_cast w p _)
      refine ⟨(hPerfs p).trans hSet, fun r => (hRolesToo r).trans (hRoles r), fun _ => hTold, ?_, fun q hq => (hPerfs q).trans (hOthers q hq)⟩
      rw [raisePerf_cast]
      exact hCast
    · rw [if_neg hAuto, if_neg hAuto]
      refine ⟨?_, fun _ => rfl, fun h => absurd h hAuto, rfl, fun _ _ => rfl⟩
      rw [← Bool.eq_false_iff.mpr hAuto]
  obtain ⟨hPerf, hRole, hTold, hOnly⟩ := hPerf
  have hStaged : b.staged p (some false) inputs = b.setMode p false := by
    unfold State.staged
    cases inputs with
    | false => rfl
    | true => exact selectIfDown_idle fun i hAuto => by rw [Option.elim_some, hPerf] at hAuto; cases hAuto
  rw [hStaged]
  exact ⟨hOnly, by rw [hPerf]; rfl, fun r => by rw [hRole r]; exact ⟨rfl, rfl⟩, fun _ => ⟨hPerf, hRole, hTold⟩, fun h => (by cases h),
    fun h => by cases h⟩

/-- The mode left as it is (R47, R81). -/
theorem staged_none (inputs : Bool) : b.Staged (b.staged p none inputs) p none inputs := by
  by_cases hWants : (b.perf p).modeAuto = true ∧ b.Wants p none inputs
  · obtain ⟨hAuto, i, hActive, hNot | ⟨rfl, hDown⟩⟩ := hWants
    · exact absurd hNot.1 (fun h => by cases h)
    · have hEq : b.staged p none true = (b.select p).1.raisePerfIf p (b.select p).2 := selectIfDown_eq hAuto hActive hDown
      have hCast : (b.staged p none true).cast = (b.select p).1.cast := by
        rw [hEq]
        exact (State.raisePerfIf_frame (s := (b.select p).1) p (b.select p).2).2.2.2.1
      have hSelected : b.Selected (b.staged p none true) p := (State.select_selected b p).congr_right hCast
      obtain ⟨hFields, hHolders⟩ := hSelected.fields
      have hOnly : b.OnlyPerf (b.staged p none true) p := by
        have hOnly := State.select_onlyPerf b p
        unfold State.OnlyPerf State.perf at *
        rw [hCast]
        exact hOnly
      refine ⟨hOnly, hFields, hHolders, fun h => ?_, fun _ _ => hSelected, fun _ h => absurd ⟨i, hActive, .inr ⟨rfl, hDown⟩⟩ h⟩
      rw [Option.getD_none, hAuto] at h
      cases h
  · have hStands : b.staged p none inputs = b := by
      unfold State.staged
      cases inputs with
      | false => rfl
      | true =>
        refine selectIfDown_idle fun i hAuto hActive => Bool.eq_false_iff.mpr fun hDown => hWants ?_
        exact ⟨hAuto, i, hActive, .inr ⟨rfl, hDown⟩⟩
    rw [hStands]
    refine ⟨⟨rfl, fun _ _ => rfl⟩, rfl, fun _ => ⟨rfl, rfl⟩, fun h => ?_, fun h hw => absurd ⟨h, hw⟩ hWants,
      fun _ _ => ⟨rfl, fun _ => rfl, fun h => (by cases h), fun _ => rfl⟩⟩
    have hManual : (b.perf p).modeAuto = false := h
    refine ⟨?_, fun _ => rfl, fun h => by rw [hManual] at h; cases h⟩
    rw [if_neg (by rw [hManual]; decide), ← hManual]

/-- After selection the active input is DOWN only where no input is GOOD, and then a second selection changes nothing (R75). -/
theorem selected_again (hActive : (b.perf p).active = some i) (hBad : b.isGood i = false) (hSelected : (b.inAuto p).Selected t p)
    (hMic : t.mic = b.mic) : t.selectIfDown p = t := by
  have hGood : ∀ j, t.isGood j = b.isGood j := fun j => by unfold State.isGood State.health; rw [hMic]
  obtain ⟨hNone, hSome⟩ := inAuto_selected hActive hBad hSelected
  by_cases hEmpty : b.candidates (b.perf p) = []
  · have hPerf := hNone hEmpty
    by_cases hDown : t.isDown i = true
    · have hNow : (t.perf p).active = some i := by rw [hPerf]; exact hActive
      have hNoCandidates : t.candidates (t.perf p) = [] := by
        rw [hPerf]
        unfold State.candidates at *
        simp only [hGood]
        exact hEmpty
      have hWinner : t.winner (t.shortlist (t.candidates (t.perf p))) = none := by rw [hNoCandidates]; rfl
      have hState : (t.perf p).state = t.stayState p i := by
        unfold State.stayState
        rw [if_neg (by rw [hGood, hBad]; decide), hPerf]
      have hSelect := select_stays hNow hWinner
      rw [if_pos hState] at hSelect
      rw [selectIfDown_eq (by rw [hPerf]) hNow hDown, hSelect]
      rfl
    · refine selectIfDown_idle fun j _ hj => ?_
      have hSame : j = i := by
        rw [hPerf] at hj
        exact Option.some.inj (hj.symm.trans hActive)
      rw [hSame]
      exact Bool.eq_false_iff.mpr hDown
  · obtain ⟨e, before, after, hSplit, -, -, -, hPerf⟩ := hSome hEmpty
    refine selectIfDown_idle fun j _ hj => ?_
    have hSame : e.1 = j := by rw [hPerf] at hj; exact Option.some.inj hj
    have hMem : e ∈ b.candidates (b.perf p) := by rw [hSplit]; exact List.mem_append_right _ List.mem_cons_self
    have hTaken : b.isGood e.1 = true := (of_decide_eq_true (List.mem_filter.mp hMem).2).1
    refine Bool.eq_false_iff.mpr fun hDown => ?_
    have hNot := isGood_of_isDown hDown
    rw [hGood, ← hSame, hTaken] at hNot
    cases hNot

/-- A performer's mode set to AUTO (R79). -/
theorem staged_auto (inputs : Bool) : b.Staged (b.staged p (some true) inputs) p (some true) inputs := by
  obtain ⟨w, hEq, hDisabled, hOnly, hStands, hSelects⟩ := setAuto_forms b p
  have hMicCast : (b.setAuto p).mic = b.mic ∧ (b.setAuto p).cast = w.cast := by
    refine ⟨(State.setAuto_frame b p).2.2.2.1, ?_⟩
    rw [hEq, raisePerf_cast]
  have hTold : b.PerfTold (b.setAuto p) p "auto" := by rw [hEq]; exact perfTold hDisabled p "auto"
  have hPerfs : ∀ q, (b.setAuto p).perf q = w.perf q := fun q => by unfold State.perf; rw [hMicCast.2]
  have hRoles : ∀ r, (b.setAuto p).role r = w.role r := fun r => by unfold State.role; rw [hMicCast.2]
  have hOnlyAuto : b.OnlyPerf (b.setAuto p) p := by
    unfold State.OnlyPerf State.perf at *
    rw [hMicCast.2]
    exact hOnly
  by_cases hBad : ∃ i, (b.perf p).active = some i ∧ b.isGood i = false
  · obtain ⟨i, hActive, hBad⟩ := hBad
    have hSelected : (b.inAuto p).Selected (b.setAuto p) p := (hSelects i hActive hBad).congr_right hMicCast.2
    have hStaged : b.staged p (some true) inputs = b.setAuto p := by
      unfold State.staged
      cases inputs with
      | false => rfl
      | true => exact selected_again hActive hBad hSelected hMicCast.1
    rw [hStaged]
    obtain ⟨hFields, hHolders⟩ := hSelected.fields
    rw [inAuto_perf] at hFields
    exact ⟨hOnlyAuto, hFields, hHolders, fun h => (by cases h), fun _ _ => hSelected, fun _ h => absurd ⟨i, hActive, .inl ⟨rfl, hBad⟩⟩ h⟩
  · have hGood : ∀ i, (b.perf p).active = some i → b.isGood i = true := fun i hi =>
      Bool.of_not_eq_false fun h => hBad ⟨i, hi, h⟩
    obtain rfl := hStands hGood
    have hPerf : (b.setAuto p).perf p = { b.perf p with modeAuto := true, state := placeState (b.perf p).activePlace } :=
      (hPerfs p).trans (inAuto_perf b p)
    have hNotDown : ∀ i, (b.perf p).active = some i → b.isDown i = false := fun i hi => Bool.eq_false_iff.mpr fun hDown => by
      have hNot := isGood_of_isDown hDown
      rw [hGood i hi] at hNot
      cases hNot
    have hStaged : b.staged p (some true) inputs = b.setAuto p := by
      unfold State.staged
      cases inputs with
      | false => rfl
      | true =>
        refine selectIfDown_idle fun i _ hi => ?_
        have hDown : (b.setAuto p).isDown i = b.isDown i := by unfold State.isDown State.health; rw [hMicCast.1]
        have hAt : (b.perf p).active = some i := by
          have hNow := (congrArg Perf.active hPerf).symm.trans hi
          exact hNow
        exact hDown.trans (hNotDown i hAt)
    rw [hStaged]
    refine ⟨hOnlyAuto, by rw [hPerf]; rfl, fun r => by rw [hRoles r]; exact ⟨rfl, rfl⟩, fun h => (by cases h), fun _ ⟨i, hi, hWhy⟩ => ?_,
      fun _ _ => ⟨hPerfs p, hRoles, fun _ => hTold, fun h => by cases h⟩⟩
    rcases hWhy with ⟨-, hNot⟩ | ⟨-, hDown⟩
    · rw [hGood i hi] at hNot; cases hNot
    · rw [hNotDown i hi] at hDown; cases hDown

theorem staged_spec (b : State) (p : PerfId) (auto : Option Bool) (inputs : Bool) : b.Staged (b.staged p auto inputs) p auto inputs := by
  match auto with
  | none => exact staged_none inputs
  | some false => exact staged_manual inputs
  | some true => exact staged_auto inputs

end

end Sys2Proof.Machine
end

section
/-! PROOFS. PERF, its fields and its inputs together (R46 to R49). -/

namespace Sys2Proof.Machine

open Sys2Proof

section
variable {s t u b d w : State} {p : PerfId} {i : InputId}

/-! ### What the mode and selection leave -/

/-- A change of the cast table and of the PERF report of `p` alone, which tells `p`'s PERF where one was told. -/
structure State.Recasts (s t : State) (p : PerfId) : Prop where
  kept : t.kept = s.kept
  matrix : t.matrix = s.matrix
  fades : t.fades = s.fades
  mic : t.mic = s.mic
  engine : t.engine = s.engine
  fetch : t.fetch = s.fetch
  foldback : t.foldback = s.foldback
  router : t.router = s.router
  lines : t.lines = s.lines
  reports : s.StandsBut (.perf p = ·) t
  heads : s.Raised s (.perf p) ("!PERF " ++ perfText p) → s.Raised t (.perf p) ("!PERF " ++ perfText p)

theorem State.Recasts.refl (s : State) (p : PerfId) : s.Recasts s p := ⟨rfl, rfl, rfl, rfl, rfl, rfl, rfl, rfl, rfl, .refl s, id⟩

theorem State.Recasts.trans (h : s.Recasts t p) (h' : t.Recasts u p) : s.Recasts u p where
  kept := h'.kept.trans h.kept
  matrix := h'.matrix.trans h.matrix
  fades := h'.fades.trans h.fades
  mic := h'.mic.trans h.mic
  engine := h'.engine.trans h.engine
  fetch := h'.fetch.trans h.fetch
  foldback := h'.foldback.trans h.foldback
  router := h'.router.trans h.router
  lines := h'.lines.trans h.lines
  reports := h.reports.trans h'.reports
  heads hs := (h'.heads ((h.heads hs).origin (kept_disabled h.kept))).origin (kept_disabled h.kept).symm

theorem raisePerf_recasts (s : State) (p : PerfId) (event : String) : s.Recasts (s.raisePerf p event) p := by
  obtain ⟨hKept, hMatrix, hFades, -, hMic, hEngine, hFetch, hFoldback, hRouter, hLines⟩ := State.raisePerf_frame s p event
  exact ⟨hKept, hMatrix, hFades, hMic, hEngine, hFetch, hFoldback, hRouter, hLines, (State.StandsBut.refl s).raise rfl _,
    fun _ => (perfTold rfl p event).1⟩

theorem onPerf_recasts (s : State) (p : PerfId) (f : Perf → Perf) : s.Recasts (s.onPerf p f) p :=
  ⟨rfl, rfl, rfl, rfl, rfl, rfl, rfl, rfl, rfl, .refl s, id⟩

theorem changeover_recasts (s : State) (p : PerfId) (i : InputId) : s.Recasts (s.changeover p i) p := by
  unfold State.changeover
  dsimp only
  split
  · exact .refl s p
  · split <;> exact ⟨rfl, rfl, rfl, rfl, rfl, rfl, rfl, rfl, rfl, fun _ hr _ => hr, id⟩

theorem select_recasts (s : State) (p : PerfId) : s.Recasts (s.select p).1 p := by
  unfold State.select
  dsimp only
  split
  · exact .refl s p
  · split
    · exact (changeover_recasts s p _).trans (onPerf_recasts _ p _)
    · generalize (if s.isGood _ = true then placeState (s.perf p).activePlace else PerfState.alarm) = state
      split
      · exact .refl s p
      · exact onPerf_recasts s p _

theorem setMode_recasts (s : State) (p : PerfId) (auto : Bool) : s.Recasts (s.setMode p auto) p := by
  have hAuto : s.Recasts (s.setAuto p) p := by
    unfold State.setAuto
    dsimp only
    refine State.Recasts.trans ?_ (raisePerf_recasts _ p _)
    split
    · exact onPerf_recasts s p _
    · split
      · exact onPerf_recasts s p _
      · exact (onPerf_recasts s p _).trans (select_recasts _ p)
  unfold State.setMode
  split
  · exact hAuto
  · split
    · exact (onPerf_recasts s p _).trans (raisePerf_recasts _ p _)
    · exact .refl s p

theorem selectIfDown_recasts (s : State) (p : PerfId) : s.Recasts (s.selectIfDown p) p := by
  have hTold : ∀ (t : State) (e : Option String), t.Recasts (t.raisePerfIf p e) p := fun t e => by
    cases e with
    | none => exact .refl t p
    | some e => exact raisePerf_recasts t p e
  unfold State.selectIfDown
  split
  · exact (select_recasts s p).trans (hTold _ _)
  · exact .refl s p

theorem staged_recasts (b : State) (p : PerfId) (auto : Option Bool) (inputs : Bool) : b.Recasts (b.staged p auto inputs) p := by
  have hMode : b.Recasts (auto.elim b (b.setMode p)) p := by
    cases auto with
    | none => exact .refl b p
    | some auto => exact setMode_recasts b p auto
  unfold State.staged
  split
  · exact hMode.trans (selectIfDown_recasts _ p)
  · exact hMode

/-! ### The inputs taken -/

/-- What new inputs of a performer do in every block: `s` before them, `d` after. -/
structure State.TakesInputs (s d : State) (p : PerfId) : Prop where
  silences : s.Silences d (rowsTargets (inputsOnlyIn (d.perf p).inputs (s.perf p).inputs))
  mic : d.mic = { s.mic with health := d.mic.health }
  claimed : ∀ i place, (i, place) ∈ (d.perf p).inputs → d.claim i = some (p, place)
  freed : ∀ i old, (i, old) ∈ (s.perf p).inputs → (∀ place, (i, place) ∉ (d.perf p).inputs) → d.claim i = none
  unclaimed : ∀ i, (∀ place, (i, place) ∉ (d.perf p).inputs) → (∀ old, (i, old) ∉ (s.perf p).inputs) → d.claim i = s.claim i
  tracked : ∀ i place, (i, place) ∈ (d.perf p).inputs → (∀ old, (i, old) ∉ (s.perf p).inputs) → s.Tracks d p i
  released : ∀ i old, (i, old) ∈ (s.perf p).inputs → (∀ place, (i, place) ∉ (d.perf p).inputs) → s.Untracks d p i
  untouched : ∀ i, ((∃ place, (i, place) ∈ (d.perf p).inputs) ↔ ∃ old, (i, old) ∈ (s.perf p).inputs) → d.health i = s.health i
  told : s.Raised d (.perf p) ("!PERF " ++ perfText p)

theorem setInputs_perf (s : State) (p : PerfId) (main : Option InputId) (spares : List InputId) :
    (s.setInputs p main spares).perf p = (s.perf p).withInputs main spares :=
  ((setInputs_reclaims s p main spares).perf p).trans (State.perf_onPerf_same s p _)

theorem setInputs_takes {main : Option InputId} {spares : List InputId} (h : (main.toList ++ spares).Nodup) :
    s.TakesInputs (s.setInputs p main spares) p := by
  have hNew : ((s.setInputs p main spares).perf p).inputs = s.newInputs p main spares := congrArg Perf.inputs (setInputs_perf s p main spares)
  have hApart : ((s.newInputs p main spares).map (·.1)).Nodup := Perf.inputs_nodup (x := (s.perf p).withInputs main spares) h
  constructor
  case silences => rw [hNew]; exact setInputs_silences hApart
  case mic => exact (setInputs_reclaims s p main spares).mic
  case told => exact (setInputs_told s p main spares).1
  all_goals rw [hNew]
  case claimed => exact fun i place h => setInputs_claimed hApart h
  case freed => exact fun i old h hNone => setInputs_freed (mem_leaving.mpr ⟨h, hNone⟩)
  case unclaimed => exact fun i hNone hOld => setInputs_unclaimed hNone hOld
  case tracked => exact fun i place h hOld => setInputs_tracked hApart (mem_entering.mpr ⟨h, hOld⟩)
  case released => exact fun i old h hNone => setInputs_released (mem_leaving.mpr ⟨h, hNone⟩)
  case untouched =>
    refine fun i hIff => setInputs_untouched (fun x hx => ?_) fun x hx => ?_
    · obtain ⟨h, hNone⟩ := mem_entering.mp hx
      obtain ⟨old, hOld⟩ := hIff.mp ⟨x, h⟩
      exact hNone old hOld
    · obtain ⟨h, hNone⟩ := mem_leaving.mp hx
      obtain ⟨place, hNow⟩ := hIff.mpr ⟨x, h⟩
      exact hNone place hNow

/-- A performer's other fields do not matter to the inputs taken, before them and after. -/
theorem State.TakesInputs.before {f : Perf → Perf} (h : (s.onPerf p f).TakesInputs d p) (hf : (f (s.perf p)).inputs = (s.perf p).inputs) :
    s.TakesInputs d p := by
  have hOld : ((s.onPerf p f).perf p).inputs = (s.perf p).inputs := (congrArg Perf.inputs (State.perf_onPerf_same s p f)).trans hf
  obtain ⟨hSilences, hMic, hClaimed, hFreed, hUnclaimed, hTracked, hReleased, hUntouched, hTold⟩ := h
  rw [hOld] at *
  obtain ⟨hKept, hXpt, hMatrix, hFades, hEngine, hFetch, hFoldback, hRouter, hLines, hShown⟩ := hSilences
  exact ⟨⟨hKept, hXpt, hMatrix, hFades, hEngine, hFetch, hFoldback, hRouter, hLines, fun hs => hShown (hs.outside rfl rfl rfl)⟩, hMic,
    hClaimed, hFreed, hUnclaimed, hTracked, hReleased, hUntouched, hTold⟩

theorem State.TakesInputs.after {f : Perf → Perf} (h : s.TakesInputs d p) (hf : (f (d.perf p)).inputs = (d.perf p).inputs) :
    s.TakesInputs (d.onPerf p f) p := by
  have hNew : ((d.onPerf p f).perf p).inputs = (d.perf p).inputs := (congrArg Perf.inputs (State.perf_onPerf_same d p f)).trans hf
  obtain ⟨hSilences, hMic, hClaimed, hFreed, hUnclaimed, hTracked, hReleased, hUntouched, hTold⟩ := h
  constructor
  case silences => rw [hNew]; exact hSilences.outside rfl rfl rfl rfl rfl rfl rfl rfl
  case mic => exact hMic
  case told => exact hTold
  all_goals rw [hNew]
  case claimed => exact hClaimed
  case freed => exact hFreed
  case unclaimed => exact hUnclaimed
  case tracked => exact hTracked
  case released => exact hReleased
  case untouched => exact hUntouched

/-- The mode and the selection after it leave what the inputs did. -/
theorem State.TakesInputs.staged {auto : Option Bool} {inputs : Bool} (h : s.TakesInputs d p) (hStaged : d.Staged t p auto inputs)
    (hRecasts : d.Recasts t p) : s.TakesInputs t p := by
  have hNew : (t.perf p).inputs = (d.perf p).inputs := by rw [hStaged.fields]; rfl
  have hClaim : ∀ i, t.claim i = d.claim i := fun i => by unfold State.claim; rw [hStaged.only.1]
  have hHealth : ∀ i, t.health i = d.health i := fun i => by unfold State.health; rw [hRecasts.mic]
  have hRaised : ∀ {i part}, s.Raised d (.mic i) part → s.Raised t (.mic i) part := fun h => h.stands hRecasts.reports fun hKey => by cases hKey
  obtain ⟨hSilences, hMic, hClaimed, hFreed, hUnclaimed, hTracked, hReleased, hUntouched, hTold⟩ := h
  have hDisabled : s.link.disabled = d.link.disabled := (kept_disabled hSilences.kept).symm
  constructor
  case silences =>
    rw [hNew]
    exact hSilences.outside hRecasts.kept hRecasts.matrix hRecasts.fades hRecasts.engine hRecasts.fetch hRecasts.foldback
      hRecasts.router hRecasts.lines
  case mic => rw [hRecasts.mic]; exact hMic
  case told => exact (hRecasts.heads (hTold.origin hDisabled.symm)).origin hDisabled
  all_goals rw [hNew]
  case claimed => exact fun i place h => (hClaim i).trans (hClaimed i place h)
  case freed => exact fun i old h hNone => (hClaim i).trans (hFreed i old h hNone)
  case unclaimed => exact fun i hNone hOld => (hClaim i).trans (hUnclaimed i hNone hOld)
  case tracked => exact fun i place h hOld => (hTracked i place h hOld).imp (fun h => (hHealth i).trans h) hRaised
  case released => exact fun i old h hNone => (hReleased i old h hNone).imp (fun h => (hHealth i).trans h) hRaised
  case untouched => exact fun i hIff => (hHealth i).trans (hUntouched i hIff)

/-! ### The fields (R47) -/

section
variable (s : State) (p : PerfId) (a : PerfArgs) (f : PerfFields)

/-- A performer's record with the fields that are no input and no mode (R47). -/
def Perf.withFields (x : Perf) : Perf :=
  { x with trim := (a.trim.map trimLevel).getD x.trim, zone := f.zone.getD x.zone, revertAuto := a.revertAuto.getD x.revertAuto }

/-- The name and the inputs set. -/
def State.patched : State :=
  if hasInputs a then (s.onPerf p fun x => { x with name := a.name.getD x.name }).setInputs p f.main f.spares
  else s.onPerf p fun x => { x with name := a.name.getD x.name }

/-- Every field set but the mode. -/
def State.dressed : State := (s.patched p a f).onPerf p fun x => x.withFields a f

theorem applyPerf_eq : s.applyPerf p a f = (s.dressed p a f).staged p a.modeAuto (hasInputs a) := by
  unfold State.applyPerf State.dressed State.patched State.staged
  cases hasInputs a <;> cases a.modeAuto <;> rfl

theorem patched_perf : (s.patched p a f).perf p = if hasInputs a = true then
    { (s.perf p).withInputs f.main f.spares with name := a.name.getD (s.perf p).name } else { s.perf p with name := a.name.getD (s.perf p).name } := by
  unfold State.patched
  split
  · rw [setInputs_perf, State.perf_onPerf_same]
    rfl
  · exact State.perf_onPerf_same s p _

theorem dressed_perf : (s.dressed p a f).perf p = if hasInputs a = true then
    { ((s.perf p).withInputs f.main f.spares).withFields a f with name := a.name.getD (s.perf p).name }
    else { (s.perf p).withFields a f with name := a.name.getD (s.perf p).name } := by
  unfold State.dressed
  rw [State.perf_onPerf_same, patched_perf]
  split <;> rfl

theorem dressed_perf_ne {q : PerfId} (hq : q ≠ p) : (s.dressed p a f).perf q = s.perf q := by
  have hSet : ∀ (t : State) g, (t.onPerf p g).perf q = t.perf q := fun t g => (perf_onPerf _ _ _ _).trans (if_neg (Ne.symm hq))
  unfold State.dressed State.patched
  rw [hSet]
  split
  · rw [(setInputs_reclaims _ p f.main f.spares).perf q, hSet, hSet]
  · exact hSet _ _

theorem dressed_role (r : RoleId) : (s.dressed p a f).role r = s.role r := by
  unfold State.dressed State.patched
  rw [State.role_onPerf]
  split
  · rw [(setInputs_reclaims _ p f.main f.spares).role r]
    rfl
  · rfl

theorem dressed_takes (hInputs : hasInputs a = true) (h : (f.main.toList ++ f.spares).Nodup) : s.TakesInputs (s.dressed p a f) p := by
  unfold State.dressed State.patched
  rw [if_pos hInputs]
  exact (State.TakesInputs.before (setInputs_takes h) rfl).after rfl

theorem dressed_told (hInputs : hasInputs a = true) : s.PerfTold (s.dressed p a f) p "inputs" := by
  unfold State.dressed State.patched
  rw [if_pos hInputs]
  exact setInputs_told (s.onPerf p fun x => { x with name := a.name.getD x.name }) p f.main f.spares

theorem dressed_fields (hInputs : hasInputs a = false) : s.dressed p a f = { s with cast := (s.dressed p a f).cast } ∧
    (s.dressed p a f).cast.claims = s.cast.claims ∧ (s.dressed p a f).kept = s.kept := by
  unfold State.dressed State.patched
  rw [if_neg (by rw [hInputs]; decide)]
  exact ⟨rfl, rfl, rfl⟩

end

/-- The active input of a performer with new inputs is its main (R48, R74). -/
theorem withInputs_place (x : Perf) (main : Option InputId) (spares : List InputId) :
    placeState (x.withInputs main spares).activePlace = .main := by
  cases main with
  | none => rfl
  | some m =>
    unfold Perf.activePlace Perf.inputs Perf.withInputs
    simp [placeState]

end

end Sys2Proof.Machine
end

section
/-! PROOFS. The checks of PERF, and its line as accepted (R47). -/

namespace Sys2Proof.Machine

open Sys2Proof

section
variable {s : State} {a : PerfArgs} {p : PerfId} {main : Option InputId} {spares : List InputId} {zone : Option ZoneId}

theorem nums_nil {n : Nat} {l : List Nat} (h : nums n l = some []) : l = [] := by
  cases l with
  | nil => rfl
  | cons k l =>
    unfold nums at h
    rw [List.mapM_cons] at h
    cases hHead : ofNum n k with
    | none => rw [hHead] at h; cases h
    | some i =>
      rw [hHead] at h
      cases hTail : l.mapM (ofNum n) with
      | none => rw [hTail] at h; cases h
      | some r => rw [hTail] at h; cases h

/-- Spares come with a main input (R47, check 1). -/
theorem sparesAlone_false (hMain : a.main = none ∧ main = (s.perf p).main ∨ ∃ m, a.main = some m ∧ optNum 64 m = some main)
    (hSpares : a.spares = none ∧ spares = (s.perf p).spares ∨ ∃ l, a.spares = some l ∧ l.length ≤ 2 ∧ nums 64 l = some spares)
    (hLone : spares ≠ [] → main ≠ none) : sparesAlone a (some (s.perf p)) = false := by
  unfold sparesAlone
  by_cases hEmpty : spares = []
  · refine Bool.and_eq_false_iff.mpr (.inl ?_)
    rcases hSpares with ⟨hNone, hEq⟩ | ⟨l, hSome, -, hNums⟩
    · rw [hNone]
      show (!(s.perf p).spares.isEmpty) = false
      rw [← hEq, hEmpty]
      rfl
    · rw [hEmpty] at hNums
      rw [hSome, nums_nil hNums]
      rfl
  · refine Bool.and_eq_false_iff.mpr (.inr ?_)
    have hHas : main.isSome = true := Option.isSome_iff_ne_none.mpr (hLone hEmpty)
    rcases hMain with ⟨hNone, hEq⟩ | ⟨m, hSome, hNum⟩
    · rw [hNone]
      show (!(s.perf p).main.isSome) = false
      rw [← hEq, hHas]
      rfl
    · rw [hSome]
      cases m with
      | none =>
        rw [← Option.some.inj hNum] at hHas
        cases hHas
      | some k => rfl

theorem nameLength_ok (hName : ∀ n, a.name = some n → n.all nameChar = true ∧ n.length ≤ 12) : a.name.all nameAllowed = true ∧
    (a.name.any fun n => Config.nameChars < n.length) = false := by
  cases hAt : a.name with
  | none => exact ⟨rfl, rfl⟩
  | some n =>
    obtain ⟨hChars, hLength⟩ := hName n hAt
    exact ⟨hChars, decide_eq_false (Nat.not_lt.mpr hLength)⟩

/-- PERF with every check passed (R47). -/
theorem setPerf_eq (hField : hasField a = true) (hp : ofNum 48 a.perf = some p)
    (hName : ∀ n, a.name = some n → n.all nameChar = true ∧ n.length ≤ 12)
    (hMain : a.main = none ∧ main = (s.perf p).main ∨ ∃ m, a.main = some m ∧ optNum 64 m = some main)
    (hSpares : a.spares = none ∧ spares = (s.perf p).spares ∨ ∃ l, a.spares = some l ∧ l.length ≤ 2 ∧ nums 64 l = some spares)
    (hZone : a.zone = none ∧ zone = (s.perf p).zone ∨ ∃ z, a.zone = some z ∧ optNum 24 z = some zone)
    (hLone : spares ≠ [] → main ≠ none) (hApart : (main.toList ++ spares).Nodup)
    (hFree : hasInputs a = true → (s.perf p).role = none) (hUse : ∀ i ∈ main.toList ++ spares, s.usedElsewhere p i = false) :
    ∃ z : Option (Option ZoneId), z.getD (s.perf p).zone = zone ∧
      setPerf a s = (s.applyPerf p a { main := main, spares := spares, zone := z }).replies fun s => s.perfLine p := by
  obtain ⟨hChars, hLength⟩ := nameLength_ok hName
  have hAlone := sparesAlone_false hMain hSpares hLone
  have hShort : (a.spares.any fun l => decide (2 < l.length)) = false := by
    rcases hSpares with ⟨hNone, -⟩ | ⟨l, hSome, hLen, -⟩
    · rw [hNone]; rfl
    · rw [hSome]; exact decide_eq_false (Nat.not_lt.mpr hLen)
  have hRole : (hasInputs a && (s.perf p).role.isSome) = false := by
    cases hInputs : hasInputs a with
    | false => rfl
    | true => rw [hFree hInputs]; rfl
  have hUsed : (main.toList ++ spares).any (s.usedElsewhere p) = false := by
    rw [List.any_eq_false]
    exact fun i hi => by rw [hUse i hi]; decide
  unfold setPerf
  rw [hField, hChars, hShort, hp, Option.map_some, hAlone, hLength]
  simp only [Bool.not_true, refuseIf_false, ok_bind, need_some]
  have hTail : ∀ z : Option (Option ZoneId), (do
      refuseIf (!decide (main.toList ++ spares).Nodup) .duplicate
      refuseIf (hasInputs a && (s.perf p).role.isSome) .inRole
      refuseIf ((main.toList ++ spares).any (s.usedElsewhere p)) .claimed
      (s.applyPerf p a { main := main, spares := spares, zone := z }).replies fun s => s.perfLine p : Answer) =
      (s.applyPerf p a { main := main, spares := spares, zone := z }).replies fun s => s.perfLine p := fun z => by
    rw [decide_eq_true hApart, hRole, hUsed]
    rfl
  have hNeed : ∀ {β : Type} {o : Option β} {v : β}, o = some v → need ErrCode.range o = .ok v := fun h => by rw [h, need_some]
  have hZones : ∃ z : Option (Option ZoneId), z.getD (s.perf p).zone = zone ∧
      (a.zone = none ∧ z = none ∨ ∃ y, a.zone = some y ∧ optNum 24 y = some zone ∧ z = some zone) := by
    rcases hZone with ⟨hNone, hEq⟩ | ⟨y, hSome, hNum⟩
    · exact ⟨none, hEq.symm, .inl ⟨hNone, rfl⟩⟩
    · exact ⟨some zone, rfl, .inr ⟨y, hSome, hNum, rfl⟩⟩
  obtain ⟨z, hGet, hZone⟩ := hZones
  refine ⟨z, hGet, Eq.trans ?_ (hTail z)⟩
  clear hTail hUsed hRole hAlone hLength hChars hApart hUse hLone hFree hGet hShort hName
  -- Each of the three fields is absent, and stands, or in its range.
  rcases hMain with ⟨hMain, rfl⟩ | ⟨m, hMain, hMainIs⟩ <;>
    rcases hSpares with ⟨hSpares, rfl⟩ | ⟨l, hSpares, -, hSparesAre⟩ <;>
    rcases hZone with ⟨hZone, rfl⟩ | ⟨y, hZone, hZoneIs, rfl⟩ <;>
    simp only [*, need_some, ok_bind, Except.map]

/-! ### An accepted PERF -/

variable {f : PerfFields}

theorem dressed_shown (h : s.Shown false) (hApart : (f.main.toList ++ f.spares).Nodup) : (s.dressed p a f).Shown false := by
  by_cases hInputs : hasInputs a = true
  · exact (dressed_takes s p a f hInputs hApart).silences.shown h
  · have hAt := (dressed_fields s p a f (Bool.eq_false_iff.mpr hInputs)).1
    exact h.outside (by rw [hAt]) (by rw [hAt]) (by rw [hAt])

theorem dressed_mic (hApart : (f.main.toList ++ f.spares).Nodup) : (s.dressed p a f).kept = s.kept ∧
    (s.dressed p a f).mic = { s.mic with health := (s.dressed p a f).mic.health } := by
  by_cases hInputs : hasInputs a = true
  · have hTakes := dressed_takes s p a f hInputs hApart
    exact ⟨hTakes.silences.kept, hTakes.mic⟩
  · obtain ⟨hAt, -, hKept⟩ := dressed_fields s p a f (Bool.eq_false_iff.mpr hInputs)
    exact ⟨hKept, by rw [hAt]⟩

theorem dressed_modeAuto (s : State) (p : PerfId) (a : PerfArgs) (f : PerfFields) :
    ((s.dressed p a f).perf p).modeAuto = (s.perf p).modeAuto := by
  rw [dressed_perf]
  split <;> rfl

theorem dressed_active (s : State) (p : PerfId) (a : PerfArgs) (f : PerfFields) :
    ((s.dressed p a f).perf p).active = (if hasInputs a = true then f.main else (s.perf p).active) ∧
      ((s.dressed p a f).perf p).compromised = (if hasInputs a = true then false else (s.perf p).compromised) := by
  rw [dressed_perf]
  split <;> exact ⟨rfl, rfl⟩

/-- The place of the active input with the fields set: the main of new inputs, and otherwise as it stood. -/
theorem dressed_place (s : State) (p : PerfId) (a : PerfArgs) (f : PerfFields) : placeState ((s.dressed p a f).perf p).activePlace =
    if hasInputs a = true then .main else placeState (s.perf p).activePlace := by
  rw [dressed_perf]
  split
  · exact withInputs_place (s.perf p) f.main f.spares
  · rfl

/-- The blocks that new inputs leave (R46). -/
theorem dressed_blocks (hApart : (f.main.toList ++ f.spares).Nodup) : (s.dressed p a f).matrix.trims = s.matrix.trims ∧
    (s.dressed p a f).matrix.clips = s.matrix.clips ∧ (s.dressed p a f).fades.snaps = s.fades.snaps ∧ (s.dressed p a f).fetch = s.fetch ∧
    (s.dressed p a f).router = s.router ∧ (s.dressed p a f).lines = s.lines ∧ (s.dressed p a f).foldback = s.foldback := by
  by_cases hInputs : hasInputs a = true
  · have hSilences := (dressed_takes s p a f hInputs hApart).silences
    exact ⟨by rw [hSilences.matrix], by rw [hSilences.matrix], by rw [hSilences.fades], hSilences.fetch, hSilences.router,
      hSilences.lines, hSilences.foldback⟩
  · have hAt := (dressed_fields s p a f (Bool.eq_false_iff.mpr hInputs)).1
    rw [hAt]
    exact ⟨rfl, rfl, rfl, rfl, rfl, rfl, rfl⟩

/-- The record with its fields set; a main and spares no input field carries are those there are (R47). -/
theorem dressed_sets (hMain : hasInputs a = false → f.main = (s.perf p).main) (hSpares : hasInputs a = false → f.spares = (s.perf p).spares) :
    (s.dressed p a f).perf p = { (s.dressed p a f).perf p with
      name := a.name.getD (s.perf p).name, main := f.main, spares := f.spares, trim := (a.trim.map trimLevel).getD (s.perf p).trim,
      zone := f.zone.getD (s.perf p).zone, revertAuto := a.revertAuto.getD (s.perf p).revertAuto, role := (s.perf p).role } := by
  rw [dressed_perf]
  split
  · rfl
  · rename_i hInputs
    rw [hMain (Bool.eq_false_iff.mpr hInputs), hSpares (Bool.eq_false_iff.mpr hInputs)]
    rfl

theorem dressed_state (s : State) (p : PerfId) (a : PerfArgs) (f : PerfFields) : ((s.dressed p a f).perf p).state =
    if hasInputs a = true then (if (s.perf p).modeAuto = true then .main else .manual) else (s.perf p).state := by
  rw [dressed_perf]
  split <;> rfl

theorem placeState_eq (x : Option Place) : placeState x = if x = some .spare1 ∨ x = some .spare2 then .spare else .main := by
  match x with
  | none => rfl
  | some .main => rfl
  | some .spare1 => rfl
  | some .spare2 => rfl

end

section
variable {s b t u : State} {p : PerfId} {a : PerfArgs} {f : PerfFields}

/-- Reading a performer back from the state the statement selects from. -/
theorem perf_of_put {x : Perf} {m : MicBlock} (hAt : u = { s with mic := m, cast := { s.cast with perfs := put s.cast.perfs p x } }) :
    u.perf p = x ∧ (∀ q, q ≠ p → u.perf q = s.perf q) ∧ (∀ r, u.role r = s.role r) ∧ u.mic = m := by
  subst hAt
  exact ⟨get_put_same .., fun q hq => get_put_ne _ _ _ _ (Ne.symm hq), fun _ => rfl, rfl⟩

end

section
variable {s d t u : State} {p : PerfId} {a : PerfArgs} {f : PerfFields}

/-- The performer once set, in AUTO, is the one that selection starts from (R48, R79). -/
theorem dressed_inMode (hAuto : a.modeAuto.getD ((s.dressed p a f).perf p).modeAuto = true) {st : PerfState}
    (hInputs : hasInputs a = true → st = .main)
    (hSet : hasInputs a = false → a.modeAuto = some true →
      st = if (s.perf p).activePlace = some .spare1 ∨ (s.perf p).activePlace = some .spare2 then .spare else .main)
    (hStands : hasInputs a = false → a.modeAuto = none → st = (s.perf p).state) :
    ((s.dressed p a f).inMode p a.modeAuto).perf p = { (s.dressed p a f).perf p with modeAuto := true, state := st } := by
  unfold State.inMode
  have hWas := dressed_modeAuto s p a f
  have hPlace := dressed_place s p a f
  cases hMode : a.modeAuto with
  | none =>
    rw [if_neg (fun h => by cases h)]
    rw [hMode, Option.getD_none, hWas] at hAuto
    have hState : ((s.dressed p a f).perf p).state = st := by
      cases hCarries : hasInputs a with
      | false =>
        rw [dressed_perf, if_neg (by rw [hCarries]; decide), hStands hCarries hMode]
        rfl
      | true =>
        rw [dressed_perf, if_pos hCarries, hInputs hCarries]
        exact if_pos hAuto
    rw [← hState, ← hAuto, ← hWas]
  | some auto =>
    obtain rfl : auto = true := by rw [hMode] at hAuto; exact hAuto
    rw [if_pos rfl, inAuto_perf, hPlace]
    cases hCarries : hasInputs a with
    | false => rw [if_neg (by decide), placeState_eq, hSet hCarries hMode]
    | true => rw [if_pos rfl, hInputs hCarries]

/-- What calls for selection, read from the records as they then are. -/
theorem wants_iff {active : Option InputId} {auto : Option Bool} {inputs : Bool} (hActive : active = (d.perf p).active) (hMic : t.mic = d.mic) :
    (∃ i, active = some i ∧ (auto = some true ∧ (∀ h, t.health i = some h → h.state ≠ .good) ∨
      inputs = true ∧ ∃ h, t.health i = some h ∧ h.state = .down)) ↔ d.Wants p auto inputs := by
  have hGood : ∀ i, (∀ h, t.health i = some h → h.state ≠ .good) ↔ d.isGood i = false := fun i => by
    unfold State.isGood State.health
    rw [hMic]
    cases d.mic.health.get i <;> simp
  have hDown : ∀ i, (∃ h, t.health i = some h ∧ h.state = .down) ↔ d.isDown i = true := fun i => by
    unfold State.isDown State.health
    rw [hMic]
    cases d.mic.health.get i <;> simp
  unfold State.Wants
  simp only [hActive, hGood, hDown]

/-- The state the statement selects from reads as the one the mode leaves, but for the claims. -/
theorem inMode_reads {active : Option InputId} {compromised : Bool} {st : PerfState} (hd : d = s.dressed p a f)
    (hStaged : d.Staged t p a.modeAuto (hasInputs a)) (hMic : t.mic = d.mic)
    (hAuto : a.modeAuto.getD (d.perf p).modeAuto = true) (hActive : active = (d.perf p).active) (hFlag : compromised = (d.perf p).compromised)
    (hAt : (d.inMode p a.modeAuto).perf p = { d.perf p with modeAuto := true, state := st })
    (hu : u = { s with mic := t.mic, cast := { s.cast with
      perfs := put s.cast.perfs p { t.perf p with active := active, state := st, compromised := compromised } } }) :
    (∀ q, u.perf q = (d.inMode p a.modeAuto).perf q) ∧ (∀ r, u.role r = (d.inMode p a.modeAuto).role r) ∧
      u.mic = (d.inMode p a.modeAuto).mic := by
  obtain ⟨hPerf, hOthers, hRoles, hMicNow⟩ := perf_of_put hu
  have hMode : (d.inMode p a.modeAuto).mic = d.mic ∧ (∀ r, (d.inMode p a.modeAuto).role r = d.role r) ∧
      ∀ q, q ≠ p → (d.inMode p a.modeAuto).perf q = d.perf q := by
    unfold State.inMode
    split
    · exact ⟨rfl, fun _ => rfl, (inAuto_onlyPerf d p).2⟩
    · exact ⟨rfl, fun _ => rfl, fun _ _ => rfl⟩
  obtain ⟨hModeMic, hModeRole, hModePerf⟩ := hMode
  refine ⟨fun q => ?_, fun r => ?_, hMicNow.trans (hMic.trans hModeMic.symm)⟩
  · by_cases hq : q = p
    · subst hq
      rw [hPerf, hAt, hStaged.fields, hAuto, hActive, hFlag]
    · rw [hOthers q hq, hModePerf q hq, hd, dressed_perf_ne s p a f hq]
  · rw [hRoles r, hModeRole r, hd, dressed_role]

/-- What new inputs leave in the matrix, the fades, the engine and the supervisor, once the operation has ended (R46). -/
theorem State.TakesInputs.leaves (h : s.TakesInputs t p) (hEvent : s.engine.opEvent = none) :
    (∀ i place bus, (i, place) ∈ (t.perf p).inputs → (∀ old, (i, old) ∉ (s.perf p).inputs) → t.xpt (.inp i) bus = -180) ∧
    (∀ row bus, (∀ i place, row = .inp i → (i, place) ∈ (t.perf p).inputs → ∃ old, (i, old) ∈ (s.perf p).inputs) →
      t.xpt row bus = s.xpt row bus) ∧
    (∀ f, f ∈ t.fades.pool ↔ f ∈ s.fades.pool ∧ ∀ i bus place, f.target = .xpt (.inp i) bus → (i, place) ∈ (t.perf p).inputs →
      ∃ old, (i, old) ∈ (s.perf p).inputs) ∧
    (s.engine.firing = none → { t.engine with opEvent := none } =
      (((t.perf p).inputs.filter fun e => (s.perf p).inputs.all fun o => o.1 ≠ e.1).flatMap fun e => rowTargets e.1).foldl
        (fun b target => b.told ((s.fadeOf target).bind (·.owner))) s.engine) := by
  have hSilences := h.silences
  refine ⟨fun i place bus hNew hOld => ?_, fun row bus hStays => ?_, fun g => ?_, fun hFiring => ?_⟩
  · exact (hSilences.xpt _ bus).trans (if_pos (xpt_mem_rowsTargets.mpr ⟨(i, place), mem_inputsOnlyIn.mpr ⟨hNew, hOld⟩, rfl⟩))
  · refine (hSilences.xpt row bus).trans (if_neg fun hMem => ?_)
    obtain ⟨e, he, hRow⟩ := xpt_mem_rowsTargets.mp hMem
    obtain ⟨hNew, hNone⟩ := mem_inputsOnlyIn.mp he
    obtain ⟨old, hOld⟩ := hStays e.1 e.2 hRow hNew
    exact hNone old hOld
  · rw [hSilences.fades]
    refine List.mem_filter.trans (and_congr_right fun _ => decide_eq_true_iff.trans ⟨fun hApart i bus place hTarget hNew => ?_,
      fun hStays hMem => ?_⟩)
    · by_contra hNone
      exact hApart (mem_rowsTargets.mpr ⟨(i, place), mem_inputsOnlyIn.mpr ⟨hNew, fun old hOld => hNone ⟨old, hOld⟩⟩, bus, hTarget⟩)
    · obtain ⟨e, he, bus, hTarget⟩ := mem_rowsTargets.mp hMem
      obtain ⟨hNew, hNone⟩ := mem_inputsOnlyIn.mp he
      obtain ⟨old, hOld⟩ := hStays e.1 bus e.2 hTarget hNew
      exact hNone old hOld
  · have hTold := toldAll_event hEvent s (rowsTargets (inputsOnlyIn (t.perf p).inputs (s.perf p).inputs))
    have hEngine := hSilences.engine hFiring
    refine Eq.trans (b := s.engine.toldAll s (rowsTargets (inputsOnlyIn (t.perf p).inputs (s.perf p).inputs))) ?_ rfl
    rw [hEngine]
    generalize s.engine.toldAll s (rowsTargets (inputsOnlyIn (t.perf p).inputs (s.perf p).inputs)) = b at *
    have hIdle : ({ b with opEvent := none } : EngineBlock) = b := by rw [← hTold]
    exact hIdle

end

end Sys2Proof.Machine

namespace Sys2Proof.Proofs

open Sys2Proof Sys2Proof.Machine

/-- Settles O26: the fields and inputs set, then the mode, and selection from the performer so set. -/
theorem perfSetsRecord : Obligations.PerfSetsRecord := by
  refine ⟨fun s tag a p main spares zone hReady hField hp hName hMain hSpares hZone hLone hApart hFree hUse => ?_, fun s i => ?_⟩
  · obtain ⟨z, hz, hAnswer⟩ := setPerf_eq hField hp hName hMain hSpares hZone hLone hApart hFree hUse
    rw [applyPerf_eq] at hAnswer
    have hShown := dressed_shown (s := s) (p := p) (a := a) (f := { main := main, spares := spares, zone := z }) hReady.2.shown hApart
    obtain ⟨hKeptD, hMicD⟩ := dressed_mic (s := s) (p := p) (a := a) (f := { main := main, spares := spares, zone := z }) hApart
    have hFields : hasInputs a = false → a.main = none ∧ a.spares = none := fun h =>
      (Bool.or_eq_false_iff.mp h).imp Option.isSome_eq_false_iff.mp Option.isSome_eq_false_iff.mp |>.imp Option.isNone_iff_eq_none.mp
        Option.isNone_iff_eq_none.mp
    have hSets := dressed_sets (s := s) (p := p) (a := a) (f := { main := main, spares := spares, zone := z })
      (fun h => (hMain.resolve_right fun ⟨m, hm, _⟩ => by rw [(hFields h).1] at hm; cases hm).2)
      (fun h => (hSpares.resolve_right fun ⟨l, hl, _⟩ => by rw [(hFields h).2] at hl; cases hl).2)
    have hBlocks := dressed_blocks (s := s) (p := p) (a := a) (f := { main := main, spares := spares, zone := z }) hApart
    have hState := dressed_state s p a { main := main, spares := spares, zone := z }
    have hOthersD := fun q (hq : q ≠ p) => dressed_perf_ne s p a { main := main, spares := spares, zone := z } hq
    have hRoleD := dressed_role s p a { main := main, spares := spares, zone := z }
    have hTakes := fun h => dressed_takes s p a { main := main, spares := spares, zone := z } h hApart
    have hTold := dressed_told s p a { main := main, spares := spares, zone := z }
    have hNoInputs := dressed_fields s p a { main := main, spares := spares, zone := z }
    obtain ⟨hActive, hFlag⟩ := dressed_active s p a { main := main, spares := spares, zone := z }
    have hAutoD := dressed_modeAuto s p a { main := main, spares := spares, zone := z }
    have hInMode := dressed_inMode (s := s) (p := p) (a := a) (f := { main := main, spares := spares, zone := z })
    generalize hd : s.dressed p a { main := main, spares := spares, zone := z } = d at *
    have hStaged := staged_spec d p a.modeAuto (hasInputs a)
    have hRecasts := staged_recasts d p a.modeAuto (hasInputs a)
    generalize d.staged p a.modeAuto (hasInputs a) = t at *
    have hKept : t.kept = s.kept := hRecasts.kept.trans hKeptD
    have hRow := hReady.closes (exec_perf s tag (.given a)) hAnswer
      (hShown.outside hRecasts.engine (kept_cues hRecasts.kept) (by rw [hRecasts.fetch]))
    have hPerf := hStaged.fields
    rw [hSets, hz] at hPerf
    have hMode : (t.perf p).modeAuto = a.modeAuto.getD (d.perf p).modeAuto := by rw [hStaged.fields]
    obtain ⟨hTrims, hClips, hSnaps, hFetch, hRouter, hLines, hFoldback⟩ := hBlocks
    have hEvent := hReady.2.2.1
    have hIdle : ({ s.engine with opEvent := none } : EngineBlock) = s.engine := by rw [← hEvent]
    refine ⟨_, hRow, ⟨_, State.replied_of (t := t.onEngine fun b => { b with opEvent := none }) hKept _ _⟩, (congrArg Perf.name hPerf :),
      (congrArg Perf.main hPerf :), (congrArg Perf.spares hPerf :), (congrArg Perf.trim hPerf :), (congrArg Perf.zone hPerf :),
      (congrArg Perf.revertAuto hPerf :), hMode.trans (by rw [hAutoD]), (congrArg Perf.role hPerf :), fun q hq => (hStaged.only.2 q hq).trans (hOthersD q hq),
      fun r => ?_, (congrArg MatrixBlock.trims hRecasts.matrix).trans hTrims, (congrArg MatrixBlock.clips hRecasts.matrix).trans hClips,
      (congrArg FadeBlock.snaps hRecasts.fades).trans hSnaps, hRecasts.fetch.trans hFetch, fun hInputs => ?_, fun hInputs => ?_,
      fun active compromised hA hC => ⟨fun hManual => ?_, fun hAuto st u hMainState hSetState hStandState hu => ⟨fun hWants => ?_, fun hWants => ?_⟩⟩,
      hRecasts.router.trans hRouter, hRecasts.lines.trans hLines, hRecasts.foldback.trans hFoldback, (kept_ports hKept :), (kept_cues hKept :)⟩
    · have hHolders := hStaged.holders r
      rw [hRoleD r] at hHolders
      exact hHolders
    · obtain ⟨hAt, hClaims, -⟩ := hNoInputs hInputs
      have hOnly := congrArg CastBlock.claims hStaged.only.1
      refine ⟨hOnly.trans hClaims, hRecasts.mic.trans (by rw [hAt]), hRecasts.matrix.trans (by rw [hAt]), hRecasts.fades.trans (by rw [hAt]), ?_⟩
      exact (congrArg (fun b : EngineBlock => { b with opEvent := none }) (hRecasts.engine.trans (by rw [hAt]))).trans hIdle
    · have hTaken := (hTakes hInputs).staged hStaged hRecasts
      obtain ⟨hOff, hLevels, hPool, hEngine⟩ := hTaken.leaves hEvent
      have hNew : ∀ x, x ∉ main.toList ++ spares → ∀ place, (x, place) ∉ (t.perf p).inputs := fun x hx place hMem => by
        have hMem := Perf.mem_inputs hMem
        rw [hPerf] at hMem
        exact hx hMem
      exact ⟨hTaken.claimed, fun i place hOld hNone => hTaken.freed i place hOld (hNew i hNone),
        fun i hNone hOld => hTaken.unclaimed i (hNew i hNone) hOld, hOff, hLevels, hPool, hEngine, hTaken.mic, hTaken.tracked,
        fun i old hOld hNone => hTaken.released i old hOld hNone, hTaken.told, hTaken.untouched⟩
    · obtain ⟨hAt, hRoles, hSaid⟩ := hStaged.manual (hMode.symm.trans hManual)
      have hDisabled : s.link.disabled = d.link.disabled := (kept_disabled hKeptD).symm
      refine ⟨(congrArg Perf.active hAt).trans (hActive.trans hA.symm), (congrArg Perf.compromised hAt).trans (hFlag.trans hC.symm),
        fun r => (hRoles r).trans (hRoleD r), (congrArg Perf.state hAt).trans ?_, fun hWas => ?_⟩
      · rw [hAutoD, hState]
        cases hasInputs a <;> cases (s.perf p).modeAuto <;> simp
      · have hEventTold := (hSaid (hAutoD.trans hWas)).2.origin (s' := s) hDisabled
        rw [show " event=" ++ "manual" = " event=manual" by decide] at hEventTold
        exact hEventTold
    · have hOn := hMode.symm.trans hAuto
      obtain ⟨hPerfs, hRoles, hMics⟩ := inMode_reads hd.symm hStaged hRecasts.mic hOn (hA.trans hActive.symm) (hC.trans hFlag.symm)
        (hInMode hOn hMainState hSetState hStandState) hu
      exact (hStaged.selects hOn ((wants_iff (hA.trans hActive.symm) hRecasts.mic).mp hWants)).congr hPerfs hRoles hMics
    · have hOn := hMode.symm.trans hAuto
      obtain ⟨hPerfs, -, -⟩ := inMode_reads hd.symm hStaged hRecasts.mic hOn (hA.trans hActive.symm) (hC.trans hFlag.symm)
        (hInMode hOn hMainState hSetState hStandState) hu
      obtain ⟨hAt, hRoles, hSaidAuto, hSame⟩ := hStaged.stands hOn fun h => hWants ((wants_iff (hA.trans hActive.symm) hRecasts.mic).mpr h)
      have hDisabled : s.link.disabled = d.link.disabled := (kept_disabled hKeptD).symm
      refine ⟨hAt.trans (hPerfs p).symm, fun r => (hRoles r).trans (hRoleD r), fun hSet => ?_, fun hNone hInputs => ?_⟩
      · have hEventTold := (hSaidAuto hSet).2.origin (s' := s) hDisabled
        rw [show " event=" ++ "auto" = " event=auto" by decide] at hEventTold
        exact hEventTold
      · have hEventTold := (hTold hInputs).2
        rw [show " event=" ++ "inputs" = " event=inputs" by decide, ← hSame hNone] at hEventTold
        exact hEventTold
  · have hSilences := silenceRow_silences s i
    generalize s.silenceRow i = w at *
    exact ⟨fun bus => (hSilences.xpt _ bus).trans (if_pos (xpt_mem_rowTargets.mpr rfl)),
      fun row bus hRow => (hSilences.xpt row bus).trans (if_neg fun h => hRow (xpt_mem_rowTargets.mp h)),
      congrArg FadeBlock.pool hSilences.fades, (congrArg MatrixBlock.trims hSilences.matrix :)⟩

end Sys2Proof.Proofs
end

section
/-! PROOFS. A firing by its steps, and what its actions leave of the crosspoints, the buses and the lines (R88, R103 to R107). -/

namespace Sys2Proof.Machine

open Sys2Proof

section
variable (s : State) (c : Cue)

/-! ### The steps of a firing (R103) -/

/-- A firing once it has made room: the slot its `Inst` takes, and the state with the `Inst` open. -/
def State.roomed : State := s.makeRoom.cancelChain c.number
def State.fireSlot : InstSlot := (s.roomed c).engine.freeSlot
def State.opened : State := (s.roomed c).openInst c

/-- A firing with its actions applied, and then with its START link set and priming evaluated. -/
def State.acted : State × FireCounts := c.actions.foldl (State.fireAction (s.fireSlot c)) (s.opened c, {})
def State.linked : State := (s.acted c).1.startLink c
def State.evaluatedFiring : State := (s.linked c).evaluatePriming

theorem fire_eq : (s.fire c).1 = ((s.evaluatedFiring c).closeFiring c (s.fireSlot c) (s.acted c).2).1 := by
  unfold State.fire State.evaluatedFiring State.linked State.acted State.opened State.fireSlot State.roomed
  dsimp only

/-- The event of a firing, with its counts (R119). -/
def State.firingEvent (n : FireCounts) (slot : InstSlot) : CueEvent where
  name := "fired"
  cue := some c.number
  slot := some slot
  extra := " out=" ++ natText (((s.instAt slot).map (·.count)).getD 0) ++ " locked=" ++ natText n.locked ++ " claimed=" ++
    natText n.claimed ++ " nocall=" ++ natText n.nocall

/-- A firing closed: its report raised, and no `Inst` firing. -/
def State.firedReport (n : FireCounts) (slot : InstSlot) : State :=
  (s.raiseCue (s.firingEvent c n slot)).onEngine fun b => { b with firing := none }

theorem closeFiring_eq (n : FireCounts) (slot : InstSlot) : (s.closeFiring c slot n).1 =
    ((s.firedReport c n slot).instAt slot).elim (s.firedReport c n slot) fun i =>
      if i.count = 0 then (s.firedReport c n slot).completeInst i true else s.firedReport c n slot := by
  have hClose : ∀ (t : State) (o : Option Inst) (k : Nat),
      (match o with
        | some i => if i.count = 0 then (t.completeInst i true, k) else (t, k)
        | none => (t, k)).1 = o.elim t fun i => if i.count = 0 then t.completeInst i true else t := fun t o k => by
    cases o with
    | none => rfl
    | some i =>
      dsimp only [Option.elim_some]
      split <;> rfl
  exact hClose (s.firedReport c n slot) ((s.firedReport c n slot).instAt slot) _

end

/-! ### What actions of a firing can change -/

/-- `t` is `s` after operations of the actions `A`: of the matrix only crosspoints their LEVEL actions name, of the buses skip counts,
and of the lines the CUE_LINE values their LINE actions name (R88, R104, R107, R149). -/
structure State.ActsOn (A : List Action) (s t : State) : Prop where
  kept : t.kept = s.kept
  cast : t.cast = s.cast
  mic : t.mic = s.mic
  matrix : t.matrix = { s.matrix with xpts := t.matrix.xpts }
  foldback : t.foldback = { s.foldback with buses := t.foldback.buses }
  bus : ∀ k, t.bus k = { s.bus k with skips := (t.bus k).skips }
  lines : t.lines = { s.lines with recs := t.lines.recs }
  line : ∀ n, t.line n = { s.line n with cueLine := (t.line n).cueLine }
  xpts : ∀ row bus, (∀ code ms, Action.level row bus code ms ∉ A) → t.xpt row bus = s.xpt row bus
  stands : ∀ n, (∀ on, Action.line n on ∉ A) → t.line n = s.line n

section
variable {A : List Action} {s t u : State}

theorem State.ActsOn.refl (s : State) : s.ActsOn A s := ⟨rfl, rfl, rfl, rfl, rfl, fun _ => rfl, rfl, fun _ => rfl, fun _ _ _ => rfl, fun _ _ => rfl⟩

theorem State.ActsOn.trans (h : s.ActsOn A t) (h' : t.ActsOn A u) : s.ActsOn A u where
  kept := h'.kept.trans h.kept
  cast := h'.cast.trans h.cast
  mic := h'.mic.trans h.mic
  matrix := by
    have hMatrix := h'.matrix
    rw [h.matrix] at hMatrix
    exact hMatrix
  foldback := by
    have hFoldback := h'.foldback
    rw [h.foldback] at hFoldback
    exact hFoldback
  bus k := by
    have hBus := h'.bus k
    rw [h.bus k] at hBus
    exact hBus
  lines := by
    have hLines := h'.lines
    rw [h.lines] at hLines
    exact hLines
  line n := by
    have hLine := h'.line n
    rw [h.line n] at hLine
    exact hLine
  xpts row bus hNone := (h'.xpts row bus hNone).trans (h.xpts row bus hNone)
  stands n hNone := (h'.stands n hNone).trans (h.stands n hNone)

/-- A change of the fades, the engine, the readers, the router and the reports alone. -/
theorem State.ActsOn.of_blocks (hKept : t.kept = s.kept) (hMatrix : t.matrix = s.matrix) (hCast : t.cast = s.cast) (hMic : t.mic = s.mic)
    (hFoldback : t.foldback = s.foldback) (hLines : t.lines = s.lines) : s.ActsOn A t where
  kept := hKept
  cast := hCast
  mic := hMic
  matrix := by rw [hMatrix]
  foldback := by rw [hFoldback]
  bus k := by unfold State.bus; rw [hFoldback]
  lines := by rw [hLines]
  line n := by unfold State.line; rw [hLines]
  xpts row bus _ := xpt_congr hMatrix row bus
  stands n _ := by unfold State.line; rw [hLines]

/-- A change of one crosspoint a LEVEL action names. -/
theorem State.ActsOn.of_xpt {row : Row} {bus : Bus} {code : LevelCode} {ms : Nat} (hMem : Action.level row bus code ms ∈ A)
    (hKept : t.kept = s.kept) (hCast : t.cast = s.cast) (hMic : t.mic = s.mic) (hFoldback : t.foldback = s.foldback)
    (hLines : t.lines = s.lines) (hMatrix : t.matrix = { s.matrix with xpts := t.matrix.xpts })
    (hXpt : ∀ row' bus', ¬(row' = row ∧ bus' = bus) → t.xpt row' bus' = s.xpt row' bus') : s.ActsOn A t where
  kept := hKept
  cast := hCast
  mic := hMic
  matrix := hMatrix
  foldback := by rw [hFoldback]
  bus k := by unfold State.bus; rw [hFoldback]
  lines := by rw [hLines]
  line n := by unfold State.line; rw [hLines]
  xpts row' bus' hNone := hXpt row' bus' fun ⟨hRow, hBus⟩ => hNone code ms (by rw [hRow, hBus]; exact hMem)
  stands n _ := by unfold State.line; rw [hLines]

theorem countSkip_actsOn (bus : Bus) : s.ActsOn A (s.countSkip bus) := by
  cases bus with
  | fb k =>
    have hBus : ∀ j, (s.countSkip (.fb k)).bus j = if k = j then { s.bus k with skips := bump (s.bus k).skips } else s.bus j := fun j =>
      bus_onBus _ k j _
    exact ⟨rfl, rfl, rfl, rfl, rfl, fun j => by rw [hBus]; split <;> simp_all, rfl, fun _ => rfl, fun _ _ _ => rfl, fun _ _ => rfl⟩
  | house h => exact .refl s
  | relay => exact .refl s

theorem onLine_actsOn {n : LineId} {on : Bool} (hMem : Action.line n on ∈ A) : s.ActsOn A (s.onLine n fun r => { r with cueLine := on }) := by
  have hLine : ∀ m, (s.onLine n fun r => { r with cueLine := on }).line m = if n = m then { s.line n with cueLine := on } else s.line m :=
    fun m => line_onLine _ n m _
  refine ⟨rfl, rfl, rfl, rfl, rfl, fun _ => rfl, rfl, fun m => ?_, fun _ _ _ => rfl, fun m hNone => ?_⟩
  · rw [hLine]
    split
    · rename_i h; rw [h]
    · rfl
  · refine (hLine m).trans (if_neg fun h => hNone on ?_)
    rw [← h]
    exact hMem

theorem fireLevel_actsOn {slot : InstSlot} {n : FireCounts} {row : Row} {bus : Bus} {code : LevelCode} {ms : Nat}
    (hMem : Action.level row bus code ms ∈ A) : s.ActsOn A (s.fireLevel n slot row bus code ms).1 := by
  unfold State.fireLevel
  split
  · exact countSkip_actsOn bus
  · split
    · exact .refl s
    · split
      · obtain ⟨hKept, hCast, hMic, hFoldback, -, hLines⟩ := State.snapLevel_frame s (.xpt row bus) code
        refine .of_xpt hMem hKept hCast hMic hFoldback hLines ?_ fun row' bus' hOther => ?_
        · show (s.snapLevel (.xpt row bus) code).matrix = _
          rw [snapLevel_matrix]
          rfl
        · exact (snapLevel_xpt row bus code row' bus').trans (if_neg fun h => hOther ⟨h.1.symm, h.2.symm⟩)
      · obtain ⟨hKept, hCast, hMic, hFoldback, -, hLines⟩ := State.requestFade_frame s (.xpt row bus) code ms (some slot) false
        obtain ⟨hMatrix, hXpt⟩ := requestFade_trims (s := s) row bus code ms (some slot) false
        exact .of_xpt hMem hKept hCast hMic hFoldback hLines hMatrix hXpt

theorem fireAction_actsOn {slot : InstSlot} {acc : State × FireCounts} {a : Action} (hMem : a ∈ A) :
    acc.1.ActsOn A (State.fireAction slot acc a).1 := by
  obtain ⟨s, n⟩ := acc
  cases a with
  | level row bus code ms => exact fireLevel_actsOn hMem
  | play v snd ms =>
    unfold State.fireAction
    dsimp only
    split
    · exact .refl s
    · obtain ⟨hKept, hMatrix, hCast, hMic, hFoldback, -, hLines⟩ := State.play_frame s v snd _ ms (some slot)
      exact .of_blocks hKept hMatrix hCast hMic hFoldback hLines
  | stop v ms =>
    obtain ⟨hKept, hMatrix, hCast, hMic, hFoldback, -, hLines⟩ := State.stopVoice_frame s v ms (some slot)
    exact .of_blocks hKept hMatrix hCast hMic hFoldback hLines
  | call k =>
    obtain ⟨hKept, hMatrix, -, hCast, hMic, -, hFoldback, hLines⟩ := State.fireCall_frame s n k
    exact .of_blocks hKept hMatrix hCast hMic hFoldback hLines
  | line l on => exact onLine_actsOn hMem

theorem fireActions_actsOn {slot : InstSlot} {l : List Action} (hl : ∀ a ∈ l, a ∈ A) (acc : State × FireCounts) :
    acc.1.ActsOn A (l.foldl (State.fireAction slot) acc).1 :=
  foldl_holds_mem (P := fun x : State × FireCounts => acc.1.ActsOn A x.1) l (fun _ _ ha hs => hs.trans (fireAction_actsOn (hl _ ha)))
    (.refl _)

/-! ### The steps around the actions -/

theorem roomed_actsOn (s : State) (c : Cue) : s.ActsOn A (s.roomed c) := by
  obtain ⟨hKept, hMatrix, hCast, hMic, hFoldback, -, hLines⟩ := State.makeRoom_frame s
  obtain ⟨hKept', hMatrix', -, hCast', hMic', -, hFoldback', -, hLines'⟩ := State.cancelChain_frame s.makeRoom c.number
  exact .of_blocks (hKept'.trans hKept) (hMatrix'.trans hMatrix) (hCast'.trans hCast) (hMic'.trans hMic) (hFoldback'.trans hFoldback)
    (hLines'.trans hLines)

theorem opened_actsOn (s : State) (c : Cue) : s.ActsOn A (s.opened c) := (roomed_actsOn s c).trans (.of_blocks rfl rfl rfl rfl rfl rfl)

theorem acted_actsOn (s : State) (c : Cue) : s.ActsOn c.actions (s.acted c).1 :=
  (opened_actsOn s c).trans (fireActions_actsOn (fun _ h => h) (s.opened c, {}))

/-- The steps of a firing after its actions, and the end of the operation. -/
theorem closes_actsOn (t : State) (c : Cue) (slot : InstSlot) (n : FireCounts) :
    t.ActsOn A ((t.startLink c).evaluatePriming.closeFiring c slot n).1.finish := by
  obtain ⟨hKept, hMatrix, -, hCast, hMic, -, hFoldback, -, hLines⟩ := State.startLink_frame t c
  obtain ⟨hKept', hMatrix', hCast', hMic', hFoldback', -, hLines'⟩ := State.evaluatePriming_frame (t.startLink c)
  obtain ⟨hKept2, hMatrix2, -, hCast2, hMic2, -, hFoldback2, -, hLines2⟩ :=
    State.closeFiring_frame (t.startLink c).evaluatePriming c slot n
  obtain ⟨hKept3, hMatrix3, hCast3, hMic3, hFoldback3, -, hLines3⟩ :=
    State.finish_frame ((t.startLink c).evaluatePriming.closeFiring c slot n).1
  exact (((State.ActsOn.of_blocks hKept hMatrix hCast hMic hFoldback hLines).trans
    (.of_blocks hKept' hMatrix' hCast' hMic' hFoldback' hLines')).trans
    (.of_blocks hKept2 hMatrix2 hCast2 hMic2 hFoldback2 hLines2)).trans (.of_blocks hKept3 hMatrix3 hCast3 hMic3 hFoldback3 hLines3)

theorem fire_actsOn (s : State) (c : Cue) : s.ActsOn c.actions (s.fire c).1.finish := by
  rw [fire_eq]
  exact (acted_actsOn s c).trans (closes_actsOn (s.acted c).1 c (s.fireSlot c) (s.acted c).2)

end

end Sys2Proof.Machine
end

section
/-! PROOFS. The marks a firing leaves, its report, and the crosspoints and lines its actions set (R103, R104, R107). -/

namespace Sys2Proof.Machine

open Sys2Proof

/-! ### The marks of the engine -/

section
variable (s : State)

@[simp] theorem State.marks_fadeIn (v : VoiceId) (kept : Option Nat) : (s.fadeIn v kept).marks = s.marks := by
  unfold State.fadeIn
  split <;> simp

@[simp] theorem State.marks_enterPlaying (r : ReaderId) (late : Nat) : (s.enterPlaying r late).marks = s.marks := by
  unfold State.enterPlaying
  dsimp only
  split <;> simp

@[simp] theorem State.marks_testStart (r : ReaderId) : (s.testStart r).marks = s.marks := by
  unfold State.testStart
  dsimp only
  split <;> simp

@[simp] theorem State.marks_play (v : VoiceId) (n : SoundId) (d : Sound) (ms : Nat) (o : Option InstSlot) :
    (s.play v n d ms o).marks = s.marks := by
  unfold State.play
  dsimp only
  (repeat' split) <;> simp

@[simp] theorem State.marks_stopVoice (v : VoiceId) (ms : Nat) (o : Option InstSlot) : (s.stopVoice v ms o).marks = s.marks := by
  rcases stopVoice_forms s v ms o with h | ⟨event, h⟩ | ⟨-, -, h⟩ | h <;> rw [h] <;> simp

@[simp] theorem State.marks_fireLevel (n : FireCounts) (slot : InstSlot) (row : Row) (bus : Bus) (code : LevelCode) (ms : Nat) :
    (s.fireLevel n slot row bus code ms).1.marks = s.marks := by
  have hSkip : (s.countSkip bus).marks = s.marks := by cases bus <;> rfl
  unfold State.fireLevel
  (repeat' split) <;> simp [hSkip]

theorem State.marks_fireAction (slot : InstSlot) (acc : State × FireCounts) (a : Action) : (State.fireAction slot acc a).1.marks = acc.1.marks := by
  obtain ⟨t, n⟩ := acc
  cases a with
  | level row bus code ms => exact State.marks_fireLevel t n slot row bus code ms
  | play v snd ms =>
    unfold State.fireAction
    dsimp only
    split <;> simp
  | stop v ms => exact State.marks_stopVoice t v ms (some slot)
  | call k => exact marks_congr (State.fireCall_frame t n k).2.2.2.2.2.1
  | line l on => rfl

theorem State.marks_fireActions (slot : InstSlot) (l : List Action) (acc : State × FireCounts) :
    (l.foldl (State.fireAction slot) acc).1.marks = acc.1.marks :=
  foldl_holds (P := fun x : State × FireCounts => x.1.marks = acc.1.marks) (fun x a hx => (State.marks_fireAction slot x a).trans hx) l rfl

theorem State.marks_roomed (c : Cue) : (s.roomed c).marks = s.marks := by
  have hRetire : ∀ i, (s.retire i).marks = s.marks := fun i => by
    unfold State.retire
    rw [State.marks_endLink, State.marks_raiseCue]
    rfl
  have hRoom : s.makeRoom.marks = s.marks := by
    unfold State.makeRoom
    split
    · split
      · exact hRetire _
      · rfl
    · rfl
  unfold State.roomed State.cancelChain
  split
  · exact hRoom
  · split
    · exact (State.marks_raiseCue _ _).trans hRoom
    · exact hRoom

theorem State.cueAfter_congr {s t : State} (h : t.cues = s.cues) (n : Nat) : t.cueAfter n = s.cueAfter n := by
  unfold State.cueAfter
  rw [h]

/-- The marks of a firing with its `Inst` open, and those it leaves (R103). -/
theorem State.marks_opened (c : Cue) : (s.opened c).marks = { s.marks with
    lastFired := some c.number, standby := s.cueAfter c.number, fired := min (s.engine.fired + 1) 65535,
    nextStamp := s.engine.nextStamp + 1, firing := some (s.fireSlot c) } := by
  have hRoom := s.marks_roomed c
  have hCues : (s.roomed c).cues = s.cues := kept_cues (roomed_actsOn (A := []) s c).kept
  have hFired := marks_fired hRoom
  have hStamp := marks_nextStamp hRoom
  have hOpen : (s.opened c).marks = { (s.roomed c).marks with
    lastFired := some c.number, standby := (s.roomed c).cueAfter c.number, fired := bump (s.roomed c).engine.fired,
    nextStamp := (s.roomed c).engine.nextStamp + 1, firing := some (s.fireSlot c) } := rfl
  rw [hOpen, hRoom, State.cueAfter_congr hCues, hFired, hStamp]
  rfl

@[simp] theorem State.marks_startLink (c : Cue) : (s.startLink c).marks = s.marks := by
  unfold State.startLink
  split
  · exact State.marks_setChain s _
  · rfl

theorem State.marks_closeFiring (c : Cue) (slot : InstSlot) (n : FireCounts) :
    (s.closeFiring c slot n).1.marks = { s.marks with firing := none } := by
  have hReport : (s.firedReport c n slot).marks = { s.marks with firing := none } := by
    have hRaised := State.marks_raiseCue s (s.firingEvent c n slot)
    exact congrArg (fun m : Marks => { m with firing := none }) hRaised
  rw [closeFiring_eq]
  cases (s.firedReport c n slot).instAt slot with
  | none => exact hReport
  | some i =>
    rw [Option.elim_some]
    split
    · exact (State.marks_completeInst _ _ _).trans hReport
    · exact hReport

theorem State.marks_fire (c : Cue) : (s.fire c).1.finish.marks = { s.marks with
    lastFired := some c.number, standby := s.cueAfter c.number, fired := min (s.engine.fired + 1) 65535,
    nextStamp := s.engine.nextStamp + 1, firing := none } := by
  rw [fire_eq, State.marks_finish, State.marks_closeFiring]
  unfold State.evaluatedFiring State.linked State.acted
  rw [State.marks_evaluatePriming, State.marks_startLink, State.marks_fireActions, State.marks_opened]

end

/-! ### The report (R119) -/

section
variable {s t u : State}

/-- A CUE report has been raised in the operation, and no priming evaluation is owed. -/
structure State.Says (s t : State) : Prop where
  raised : s.Raised t .cue "!CUE event="
  disabled : t.link.disabled = s.link.disabled
  due : t.engine.evalDue = false
  event : ∃ (u : State) (e : CueEvent), t.engine.opEvent = some (u.cueReport e)

theorem says_raiseCue (hDisabled : t.link.disabled = s.link.disabled) (hDue : t.engine.evalDue = false) (e : CueEvent) : s.Says (t.raiseCue e) where
  raised := raiseCue_raised hDisabled e
  disabled := (kept_disabled (State.raiseCue_frame t e).1).trans hDisabled
  due := by rw [raiseCue_engine]; exact hDue
  event := ⟨t, e, by rw [raiseCue_engine]⟩

theorem State.Says.raiseCue (h : s.Says t) (e : CueEvent) : s.Says (t.raiseCue e) := says_raiseCue h.disabled h.due e

theorem State.Says.congr (h : s.Says t) (hLink : u.link = t.link) (hDue : u.engine.evalDue = t.engine.evalDue)
    (hEvent : u.engine.opEvent = t.engine.opEvent) : s.Says u where
  raised := h.raised.congr (congrArg LinkBlock.reports hLink)
  disabled := (congrArg LinkBlock.disabled hLink).trans h.disabled
  due := hDue.trans h.due
  event := by rw [hEvent]; exact h.event

theorem State.Says.endLink (h : s.Says t) (i : Inst) : s.Says (t.endLink i) := by
  have hChain : ∀ (w : State) (c : Chain), s.Says w → s.Says ((w.onEngine fun b => { b with chain := some c }).raiseCue { name := "chain", cue := some c.setBy }) :=
    fun w c hw => (hw.congr (u := w.onEngine fun b => { b with chain := some c }) rfl rfl rfl).raiseCue _
  unfold State.endLink State.setChain
  split
  · exact h
  · split
    · split
      · dsimp only
        split
        · exact hChain _ _ h
        · exact hChain _ _ (h.raiseCue _)
      · exact h.raiseCue _
    · exact h.raiseCue _

theorem State.Says.completeFired (h : s.Says t) (i : Inst) : s.Says (t.completeInst i true) :=
  (h.congr (u := t.removeInst i.slot) rfl rfl rfl).endLink i

/-- At the end of the operation the report stands, or is raised again with the value of STANDBY_READY (R118). -/
theorem State.Says.finish (h : s.Says t) : s.Raised t.finish .cue "!CUE event=" := by
  obtain ⟨u, e, hEvent⟩ := h.event
  have hText : ∀ ready, (u.cueReport e).text ready = "" ++ ("!CUE event=" ++ (e.name ++ (" cue=" ++ (optText cueText e.cue ++
      (" slot=" ++ (optText slotText e.slot ++ (" " ++ (u.engineHead ++ (yesNo ready ++ (u.cueReport e).tail))))))))) := fun ready => by
    simp [CueReport.text, State.cueReport, String.append_assoc]
  unfold State.finish
  rw [h.due, if_neg (by decide)]
  unfold State.settleReady
  simp only [hEvent]
  split
  · exact h.raised.congr rfl
  · refine State.Raised.congr (t := t.raise .cue ((u.cueReport e).text t.standbyReady)) ?_ rfl
    rw [hText]
    exact State.raised_raise h.disabled _ _ _ _

theorem fire_says (s : State) (c : Cue) : s.Says (s.fire c).1 := by
  have hKept : (s.evaluatedFiring c).link.disabled = s.link.disabled := by
    refine (kept_disabled (State.evaluatePriming_frame (s.linked c)).1).trans ?_
    exact (kept_disabled (State.startLink_frame (s.acted c).1 c).1).trans (kept_disabled (acted_actsOn s c).kept)
  have hReport : s.Says ((s.evaluatedFiring c).firedReport c (s.acted c).2 (s.fireSlot c)) := by
    have hDue : (s.evaluatedFiring c).engine.evalDue = false := evaluatePriming_evalDue _
    unfold State.firedReport
    generalize s.evaluatedFiring c = w at *
    generalize w.firingEvent c (s.acted c).2 (s.fireSlot c) = e
    exact (says_raiseCue hKept hDue e).congr rfl rfl rfl
  rw [fire_eq, closeFiring_eq]
  generalize (s.evaluatedFiring c).firedReport c (s.acted c).2 (s.fireSlot c) = w at *
  cases w.instAt (s.fireSlot c) with
  | none => exact hReport
  | some i =>
    rw [Option.elim_some]
    split
    · exact hReport.completeFired i
    · exact hReport

end

/-! ### What the actions set (R103, R104) -/

section
variable {s t : State} {l : List Action}

/-- The actions before and after one, where each target is named once. -/
theorem split_action {a : Action} (h : (l.map actionTarget).Nodup) (ha : a ∈ l) :
    ∃ before after, l = before ++ a :: after ∧ ∀ b ∈ before ++ after, actionTarget b ≠ actionTarget a := by
  obtain ⟨before, after, rfl⟩ := List.mem_iff_append.mp ha
  refine ⟨before, after, rfl, fun b hb hEq => ?_⟩
  rw [List.map_append, List.map_cons] at h
  have hNot := List.nodup_middle.mp h
  rw [← List.map_append] at hNot
  exact (List.nodup_cons.mp hNot).1 (hEq ▸ List.mem_map_of_mem hb)

/-- What actions that do not name a line leave of it. -/
theorem fireActions_line {slot : InstSlot} {n : LineId} (h : ∀ a ∈ l, actionTarget a ≠ .line n) (acc : State × FireCounts) :
    (l.foldl (State.fireAction slot) acc).1.line n = acc.1.line n :=
  (fireActions_actsOn (fun _ ha => ha) acc).stands n fun _ hMem => h _ hMem rfl

theorem fireActions_xpt {slot : InstSlot} {row : Row} {bus : Bus} (h : ∀ a ∈ l, actionTarget a ≠ .xpt row bus) (acc : State × FireCounts) :
    (l.foldl (State.fireAction slot) acc).1.xpt row bus = acc.1.xpt row bus :=
  (fireActions_actsOn (fun _ ha => ha) acc).xpts row bus fun _ _ hMem => h _ hMem rfl

theorem fire_line {c : Cue} (hApart : (c.actions.map actionTarget).Nodup) {n : LineId} {on : Bool} (h : Action.line n on ∈ c.actions) :
    (((s.fire c).1.finish).line n).cueLine = on := by
  obtain ⟨before, after, hSplit, hOthers⟩ := split_action hApart h
  have hCloses := (closes_actsOn (A := []) (s.acted c).1 c (s.fireSlot c) (s.acted c).2).stands n fun _ => List.not_mem_nil
  rw [fire_eq]
  refine (congrArg LineRec.cueLine hCloses).trans ?_
  unfold State.acted
  rw [hSplit, List.foldl_append, List.foldl_cons,
    fireActions_line fun a ha => hOthers a (List.mem_append_right _ ha)]
  exact congrArg LineRec.cueLine ((line_onLine _ n n _).trans (if_pos rfl))

end

end Sys2Proof.Machine
end

section
/-! PROOFS. What each action of a firing leaves of the targets it does not name (R38, R104 to R106, R132). -/

namespace Sys2Proof.Machine

open Sys2Proof

section
variable {s t u : State} {v w : VoiceId} {x y : Target}

/-! ### The record on another target -/

theorem find_replace_ne {l : List Fade} {g : Fade} (hg : g.target = x) (hy : y ≠ x) :
    ((l.map fun f => if f.target = x then g else f).find? fun f => f.target = y) = l.find? fun f => f.target = y := by
  have hNew : ¬g.target = y := fun h => hy (h.symm.trans hg)
  induction l with
  | nil => rfl
  | cons f l ih =>
    rw [List.map_cons, List.find?_cons, List.find?_cons]
    by_cases hf : f.target = x
    · rw [if_pos hf, decide_eq_false hNew, decide_eq_false fun h => hy (h.symm.trans hf)]
      exact ih
    · rw [if_neg hf]
      split
      · rfl
      · exact ih

/-- Any request on one target leaves the record of another. -/
theorem requestFade_fadeOf_other (hy : y ≠ x) (c : LevelCode) (ms : Nat) (o : Option InstSlot) (b : Bool) :
    (s.requestFade x c ms o b).fadeOf y = s.fadeOf y := by
  rcases s.fade_cases x c with h | ⟨h, hLevel⟩ | ⟨h, hLevel, hRoom⟩ | ⟨h, hLevel, hFull⟩
  · unfold State.fadeOf
    rw [requestFade_replaced_fades ms o b h]
    exact find_replace_ne rfl hy
  · rw [requestFade_ended ms o b h hLevel]
  · exact requestFade_fadeOf_ne hy c o b hLevel (.inr hRoom)
  · rw [requestFade_snapped ms o b h hLevel hFull]
    exact fadeOf_congr (by rw [poolFullSnap_fades]) y

/-- A request adds at most one record. -/
theorem requestFade_length (x : Target) (c : LevelCode) (ms : Nat) (o : Option InstSlot) (b : Bool) :
    (s.requestFade x c ms o b).fades.pool.length ≤ s.fades.pool.length + 1 := by
  rcases s.fade_cases x c with h | ⟨h, hLevel⟩ | ⟨h, hLevel, hRoom⟩ | ⟨h, hLevel, hFull⟩
  · rw [requestFade_replaced_fades ms o b h]
    exact (List.length_map _).le.trans (Nat.le_succ _)
  · rw [requestFade_ended ms o b h hLevel]
    exact Nat.le_succ _
  · rw [requestFade_made_fades ms o b h hLevel hRoom]
    exact (List.length_append ..).le
  · rw [requestFade_snapped ms o b h hLevel hFull, poolFullSnap_fades]
    exact Nat.le_succ _

theorem fadeIn_fadeOf (hy : y ≠ .voice v) (kept : Option Nat) : (s.fadeIn v kept).fadeOf y = s.fadeOf y := by
  unfold State.fadeIn
  split
  · rfl
  · rfl
  · exact requestFade_fadeOf_other hy _ _ _ _

theorem fadeIn_length (v : VoiceId) (kept : Option Nat) : (s.fadeIn v kept).fades.pool.length ≤ s.fades.pool.length + 1 := by
  unfold State.fadeIn
  split
  · exact Nat.le_succ _
  · exact Nat.le_succ _
  · exact requestFade_length _ _ _ _ _

theorem enterPlaying_fadeOf (hy : y ≠ .voice v) (late : Nat) : (s.enterPlaying (voiceReader v) late).fadeOf y = s.fadeOf y :=
  (fadeOf_congr (congrArg FadeBlock.pool (enterPlaying_fades late)) y).trans (fadeIn_fadeOf (s := s.playing v late) hy _)

theorem enterPlaying_length (v : VoiceId) (late : Nat) :
    (s.enterPlaying (voiceReader v) late).fades.pool.length ≤ s.fades.pool.length + 1 := by
  rw [enterPlaying_fades]
  exact fadeIn_length (s := s.playing v late) v _

/-- A PLAY on one voice leaves the record of another target, and adds at most one record. -/
theorem play_fadeOf {n : SoundId} {d : Sound} {ms : Nat} (hy : y ≠ .voice v) (o : Option InstSlot) :
    (s.play v n d ms o).fadeOf y = s.fadeOf y ∧ (s.play v n d ms o).fades.pool.length ≤ s.fades.pool.length + 1 := by
  have hFreed : ∀ {z : State}, z.fades = { s.fades with pool := s.fades.pool.filter fun f => f.target ≠ .voice v } →
      z.fadeOf y = s.fadeOf y ∧ z.fades.pool.length ≤ s.fades.pool.length := fun {z} h => by
    refine ⟨?_, by rw [h]; exact List.length_filter_le _ _⟩
    rw [fadeOf_congr (s := s.dropFade (.voice v)) (congrArg FadeBlock.pool h), dropFade_fadeOf, if_neg hy]
  have hPlays : ∀ {z : State} late, z.fades = { s.fades with pool := s.fades.pool.filter fun f => f.target ≠ .voice v } →
      (z.enterPlaying (voiceReader v) late).fadeOf y = s.fadeOf y ∧
        (z.enterPlaying (voiceReader v) late).fades.pool.length ≤ s.fades.pool.length + 1 := fun {z} late h =>
    ⟨(enterPlaying_fadeOf hy late).trans (hFreed h).1, (enterPlaying_length v late).trans (Nat.succ_le_succ (hFreed h).2)⟩
  rw [play_eq]
  split
  · exact hPlays 0 freeVoice_fades
  · unfold State.testStart
    dsimp only
    split
    · exact hPlays _ (begin_fades o)
    · exact ⟨(hFreed (begin_fades o)).1, (hFreed (begin_fades o)).2.trans (Nat.le_succ _)⟩

/-- A stop of one voice leaves the record of another target. -/
theorem stopVoice_fadeOf (hy : y ≠ .voice v) (ms : Nat) (o : Option InstSlot) : (s.stopVoice v ms o).fadeOf y = s.fadeOf y := by
  have hIdle : ∀ (z : State) event, (z.enterIdle (voiceReader v) event).fadeOf y = z.fadeOf y := fun z event =>
    enterIdle_fadeOf (fun w hw h => hy (by rw [hw, voiceReader_injective h])) event
  rcases stopVoice_forms s v ms o with h | ⟨event, h⟩ | ⟨-, -, h⟩ | h <;> rw [h]
  · exact hIdle s event
  · exact requestFade_fadeOf_other hy _ _ _ _
  · exact (hIdle _ _).trans (fadeOf_congr (by rw [poolFullSnap_fades]) y)

/-! ### Another reader -/

theorem play_reader {n : SoundId} {d : Sound} {ms : Nat} {r : ReaderId} (hr : r ≠ voiceReader w) (o : Option InstSlot) :
    (s.play w n d ms o).reader r = s.reader r := by
  have hPrimed : (s.primedPlay w n d ms).reader r = s.reader r := by
    unfold State.primedPlay
    rw [reader_onReader, if_neg hr.symm]
    exact reader_of_fetch freeVoice_fetch _
  rw [play_eq]
  split
  · exact ((enterPlaying_voice 0).2.1 _ hr).trans hPrimed
  · unfold State.testStart
    dsimp only
    split
    · exact ((enterPlaying_voice _).2.1 _ hr).trans (begin_others hr o)
    · exact begin_others hr o

theorem stopVoice_reader {ms : Nat} {r : ReaderId} (hr : r ≠ voiceReader w) (o : Option InstSlot) :
    (s.stopVoice w ms o).reader r = s.reader r := by
  rcases stopVoice_forms s w ms o with h | ⟨event, h⟩ | ⟨hLevel, hRoom, h⟩ | h <;> rw [h]
  · rw [enterIdle_reader, if_neg hr.symm]
  · exact reader_of_fetch (requestFade_readers _ _ _ hLevel hRoom) r
  · rw [enterIdle_reader, if_neg hr.symm, reader_of_fetch (poolFullSnap_voice (-180)), reader_onReader, if_neg hr.symm]

theorem voiceReader_ne (h : w ≠ v) : voiceReader v ≠ voiceReader w := fun e => h (voiceReader_injective e).symm

/-! ### The router -/

/-- A request submitted changes no voice. -/
theorem submit_voices {q : CallRequest} {line : Option LineId} {id : Nat} (h : s.submit q line = .ok (id, t)) : s.PlayersOnly t := by
  have hEnter : ∀ z : State, s.PlayersOnly z → s.PlayersOnly ((z.enterCall q (s.resolve q) line).walk) := fun z hz => by
    refine hz.trans ((playersOnly_routed z).walk ?_)
    unfold State.enterCall State.raiseCall
    dsimp only
    refine State.PlayersOnly.raise (s := z) (t := z.onRouter _) (State.PlayersOnly.congr (.refl z) rfl rfl) ?_ _
    trivial
  unfold State.submit at h
  dsimp only at h
  split at h
  · cases h
  · split at h
    · cases h
    · cases h
      exact hEnter s (.refl s)
    · cases h
      exact hEnter _ ((State.PlayersOnly.refl s).closeCall _ _ _)

theorem fireCall_voices (n : FireCounts) (k : PresetId) : s.PlayersOnly (s.fireCall n k).1 := by
  unfold State.fireCall
  split
  · exact .refl s
  · split
    · exact .refl s
    · exact submit_voices (by assumption)

/-! ### An action and the targets it does not name -/

/-- The target a fade moves, as an action names it. -/
def namedTarget : Target → ActionTarget
  | .xpt row bus => .xpt row bus
  | .voice v => .voice v

theorem fireLevel_fadeOf {slot : InstSlot} {n : FireCounts} {row : Row} {bus : Bus} {code : LevelCode} {ms : Nat} (hy : y ≠ .xpt row bus) :
    (s.fireLevel n slot row bus code ms).1.fadeOf y = s.fadeOf y := by
  unfold State.fireLevel
  split
  · exact fadeOf_congr (by rw [(State.countSkip_frame s bus).2.2.1]) y
  · split
    · rfl
    · split
      · exact (snapLevel_fadeOf y).trans (if_neg hy)
      · exact requestFade_fadeOf_other hy _ _ _ _

theorem fireLevel_length {slot : InstSlot} {n : FireCounts} {row : Row} {bus : Bus} {code : LevelCode} {ms : Nat} :
    (s.fireLevel n slot row bus code ms).1.fades.pool.length ≤ s.fades.pool.length + 1 := by
  unfold State.fireLevel
  split
  · rw [(State.countSkip_frame s bus).2.2.1]
    exact Nat.le_succ _
  · split
    · exact Nat.le_succ _
    · split
      · show (s.snapLevel (.xpt row bus) code).fades.pool.length ≤ _
        rw [snapLevel_fades]
        exact (List.length_filter_le _ _).trans (Nat.le_succ _)
      · exact requestFade_length _ _ _ _ _

theorem fireAction_fadeOf {slot : InstSlot} {acc : State × FireCounts} {a : Action} (hy : actionTarget a ≠ namedTarget y) :
    (State.fireAction slot acc a).1.fadeOf y = acc.1.fadeOf y := by
  obtain ⟨s, n⟩ := acc
  cases a with
  | level row bus code ms => exact fireLevel_fadeOf fun h => hy (by rw [h]; rfl)
  | play v snd ms =>
    unfold State.fireAction
    dsimp only
    split
    · rfl
    · exact (play_fadeOf (fun h => hy (by rw [h]; rfl)) (some slot)).1
  | stop v ms => exact stopVoice_fadeOf (fun h => hy (by rw [h]; rfl)) ms (some slot)
  | call k =>
    have hFades : (s.fireCall n k).1.fades = s.fades := (State.fireCall_frame s n k).2.2.1
    exact fadeOf_congr (congrArg FadeBlock.pool hFades) y
  | line l on => rfl

theorem fireAction_length (slot : InstSlot) (acc : State × FireCounts) (a : Action) :
    (State.fireAction slot acc a).1.fades.pool.length ≤ acc.1.fades.pool.length + 1 := by
  obtain ⟨s, n⟩ := acc
  cases a with
  | level row bus code ms => exact fireLevel_length
  | play v snd ms =>
    unfold State.fireAction
    dsimp only
    split
    · exact Nat.le_succ _
    · have hOther : Target.xpt (.inp 0) .relay ≠ .voice v := fun h => by cases h
      exact (play_fadeOf hOther (some slot)).2
  | stop v ms => exact stopVoice_length s v ms (some slot)
  | call k =>
    show (s.fireCall n k).1.fades.pool.length ≤ _
    rw [(State.fireCall_frame s n k).2.2.1]
    exact Nat.le_succ _
  | line l on => exact Nat.le_succ _

theorem fireAction_voice {slot : InstSlot} {acc : State × FireCounts} {a : Action} (hv : actionTarget a ≠ .voice v) :
    (State.fireAction slot acc a).1.voice v = acc.1.voice v := by
  obtain ⟨s, n⟩ := acc
  cases a with
  | level row bus code ms => exact reader_of_fetch (State.fireLevel_frame s n slot row bus code ms).2.2.2.1 _
  | play w snd ms =>
    unfold State.fireAction
    dsimp only
    split
    · rfl
    · exact play_reader (voiceReader_ne fun h => hv (by rw [h]; rfl)) (some slot)
  | stop w ms => exact stopVoice_reader (voiceReader_ne fun h => hv (by rw [h]; rfl)) (some slot)
  | call k => exact (fireCall_voices n k).voices v
  | line l on => rfl

variable {l : List Action} {slot : InstSlot}

theorem fireActions_fadeOf (h : ∀ a ∈ l, actionTarget a ≠ namedTarget y) (acc : State × FireCounts) :
    (l.foldl (State.fireAction slot) acc).1.fadeOf y = acc.1.fadeOf y :=
  foldl_holds_mem (P := fun z : State × FireCounts => z.1.fadeOf y = acc.1.fadeOf y) l (fun _ _ ha hz => (fireAction_fadeOf (h _ ha)).trans hz) rfl

theorem fireActions_voice (h : ∀ a ∈ l, actionTarget a ≠ .voice v) (acc : State × FireCounts) :
    (l.foldl (State.fireAction slot) acc).1.voice v = acc.1.voice v :=
  foldl_holds_mem (P := fun z : State × FireCounts => z.1.voice v = acc.1.voice v) l (fun _ _ ha hz => (fireAction_voice (h _ ha)).trans hz) rfl

theorem fireActions_length (l : List Action) (acc : State × FireCounts) :
    (l.foldl (State.fireAction slot) acc).1.fades.pool.length ≤ acc.1.fades.pool.length + l.length := by
  induction l generalizing acc with
  | nil => exact Nat.le_refl _
  | cons a l ih =>
    refine (ih (State.fireAction slot acc a)).trans ?_
    have hOne := fireAction_length slot acc a
    rw [List.length_cons]
    omega

end

end Sys2Proof.Machine
end

section
/-! PROOFS. The calls a firing submits: what a CALL action does depends on the router, the call players, the sounds, the cast and the time
alone, which the other actions leave (R107, R166 to R172). -/

namespace Sys2Proof.Machine

open Sys2Proof

/-- Two states alike in all that calls depend on. -/
structure State.SameCalls (s t : State) : Prop where
  router : s.router = t.router
  players : ∀ p : PlayerId, s.reader (playerReader p) = t.reader (playerReader p)
  sounds : s.fetch.sounds = t.fetch.sounds
  cast : s.cast = t.cast
  now : s.now = t.now

section
variable {s t u : State}

theorem State.SameCalls.refl (s : State) : s.SameCalls s := ⟨rfl, fun _ => rfl, rfl, rfl, rfl⟩

theorem State.SameCalls.symm (h : s.SameCalls t) : t.SameCalls s :=
  ⟨h.router.symm, fun p => (h.players p).symm, h.sounds.symm, h.cast.symm, h.now.symm⟩

theorem State.SameCalls.trans (h : s.SameCalls t) (h' : t.SameCalls u) : s.SameCalls u :=
  ⟨h.router.trans h'.router, fun p => (h.players p).trans (h'.players p), h.sounds.trans h'.sounds, h.cast.trans h'.cast, h.now.trans h'.now⟩

/-- A change of other blocks, and of no player. -/
theorem State.SameCalls.of_kept (hKept : t.kept = s.kept) (hCast : t.cast = s.cast) (hRouter : t.router = s.router)
    (hPlayers : ∀ p, t.reader (playerReader p) = s.reader (playerReader p)) : s.SameCalls t :=
  ⟨hRouter.symm, fun p => (hPlayers p).symm, (kept_sounds hKept).symm, hCast.symm, (kept_now hKept).symm⟩

/-! ### The operations of the router -/

/-- Operations of the router that keep the sounds, the cast and the time take two states alike to two alike. -/
theorem State.SameCalls.through {s' t' : State} (h : s.SameCalls t) (hRouter : s'.router = t'.router)
    (hPlayers : ∀ p, s'.reader (playerReader p) = t'.reader (playerReader p)) (hs : s'.kept = s.kept) (ht : t'.kept = t.kept)
    (hsCast : s'.cast = s.cast) (htCast : t'.cast = t.cast) : s'.SameCalls t' where
  router := hRouter
  players := hPlayers
  sounds := by rw [kept_sounds hs, kept_sounds ht, h.sounds]
  cast := by rw [hsCast, htCast, h.cast]
  now := by rw [kept_now hs, kept_now ht, h.now]

theorem State.SameCalls.closeCall (h : s.SameCalls t) (c : Call) (cause : CallCause) (by_ by' : Option Nat) :
    (s.closeCall c cause by_).SameCalls (t.closeCall c cause by') := by
  obtain ⟨hs, -, -, hsCast, -⟩ := State.closeCall_frame s c cause by_
  obtain ⟨ht, -, -, htCast, -⟩ := State.closeCall_frame t c cause by'
  refine h.through (sameRouter_closeCall h.router c cause cause by_ by') (fun p => ?_) hs ht hsCast htCast
  have hSilenced : ∀ w : State, ∀ by1, (w.closeCall c cause by1).reader (playerReader p) = ((w.freed c).silenced c).reader (playerReader p) := fun w by1 => by
    rw [closeCall_eq, raiseCall_reader]
    rfl
  have hFreed : ∀ q, (s.freed c).reader (playerReader q) = (t.freed c).reader (playerReader q) := fun q => by
    rw [reader_of_fetch (freed_fetch c), reader_of_fetch (freed_fetch c), h.players]
  rw [hSilenced, hSilenced]
  unfold State.silenced
  split
  · rw [stopPlayer_reader, stopPlayer_reader, hFreed, hFreed]
  · exact hFreed p

theorem State.SameCalls.startPlayer (h : s.SameCalls t) (p q : PlayerId) (n : SoundId) :
    (s.startPlayer p n).reader (playerReader q) = (t.startPlayer p n).reader (playerReader q) := by
  have hSound : s.soundRec n = t.soundRec n := by unfold State.soundRec; rw [h.sounds]
  have hCleared : ∀ w : State, (w.clearRing (playerReader p)).reader (playerReader p) = (w.reader (playerReader p)).clearRing := fun w => by
    unfold State.clearRing
    rw [reader_onReader, if_pos rfl]
    rfl
  by_cases hq : playerReader p = playerReader q
  · rw [← hq]
    cases hRec : t.soundRec n with
    | none => rw [startPlayer_none (hSound.trans hRec), startPlayer_none hRec, h.players]
    | some d =>
      rw [startPlayer_eq (hSound.trans hRec), startPlayer_eq hRec, State.raiseReader_reader, State.raiseReader_reader, reader_onReader,
        reader_onReader, if_pos rfl, if_pos rfl, hCleared, hCleared, h.players, h.now]
  · rw [startPlayer_reader p n hq, startPlayer_reader p n hq, h.players]

theorem State.SameCalls.cleared (h : s.SameCalls t) (c : Call) (player : Option PlayerId) : (s.cleared c player).SameCalls (t.cleared c player) := by
  have hWay : s.inTheWay c player = t.inTheWay c player := by
    unfold State.inTheWay State.zone
    rw [h.router]
  unfold State.cleared
  rw [hWay]
  exact foldl_rel (R := State.SameCalls) (f := fun s d => s.closeCall d .preempted (some c.id)) (g := fun s d => s.closeCall d .preempted (some c.id))
    (fun s t d h => h.closeCall d _ _ _) _ h

theorem State.SameCalls.seated (h : s.SameCalls t) (c : Call) (player : Option PlayerId) : (s.seated c player).SameCalls (t.seated c player) := by
  have hRouter : ∀ (f : RouterBlock → RouterBlock) {s t : State}, s.SameCalls t → (s.onRouter f).SameCalls (t.onRouter f) :=
    fun f s t h => ⟨by rw [State.onRouter_router, State.onRouter_router, h.router], h.players, h.sounds, h.cast, h.now⟩
  unfold State.seated
  rw [h.router]
  exact foldl_rel (R := State.SameCalls) (f := fun s z => s.onZone z (Zone.take c.id c.req.duck)) (g := fun s z => s.onZone z (Zone.take c.id c.req.duck))
    (fun s t z h => hRouter _ h) _ (hRouter _ h)

theorem State.SameCalls.grantCall (h : s.SameCalls t) (c : Call) (player : Option PlayerId) : (s.grantCall c player).SameCalls (t.grantCall c player) := by
  obtain ⟨hs, -, -, hsCast, -⟩ := State.grantCall_frame s c player
  obtain ⟨ht, -, -, htCast, -⟩ := State.grantCall_frame t c player
  have hSeated := (h.cleared c player).seated c player
  refine h.through (sameRouter_grantCall h.router c player) (fun p => ?_) hs ht hsCast htCast
  rw [grantCall_eq, grantCall_eq, raiseCall_reader, raiseCall_reader]
  unfold State.sounded
  split
  · exact hSeated.startPlayer _ p _
  · exact hSeated.players p

/-- Two walks in states alike, with the same zones reserved. -/
def Walk.SameCalls (w x : Walk) : Prop := w.state.SameCalls x.state ∧ w.reserved = x.reserved ∧ w.granted = x.granted

theorem Walk.SameCalls.visit {w x : Walk} (h : w.SameCalls x) (id : Nat) : (w.visit id).SameCalls (x.visit id) := by
  obtain ⟨hState, hReserved, hGranted⟩ := h
  unfold Walk.visit
  rw [sameRouter_callAt hState.router id]
  split
  · exact ⟨hState, hReserved, hGranted⟩
  · rename_i c hCall
    rw [hReserved, sameRouter_grantable hState.router]
    split
    · exact ⟨hState, hReserved, hGranted⟩
    · split
      · exact ⟨hState.grantCall c _, rfl, rfl⟩
      · exact ⟨hState, rfl, hGranted⟩

theorem State.SameCalls.walkOnce (h : s.SameCalls t) : s.walkOnce.SameCalls t.walkOnce := by
  unfold State.walkOnce
  rw [h.router]
  exact foldl_rel (R := Walk.SameCalls) (fun _ _ id h => h.visit id) _ ⟨h, rfl, rfl⟩

theorem State.SameCalls.walkUpTo (n : Nat) (h : s.SameCalls t) : (s.walkUpTo n).SameCalls (t.walkUpTo n) := by
  induction n generalizing s t with
  | zero => exact h
  | succ n ih =>
    obtain ⟨hState, -, hGranted⟩ := h.walkOnce
    rw [walkUpTo_succ, walkUpTo_succ, hGranted]
    split
    · exact ih hState
    · exact hState

theorem State.SameCalls.walk (h : s.SameCalls t) : s.walk.SameCalls t.walk := by
  unfold State.walk
  rw [h.router]
  exact h.walkUpTo _

theorem State.SameCalls.enterCall (h : s.SameCalls t) (q : CallRequest) (zones : List ZoneId) (line : Option LineId) :
    (s.enterCall q zones line).SameCalls (t.enterCall q zones line) := by
  obtain ⟨hs, -, -, hsCast, -⟩ := State.enterCall_frame s q zones line
  obtain ⟨ht, -, -, htCast, -⟩ := State.enterCall_frame t q zones line
  refine h.through ?_ (fun p => ?_) hs ht hsCast htCast
  · rw [enterCall_admitting, enterCall_admitting]
    unfold State.newCall
    rw [h.router, h.now]
  · unfold State.enterCall
    dsimp only
    rw [raiseCall_reader, raiseCall_reader]
    exact h.players p

/-- A request submitted in two states alike is refused in both, or admitted in both with one id. -/
theorem State.SameCalls.submit (h : s.SameCalls t) (q : CallRequest) (line : Option LineId) :
    (∃ e, s.submit q line = .error e ∧ t.submit q line = .error e) ∨
      ∃ id s' t', s.submit q line = .ok (id, s') ∧ t.submit q line = .ok (id, t') ∧ s'.SameCalls t' := by
  have hZones : s.resolve q = t.resolve q := by
    have hAt : ({ t with router := s.router, cast := s.cast } : State) = t := by rw [h.router, h.cast]
    rw [← hAt]
    rfl
  have hRoom : s.router.room q.pri = t.router.room q.pri := by rw [h.router]
  have hDrop : ∀ id, (s.dropCall id).router.freeId = (t.dropCall id).router.freeId := fun id => by
    unfold State.dropCall
    rw [State.onRouter_router, State.onRouter_router, h.router]
  by_cases hNone : s.resolve q = []
  · exact .inl ⟨.noZones, submit_noZones hNone line, submit_noZones (hZones.symm.trans hNone) line⟩
  · have hSome : t.resolve q ≠ [] := fun e => hNone (hZones.trans e)
    cases hCase : s.router.room q.pri with
    | full => exact .inl ⟨.queueFull, submit_full hNone hCase line, submit_full hSome (hRoom.symm.trans hCase) line⟩
    | free =>
      have hLess : s.router.calls.length < 16 := by
        by_contra hNot
        unfold RouterBlock.room at hCase
        rw [if_neg (show ¬s.router.calls.length < Config.maxCalls from hNot)] at hCase
        split at hCase
        · split at hCase <;> cases hCase
        · cases hCase
      have hs := submit_free hNone hLess line
      have ht := submit_free hSome (h.router ▸ hLess) line
      rw [← h.router, ← hZones] at ht
      exact .inr ⟨_, _, _, hs, ht, (h.enterCall q _ line).walk⟩
    | displacing out =>
      have hs := submit_displacing hNone hCase line
      have ht := submit_displacing hSome (hRoom.symm.trans hCase) line
      rw [← hDrop, ← hZones] at ht
      exact .inr ⟨_, _, _, hs, ht, ((h.closeCall out _ _ _).enterCall q _ line).walk⟩

/-! ### The actions of a firing -/

/-- A CALL action in two states alike (R107). -/
theorem State.SameCalls.fireCall (h : s.SameCalls t) (n m : FireCounts) (k : PresetId) :
    (s.fireCall n k).1.SameCalls (t.fireCall m k).1 := by
  unfold State.fireCall
  rw [h.router]
  cases t.router.presets.get k with
  | none => exact h
  | some q =>
    rcases h.submit q none with ⟨e, hs, ht⟩ | ⟨id, s', t', hs, ht, hSame⟩
    · dsimp only
      rw [hs, ht]
      exact h
    · dsimp only
      rw [hs, ht]
      exact hSame

/-- Every other action leaves what calls depend on. -/
theorem fireAction_sameCalls {slot : InstSlot} {acc : State × FireCounts} {a : Action} (ha : callOf a = none) :
    acc.1.SameCalls (State.fireAction slot acc a).1 := by
  obtain ⟨s, n⟩ := acc
  cases a with
  | level row bus code ms =>
    obtain ⟨hKept, hCast, -, hFetch, hRouter, -⟩ := State.fireLevel_frame s n slot row bus code ms
    exact .of_kept hKept hCast hRouter fun p => reader_of_fetch hFetch _
  | play v snd ms =>
    unfold State.fireAction
    dsimp only
    split
    · exact .refl s
    · obtain ⟨hKept, -, hCast, -, -, hRouter, -⟩ := State.play_frame s v snd _ ms (some slot)
      exact .of_kept hKept hCast hRouter fun p => play_reader (voiceReader_ne_playerReader v p).symm (some slot)
  | stop v ms =>
    obtain ⟨hKept, -, hCast, -, -, hRouter, -⟩ := State.stopVoice_frame s v ms (some slot)
    exact .of_kept hKept hCast hRouter fun p => stopVoice_reader (voiceReader_ne_playerReader v p).symm (some slot)
  | call k => cases ha
  | line l on => exact ⟨rfl, fun _ => rfl, rfl, rfl, rfl⟩

/-- The calls a firing submits, submitted by themselves in a state alike. -/
theorem fireActions_sameCalls {slot : InstSlot} (l : List Action) {acc : State × FireCounts} (h : acc.1.SameCalls t) :
    (l.foldl (State.fireAction slot) acc).1.SameCalls ((l.filterMap callOf).foldl (fun x k => (x.fireCall {} k).1) t) := by
  induction l generalizing acc t with
  | nil => exact h
  | cons a l ih =>
    cases ha : callOf a with
    | none =>
      rw [List.filterMap_cons_none ha]
      exact ih ((fireAction_sameCalls ha).symm.trans h)
    | some k =>
      rw [List.filterMap_cons_some ha]
      have hCall : ∀ b : Action, callOf b = some k → b = .call k := fun b hb => by cases b <;> cases hb; rfl
      rw [hCall a ha]
      exact ih (h.fireCall acc.2 {} k)

end

end Sys2Proof.Machine
end

section
/-! PROOFS. The `Inst` table and the chain while a firing applies its actions: instances other than the new one may leave, none comes, and
an END link of one that left may set the chain (R103, R108, R109). -/

namespace Sys2Proof.Machine

open Sys2Proof

/-! ### The chain an END link sets -/

/-- The chain is one an `Inst`'s END link sets (R109). -/
def Inst.Sets (i : Inst) (chain : Option Chain) : Prop :=
  ∃ ms n, i.endLink = some ms ∧ i.chainTarget = some n ∧
    chain = some { target := n, ms := ms, elapsed := 0, fromStart := false, setBy := i.cue }

theorem Inst.chainLeft_cases (i : Inst) (b : EngineBlock) : i.chainLeft b = b.chain ∨ i.Sets (i.chainLeft b) := by
  unfold Inst.chainLeft
  split
  · rename_i ms n hLink hTarget
    split
    · exact .inr ⟨ms, n, hLink, hTarget, rfl⟩
    · exact .inl rfl
  · exact .inl rfl

/-- An `Inst` but for its count. -/
def Inst.uncounted (i : Inst) : Inst := { i with count := 0 }

/-- Instances alike but for their counts. -/
theorem Inst.uncounted_eq {i j : Inst} (h : j.uncounted = i.uncounted) : j = { i with count := j.count } :=
  (congrArg (fun x : Inst => { x with count := j.count }) h :)

theorem Inst.uncounted_slot {i j : Inst} (h : j.uncounted = i.uncounted) : j.slot = i.slot := by rw [Inst.uncounted_eq h]

theorem Inst.Sets.uncounted {i j : Inst} {chain : Option Chain} (h : i.Sets chain) (hSame : j.uncounted = i.uncounted) : j.Sets chain := by
  obtain ⟨ms, n, hLink, hTarget, hChain⟩ := h
  rw [Inst.uncounted_eq hSame]
  exact ⟨ms, n, hLink, hTarget, hChain⟩

/-! ### The table while an `Inst` fires -/

section
variable {F : InstSlot} {s t u : State}

/-- Since `s` the `Inst` in slot `F` fires; instances of the table may have left it, and the chain is as it was, or an END link of
another `Inst` has set it. -/
structure State.Tabled (F : InstSlot) (s t : State) : Prop where
  firing : t.engine.firing = some F
  insts : (t.engine.insts.map Inst.uncounted).Sublist (s.engine.insts.map Inst.uncounted)
  chain : t.engine.chain = s.engine.chain ∨ ∃ i ∈ s.engine.insts, i.slot ≠ F ∧ i.Sets t.engine.chain

theorem State.Tabled.refl (h : s.engine.firing = some F) : s.Tabled F s := ⟨h, .refl _, .inl rfl⟩

theorem State.Tabled.trans (h : s.Tabled F t) (h' : t.Tabled F u) : s.Tabled F u := by
  refine ⟨h'.firing, h'.insts.trans h.insts, ?_⟩
  rcases h'.chain with hSame | ⟨i, hi, hSlot, hSets⟩
  · rw [hSame]
    exact h.chain
  · obtain ⟨j, hj, hEq⟩ := List.mem_map.mp (h.insts.subset (List.mem_map_of_mem hi))
    have hSlots : j.slot = i.slot := Inst.uncounted_slot hEq
    exact .inr ⟨j, hj, hSlots ▸ hSlot, hSets.uncounted hEq⟩

/-- A change of the counts alone, of the engine's table and chain. -/
theorem State.Tabled.counted (h : s.Tabled F t) (hFiring : u.engine.firing = t.engine.firing) (hChain : u.engine.chain = t.engine.chain)
    (hInsts : u.engine.insts.map Inst.uncounted = t.engine.insts.map Inst.uncounted) : s.Tabled F u := by
  refine ⟨hFiring.trans h.firing, ?_, ?_⟩
  · rw [hInsts]
    exact h.insts
  · rw [hChain]
    exact h.chain

theorem State.Tabled.congr (h : s.Tabled F t) (hEngine : u.engine = t.engine) : s.Tabled F u := by
  refine h.counted ?_ ?_ ?_ <;> rw [hEngine]

theorem State.Tabled.completeInst (h : s.Tabled F t) {i j : Inst} (hj : j ∈ t.engine.insts) (hSame : j.uncounted = i.uncounted)
    (hSlot : i.slot ≠ F) : s.Tabled F (t.completeInst i false) := by
  refine h.trans ⟨?_, ?_, ?_⟩
  · rw [completeInst_engine]
    exact h.firing
  · rw [completeInst_engine]
    exact List.filter_sublist.map _
  · rw [completeInst_engine]
    have hSlots : j.slot = i.slot := Inst.uncounted_slot hSame
    exact (i.chainLeft_cases t.engine).imp id fun hSets => ⟨j, hj, hSlots ▸ hSlot, hSets.uncounted hSame⟩

theorem map_count_uncounted (l : List Inst) (p : Inst → Bool) (g : Inst → Nat) :
    (l.map fun i => if p i then { i with count := g i } else i).map Inst.uncounted = l.map Inst.uncounted := by
  rw [List.map_map]
  refine List.map_congr_left fun i _ => ?_
  dsimp only [Function.comp]
  split <;> rfl

theorem State.Tabled.ownerDone (h : s.Tabled F t) (o : Option InstSlot) : s.Tabled F (t.ownerDone o) := by
  cases o with
  | none => exact h
  | some slot =>
    show s.Tabled F (t.instDone slot)
    unfold State.instDone
    split
    · exact h
    · rename_i i hAt
      obtain ⟨hi, hSlot⟩ := instAt_eq hAt
      have hSet : s.Tabled F (t.setCount slot (i.count - 1)) := by
        refine h.counted rfl rfl ?_
        exact (congrArg _ (List.map_congr_left fun j _ => by simp only [decide_eq_true_eq])).trans
          (map_count_uncounted t.engine.insts (fun j => decide (j.slot = slot)) fun _ => i.count - 1)
      dsimp only
      split
      · rename_i hLast
        have hOther : i.slot ≠ F := fun e => hLast.2 (by rw [← hSlot, e]; exact h.firing)
        have hMem : ({ i with count := i.count - 1 } : Inst) ∈ (t.setCount slot (i.count - 1)).engine.insts :=
          List.mem_map.mpr ⟨i, hi, if_pos hSlot⟩
        exact hSet.completeInst hMem rfl hOther
      · exact hSet

theorem State.Tabled.ownerAdd (h : s.Tabled F t) (o : Option InstSlot) : s.Tabled F (t.ownerAdd o) := by
  cases o with
  | none => exact h
  | some slot =>
    refine h.counted rfl rfl ?_
    exact (congrArg _ (List.map_congr_left fun j _ => by simp only [decide_eq_true_eq])).trans
      (map_count_uncounted t.engine.insts (fun j => decide (j.slot = slot)) fun j => j.count + 1)

theorem State.Tabled.removeFade (h : s.Tabled F t) (x : Target) : s.Tabled F (t.removeFade x) := by
  unfold State.removeFade
  split
  · exact h
  · exact State.Tabled.ownerDone (t := t.dropFade x) (h.congr rfl) _

theorem setLevelOf_engine (s : State) (x : Target) (c : LevelCode) : (s.setLevelOf x c).engine = s.engine := by
  cases x <;> rfl

theorem poolFullSnap_engine (s : State) (x : Target) (c : LevelCode) : (s.poolFullSnap x c).engine = s.engine := by
  unfold State.poolFullSnap
  rw [State.raise_engine]
  exact setLevelOf_engine s x c

theorem State.Tabled.snapLevel (h : s.Tabled F t) (x : Target) (c : LevelCode) : s.Tabled F (t.snapLevel x c) :=
  (h.removeFade x).congr (setLevelOf_engine _ x c)

theorem State.Tabled.requestFade (h : s.Tabled F t) (x : Target) (c : LevelCode) (ms : Nat) (o : Option InstSlot) (b : Bool) :
    s.Tabled F (t.requestFade x c ms o b) := by
  have hPool : ∀ f, s.Tabled F (t.onFades f) := fun f => h.congr rfl
  unfold State.requestFade
  dsimp only
  split
  · exact ((hPool _).ownerDone _).ownerAdd o
  · exact h
  · exact (hPool _).ownerAdd o
  · exact h.congr (poolFullSnap_engine t x c)

/-! ### Voices -/

theorem State.Tabled.raiseReader (h : s.Tabled F t) (r : ReaderId) (event : String) : s.Tabled F (t.raiseReader r event) := h.congr (by simp)

theorem State.Tabled.enterIdle (h : s.Tabled F t) (r : ReaderId) (event : String) : s.Tabled F (t.enterIdle r event) := by
  have hIdle : s.Tabled F (((t.clearRing r).onReader r Reader.toIdle).raiseReader r event) :=
    State.Tabled.raiseReader (t := (t.clearRing r).onReader r Reader.toIdle) (h.congr rfl) r event
  unfold State.enterIdle
  dsimp only
  split
  · unfold State.callEvaluation
    split
    · exact ((hIdle.removeFade _).ownerDone _).counted rfl rfl rfl
    · exact (hIdle.removeFade _).ownerDone _
  · exact hIdle

theorem State.Tabled.enterPlaying (h : s.Tabled F t) (r : ReaderId) (late : Nat) : s.Tabled F (t.enterPlaying r late) := by
  have hFadeIn : ∀ {w : State} v kept, s.Tabled F w → s.Tabled F (w.fadeIn v kept) := fun {w} v kept hw => by
    unfold State.fadeIn
    split
    · exact hw
    · exact hw
    · exact hw.requestFade _ _ _ _ _
  have hPlaying : ∀ f, s.Tabled F (t.onReader r f) := fun f => h.congr rfl
  unfold State.enterPlaying
  dsimp only
  split
  · exact ((hFadeIn _ _ (hPlaying _)).ownerDone _).raiseReader r _
  · exact (hPlaying _).raiseReader r _

theorem State.Tabled.play (h : s.Tabled F t) (v : VoiceId) (n : SoundId) (d : Sound) (ms : Nat) (o : Option InstSlot) :
    s.Tabled F (t.play v n d ms o) := by
  have hTold : s.Tabled F ((t.removeFade (.voice v)).ownerDone (t.reader (voiceReader v)).owner) := (h.removeFade _).ownerDone _
  have hReader : ∀ {w : State} r f, s.Tabled F w → s.Tabled F (w.onReader r f) := fun r f hw => hw.congr rfl
  have hTest : ∀ {w : State} r, s.Tabled F w → s.Tabled F (w.testStart r) := fun r hw => by
    unfold State.testStart
    dsimp only
    split
    · exact hw.enterPlaying r _
    · exact hw
  unfold State.play
  dsimp only
  split
  · exact (hReader _ _ hTold).enterPlaying _ _
  · refine hTest _ (State.Tabled.raiseReader (State.Tabled.ownerAdd (hReader _ _ ?_) o) _ _)
    split
    · exact hReader _ _ hTold
    · exact hReader _ _ (hTold.congr rfl)

theorem State.Tabled.stopVoice (h : s.Tabled F t) (v : VoiceId) (ms : Nat) (o : Option InstSlot) : s.Tabled F (t.stopVoice v ms o) := by
  rcases stopVoice_forms t v ms o with hForm | ⟨event, hForm⟩ | ⟨-, -, hForm⟩ | hForm <;> rw [hForm]
  · exact h
  · exact h.enterIdle _ _
  · exact h.requestFade _ _ _ _ _
  · exact State.Tabled.enterIdle (h.congr (poolFullSnap_engine t _ _)) _ _

/-! ### The actions -/

theorem State.Tabled.fireAction {acc : State × FireCounts} (h : s.Tabled F acc.1) (slot : InstSlot) (a : Action) :
    s.Tabled F (State.fireAction slot acc a).1 := by
  obtain ⟨t, n⟩ := acc
  have ht : s.Tabled F t := h
  cases a with
  | level row bus code ms =>
    show s.Tabled F (t.fireLevel n slot row bus code ms).1
    unfold State.fireLevel
    split
    · exact ht.congr (State.countSkip_frame t bus).2.2.2.2.2.1
    · split
      · exact ht
      · split
        · exact State.Tabled.snapLevel ht (.xpt row bus) code
        · exact ht.requestFade _ _ _ _ _
  | play v snd ms =>
    unfold State.fireAction
    dsimp only
    split
    · exact ht
    · exact ht.play _ _ _ _ _
  | stop v ms => exact ht.stopVoice _ _ _
  | call k => exact ht.congr (State.fireCall_frame t n k).2.2.2.2.2.1
  | line l on => exact ht.congr rfl

theorem State.Tabled.fireActions (h : s.engine.firing = some F) (slot : InstSlot) (l : List Action) (n : FireCounts) :
    s.Tabled F (l.foldl (State.fireAction slot) (s, n)).1 :=
  foldl_holds (P := fun x : State × FireCounts => s.Tabled F x.1) (fun _ a hx => hx.fireAction slot a) l (.refl h)

end

/-! ### The table by what is owned -/

/-- A table that stands but for instances that left, each count what its slot owns, none 0, and every owner in it. -/
theorem insts_of_sublist {l L : List Inst} {n : InstSlot → Nat} (hSub : (l.map Inst.uncounted).Sublist (L.map Inst.uncounted))
    (hSlots : (L.map (·.slot)).Nodup) (hCount : ∀ i ∈ l, i.count = n i.slot ∧ 0 < i.count)
    (hOwned : ∀ i ∈ L, n i.slot ≠ 0 → i.slot ∈ l.map (·.slot)) :
    l = (L.map fun i => { i with count := n i.slot }).filter fun i => i.count ≠ 0 := by
  induction L generalizing l with
  | nil =>
    have hNil : l = [] := by simpa using hSub
    rw [hNil]
    rfl
  | cons i L ih =>
    obtain ⟨hFresh, hRest⟩ := List.nodup_cons.mp hSlots
    have hIn : ∀ {j : Inst}, j.uncounted ∈ L.map Inst.uncounted → j.slot ∈ L.map (·.slot) := fun {j} hj => by
      obtain ⟨k, hk, hEq⟩ := List.mem_map.mp hj
      have hSlot : k.slot = j.slot := Inst.uncounted_slot hEq
      exact hSlot ▸ List.mem_map_of_mem hk
    rw [List.map_cons] at hSub
    rcases List.sublist_cons_iff.mp hSub with hLeft | ⟨l', hl', hLeft⟩
    · have hNone : n i.slot = 0 := by
        by_contra hSome
        obtain ⟨j, hj, hSlot⟩ := List.mem_map.mp (hOwned i List.mem_cons_self hSome)
        exact hFresh (Eq.mp (by rw [hSlot]) (hIn (hLeft.subset (List.mem_map_of_mem hj))))
      rw [List.map_cons, List.filter_cons_of_neg (by simp [hNone])]
      exact ih hLeft hRest hCount fun j hj => hOwned j (List.mem_cons_of_mem i hj)
    · cases l with
      | nil => cases hl'
      | cons j k =>
        obtain ⟨hHead, hTail⟩ := List.cons.inj hl'
        obtain ⟨hSome, hPos⟩ := hCount j List.mem_cons_self
        have hSlot : j.slot = i.slot := Inst.uncounted_slot hHead
        have hSame : ({ i with count := n i.slot } : Inst) = j := by
          have hCounts : n i.slot = j.count := by rw [hSome, hSlot]
          rw [hCounts]
          exact (Inst.uncounted_eq hHead).symm
        rw [List.map_cons, hSame, List.filter_cons_of_pos (by simpa using hPos.ne')]
        rw [← hTail] at hLeft
        refine congrArg (j :: ·) (ih hLeft hRest (fun x hx => hCount x (List.mem_cons_of_mem j hx)) fun x hx hn => ?_)
        have hx' := hOwned x (List.mem_cons_of_mem i hx) hn
        rw [List.map_cons] at hx'
        refine (List.mem_cons.mp hx').resolve_left fun e => ?_
        exact hFresh (Eq.mp (by rw [e, hSlot]) (List.mem_map_of_mem (f := Inst.slot) hx))

end Sys2Proof.Machine
end

section
/-! PROOFS. A firing with its `Inst` open: the slot it takes, the table and the chain it finds, and what the `Inst` retired to make room
leaves of owners (R100, R103, R110, R113). -/

namespace Sys2Proof.Machine

open Sys2Proof

section
variable {s : State} (c : Cue)

/-! ### The `Inst` retired (R110) -/

/-- An owner, where it is not the `Inst` retired. -/
def keptOwner (slot : InstSlot) (o : Option InstSlot) : Option InstSlot := if o = some slot then none else o

theorem retire_fades (i : Inst) :
    (s.retire i).fades.pool = s.fades.pool.map fun f => { f with owner := keptOwner i.slot f.owner } := by
  have hPool : (s.retire i).fades.pool = s.fades.pool.map fun f => if f.owner = some i.slot then { f with owner := none } else f := by
    unfold State.retire
    rw [(State.endLink_frame _ i).2.2.1, (State.raiseCue_frame _ _).2.2.1]
    rfl
  rw [hPool]
  refine List.map_congr_left fun f _ => ?_
  unfold keptOwner
  split <;> rfl

theorem retire_reader (i : Inst) (r : ReaderId) :
    (s.retire i).reader r = { s.reader r with owner := keptOwner i.slot (s.reader r).owner } := by
  have hFetch : (s.retire i).fetch = (s.disownStarts i.slot).fetch := by
    unfold State.retire
    rw [(State.endLink_frame _ i).2.2.2.2.2.1, (State.raiseCue_frame _ _).2.2.2.2.2.1]
    rfl
  rw [reader_of_fetch hFetch]
  have hReader : (s.disownStarts i.slot).reader r = if (s.reader r).owner = some i.slot then { s.reader r with owner := none } else s.reader r := by
    show (s.fetch.readers.map _).get r = _
    rw [get_map]
    rfl
  rw [hReader]
  unfold keptOwner
  split <;> rfl

theorem retire_chain (i : Inst) : (s.retire i).engine.chain = s.engine.chain ∨ i.Sets (s.retire i).engine.chain := by
  unfold State.retire
  rw [endLink_engine, raiseCue_engine]
  exact i.chainLeft_cases _

/-! ### Room for the `Inst` (R103) -/

/-- With eight instances the oldest is retired, and with fewer the state stands. -/
theorem makeRoom_cases (s : State) :
    (s.makeRoom = s ∧ s.roomInsts = s.engine.insts ∧ ∀ o, s.ownerLeft o = o) ∨
      ∃ i rest, s.engine.insts = i :: rest ∧ s.makeRoom = s.retire i ∧ s.roomInsts = rest ∧ ∀ o, s.ownerLeft o = keptOwner i.slot o := by
  unfold State.makeRoom State.roomInsts State.ownerLeft
  cases hInsts : s.engine.insts with
  | nil => exact .inl ⟨rfl, if_neg (by decide), fun o => if_neg fun h => absurd h.1 (by decide)⟩
  | cons i rest =>
    dsimp only
    by_cases hFull : Config.maxInstances ≤ (i :: rest).length
    · refine .inr ⟨i, rest, rfl, if_pos hFull, if_pos hFull, fun o => ?_⟩
      unfold keptOwner
      by_cases ho : o = some i.slot
      · rw [if_pos ⟨hFull, ho⟩, if_pos ho]
      · rw [if_neg fun h => ho h.2, if_neg ho]
    · exact .inl ⟨if_neg hFull, if_neg hFull, fun o => if_neg fun h => hFull h.1⟩

theorem opened_fades : (s.opened c).fades.pool = s.fades.pool.map fun f => { f with owner := s.ownerLeft f.owner } := by
  have hRoomed : (s.opened c).fades = s.makeRoom.fades := (State.cancelChain_frame s.makeRoom c.number).2.2.1
  rw [hRoomed]
  rcases makeRoom_cases s with ⟨hRoom, -, hOwner⟩ | ⟨i, rest, -, hRoom, -, hOwner⟩ <;> rw [hRoom]
  · simp only [hOwner]
    exact (List.map_id _).symm
  · simp only [hOwner]
    exact retire_fades i

theorem opened_length : (s.opened c).fades.pool.length = s.fades.pool.length := by
  rw [opened_fades, List.length_map]

theorem opened_fadeOf (x : Target) : (s.opened c).fadeOf x = (s.fadeOf x).map fun f => { f with owner := s.ownerLeft f.owner } := by
  unfold State.fadeOf
  rw [opened_fades, List.find?_map]
  rfl

theorem opened_reader (r : ReaderId) : (s.opened c).reader r = { s.reader r with owner := s.ownerLeft (s.reader r).owner } := by
  have hRoomed : (s.opened c).fetch = s.makeRoom.fetch := (State.cancelChain_frame s.makeRoom c.number).2.2.2.2.2.1
  rw [reader_of_fetch hRoomed]
  rcases makeRoom_cases s with ⟨hRoom, -, hOwner⟩ | ⟨i, rest, -, hRoom, -, hOwner⟩ <;> rw [hRoom]
  · rw [hOwner]
  · rw [hOwner]
    exact retire_reader i r

theorem opened_voice (v : VoiceId) : (s.opened c).voice v = { s.voice v with owner := s.ownerLeft (s.voice v).owner } := opened_reader c (voiceReader v)

/-! ### The table and the chain a firing finds -/

theorem roomed_insts (hSlots : (s.engine.insts.map (·.slot)).Nodup) : (s.roomed c).engine.insts = s.roomInsts := by
  unfold State.roomed
  rw [State.cancelChain_insts]
  rcases makeRoom_cases s with ⟨hRoom, hInsts, -⟩ | ⟨i, rest, hAll, hRoom, hInsts, -⟩ <;> rw [hRoom, hInsts]
  rw [State.retire_insts, hAll, List.filter_cons_of_neg (by simp)]
  rw [hAll, List.map_cons] at hSlots
  refine List.filter_eq_self.mpr fun j hj => decide_eq_true fun e => (List.nodup_cons.mp hSlots).1 ?_
  exact e ▸ List.mem_map_of_mem hj

theorem opened_insts (hSlots : (s.engine.insts.map (·.slot)).Nodup) :
    (s.opened c).engine.insts = s.roomInsts ++ [s.newInst c (s.fireSlot c)] := by
  have hCues : (s.roomed c).cues = s.cues := kept_cues (roomed_actsOn (A := []) s c).kept
  have hStamp : (s.roomed c).engine.nextStamp = s.engine.nextStamp := marks_nextStamp (s.marks_roomed c)
  have hOpen : (s.opened c).engine.insts = (s.roomed c).engine.insts ++ [⟨s.fireSlot c, c.number, (s.roomed c).engine.nextStamp, 0,
      (s.roomed c).cueAfter c.number, c.endLink⟩] := rfl
  rw [hOpen, roomed_insts c hSlots, hStamp, State.cueAfter_congr hCues]
  unfold State.newInst Cue.endLink
  cases c.link <;> rfl

theorem makeRoom_chain (s : State) : s.makeRoom.engine.chain = s.engine.chain ∨ ∃ i ∈ s.engine.insts, i.Sets s.makeRoom.engine.chain := by
  rcases makeRoom_cases s with ⟨hRoom, -, -⟩ | ⟨i, rest, hAll, hRoom, -, -⟩ <;> rw [hRoom]
  · exact .inl rfl
  · exact (retire_chain i).imp id fun h => ⟨i, by rw [hAll]; exact List.mem_cons_self, h⟩

theorem cancelChain_chain (s : State) (n : Nat) :
    (s.cancelChain n).engine.chain = if s.engine.chain.any (fun ch => ch.target = n) then none else s.engine.chain := by
  unfold State.cancelChain
  split
  · rename_i hNone
    rw [hNone]
    rfl
  · rename_i ch hSome
    split
    · rename_i hTarget
      rw [raiseCue_engine, hSome, Option.any_some, if_pos (decide_eq_true hTarget)]
      rfl
    · rename_i hTarget
      rw [hSome, Option.any_some, if_neg (by simpa using hTarget)]

theorem opened_chain : (s.opened c).engine.chain =
    if s.makeRoom.engine.chain.any (fun ch => ch.target = c.number) then none else s.makeRoom.engine.chain :=
  cancelChain_chain s.makeRoom c.number

/-! ### The slot (R100) -/

/-- The slot an `Inst` takes is the lowest that is free. -/
theorem freeSlot_lowest {b : EngineBlock} {x : InstSlot} (hx : x < b.freeSlot) : ∃ i ∈ b.insts, i.slot = x := by
  by_contra hNone
  have hFree : (b.insts.all fun i => i.slot ≠ x) = true := List.all_eq_true.mpr fun i hi => decide_eq_true fun e => hNone ⟨i, hi, e⟩
  have hPick : x ∈ pick fun slot => b.insts.all fun i => i.slot ≠ slot := mem_pick.mpr hFree
  have hSorted : (pick fun slot => b.insts.all fun i => i.slot ≠ slot).Pairwise (· < ·) := (List.pairwise_lt_finRange 8).filter _
  unfold EngineBlock.freeSlot at hx
  cases hList : pick fun slot => b.insts.all fun i => i.slot ≠ slot with
  | nil =>
    rw [hList] at hPick
    cases hPick
  | cons y rest =>
    rw [hList] at hPick hSorted hx
    rcases List.mem_cons.mp hPick with rfl | hIn
    · exact lt_irrefl _ hx
    · exact lt_asymm hx ((List.pairwise_cons.mp hSorted).1 x hIn)

/-- With the accounts in order, the firing's slot is the lowest no other `Inst` has. -/
theorem fireSlot_free (h : Accounts True none (fun _ => 0) none s) :
    (∀ i ∈ s.roomInsts, i.slot ≠ s.fireSlot c) ∧ ∀ x, x < s.fireSlot c → ∃ i ∈ s.roomInsts, i.slot = x := by
  have hInsts := roomed_insts c h.slots
  have hRoom : (s.roomed c).engine.insts.length < Config.maxInstances := by
    unfold State.roomed
    rw [State.cancelChain_insts]
    exact h.makeRoom.2
  refine ⟨fun i hi e => EngineBlock.freeSlot_fresh hRoom ?_, fun x hx => ?_⟩
  · rw [hInsts]
    exact List.mem_map.mpr ⟨i, hi, e⟩
  · rw [← hInsts]
    exact freeSlot_lowest hx

/-- What a firing with its `Inst` open leaves calls to depend on. -/
theorem opened_sameCalls (h : s.OwnersOk) : (s.opened c).SameCalls s := by
  have hActs := opened_actsOn (A := []) s c
  have hRouter : (s.opened c).router = s.router := by
    obtain ⟨-, -, -, -, -, hRoom, -⟩ := State.makeRoom_frame s
    exact (State.cancelChain_frame s.makeRoom c.number).2.2.2.2.2.2.2.1.trans hRoom
  refine (State.SameCalls.of_kept hActs.kept hActs.cast hRouter fun p => ?_).symm
  have hFree : (s.reader (playerReader p)).owner = none := by
    obtain ⟨-, -, -, -, hStarts, -, -⟩ := h
    cases hOwner : (s.reader (playerReader p)).owner with
    | none => rfl
    | some slot => exact absurd rfl ((hStarts _ slot hOwner).2.2 p)
  rw [opened_reader, hFree]
  have hNone : s.ownerLeft none = none := by
    unfold State.ownerLeft
    split <;> rfl
  rw [hNone, ← hFree]

end

end Sys2Proof.Machine
end

section
/-! PROOFS. The steps of a firing after its actions: what they leave of the fades and the readers, and the table and the chain the firing
leaves (R103, R108 to R111, R113). -/

namespace Sys2Proof.Machine

open Sys2Proof

section
variable {s : State} {c : Cue}

/-! ### The accounts of a firing -/

theorem opened_accounts (h : Accounts True none (fun _ => 0) none s) (c : Cue) :
    Accounts True (some (s.fireSlot c)) (fun _ => 0) none (s.opened c) := by
  obtain ⟨hRoom, hLess⟩ := h.makeRoom
  exact (hRoom.cancelChain c.number).openInst (by rw [State.cancelChain_insts]; exact hLess) c

theorem acted_accounts (h : Accounts True none (fun _ => 0) none s) (c : Cue) :
    Accounts True (some (s.fireSlot c)) (fun _ => 0) none (s.acted c).1 := (opened_accounts h c).fireActions (acc := (_, {})) c.actions

/-- A voice PRIMING or PRIMED has no fade and no start owner. -/
theorem Accounts.unheld {F : Option InstSlot} {v : VoiceId} (h : Accounts True F (fun _ => 0) none s) (hPriming : (s.voice v).isPriming = true) :
    s.Unheld v := by
  have hState := (isPriming_iff _).mp hPriming
  refine ⟨State.fadeOf_eq_none.mpr fun f hf hTarget => ?_, ?_⟩
  · rcases h.voiceFades f hf v hTarget nofun with hPlays | hPlays <;> rw [hPlays] at hState <;> rcases hState with e | e <;> cases e
  · by_contra hOwner
    have hStarts : (s.voice v).state = .starting := (h.starting (voiceReader v) nofun hOwner).1
    rw [hStarts] at hState
    rcases hState with e | e <;> cases e

/-! ### The steps after the actions -/

theorem linked_fades : (s.linked c).fades = (s.acted c).1.fades := (State.startLink_frame (s.acted c).1 c).2.2.1

theorem linked_fetch : (s.linked c).fetch = (s.acted c).1.fetch := (State.startLink_frame (s.acted c).1 c).2.2.2.2.2.1

theorem linked_accounts (h : Accounts True none (fun _ => 0) none s) (c : Cue) :
    Accounts True (some (s.fireSlot c)) (fun _ => 0) none (s.linked c) := (acted_accounts h c).startLink c

theorem evaluatedFiring_accounts (h : Accounts True none (fun _ => 0) none s) (c : Cue) :
    Accounts True (some (s.fireSlot c)) (fun _ => 0) none (s.evaluatedFiring c) := (accounts_core _).evaluatePriming (linked_accounts h c)

/-- With the accounts in order the evaluation of a firing reaches no fade and no `Inst` (R117). -/
theorem evaluatedFiring_quiet (h : Accounts True none (fun _ => 0) none s) (c : Cue) : (s.linked c).Quiet (s.evaluatedFiring c) :=
  evaluatePriming_quiet fun _ hPriming => (linked_accounts h c).unheld hPriming

theorem fire_finish_eq (s : State) (c : Cue) : (s.fire c).1.finish = (s.fire c).1.settleReady := by
  unfold State.finish
  rw [(fire_says s c).due, if_neg (by decide)]

/-- A firing leaves the fades as its actions leave them. -/
theorem fired_fades (h : Accounts True none (fun _ => 0) none s) (c : Cue) : (s.fire c).1.finish.fades = (s.acted c).1.fades := by
  have hClosed := (State.closeFiring_frame (s.evaluatedFiring c) c (s.fireSlot c) (s.acted c).2).2.2.1
  rw [fire_finish_eq, (settleReady_blocks _).2, fire_eq, hClosed, (evaluatedFiring_quiet h c).fades, linked_fades]

/-- A firing leaves the readers as its evaluation leaves them. -/
theorem fired_fetch (s : State) (c : Cue) : (s.fire c).1.finish.fetch = (s.evaluatedFiring c).fetch := by
  have hClosed := (State.closeFiring_frame (s.evaluatedFiring c) c (s.fireSlot c) (s.acted c).2).2.2.2.2.2.1
  rw [fire_finish_eq, (settleReady_blocks _).1, fire_eq, hClosed]

theorem fired_owned (h : Accounts True none (fun _ => 0) none s) (c : Cue) (slot : InstSlot) :
    (s.fire c).1.finish.owned slot = (s.evaluatedFiring c).owned slot := by
  unfold State.owned
  rw [fired_fades h, fired_fetch, (evaluatedFiring_quiet h c).fades, linked_fades]

theorem fired_accounts (h : Accounts True none (fun _ => 0) none s) (c : Cue) : Accounts True none (fun _ => 0) none (s.fire c).1.finish :=
  (accounts_core _).finish (h.fire c)

theorem settleReady_table (s : State) : s.settleReady.engine.insts = s.engine.insts ∧ s.settleReady.engine.chain = s.engine.chain := by
  unfold State.settleReady
  dsimp only
  split
  · split
    · exact ⟨rfl, rfl⟩
    · show (s.raise _ _).engine.insts = _ ∧ (s.raise _ _).engine.chain = _
      rw [State.raise_engine]
      exact ⟨rfl, rfl⟩
  · split
    · exact ⟨rfl, rfl⟩
    · show (s.raiseCue _).engine.insts = _ ∧ (s.raiseCue _).engine.chain = _
      rw [raiseCue_engine]
      exact ⟨rfl, rfl⟩

/-! ### The `Inst` at the end of its firing -/

theorem acted_tabled (h : Accounts True none (fun _ => 0) none s) (c : Cue) : (s.opened c).Tabled (s.fireSlot c) (s.acted c).1 :=
  State.Tabled.fireActions (opened_accounts h c).firing (s.fireSlot c) c.actions {}

theorem startLink_insts (s : State) (c : Cue) : (s.startLink c).engine.insts = s.engine.insts := by
  unfold State.startLink
  split
  · rw [setChain_engine]
  · rfl

theorem evaluated_insts (h : Accounts True none (fun _ => 0) none s) (c : Cue) :
    (s.evaluatedFiring c).engine.insts = (s.acted c).1.engine.insts := by
  rw [(evaluatedFiring_quiet h c).engine]
  exact startLink_insts (s.acted c).1 c

theorem Inst.chainLeft_congr {i : Inst} {b b' : EngineBlock} (hStandby : b'.standby = b.standby) (hChain : b'.chain = b.chain) :
    i.chainLeft b' = i.chainLeft b := by
  unfold Inst.chainLeft
  rw [hStandby, hChain]

theorem completeFired_table (w : State) (i : Inst) : (w.completeInst i true).engine.insts = w.engine.insts.filter (fun j => j.slot ≠ i.slot) ∧
    (w.completeInst i true).engine.chain = i.chainLeft w.engine := by
  have hEnd : (w.completeInst i true).engine = ((w.removeInst i.slot).endLink i).engine := rfl
  rw [hEnd, endLink_engine]
  exact ⟨rfl, Inst.chainLeft_congr rfl rfl⟩

/-- The new `Inst`, where the firing closes, but for its count. -/
theorem evaluated_inst (h : Accounts True none (fun _ => 0) none s) (c : Cue) :
    ∃ i, (s.evaluatedFiring c).instAt (s.fireSlot c) = some i ∧ i.uncounted = (s.newInst c (s.fireSlot c)).uncounted ∧
      i.count = (s.evaluatedFiring c).owned (s.fireSlot c) := by
  have hAcc := evaluatedFiring_accounts h c
  obtain ⟨i, hi, hSlot⟩ := List.mem_map.mp (hAcc.fires trivial _ rfl)
  refine ⟨i, ?_, ?_, ?_⟩
  · cases hAt : (s.evaluatedFiring c).instAt (s.fireSlot c) with
    | none => exact absurd hSlot (by simpa using List.find?_eq_none.mp hAt i hi)
    | some j =>
      obtain ⟨hj, hjSlot⟩ := instAt_eq hAt
      rw [hAcc.inst_unique hj hi (hjSlot.trans hSlot.symm)]
  · have hMem : i.uncounted ∈ (s.opened c).engine.insts.map Inst.uncounted := by
      refine (acted_tabled h c).insts.subset ?_
      rw [← evaluated_insts h c]
      exact List.mem_map_of_mem hi
    obtain ⟨j, hj, hEq⟩ := List.mem_map.mp hMem
    rw [opened_insts c h.slots] at hj
    rcases List.mem_append.mp hj with hOld | hNew
    · exact absurd ((Inst.uncounted_slot hEq).trans hSlot) ((fireSlot_free c h).1 j hOld)
    · rw [← List.mem_singleton.mp hNew]
      exact hEq.symm
  · have hCount := hAcc.counts i hi
    rw [hSlot] at hCount
    rw [State.owned_eq]
    omega

theorem firedReport_engine (w : State) (c : Cue) (n : FireCounts) (slot : InstSlot) :
    (w.firedReport c n slot).engine.insts = w.engine.insts ∧ (w.firedReport c n slot).engine.chain = w.engine.chain ∧
      (w.firedReport c n slot).engine.standby = w.engine.standby := by
  unfold State.firedReport
  rw [State.onEngine_engine, raiseCue_engine]
  exact ⟨rfl, rfl, rfl⟩

/-- The table and the chain a firing leaves, by what its `Inst` owns at its end (R103, R109). -/
theorem fired_table (h : Accounts True none (fun _ => 0) none s) (c : Cue) :
    ((s.fire c).1.finish.owned (s.fireSlot c) ≠ 0 → (s.fire c).1.finish.engine.insts = (s.evaluatedFiring c).engine.insts ∧
      (s.fire c).1.finish.engine.chain = (s.evaluatedFiring c).engine.chain) ∧
    ((s.fire c).1.finish.owned (s.fireSlot c) = 0 →
      (s.fire c).1.finish.engine.insts = (s.evaluatedFiring c).engine.insts.filter (fun i => i.slot ≠ s.fireSlot c) ∧
      (s.fire c).1.finish.engine.chain = (s.newInst c (s.fireSlot c)).chainLeft (s.evaluatedFiring c).engine) := by
  obtain ⟨i, hAt, hSame, hCount⟩ := evaluated_inst h c
  obtain ⟨hInsts, hChain⟩ := settleReady_table (s.fire c).1
  rw [fired_owned h, fire_finish_eq, hInsts, hChain, fire_eq, closeFiring_eq, ← hCount]
  have hReport := firedReport_engine (s.evaluatedFiring c) c (s.acted c).2 (s.fireSlot c)
  have hThere : ((s.evaluatedFiring c).firedReport c (s.acted c).2 (s.fireSlot c)).instAt (s.fireSlot c) = some i := by
    unfold State.instAt
    rw [hReport.1]
    exact hAt
  obtain ⟨hInsts', hChain', hStandby'⟩ := hReport
  rw [hThere, Option.elim_some]
  generalize (s.evaluatedFiring c).firedReport c (s.acted c).2 (s.fireSlot c) = w at *
  refine ⟨fun hSome => ?_, fun hNone => ?_⟩
  · rw [if_neg hSome]
    exact ⟨hInsts', hChain'⟩
  · rw [if_pos hNone]
    obtain ⟨hLeft, hSet⟩ := completeFired_table w i
    have hSlot : i.slot = s.fireSlot c := Inst.uncounted_slot hSame
    refine ⟨by rw [hLeft, hInsts', hSlot], hSet.trans ?_⟩
    rw [Inst.chainLeft_congr hStandby' hChain', Inst.uncounted_eq hSame]
    rfl

/-! ### The chain before the firing closes (R103, R111) -/

theorem startLink_sets {ms n : Nat} (hLink : c.link = .start ms) (hNext : s.engine.standby = some n) :
    (s.startLink c).engine.chain = some { target := n, ms := ms, elapsed := 0, fromStart := true, setBy := c.number } := by
  simp only [State.startLink, hLink, hNext]
  rw [setChain_engine]

theorem startLink_none (h : ∀ ms, c.link = .start ms → s.engine.standby = none) : s.startLink c = s := by
  unfold State.startLink
  split
  · rename_i ms n hLink hNext
    rw [h ms hLink] at hNext
    cases hNext
  · rfl

end

end Sys2Proof.Machine
end

section
/-! PROOFS. The `Inst` table and the chain a firing leaves (R100, R103, R108 to R111, R113). -/

namespace Sys2Proof.Machine

open Sys2Proof

section
variable {s : State} (c : Cue)

theorem roomInsts_sublist (s : State) : s.roomInsts.Sublist s.engine.insts := by
  unfold State.roomInsts
  split
  · exact List.tail_sublist _
  · exact .refl _

theorem evaluated_standby : (s.evaluatedFiring c).engine.standby = s.cueAfter c.number := by
  have hMarks : (s.evaluatedFiring c).marks = (s.opened c).marks := by
    unfold State.evaluatedFiring State.linked State.acted
    rw [State.marks_evaluatePriming, State.marks_startLink, State.marks_fireActions]
  have hOpened : (s.opened c).engine.standby = s.cueAfter c.number := congrArg Marks.standby (State.marks_opened s c)
  exact (marks_standby hMarks).trans hOpened

theorem acted_standby : (s.acted c).1.engine.standby = s.cueAfter c.number := by
  have hOpened : (s.opened c).engine.standby = s.cueAfter c.number := congrArg Marks.standby (State.marks_opened s c)
  exact (marks_standby (State.marks_fireActions _ _ _)).trans hOpened

theorem newInst_endLink (s : State) (c : Cue) (slot : InstSlot) : (s.newInst c slot).endLink = c.endLink := by
  unfold State.newInst Cue.endLink
  cases c.link <;> rfl

theorem newInst_sets {slot : InstSlot} {b : EngineBlock} {ms n : Nat} (hLink : c.link = .finish ms) (hNext : s.cueAfter c.number = some n)
    (hStandby : b.standby = some n) : (s.newInst c slot).chainLeft b =
      some { target := n, ms := ms, elapsed := 0, fromStart := false, setBy := c.number } := by
  have hEnd : (s.newInst c slot).endLink = some ms := by
    rw [newInst_endLink]
    unfold Cue.endLink
    rw [hLink]
  have hTarget : (s.newInst c slot).chainTarget = some n := hNext
  unfold Inst.chainLeft
  simp only [hEnd, hTarget, hStandby, if_true]
  rfl

theorem newInst_leaves {slot : InstSlot} {b : EngineBlock} (hNone : ∀ ms, c.link = .finish ms → s.cueAfter c.number = none) :
    (s.newInst c slot).chainLeft b = b.chain := by
  refine ((s.newInst c slot).chainLeft_cases b).resolve_right fun ⟨ms, n, hEnd, hTarget, _⟩ => ?_
  rw [newInst_endLink] at hEnd
  have hLink : c.link = .finish ms := by
    unfold Cue.endLink at hEnd
    split at hEnd
    · rename_i hLink
      rw [hLink, Option.some.inj hEnd]
    · cases hEnd
  have hNext : s.cueAfter c.number = some n := hTarget
  rw [hNone ms hLink] at hNext
  cases hNext

end

section
variable {s : State} (h : Accounts True none (fun _ => 0) none s) (c : Cue)
include h

/-- A slot that owns a fade or a start is that of an `Inst` of the table. -/
theorem Accounts.owned_listed {slot : InstSlot} (hOwned : s.owned slot ≠ 0) : slot ∈ s.engine.insts.map (·.slot) := by
  rw [State.owned_eq] at hOwned
  by_contra hNot
  refine hOwned ?_
  have hFades : s.fadesOwned slot = 0 := List.countP_eq_zero.mpr fun f hf ho => hNot (h.fadeOwners trivial f hf slot (by simpa using ho))
  have hStarts : s.startsOwned none slot = 0 := Finset.sum_eq_zero fun r _ => if_neg fun ho => hNot (h.startOwners trivial r slot nofun ho.2)
  rw [hFades, hStarts]

theorem fired_insts : (s.fire c).1.finish.engine.insts =
    ((s.roomInsts ++ [s.newInst c (s.fireSlot c)]).map fun i => { i with count := (s.fire c).1.finish.owned i.slot }).filter
      fun i => i.count ≠ 0 := by
  have hAcc := fired_accounts h c
  have hSub : (s.fire c).1.finish.engine.insts.Sublist (s.acted c).1.engine.insts := by
    obtain ⟨hSome, hNone⟩ := fired_table h c
    rw [← evaluated_insts h c]
    by_cases hOwned : (s.fire c).1.finish.owned (s.fireSlot c) = 0
    · rw [(hNone hOwned).1]
      exact List.filter_sublist
    · rw [(hSome hOwned).1]
  refine insts_of_sublist ?_ ?_ (fun i hi => ?_) fun i _ hOwned => hAcc.owned_listed hOwned
  · rw [← opened_insts c h.slots]
    exact (hSub.map _).trans (acted_tabled h c).insts
  · rw [List.map_append, List.map_singleton, ← List.concat_eq_append, List.nodup_concat]
    refine ⟨fun hMem => ?_, ((roomInsts_sublist s).map _).nodup h.slots⟩
    obtain ⟨i, hi, hSlot⟩ := List.mem_map.mp hMem
    exact (fireSlot_free c h).1 i hi hSlot
  · have hCount := hAcc.counts i hi
    refine ⟨?_, (hAcc.positive i hi).resolve_right nofun⟩
    rw [State.owned_eq]
    omega

/-! ### The chain (R109, R111, R113) -/

/-- The chain when a firing has applied its actions: the one it found, but for the END link of an `Inst` that left. -/
theorem acted_chain : (s.acted c).1.engine.chain = (s.opened c).engine.chain ∨ ∃ i ∈ s.engine.insts, i.Sets (s.acted c).1.engine.chain := by
  refine (acted_tabled h c).chain.imp id fun ⟨i, hi, hSlot, hSets⟩ => ⟨i, ?_, hSets⟩
  rw [opened_insts c h.slots] at hi
  refine (roomInsts_sublist s).subset ((List.mem_append.mp hi).resolve_right fun hNew => hSlot ?_)
  rw [List.mem_singleton.mp hNew]
  rfl

theorem evaluated_chain : (s.evaluatedFiring c).engine.chain = (s.linked c).engine.chain := by
  rw [(evaluatedFiring_quiet h c).engine]

/-- A firing whose START link does not set the chain. -/
theorem evaluated_chain_kept (hNone : ∀ ms, c.link = .start ms → s.cueAfter c.number = none) :
    (s.evaluatedFiring c).engine.chain = (s.acted c).1.engine.chain := by
  rw [evaluated_chain h]
  unfold State.linked
  rw [startLink_none fun ms hLink => (acted_standby c).trans (hNone ms hLink)]

theorem fired_chain_start {ms n : Nat} (hLink : c.link = .start ms) (hNext : s.cueAfter c.number = some n) :
    (s.fire c).1.finish.engine.chain = some { target := n, ms := ms, elapsed := 0, fromStart := true, setBy := c.number } := by
  have hSet : (s.evaluatedFiring c).engine.chain = some { target := n, ms := ms, elapsed := 0, fromStart := true, setBy := c.number } := by
    rw [evaluated_chain h]
    exact startLink_sets hLink ((acted_standby c).trans hNext)
  obtain ⟨hSome, hNone⟩ := fired_table h c
  by_cases hOwned : (s.fire c).1.finish.owned (s.fireSlot c) = 0
  · rw [(hNone hOwned).2, newInst_leaves c fun ms' hFinish => (by rw [hLink] at hFinish; cases hFinish)]
    exact hSet
  · rw [(hSome hOwned).2]
    exact hSet

theorem fired_chain_kept (hStart : ∀ ms, c.link = .start ms → s.cueAfter c.number = none)
    (hFinish : ∀ ms, c.link = .finish ms → s.cueAfter c.number = none ∨ (s.fire c).1.finish.owned (s.fireSlot c) ≠ 0)
    (hLinks : ∀ i ∈ s.engine.insts, i.endLink = none) : (s.fire c).1.finish.engine.chain =
      if s.engine.chain.any (fun ch => ch.target = c.number) then none else s.engine.chain := by
  have hNoSet : ∀ {ch : Option Chain}, ¬∃ i ∈ s.engine.insts, i.Sets ch := fun ⟨i, hi, ms, n, hEnd, _⟩ => by
    rw [hLinks i hi] at hEnd
    cases hEnd
  have hFound : (s.evaluatedFiring c).engine.chain = if s.engine.chain.any (fun ch => ch.target = c.number) then none else s.engine.chain := by
    rw [evaluated_chain_kept h c hStart, (acted_chain h c).resolve_right hNoSet, opened_chain, (makeRoom_chain s).resolve_right hNoSet]
  obtain ⟨hSome, hNone⟩ := fired_table h c
  by_cases hOwned : (s.fire c).1.finish.owned (s.fireSlot c) = 0
  · rw [(hNone hOwned).2, newInst_leaves c fun ms hLink => (hFinish ms hLink).resolve_right fun hMore => hMore hOwned]
    exact hFound
  · rw [(hSome hOwned).2]
    exact hFound

/-- Where a chain that stands after a firing is from. -/
theorem fired_chain_from {ch : Chain} (hChain : (s.fire c).1.finish.engine.chain = some ch) :
    s.engine.chain = some ch ∨ ch.setBy = c.number ∨ ∃ i ∈ s.engine.insts, i.Sets (some ch) := by
  have hFound : (s.opened c).engine.chain = some ch → s.engine.chain = some ch ∨ ∃ i ∈ s.engine.insts, i.Sets (some ch) := fun hOpened => by
    rw [opened_chain] at hOpened
    split at hOpened
    · cases hOpened
    · rw [← hOpened]
      exact (makeRoom_chain s).imp Eq.symm id
  have hActed : (s.acted c).1.engine.chain = some ch → s.engine.chain = some ch ∨ ∃ i ∈ s.engine.insts, i.Sets (some ch) := fun hEnd => by
    rcases acted_chain h c with hSame | hSets
    · exact hFound (hSame.symm.trans hEnd)
    · rw [hEnd] at hSets
      exact .inr hSets
  have hEvaluated : (s.evaluatedFiring c).engine.chain = some ch →
      s.engine.chain = some ch ∨ ch.setBy = c.number ∨ ∃ i ∈ s.engine.insts, i.Sets (some ch) := fun hEnd => by
    by_cases hStart : ∀ ms, c.link = .start ms → s.cueAfter c.number = none
    · rw [evaluated_chain_kept h c hStart] at hEnd
      exact (hActed hEnd).imp id .inr
    · obtain ⟨ms, hNot⟩ := Classical.not_forall.mp hStart
      obtain ⟨hLink, hNext⟩ := Classical.not_imp.mp hNot
      obtain ⟨n, hNext⟩ := Option.ne_none_iff_exists'.mp hNext
      have hSet : (s.linked c).engine.chain = _ := startLink_sets hLink ((acted_standby c).trans hNext)
      rw [evaluated_chain h, hSet] at hEnd
      exact .inr (.inl (by rw [← Option.some.inj hEnd]))
  obtain ⟨hSome, hNone⟩ := fired_table h c
  by_cases hOwned : (s.fire c).1.finish.owned (s.fireSlot c) = 0
  · rw [(hNone hOwned).2] at hChain
    rcases (s.newInst c (s.fireSlot c)).chainLeft_cases (s.evaluatedFiring c).engine with hSame | ⟨ms, n, -, -, hSets⟩
    · exact hEvaluated (hSame.symm.trans hChain)
    · rw [hChain] at hSets
      exact .inr (.inl (congrArg Chain.setBy (Option.some.inj hSets)))
  · rw [(hSome hOwned).2] at hChain
    exact hEvaluated hChain

theorem fire_tableFired : s.TableFired (s.fire c).1.finish c (s.fireSlot c) := by
  obtain ⟨hFresh, hLowest⟩ := fireSlot_free c h
  have hStamp : (s.fire c).1.finish.engine.nextStamp = s.engine.nextStamp + 1 := by
    have hMarks := State.marks_fire s c
    generalize (s.fire c).1.finish = w at *
    exact congrArg Marks.nextStamp hMarks
  refine ⟨hFresh, hLowest, hStamp, fired_insts h c, fun ms n hLink hNext => fired_chain_start h c hLink hNext, fun ms n hLink hNext hOwned => ?_,
    fired_chain_kept h c, fun ch hChain => ?_⟩
  · rw [((fired_table h c).2 hOwned).2]
    exact newInst_sets c hLink hNext ((evaluated_standby c).trans hNext)
  · refine (fired_chain_from h c hChain).imp id (.imp id fun ⟨i, hi, ms, n, hEnd, hTarget, hSets⟩ => ⟨i, hi, ?_⟩)
    obtain rfl := Option.some.inj hSets
    exact ⟨hEnd, hTarget, rfl, rfl, rfl⟩

end

end Sys2Proof.Machine
end

section
/-! PROOFS. What a firing leaves of the targets and voices its actions do not name, of the skip counts, of calls, and of the crosspoints its
LEVEL actions name (R38, R104, R107, R149). -/

namespace Sys2Proof.Machine

open Sys2Proof

/-! ### The steps after the actions -/

section
variable {s : State}

/-- An evaluation reaches voices alone. -/
theorem evaluatePriming_reader {r : ReaderId} (hr : ∀ v, r ≠ voiceReader v) : s.evaluatePriming.reader r = s.reader r := by
  have hRelease : ∀ (t : State) v, (t.releaseUnwanted v).reader r = t.reader r := fun t v => by
    unfold State.releaseUnwanted
    split
    · rw [enterIdle_reader, if_neg (hr v).symm]
    · rfl
  have hPrime : ∀ (t : State) e, (t.primeWanted e).reader r = t.reader r := fun t e => by
    unfold State.primeWanted
    split
    · cases hSound : t.soundRec e.2 with
      | none => rw [prime_none hSound]
      | some d =>
        rw [prime_eq hSound, State.raiseReader_reader, reader_onReader, if_neg (hr e.1).symm]
        rfl
    · rfl
  have hReleased : ∀ l : List VoiceId, (l.foldl State.releaseUnwanted s).reader r = s.reader r := fun l =>
    foldl_holds (P := fun t : State => t.reader r = s.reader r) (fun t v ht => (hRelease t v).trans ht) l rfl
  have hEnd : ∀ t : State, (t.onEngine fun b => { b with evalDue := false }).reader r = t.reader r := fun _ => rfl
  unfold State.evaluatePriming
  dsimp only
  rw [hEnd]
  exact foldl_holds (P := fun t : State => t.reader r = s.reader r) (fun t e ht => (hPrime t e).trans ht) _ (hReleased _)

theorem fired_player (s : State) (c : Cue) (p : PlayerId) :
    (s.fire c).1.finish.reader (playerReader p) = (s.acted c).1.reader (playerReader p) := by
  rw [reader_of_fetch (fired_fetch s c)]
  unfold State.evaluatedFiring
  rw [evaluatePriming_reader fun v => (voiceReader_ne_playerReader v p).symm, reader_of_fetch linked_fetch]

/-- A voice that sounds, starts or is faulted when the actions have been applied stands. -/
theorem fired_voice {c : Cue} {v : VoiceId} (hIdle : ((s.acted c).1.voice v).state ≠ .idle) (hPriming : ((s.acted c).1.voice v).state ≠ .priming)
    (hPrimed : ((s.acted c).1.voice v).state ≠ .primed) : (s.fire c).1.finish.voice v = (s.acted c).1.voice v := by
  have hLinked : (s.linked c).voice v = (s.acted c).1.voice v := reader_of_fetch linked_fetch _
  have hFinal : (s.fire c).1.finish.voice v = (s.linked c).evaluatePriming.voice v := reader_of_fetch (fired_fetch s c) _
  have hNot : (s.linked c).unwanted v = false := by
    have hState : ((s.linked c).voice v).isPriming = false :=
      Bool.eq_false_iff.mpr fun h => ((isPriming_iff _).mp h).elim (hLinked ▸ hPriming) (hLinked ▸ hPrimed)
    unfold State.unwanted
    rw [hState]
    rfl
  rw [hFinal, ← hLinked]
  rcases evaluatePriming_evaluated (s.linked c) v with ⟨-, -, h⟩ | ⟨hUnwanted, -, -, -⟩ | ⟨hFree, -, -, -⟩
  · exact h.voice
  · rw [hNot] at hUnwanted
    cases hUnwanted
  · rcases hFree with hState | hUnwanted
    · rw [hLinked] at hState
      exact absurd hState hIdle
    · rw [hNot] at hUnwanted
      cases hUnwanted

theorem fired_router (s : State) (c : Cue) : (s.fire c).1.finish.router = (s.acted c).1.router := by
  obtain ⟨-, -, -, -, -, hFinish, -⟩ := State.finish_frame (s.fire c).1
  obtain ⟨-, -, -, -, -, -, -, hClosed, -⟩ := State.closeFiring_frame (s.evaluatedFiring c) c (s.fireSlot c) (s.acted c).2
  obtain ⟨-, -, -, -, -, hEvaluated, -⟩ := State.evaluatePriming_frame (s.linked c)
  obtain ⟨-, -, -, -, -, -, -, hLinked, -⟩ := State.startLink_frame (s.acted c).1 c
  rw [hFinish, fire_eq]
  exact hClosed.trans (hEvaluated.trans hLinked)

theorem fired_foldback (s : State) (c : Cue) : (s.fire c).1.finish.foldback = (s.acted c).1.foldback := by
  obtain ⟨-, -, -, -, hFinish, -, -⟩ := State.finish_frame (s.fire c).1
  obtain ⟨-, -, -, -, -, -, hClosed, -, -⟩ := State.closeFiring_frame (s.evaluatedFiring c) c (s.fireSlot c) (s.acted c).2
  obtain ⟨-, -, -, -, hEvaluated, -, -⟩ := State.evaluatePriming_frame (s.linked c)
  obtain ⟨-, -, -, -, -, -, hLinked, -, -⟩ := State.startLink_frame (s.acted c).1 c
  rw [hFinish, fire_eq]
  exact hClosed.trans (hEvaluated.trans hLinked)

theorem fired_xpt (s : State) (c : Cue) (row : Row) (bus : Bus) : (s.fire c).1.finish.xpt row bus = (s.acted c).1.xpt row bus := by
  rw [fire_eq]
  exact (closes_actsOn (A := []) (s.acted c).1 c (s.fireSlot c) (s.acted c).2).xpts row bus fun _ _ => List.not_mem_nil

/-! ### Targets and voices no action names (R38, R110) -/

theorem Cue.not_names {c : Cue} {x : Target} (h : ¬c.Names x) : ∀ a ∈ c.actions, actionTarget a ≠ namedTarget x := by
  intro a ha hEq
  refine h ?_
  cases x with
  | xpt row bus =>
    cases a <;> cases hEq
    exact ⟨_, _, ha⟩
  | voice v =>
    cases a <;> cases hEq
    · exact .inl ⟨_, _, ha⟩
    · exact .inr ⟨_, ha⟩

theorem fired_unnamed (h : Accounts True none (fun _ => 0) none s) {c : Cue} {x : Target} (hNot : ¬c.Names x) :
    (s.fire c).1.finish.fadeOf x = (s.fadeOf x).map fun f => { f with owner := s.ownerLeft f.owner } := by
  rw [fadeOf_congr (congrArg FadeBlock.pool (fired_fades h c)), ← opened_fadeOf c]
  exact fireActions_fadeOf (Cue.not_names hNot) (s.opened c, {})

theorem fired_voice_unnamed {c : Cue} {v : VoiceId} (hNot : ¬c.Names (.voice v)) (hState : (s.voice v).state = .starting ∨
    (s.voice v).state = .playing ∨ (s.voice v).state = .stalled ∨ (s.voice v).state = .faulted) :
    (s.fire c).1.finish.voice v = { s.voice v with owner := s.ownerLeft (s.voice v).owner } := by
  have hActed : (s.acted c).1.voice v = { s.voice v with owner := s.ownerLeft (s.voice v).owner } :=
    (fireActions_voice (Cue.not_names hNot) (s.opened c, {})).trans (opened_voice c v)
  have hSame : ((s.acted c).1.voice v).state = (s.voice v).state := by rw [hActed]
  rw [← hActed]
  refine fired_voice ?_ ?_ ?_ <;> rw [hSame] <;> rcases hState with e | e | e | e <;> rw [e] <;> exact fun h => by cases h

/-! ### Skips (R149) -/

section
variable {slot : InstSlot} {k : FbId}

theorem fireAction_skips (acc : State × FireCounts) (a : Action) : ((State.fireAction slot acc a).1.bus k).skips =
    if onFoldbackBus k a = true ∧ (acc.1.bus k).lock = true then min ((acc.1.bus k).skips + 1) 65535 else (acc.1.bus k).skips := by
  obtain ⟨s, n⟩ := acc
  have hSame : ∀ {t : State}, t.foldback = s.foldback → (t.bus k).skips = (s.bus k).skips := fun h => by
    unfold State.bus
    rw [h]
  cases a with
  | level row bus code ms =>
    have hOther : (s.lockedBus bus = false) → ((s.fireLevel n slot row bus code ms).1.bus k).skips = (s.bus k).skips := fun hOpen => by
      unfold State.fireLevel
      rw [hOpen, if_neg (by decide)]
      split
      · rfl
      · split
        · exact hSame (State.snapLevel_frame s (.xpt row bus) code).2.2.2.1
        · exact hSame (State.requestFade_frame s _ _ _ _ _).2.2.2.1
    show ((s.fireLevel n slot row bus code ms).1.bus k).skips = _
    cases bus with
    | house j => exact (hOther rfl).trans (if_neg fun e => (by cases e.1)).symm
    | relay => exact (hOther rfl).trans (if_neg fun e => (by cases e.1)).symm
    | fb j =>
      cases hLock : (s.bus j).lock with
      | false =>
        refine (hOther hLock).trans (if_neg fun e => ?_).symm
        have hj : j = k := of_decide_eq_true e.1
        rw [← hj, show ((s, n).1.bus j).lock = false from hLock] at e
        cases e.2
      | true =>
        rw [fireLevel_locked hLock]
        have hBus : (s.countSkip (.fb j)).bus k = if j = k then { s.bus j with skips := bump (s.bus j).skips } else s.bus k := bus_onBus _ j k _
        show ((s.countSkip (.fb j)).bus k).skips = _
        rw [hBus]
        by_cases hj : j = k
        · subst hj
          rw [if_pos rfl, if_pos ⟨decide_eq_true rfl, hLock⟩]
          rfl
        · rw [if_neg hj, if_neg fun e => hj (of_decide_eq_true e.1)]
  | play v snd ms =>
    refine Eq.trans ?_ (if_neg fun e => (by cases e.1)).symm
    unfold State.fireAction
    dsimp only
    split
    · rfl
    · exact hSame (State.play_frame s v snd _ ms (some slot)).2.2.2.2.1
  | stop v ms => exact (hSame (State.stopVoice_frame s v ms (some slot)).2.2.2.2.1).trans (if_neg fun e => (by cases e.1)).symm
  | call j => exact (hSame (State.fireCall_frame s n j).2.2.2.2.2.2.1).trans (if_neg fun e => (by cases e.1)).symm
  | line l on => exact (if_neg fun e => (by cases e.1)).symm

theorem fireAction_lock (acc : State × FireCounts) (a : Action) : ((State.fireAction slot acc a).1.bus k).lock = (acc.1.bus k).lock := by
  rw [(fireAction_actsOn (A := [a]) (slot := slot) (acc := acc) List.mem_cons_self).bus k]

theorem fireActions_skips (l : List Action) (acc : State × FireCounts) : ((l.foldl (State.fireAction slot) acc).1.bus k).skips =
    if (acc.1.bus k).lock = true ∧ 0 < l.countP (onFoldbackBus k) then min ((acc.1.bus k).skips + l.countP (onFoldbackBus k)) 65535
      else (acc.1.bus k).skips := by
  induction l generalizing acc with
  | nil => exact (if_neg fun h => absurd h.2 (Nat.lt_irrefl 0)).symm
  | cons a l ih =>
    rw [List.foldl_cons, ih, fireAction_lock, fireAction_skips, List.countP_cons]
    generalize l.countP (onFoldbackBus k) = m
    cases hLock : (acc.1.bus k).lock <;> cases ha : onFoldbackBus k a <;> simp
    split <;> omega

end

theorem fired_skips (s : State) (c : Cue) (k : FbId) : ((s.fire c).1.finish.bus k).skips =
    if (s.bus k).lock = true ∧ 0 < c.actions.countP (onFoldbackBus k) then
      min ((s.bus k).skips + c.actions.countP (onFoldbackBus k)) 65535 else (s.bus k).skips := by
  have hOpened : (s.opened c).bus k = s.bus k := by
    obtain ⟨-, -, -, -, hRoom, -, -⟩ := State.makeRoom_frame s
    have hFoldback : (s.opened c).foldback = s.foldback := (State.cancelChain_frame s.makeRoom c.number).2.2.2.2.2.2.1.trans hRoom
    unfold State.bus
    rw [hFoldback]
  have hFired : (s.fire c).1.finish.bus k = (s.acted c).1.bus k := by
    unfold State.bus
    rw [fired_foldback]
  rw [hFired]
  unfold State.acted
  rw [fireActions_skips, hOpened]

/-! ### Calls (R107) -/

theorem fired_calls (h : s.OwnersOk) (c : Cue) {u : State} (hu : u = (c.actions.filterMap callOf).foldl (fun x k => (x.fireCall {} k).1) s) :
    (s.fire c).1.finish.router = u.router ∧ ∀ p : PlayerId, (s.fire c).1.finish.reader (playerReader p) = u.reader (playerReader p) := by
  have hSame : (s.acted c).1.SameCalls u := by
    rw [hu]
    exact fireActions_sameCalls c.actions (acc := (s.opened c, {})) (opened_sameCalls c h)
  exact ⟨(fired_router s c).trans hSame.router, fun p => (fired_player s c p).trans (hSame.players p)⟩

/-! ### One action among those that do not name its target -/

/-- The state in which an action is applied, the ones before it naming other targets. -/
structure State.Reached (s : State) (c : Cue) (y : ActionTarget) (w : State) : Prop where
  acts : s.ActsOn c.actions w
  xpts : ∀ row bus, y = .xpt row bus → w.xpt row bus = s.xpt row bus
  fades : ∀ x, y = namedTarget x → w.fadeOf x = (s.fadeOf x).map fun f => { f with owner := s.ownerLeft f.owner }
  voices : ∀ v, y = .voice v → w.voice v = { s.voice v with owner := s.ownerLeft (s.voice v).owner }
  length : w.fades.pool.length < s.fades.pool.length + c.actions.length

theorem acted_at {c : Cue} (hApart : (c.actions.map actionTarget).Nodup) {a : Action} (ha : a ∈ c.actions) :
    ∃ (w : State) (n : FireCounts), s.Reached c (actionTarget a) w ∧
      (∀ row bus, actionTarget a = .xpt row bus → (s.acted c).1.xpt row bus = (State.fireAction (s.fireSlot c) (w, n) a).1.xpt row bus) ∧
      (∀ x, actionTarget a = namedTarget x → (s.acted c).1.fadeOf x = (State.fireAction (s.fireSlot c) (w, n) a).1.fadeOf x) ∧
      ∀ v, actionTarget a = .voice v → (s.acted c).1.voice v = (State.fireAction (s.fireSlot c) (w, n) a).1.voice v := by
  obtain ⟨before, after, hSplit, hOthers⟩ := split_action hApart ha
  have hBefore : ∀ b ∈ before, actionTarget b ≠ actionTarget a := fun b hb => hOthers b (List.mem_append_left _ hb)
  have hAfter : ∀ b ∈ after, actionTarget b ≠ actionTarget a := fun b hb => hOthers b (List.mem_append_right _ hb)
  have hActed : s.acted c = after.foldl (State.fireAction (s.fireSlot c))
      (State.fireAction (s.fireSlot c) (before.foldl (State.fireAction (s.fireSlot c)) (s.opened c, {})) a) := by
    unfold State.acted
    rw [hSplit, List.foldl_append, List.foldl_cons]
  have hMem : ∀ b ∈ before, b ∈ c.actions := fun b hb => hSplit ▸ List.mem_append_left _ hb
  refine ⟨(before.foldl (State.fireAction (s.fireSlot c)) (s.opened c, {})).1, (before.foldl (State.fireAction (s.fireSlot c)) (s.opened c, {})).2,
    ⟨?_, fun row bus hx => ?_, fun x hx => ?_, fun v hx => ?_, ?_⟩, fun row bus hx => ?_, fun x hx => ?_, fun v hx => ?_⟩
  · exact (opened_actsOn s c).trans (fireActions_actsOn hMem (s.opened c, {}))
  · rw [fireActions_xpt fun b hb => hx ▸ hBefore b hb]
    exact (opened_actsOn (A := []) s c).xpts row bus fun _ _ => List.not_mem_nil
  · rw [fireActions_fadeOf fun b hb => hx ▸ hBefore b hb]
    exact opened_fadeOf c x
  · rw [fireActions_voice fun b hb => hx ▸ hBefore b hb]
    exact opened_voice c v
  · have hLength := fireActions_length (slot := s.fireSlot c) before (s.opened c, {})
    have hOpened : (s.opened c, ({} : FireCounts)).1.fades.pool.length = s.fades.pool.length := opened_length c
    have hMore : c.actions.length = before.length + after.length + 1 := by
      rw [hSplit, List.length_append, List.length_cons]
      omega
    omega
  · rw [hActed]
    exact fireActions_xpt (fun b hb => hx ▸ hAfter b hb) _
  · rw [hActed]
    exact fireActions_fadeOf (fun b hb => hx ▸ hAfter b hb) _
  · rw [hActed]
    exact fireActions_voice (fun b hb => hx ▸ hAfter b hb) _

end

end Sys2Proof.Machine
end

section
/-! PROOFS. The LEVEL, PLAY and STOP actions of a firing (R104 to R106, R130, R132). -/

namespace Sys2Proof.Machine

open Sys2Proof

section
variable {s w : State} {c : Cue}

/-! ### The state an action finds -/

theorem State.Reached.lock {y : ActionTarget} (h : s.Reached c y w) (k : FbId) : (w.bus k).lock = (s.bus k).lock := by rw [h.acts.bus k]

theorem State.Reached.claim {y : ActionTarget} (h : s.Reached c y w) (i : InputId) : w.claim i = s.claim i := by
  unfold State.claim
  rw [h.acts.cast]

theorem State.Reached.room {y : ActionTarget} {x : Target} (h : s.Reached c y w) (hx : y = namedTarget x) (hRoom : s.FadeRoom c x) :
    (w.fadeOf x).isSome ∨ w.fades.pool.length < 256 := by
  have hMax : Config.fadePool = 256 := rfl
  have hLength := h.length
  rcases hRoom with hThere | hFree
  · rw [h.fades x hx, Option.isSome_map]
    exact .inl hThere
  · exact .inr (by omega)

/-- A level is what an action leaves of it, and so is the record on it. -/
theorem fired_fadeOf (h : Accounts True none (fun _ => 0) none s) (c : Cue) (x : Target) :
    (s.fire c).1.finish.fadeOf x = (s.acted c).1.fadeOf x := fadeOf_congr (congrArg FadeBlock.pool (fired_fades h c)) x

/-! ### LEVEL (R104) -/

theorem requestFade_xpts {row : Row} {bus : Bus} {code : LevelCode} {ms : Nat} (o : Option InstSlot) (b : Bool) (hLevel : s.xpt row bus ≠ code)
    (hRoom : (s.fadeOf (.xpt row bus)).isSome ∨ s.fades.pool.length < 256) : (s.requestFade (.xpt row bus) code ms o b).matrix = s.matrix := by
  rcases s.fade_cases (.xpt row bus) code with h | ⟨-, hEq⟩ | ⟨h, -, hLess⟩ | ⟨h, -, hFull⟩
  · rw [requestFade_replaced ms o b h]
    simp
  · exact absurd hEq hLevel
  · rw [requestFade_made ms o b h hLevel hLess]
    simp
  · exact absurd hRoom (not_or.mpr ⟨by rw [h]; decide, Nat.not_lt.mpr hFull⟩)

/-- A LEVEL action a lock or a claim keeps out. -/
theorem fired_level_kept (h : Accounts True none (fun _ => 0) none s) (hApart : (c.actions.map actionTarget).Nodup) {row : Row} {bus : Bus}
    {code : LevelCode} {ms : Nat} (ha : Action.level row bus code ms ∈ c.actions)
    (hOut : (∃ k, bus = .fb k ∧ (s.bus k).lock = true) ∨ ∃ i, row = .inp i ∧ s.claim i ≠ none) :
    (s.fire c).1.finish.xpt row bus = s.xpt row bus ∧ (s.fire c).1.finish.fadeOf (.xpt row bus) =
      (s.fadeOf (.xpt row bus)).map fun f => { f with owner := s.ownerLeft f.owner } := by
  obtain ⟨w, n, hReached, hXpt, hFade, -⟩ := acted_at (s := s) hApart ha
  rw [fired_fadeOf h, fired_xpt, hXpt row bus rfl, hFade (.xpt row bus) rfl, ← hReached.xpts row bus rfl, ← hReached.fades (.xpt row bus) rfl]
  have hSkip : ∀ b : Bus, (w.countSkip b).xpt row bus = w.xpt row bus ∧ (w.countSkip b).fadeOf (.xpt row bus) = w.fadeOf (.xpt row bus) := fun b => by
    cases b <;> exact ⟨rfl, rfl⟩
  show (w.fireLevel n (s.fireSlot c) row bus code ms).1.xpt row bus = _ ∧ (w.fireLevel n (s.fireSlot c) row bus code ms).1.fadeOf _ = _
  unfold State.fireLevel
  split
  · exact hSkip bus
  · rename_i hOpen
    split
    · exact ⟨rfl, rfl⟩
    · rename_i hFree
      rcases hOut with ⟨k, rfl, hLock⟩ | ⟨i, rfl, hClaim⟩
      · exact absurd ((hReached.lock k).trans hLock) hOpen
      · exact absurd (Option.isSome_iff_ne_none.mpr fun e => hClaim ((hReached.claim i).symm.trans e)) hFree

section
variable (h : Accounts True none (fun _ => 0) none s) (hApart : (c.actions.map actionTarget).Nodup) {row : Row} {bus : Bus}
  {code : LevelCode} {ms : Nat} (ha : Action.level row bus code ms ∈ c.actions)
  (hOpen : ∀ k, bus = .fb k → (s.bus k).lock = false) (hFree : ∀ i, row = .inp i → s.claim i = none)

include hApart ha hOpen hFree in
/-- A LEVEL action with no fade time, or to the level that stands. -/
theorem acted_level_snap (hNow : ms = 0 ∨ s.xpt row bus = code) :
    (s.acted c).1.xpt row bus = code ∧ (s.acted c).1.fadeOf (.xpt row bus) = none := by
  obtain ⟨w, n, hReached, hXpt, hFade, -⟩ := acted_at (s := s) hApart ha
  have hSnap := fireLevel_snap (s := w) (n := n) (slot := s.fireSlot c) (fun k hk => (hReached.lock k).trans (hOpen k hk))
    (fun i hi => (hReached.claim i).trans (hFree i hi)) (hNow.imp id (hReached.xpts row bus rfl).trans)
  have hDone : (State.fireAction (s.fireSlot c) (w, n) (.level row bus code ms)).1 = w.snapLevel (.xpt row bus) code := congrArg Prod.fst hSnap
  rw [hXpt row bus rfl, hFade (.xpt row bus) rfl, hDone, snapLevel_xpt, if_pos ⟨rfl, rfl⟩, snapLevel_fadeOf, if_pos rfl]
  exact ⟨rfl, rfl⟩

include hApart ha hOpen hFree h in
/-- Any other LEVEL action is a fade the `Inst` owns. -/
theorem fired_level_fades (hTime : ms ≠ 0) (hLevel : s.xpt row bus ≠ code) (hRoom : s.FadeRoom c (.xpt row bus)) :
    (s.fire c).1.finish.xpt row bus = s.xpt row bus ∧ (s.fire c).1.finish.fadeOf (.xpt row bus) =
      some (newFade (.xpt row bus) (s.xpt row bus) code ms (some (s.fireSlot c)) false) := by
  obtain ⟨w, n, hReached, hXpt, hFade, -⟩ := acted_at (s := s) hApart ha
  have hStands := hReached.xpts row bus rfl
  have hNot : w.xpt row bus ≠ code := fun e => hLevel (hStands.symm.trans e)
  have hRequest := fireLevel_fade (s := w) (n := n) (slot := s.fireSlot c) (fun k hk => (hReached.lock k).trans (hOpen k hk))
    (fun i hi => (hReached.claim i).trans (hFree i hi)) hTime hNot
  have hDone : (State.fireAction (s.fireSlot c) (w, n) (.level row bus code ms)).1 =
      w.requestFade (.xpt row bus) code ms (some (s.fireSlot c)) false := congrArg Prod.fst hRequest
  have hThere := hReached.room (x := .xpt row bus) rfl hRoom
  rw [fired_fadeOf h, fired_xpt, hXpt row bus rfl, hFade (.xpt row bus) rfl, hDone, xpt_congr (requestFade_xpts _ _ hNot hThere),
    requestFade_fadeOf ms _ _ (x := .xpt row bus) hNot hThere, ← hStands]
  exact ⟨rfl, rfl⟩

end

end

/-! ### PLAY (R105, R130, R132) -/

section
variable {s z : State} {v : VoiceId} {n : SoundId} {d : Sound} {ms : Nat} {o : Option InstSlot}

/-- What a PLAY action leaves of its voice, by the state it finds the voice in. -/
structure State.PlayedFor (s : State) (v : VoiceId) (n : SoundId) (d : Sound) (ms : Nat) (o : Option InstSlot) (z : State) : Prop where
  sound : (z.voice v).sound = some (n, d)
  moment : (z.voice v).playMoment = s.now
  busy : (z.voice v).state = .starting ∨ (z.voice v).state = .playing
  starting : (z.voice v).state = .starting → (z.voice v).owner = o ∧ (z.voice v).keptFadeIn = some ms ∧ z.fadeOf (.voice v) = none ∧
    (z.voice v).level = if ms = 0 then 0 else -180
  playing : (z.voice v).state = .playing → (z.voice v).owner = none ∧ (z.voice v).keptFadeIn = none ∧ (z.voice v).late = some 0 ∧
    (s.fades.pool.length < 256 → ((z.voice v).level = if ms = 0 then 0 else -180) ∧
      z.fadeOf (.voice v) = if ms = 0 then none else some (newFade (.voice v) (-180) 0 ms none false))
  primed : (s.voice v).state = .primed → (s.voice v).soundId = some n → (z.voice v).state = .playing ∧ (z.voice v).ring = (s.voice v).ring
  priming : (s.voice v).state = .priming → (s.voice v).soundId = some n →
    (({ s.voice v with sound := some (n, d) } : Reader).Startable → (z.voice v).state = .playing) ∧
    (¬({ s.voice v with sound := some (n, d) } : Reader).Startable → (z.voice v).state = .starting) ∧ (z.voice v).ring = (s.voice v).ring
  other : ((s.voice v).state ≠ .priming ∧ (s.voice v).state ≠ .primed) ∨ (s.voice v).soundId ≠ some n →
    (z.voice v).state = .starting ∧ (z.voice v).ring = .replicate 8 .empty

/-- The fields of a voice that has begun to play at once, whatever state it was in. -/
theorem State.Begun.plays {x : Reader} (h : s.Begun v x (s.fades.pool.filter fun f => f.target ≠ .voice v) ms 0 z)
    (hRoom : s.fades.pool.length < 256) : ((z.voice v).level = if ms = 0 then 0 else -180) ∧
      z.fadeOf (.voice v) = if ms = 0 then none else some (newFade (.voice v) (-180) 0 ms none false) := by
  obtain ⟨hNone, hMade, -⟩ := h.fades
  have hFreed : ((s.fades.pool.filter fun f => f.target ≠ .voice v).find? fun f => f.target = .voice v) = none :=
    (dropFade_fadeOf (s := s) (x := .voice v) (.voice v)).trans (if_pos rfl)
  by_cases h0 : ms = 0
  · rw [if_pos h0, if_pos h0]
    exact ⟨h.level h0, fadeOf_freed (hNone h0)⟩
  · obtain ⟨hLevel, hFades⟩ := hMade h0 (lt_of_le_of_lt (List.length_filter_le _ _) hRoom)
    rw [if_neg h0, if_neg h0]
    refine ⟨hLevel, ?_⟩
    unfold State.fadeOf
    rw [hFades]
    exact find_append rfl hFreed

/-- A voice PRIMED with the sound plays at once. -/
theorem play_primed_playedFor (h : (s.voice v).state = .primed ∧ (s.voice v).soundId = some n) (o : Option InstSlot) :
    s.PlayedFor v n d ms o (s.play v n d ms o) := by
  obtain ⟨hBegun, -⟩ := play_primed_begun (d := d) (ms := ms) h o
  have hVoice := hBegun.voice
  have hState : ((s.play v n d ms o).voice v).state = .playing := by rw [hVoice]
  refine ⟨by rw [hVoice]; rfl, by rw [hVoice]; rfl, .inr hState, fun hStarts => ?_,
    fun _ => ⟨by rw [hVoice], by rw [hVoice], by rw [hVoice], hBegun.plays⟩, fun _ _ => ⟨hState, by rw [hVoice]; rfl⟩, fun hPriming _ => ?_, fun hOther => ?_⟩
  · rw [hState] at hStarts
    cases hStarts
  · rw [h.1] at hPriming
    cases hPriming
  · exact absurd hOther (not_or.mpr ⟨fun e => e.2 h.1, fun e => e h.2⟩)

/-- The start condition of a voice PRIMING with the sound is that of its ring. -/
theorem taken_canStart (h : (s.voice v).state = .priming ∧ (s.voice v).soundId = some n) (o : Option InstSlot) :
    ((s.voice v).taken s.now n d ms o).canStart = true ↔ ({ s.voice v with sound := some (n, d) } : Reader).Startable := by
  rw [Reader.taken_priming h]
  exact Reader.canStart_iff ({ s.voice v with sound := some (n, d) } : Reader)

/-- A voice that meets the start condition plays at once. -/
theorem play_starts_playedFor (hNot : ¬((s.voice v).state = .primed ∧ (s.voice v).soundId = some n)) (o : Option InstSlot)
    (hStart : ((s.voice v).taken s.now n d ms o).canStart = true) : s.PlayedFor v n d ms o (s.play v n d ms o) := by
  obtain ⟨hBegun, -⟩ := play_starts_begun hNot o hStart
  have hVoice := hBegun.voice
  have hPriming : (s.voice v).state = .priming ∧ (s.voice v).soundId = some n := by
    by_contra hOther
    rw [Reader.taken_other hOther, Reader.load_waits] at hStart
    cases hStart
  have hTaken := Reader.taken_priming (d := d) (ms := ms) hPriming s.now o
  rw [hTaken] at hVoice
  have hState : ((s.play v n d ms o).voice v).state = .playing := by rw [hVoice]
  refine ⟨by rw [hVoice]; rfl, by rw [hVoice]; rfl, .inr hState, fun hStarts => ?_,
    fun _ => ⟨by rw [hVoice], by rw [hVoice], by rw [hVoice], hBegun.plays⟩, fun hPrimed hSound => absurd ⟨hPrimed, hSound⟩ hNot,
    fun _ _ => ⟨fun _ => hState, fun hWaits => absurd ((taken_canStart hPriming o).mp hStart) hWaits, by rw [hVoice]; rfl⟩, fun hOther => ?_⟩
  · rw [hState] at hStarts
    cases hStarts
  · exact absurd hOther (not_or.mpr ⟨fun e => e.1 hPriming.1, fun e => e hPriming.2⟩)

/-- Any other voice is left STARTING. -/
theorem play_waits_playedFor (hNot : ¬((s.voice v).state = .primed ∧ (s.voice v).soundId = some n)) (o : Option InstSlot)
    (hStart : ((s.voice v).taken s.now n d ms o).canStart = false) : s.PlayedFor v n d ms o (s.play v n d ms o) := by
  rw [play_waits hNot o hStart]
  have hVoice := begin_voice (s := s) (v := v) (n := n) (d := d) (ms := ms) o
  have hFields := hVoice
  rw [Reader.taken_eq] at hFields
  have hState : ((s.begin v n d ms o).voice v).state = .starting := by rw [hFields]
  refine ⟨by rw [hFields], by rw [hFields], .inl hState,
    fun _ => ⟨by rw [hFields], by rw [hFields], fadeOf_freed (begin_fades o), by rw [hFields]⟩, fun hPlays => ?_,
    fun hPrimed hSound => absurd ⟨hPrimed, hSound⟩ hNot, fun hPriming hSound => ⟨fun hCan => ?_, fun _ => hState, ?_⟩, fun hOther => ⟨hState, ?_⟩⟩
  · rw [hState] at hPlays
    cases hPlays
  · rw [(taken_canStart ⟨hPriming, hSound⟩ o).mpr hCan] at hStart
    cases hStart
  · rw [hVoice, Reader.taken_priming ⟨hPriming, hSound⟩]
    rfl
  · have hBegins : ¬((s.voice v).state = .priming ∧ (s.voice v).soundId = some n) := fun e => hOther.elim (fun h => h.1 e.1) fun h => h e.2
    rw [hVoice, Reader.taken_other hBegins]
    rfl

theorem play_playedFor : s.PlayedFor v n d ms o (s.play v n d ms o) := by
  by_cases h : (s.voice v).state = .primed ∧ (s.voice v).soundId = some n
  · exact play_primed_playedFor h o
  · cases hStart : ((s.voice v).taken s.now n d ms o).canStart
    · exact play_waits_playedFor h o hStart
    · exact play_starts_playedFor h o hStart

end

end Sys2Proof.Machine
end

section
/-! PROOFS. A firing as the obligations state it: its marks, what it cannot touch, and what its actions do (R38, R88, R93, R103 to R107,
R132, R149). -/

namespace Sys2Proof.Machine

open Sys2Proof

section
variable {s : State} {c : Cue}

theorem ownerLeft_none (s : State) : s.ownerLeft none = none := by
  unfold State.ownerLeft
  split <;> rfl

/-! ### PLAY at a firing (R105) -/

/-- The voice and the record a PLAY action leaves stand to the end of the firing. -/
theorem fired_play (h : Accounts True none (fun _ => 0) none s) (hApart : (c.actions.map actionTarget).Nodup) {v : VoiceId} {n : SoundId}
    {ms : Nat} {d : Sound} (ha : Action.play v n ms ∈ c.actions) (hSound : s.fetch.sounds.get n = some d) :
    ∃ w z : State, s.Reached c (.voice v) w ∧ w.PlayedFor v n d ms (some (s.fireSlot c)) z ∧
      (s.fire c).1.finish.voice v = z.voice v ∧ (s.fire c).1.finish.fadeOf (.voice v) = z.fadeOf (.voice v) := by
  obtain ⟨w, m, hReached, -, hFade, hVoice⟩ := acted_at (s := s) hApart ha
  have hRec : w.soundRec n = some d := by
    unfold State.soundRec
    rw [kept_sounds hReached.acts.kept]
    exact hSound
  have hDone : (State.fireAction (s.fireSlot c) (w, m) (.play v n ms)).1 = w.play v n d ms (some (s.fireSlot c)) := by
    simp only [State.fireAction, hRec]
  have hPlayed := play_playedFor (s := w) (v := v) (n := n) (d := d) (ms := ms) (o := some (s.fireSlot c))
  have hActed : (s.acted c).1.voice v = (w.play v n d ms (some (s.fireSlot c))).voice v := by rw [hVoice v rfl, hDone]
  have hFaded : (s.acted c).1.fadeOf (.voice v) = (w.play v n d ms (some (s.fireSlot c))).fadeOf (.voice v) := by rw [hFade (.voice v) rfl, hDone]
  have hBusy := hPlayed.busy
  rw [← hActed] at hBusy
  refine ⟨w, _, hReached, hPlayed, (fired_voice ?_ ?_ ?_).trans hActed, (fired_fadeOf h c _).trans hFaded⟩ <;>
    rcases hBusy with e | e <;> rw [e] <;> exact fun hNo => by cases hNo

/-! ### STOP at a firing (R106) -/

/-- A voice that is IDLE when the actions have been applied. -/
theorem fired_stopped {v : VoiceId} (hIdle : ∃ r : Reader, (s.acted c).1.voice v = r.toIdle ∧ r.level = (s.voice v).level) :
    s.Stopped (s.fire c).1.finish v := by
  obtain ⟨r, hVoice, hLevel⟩ := hIdle
  have hLinked : (s.linked c).voice v = r.toIdle := (reader_of_fetch linked_fetch _).trans hVoice
  have hFinal : (s.fire c).1.finish.voice v = (s.linked c).evaluatePriming.voice v := reader_of_fetch (fired_fetch s c) _
  have hPlays : (s.fire c).1.finish.standbyPlays = (s.linked c).standbyPlays := by
    refine standbyPlays_congr ?_ ?_
    · have hFired : (s.fire c).1.finish.engine.standby = s.cueAfter c.number := by
        have hMarks := State.marks_fire s c
        generalize (s.fire c).1.finish = w at *
        exact congrArg Marks.standby hMarks
      exact hFired.trans ((marks_standby (State.marks_startLink (s.acted c).1 c)).trans (acted_standby c)).symm
    · exact (kept_cues (fire_actsOn s c).kept).trans
        ((kept_cues (State.startLink_frame (s.acted c).1 c).1).trans (kept_cues (acted_actsOn s c).kept)).symm
  unfold State.Stopped
  rw [hFinal, hPlays]
  rcases evaluatePriming_evaluated (s.linked c) v with ⟨-, -, hStands⟩ | ⟨hUnwanted, -, -, -⟩ | ⟨-, base, hBase, ⟨n, d, stamp, hMem, -, hPrimed⟩, -⟩
  · rw [hStands.voice, hLinked]
    exact ⟨hLevel, fun _ => toIdle_idle r, .inl rfl⟩
  · have hNot : (s.linked c).unwanted v = false := by
      have hState : ((s.linked c).voice v).isPriming = false := by
        rw [hLinked]
        rfl
      unfold State.unwanted
      rw [hState]
      rfl
    rw [hNot] at hUnwanted
    cases hUnwanted
  · rw [hPrimed]
    refine ⟨(hBase.trans (by rw [hLinked]; rfl) : base.level = r.level).trans hLevel, fun hNone => absurd rfl (hNone _ hMem), .inr rfl⟩

/-- A sounding voice has no start owner. -/
theorem Accounts.sounding_owner (h : Accounts True none (fun _ => 0) none s) {v : VoiceId} (hSounds : (s.voice v).sounding) : (s.voice v).owner = none := by
  by_contra hOwner
  have hStarts : (s.voice v).state = .starting := (h.starting (voiceReader v) nofun hOwner).1
  rcases hSounds with e | e <;> rw [hStarts] at e <;> cases e

section
variable {v : VoiceId} {ms : Nat} (hApart : (c.actions.map actionTarget).Nodup) (ha : Action.stop v ms ∈ c.actions)
include hApart ha

/-- The state a STOP action finds, and what it leaves of its voice. -/
theorem acted_stop : ∃ w : State, s.Reached c (.voice v) w ∧
    (s.acted c).1.voice v = (w.stopVoice v ms (some (s.fireSlot c))).voice v ∧
    (s.acted c).1.fadeOf (.voice v) = (w.stopVoice v ms (some (s.fireSlot c))).fadeOf (.voice v) := by
  obtain ⟨w, m, hReached, -, hFade, hVoice⟩ := acted_at (s := s) hApart ha
  exact ⟨w, hReached, hVoice v rfl, hFade (.voice v) rfl⟩

/-- A STOP that sends its voice to IDLE. -/
theorem acted_stop_idle (hIdles : ∀ w : State, (w.voice v).state = (s.voice v).state → (w.voice v).level = (s.voice v).level →
    ∃ event, w.stopVoice v ms (some (s.fireSlot c)) = w.enterIdle (voiceReader v) event) :
    (∃ r : Reader, (s.acted c).1.voice v = r.toIdle ∧ r.level = (s.voice v).level) ∧ (s.acted c).1.fadeOf (.voice v) = none := by
  obtain ⟨w, hReached, hVoice, hFade⟩ := acted_stop (s := s) hApart ha
  have hFound := hReached.voices v rfl
  have hState : (w.voice v).state = (s.voice v).state := by rw [hFound]
  have hLevel : (w.voice v).level = (s.voice v).level := by rw [hFound]
  obtain ⟨event, hIdle⟩ := hIdles w hState hLevel
  rw [hVoice, hFade, hIdle, enterIdle_voice, if_pos rfl, enterIdle_unfaded]
  exact ⟨⟨w.voice v, rfl, hLevel⟩, rfl⟩

theorem fired_stop_other (hIdle : (s.voice v).state ≠ .idle) (hPlaying : (s.voice v).state ≠ .playing) (hStalled : (s.voice v).state ≠ .stalled) :
    s.Stopped (s.fire c).1.finish v := by
  refine fired_stopped (acted_stop_idle hApart ha fun w hState _ => ?_).1
  rw [← hState] at hIdle hPlaying hStalled
  cases hw : (w.voice v).state with
  | idle => exact absurd hw hIdle
  | playing => exact absurd hw hPlaying
  | stalled => exact absurd hw hStalled
  | priming => exact ⟨_, stopVoice_released (.inl hw) _⟩
  | primed => exact ⟨_, stopVoice_released (.inr hw) _⟩
  | starting => exact ⟨_, stopVoice_stopped (.inl hw) _⟩
  | faulted => exact ⟨_, stopVoice_stopped (.inr hw) _⟩

theorem fired_stop_atOnce (h : Accounts True none (fun _ => 0) none s) (hSounds : (s.voice v).sounding) (hNow : ms = 0 ∨ (s.voice v).level = -180) :
    s.Stopped (s.fire c).1.finish v ∧ (s.fire c).1.finish.fadeOf (.voice v) = none := by
  obtain ⟨hIdle, hFade⟩ := acted_stop_idle (s := s) hApart ha fun w hState hLevel =>
    ⟨_, stopVoice_atOnce (by unfold Reader.sounding; rw [hState]; exact hSounds) (by rw [hLevel]; exact hNow) _⟩
  exact ⟨fired_stopped hIdle, (fired_fadeOf h c _).trans hFade⟩

theorem fired_stop_fades (h : Accounts True none (fun _ => 0) none s) (hSounds : (s.voice v).sounding) (hTime : ms ≠ 0)
    (hLevel : (s.voice v).level ≠ -180) (hRoom : s.FadeRoom c (.voice v)) : (s.fire c).1.finish.voice v = s.voice v ∧
      (s.fire c).1.finish.fadeOf (.voice v) = some (newFade (.voice v) (s.voice v).level (-180) ms (some (s.fireSlot c)) true) := by
  obtain ⟨w, hReached, hVoice, hFade⟩ := acted_stop (s := s) hApart ha
  have hFound : w.voice v = s.voice v := by
    have hOwner := h.sounding_owner hSounds
    rw [hReached.voices v rfl, hOwner, ownerLeft_none, ← hOwner]
  have hThere := hReached.room (x := .voice v) rfl hRoom
  have hNot : w.levelOf (.voice v) ≠ -180 := fun e => hLevel (hFound ▸ e)
  rw [stopVoice_fades (by rw [hFound]; exact hSounds) hTime (by rw [hFound]; exact hLevel) hThere] at hVoice hFade
  have hSame : (s.acted c).1.voice v = s.voice v := hVoice.trans ((reader_of_fetch (requestFade_readers _ _ _ hNot hThere) _).trans hFound)
  refine ⟨(fired_voice ?_ ?_ ?_).trans hSame, ?_⟩
  iterate 3
    · rw [hSame]
      rcases hSounds with e | e <;> rw [e] <;> exact fun hNo => by cases hNo
  · rw [fired_fadeOf h, hFade, requestFade_fadeOf ms _ _ hNot hThere, ← hFound]
    rfl

end

end

end Sys2Proof.Machine
end

section
/-! PROOFS. A firing as the obligations state it (R38, R88, R93, R103 to R107, R132, R149). -/

namespace Sys2Proof.Machine

open Sys2Proof

section
variable {s : State}

/-- What the actions of a firing do, the accounts in order. -/
theorem fire_actionsFired (hPool : s.fades.PoolOk) (hOwners : s.OwnersOk) (c : Cue) :
    s.ActionsFired (s.fire c).1.finish c (s.fireSlot c) := by
  have h := hOwners.accounts hPool
  have hMax : Config.fadePool = 256 := rfl
  refine ⟨fun x hNot => fired_unnamed h hNot, fun v hNot hState => fired_voice_unnamed hNot hState, fired_skips s c,
    fun u hu => fired_calls hOwners c hu, fun hApart => ⟨fun row bus code ms ha => ⟨fired_level_kept h hApart ha, fun hOpen hFree => ⟨fun hNow => ?_,
      fired_level_fades h hApart ha hOpen hFree⟩⟩, fun v n ms d ha hSound => ?_, fun v ms ha => ⟨fired_stop_other hApart ha,
        fun hSounds => ⟨fired_stop_atOnce hApart ha h hSounds, fired_stop_fades hApart ha h hSounds⟩⟩⟩⟩
  · rw [fired_xpt, fired_fadeOf h]
    exact acted_level_snap hApart ha hOpen hFree hNow
  · obtain ⟨w, z, hReached, hPlayed, hVoice, hFade⟩ := fired_play h hApart ha hSound
    have hFound := hReached.voices v rfl
    have hNow : w.now = s.now := kept_now hReached.acts.kept
    obtain ⟨hSounds, hMoment, -, hStarting, hPlaying, hPrimed, hPriming, hOther⟩ := hPlayed
    rw [hFound] at hPrimed hPriming hOther
    rw [hVoice, hFade]
    have hLength := hReached.length
    refine ⟨hSounds, hMoment.trans hNow, hStarting, fun hState => ?_, hPrimed, hPriming, hOther⟩
    obtain ⟨hOwner, hKept, hLate, hFadesIn⟩ := hPlaying hState
    exact ⟨hOwner, hKept, hLate, fun hRoom => hFadesIn (by omega)⟩

/-- The marks of a firing, and what it cannot touch. -/
theorem fire_fired (s : State) (c : Cue) : s.Fired (s.fire c).1.finish c := by
  have hActs := fire_actsOn s c
  have hMarks := State.marks_fire s c
  have hRaised := (fire_says s c).finish
  have hLine : (c.actions.map actionTarget).Nodup → ∀ n on, Action.line n on ∈ c.actions → (((s.fire c).1.finish).line n).cueLine = on :=
    fun hApart n on ha => fire_line hApart ha
  have hSnap : (c.actions.map actionTarget).Nodup → ∀ row bus code, Action.level row bus code 0 ∈ c.actions →
      (∀ k, bus = .fb k → (s.bus k).lock = false) → (∀ i, row = .inp i → s.claim i = none) → (s.fire c).1.finish.xpt row bus = code :=
    fun hApart row bus code ha hOpen hFree => (fired_xpt s c row bus).trans (acted_level_snap hApart ha hOpen hFree (.inl rfl)).1
  generalize (s.fire c).1.finish = t at *
  have hAt : t = { s with
      link := t.link
      matrix := { s.matrix with xpts := t.matrix.xpts }
      fades := t.fades
      engine := t.engine
      fetch := t.fetch
      foldback := { s.foldback with buses := t.foldback.buses }
      router := t.router
      lines := { s.lines with recs := t.lines.recs } } := by
    rw [← hActs.matrix, ← hActs.foldback, ← hActs.lines]
    exact (State.eq_at hActs.kept).trans (by rw [hActs.cast, hActs.mic])
  exact ⟨hAt, congrArg Marks.lastFired hMarks, congrArg Marks.standby hMarks, congrArg Marks.fired hMarks, congrArg Marks.halted hMarks,
    congrArg Marks.stopAllMs hMarks, kept_presets hActs.kept, kept_sounds hActs.kept, hRaised, hActs.xpts, hActs.bus, hActs.line, hActs.stands,
    fun hApart => ⟨hLine hApart, hSnap hApart⟩⟩

end

end Sys2Proof.Machine
end

section
/-! PROOFS. A line that turns, and where its press goes (R178, R180, R185 to R187). -/

namespace Sys2Proof.Machine

open Sys2Proof

section
variable {s : State} {n : LineId} {was : Bool}

/-! ### A line that turns (R185) -/

/-- The lines with one turned to a level, and with a press of it refused. -/
def State.turnedLines (s : State) (n : LineId) (active : Bool) : LineBlock :=
  { s.lines with recs := put s.lines.recs n { s.line n with debounced := some active, count := 0 } }

def State.refusedLines (s : State) (n : LineId) : LineBlock :=
  { s.lines with recs := put s.lines.recs n { s.line n with
      debounced := some true, count := 0, refused := min ((s.line n).refused + 1) 65535 } }

def State.turned (s : State) (n : LineId) (active : Bool) : State := { s with lines := s.turnedLines n active }

theorem turned_line (active : Bool) : (s.turned n active).line n = { s.line n with debounced := some active, count := 0 } := get_put_same _ _ _

theorem turned_fn (active : Bool) : ((s.turned n active).line n).fn = (s.line n).fn := by rw [turned_line]

theorem turned_settled (h : s.Settled) (active : Bool) : (s.turned n active).Settled := settled_congr h rfl rfl rfl

theorem onLine_turn (hWas : (s.line n).debounced = some was) : s.onLine n LineRec.turn = s.turned n !was := by
  have hTurn : (s.line n).turn = { s.line n with debounced := some !was, count := 0 } := by
    unfold LineRec.turn
    rw [hWas]
    rfl
  unfold State.turned State.turnedLines
  rw [← hTurn]
  rfl

theorem debounced_press (hWas : (s.line n).debounced = some false) : s.debounced n = (s.turned n true).press n := by
  have hIf : ((s.onLine n LineRec.turn).line n).debounced = some true := by
    rw [onLine_turn hWas, turned_line]
    rfl
  have hPress : s.debounced n = (s.onLine n LineRec.turn).press n := if_pos hIf
  rw [hPress, onLine_turn hWas]
  rfl

theorem debounced_release (hWas : (s.line n).debounced = some true) : s.debounced n = (s.turned n false).release n := by
  have hIf : ((s.onLine n LineRec.turn).line n).debounced ≠ some true := by
    rw [onLine_turn hWas, turned_line]
    exact fun h => by cases h
  have hRelease : s.debounced n = (s.onLine n LineRec.turn).release n := if_neg hIf
  rw [hRelease, onLine_turn hWas]
  rfl

theorem lineDone_early (h : (s.line n).count < 480) : s.lineDone n = s := by
  have hNot : ¬(s.line n).due = true := fun hDue => Nat.not_lt.mpr (of_decide_eq_true (Bool.and_eq_true_iff.mp hDue).2) h
  exact if_neg hNot

theorem lineDone_due (hWas : (s.line n).debounced = some was) (h : 480 ≤ (s.line n).count) : s.lineDone n = s.debounced n := by
  have hDue : (s.line n).due = true := by
    unfold LineRec.due
    rw [hWas]
    exact decide_eq_true h
  exact if_pos hDue

/-! ### A press refused (R187) -/

theorem refusePress_eq (s : State) (n : LineId) (why : String) : s.refusePress n why = { s with
    link := (s.refusePress n why).link
    lines := { s.lines with recs := put s.lines.recs n { s.line n with refused := min ((s.line n).refused + 1) 65535 } } } := by
  have hLine : s.onLine n (fun r => { r with refused := bump r.refused }) = { s with
      lines := { s.lines with recs := put s.lines.recs n { s.line n with refused := min ((s.line n).refused + 1) 65535 } } } := by
    unfold State.onLine State.onLines
    rfl
  unfold State.refusePress
  dsimp only
  rw [hLine]
  exact State.raise_eq _ _ _

theorem refusePress_raised {t : State} (h : t.link.disabled = s.link.disabled) (n : LineId) (why : String) :
    s.Raised (t.refusePress n why) (.line n) (" event=refused why=" ++ why ++ " refused=" ++ natText ((t.refusePress n why).line n).refused) := by
  have hSame : ((t.refusePress n why).line n).refused = ((t.onLine n fun r => { r with refused := bump r.refused }).line n).refused := by
    unfold State.refusePress State.line
    dsimp only
    rw [State.raise_lines]
  rw [hSame]
  have hRaised := State.raised_raise (s := s) (t := t.onLine n fun r => { r with refused := bump r.refused }) h (.line n)
    ("!LINE " ++ lineText n ++ " fn=" ++ fnText ((t.onLine n fun r => { r with refused := bump r.refused }).line n).fn)
    (" event=refused why=" ++ why ++ " refused=" ++ natText ((t.onLine n fun r => { r with refused := bump r.refused }).line n).refused) ""
  unfold State.refusePress
  dsimp only
  have hText : ∀ a b c : String, a ++ " event=refused why=" ++ b ++ " refused=" ++ c =
      a ++ ((" event=refused why=" ++ b ++ " refused=" ++ c) ++ "") := fun a b c => by
    simp only [String.append_assoc, String.append_empty]
  rw [hText]
  exact hRaised

/-- A press of a line that turns, refused with nothing else. -/
theorem refused_press (h : s.Settled) (why : String) :
    ((s.turned n true).refusePress n why).finish = (s.turned n true).refusePress n why ∧
      (s.turned n true).refusePress n why = { s with link := ((s.turned n true).refusePress n why).link, lines := s.refusedLines n } ∧
      s.Raised ((s.turned n true).refusePress n why) (.line n)
        (" event=refused why=" ++ why ++ " refused=" ++ natText (((s.turned n true).refusePress n why).line n).refused) := by
  have hEq := refusePress_eq (s.turned n true) n why
  have hLines : ({ (s.turned n true).lines with recs := put (s.turned n true).lines.recs n { (s.turned n true).line n with
      refused := min (((s.turned n true).line n).refused + 1) 65535 } } : LineBlock) = s.refusedLines n := by
    rw [turned_line]
    unfold State.refusedLines
    exact congrArg (fun v => ({ s.lines with recs := v } : LineBlock)) (put_put _ _ _ _)
  rw [hLines] at hEq
  have hRaised := refusePress_raised (s := s) (t := s.turned n true) rfl n why
  generalize (s.turned n true).refusePress n why = t at *
  exact ⟨finish_of_settled (settled_congr h (by rw [hEq]; rfl) (by rw [hEq]; rfl) (by rw [hEq]; rfl)), hEq, hRaised⟩

/-- A GO press refused: the CUE report is raised with `ignored` before the press is refused (R116). -/
theorem ignored_press (h : s.Settled) (why : String) :
    ∃ t, (((s.turned n true).raiseCue { name := "ignored", extra := " why=" ++ why }).refusePress n why).finish = t ∧
      t = { s with link := t.link, lines := s.refusedLines n } ∧
      s.Raised t (.line n) (" event=refused why=" ++ why ++ " refused=" ++ natText (t.line n).refused) ∧
      s.Raised t .cue "!CUE event=ignored" := by
  have hFrame := State.raiseCue_frame (s.turned n true) { name := "ignored", extra := " why=" ++ why }
  have hEngine := raiseCue_engine (s.turned n true) { name := "ignored", extra := " why=" ++ why }
  have hShown := (turned_settled (n := n) h true).shown.raiseCue { name := "ignored", extra := " why=" ++ why }
  have hRaised := raiseCue_raised_event (s := s) (t := s.turned n true) rfl { name := "ignored", extra := " why=" ++ why }
  have hPart : s.Raised ((s.turned n true).raiseCue { name := "ignored", extra := " why=" ++ why }) .cue "!CUE event=ignored" :=
    hRaised.part (before := "") (after := " cue=" ++ optText cueText none) (by
      rw [show "!CUE event=" ++ "ignored" = "!CUE event=ignored" by decide, String.empty_append, String.append_assoc])
  generalize (s.turned n true).raiseCue { name := "ignored", extra := " why=" ++ why } = w at *
  obtain ⟨hKept, hMatrix, hFades, hCast, hMic, hFetch, hFoldback, hRouter, hLines⟩ := hFrame
  have hLine : w.line n = (s.turned n true).line n := by
    unfold State.line
    rw [hLines]
  have hRefused := refusePress_eq w n why
  have hRefusedLines : ({ w.lines with recs := put w.lines.recs n { w.line n with refused := min ((w.line n).refused + 1) 65535 } } : LineBlock) =
      s.refusedLines n := by
    rw [hLine, turned_line, hLines]
    unfold State.refusedLines
    exact congrArg (fun v => ({ s.lines with recs := v } : LineBlock)) (put_put _ _ _ _)
  rw [hRefusedLines] at hRefused
  have hLineRaised := refusePress_raised (s := s) (t := w) (kept_disabled hKept) n why
  have hCue : s.Raised (w.refusePress n why) .cue "!CUE event=ignored" :=
    State.Raised.raise_of_ne (t := w.onLine n fun r => { r with refused := bump r.refused }) (hPart.congr rfl) (fun e => by cases e) _
  have hKeptLine := (State.refusePress_frame w n why).1
  generalize w.refusePress n why = v at *
  have hEnd : v.finish = v.onEngine fun b => { b with opEvent := none } :=
    (hShown.outside (by rw [hRefused]) (by rw [hRefused]) (by rw [hRefused])).finish
  refine ⟨_, hEnd, ?_, hLineRaised.congr rfl, hCue.congr rfl⟩
  have hBlock : ({ v.engine with opEvent := none } : EngineBlock) = s.engine := by
    have hv : v.engine = w.engine := by rw [hRefused]
    rw [hv, hEngine]
    show ({ s.engine with opEvent := none } : EngineBlock) = _
    rw [← h.2.1]
  have hAll : (v.onEngine fun b => { b with opEvent := none }).kept = s.kept := hKeptLine.trans hKept
  refine (State.eq_at hAll).trans ?_
  show ({ s with
      link := v.link, matrix := v.matrix, fades := v.fades, cast := v.cast, mic := v.mic, fetch := v.fetch, foldback := v.foldback
      router := v.router, lines := v.lines, engine := { v.engine with opEvent := none } } : State) = { s with link := v.link, lines := s.refusedLines n }
  rw [hBlock, hRefused]
  dsimp only
  rw [hMatrix, hFades, hCast, hMic, hFetch, hFoldback, hRouter]
  rfl

end

end Sys2Proof.Machine
end

section
/-! PROOFS. DEBOUNCE: the event of a line that turns, by the line's function (R178, R180, R185 to R187). -/

namespace Sys2Proof.Machine

open Sys2Proof

section
variable {u : State} {n : LineId}

/-! ### A press by the line's function (R186) -/

theorem press_none (h : (u.line n).fn = .none) : u.press n = u := by
  unfold State.press
  rw [h]

theorem press_talk (h : (u.line n).fn = .talk) : u.press n = { u with foldback := u.foldback.holdLine n true } := by
  unfold State.press
  rw [h]
  rfl

theorem press_halt (h : (u.line n).fn = .halt) : u.press n = u.setRun true := by
  unfold State.press
  rw [h]

theorem press_resume (h : (u.line n).fn = .resume) : u.press n = u.setRun false := by
  unfold State.press
  rw [h]

theorem press_stopAll (h : (u.line n).fn = .stopAll) : u.press n = u.stopAll u.engine.stopAllMs := by
  unfold State.press
  rw [h]

theorem press_go (h : (u.line n).fn = .go) : u.press n = u.pressGo n := by
  unfold State.press
  rw [h]

theorem press_preset {k : PresetId} (h : (u.line n).fn = .preset k) : u.press n = u.pressPreset n k := by
  unfold State.press
  rw [h]

theorem pressGo_fires {c : Cue} (hRuns : u.engine.halted = false) (hCue : u.standbyCue = some c) : u.pressGo n = (u.fire c).1 := by
  have hGo : u.goCue none = .ok c := by
    unfold State.goCue
    rw [hRuns, if_neg (by decide)]
    dsimp only
    rw [hCue]
  unfold State.pressGo
  rw [hGo]

theorem pressGo_refused (h : u.engine.halted = true ∨ u.engine.standby = none) : u.pressGo n =
    (u.raiseCue { name := "ignored", extra := " why=" ++ if u.engine.halted then "halted" else "end" }).refusePress n
      (if u.engine.halted then "halted" else "end") := by
  unfold State.pressGo State.goCue
  cases hHalted : u.engine.halted with
  | true => rfl
  | false =>
    have hEnd : u.standbyCue = none := by
      unfold State.standbyCue
      rw [h.resolve_left (by rw [hHalted]; decide)]
      rfl
    dsimp only
    rw [hEnd, if_neg (by decide)]
    rfl

theorem pressPreset_empty {k : PresetId} (h : u.router.presets.get k = none) : u.pressPreset n k = u.refusePress n "empty" := by
  unfold State.pressPreset
  rw [h]

theorem pressPreset_refused {k : PresetId} {q : CallRequest} (hPreset : u.router.presets.get k = some q) (h : u.resolve q = [] ∨
    u.router.calls.length = 16 ∧ ∀ d ∈ u.router.calls, d.grant = none → q.pri ≤ d.req.pri) :
    u.pressPreset n k = u.refusePress n (if u.resolve q = [] then "nozones" else "queuefull") := by
  unfold State.pressPreset
  rw [hPreset]
  dsimp only
  by_cases hNone : u.resolve q = []
  · rw [submit_noZones hNone, if_pos hNone]
    rfl
  · obtain ⟨hFull, hLow⟩ := h.resolve_left hNone
    rw [submit_full hNone (room_of_full hFull hLow), if_neg hNone]
    rfl

theorem pressPreset_admits {k : PresetId} {q : CallRequest} (hPreset : u.router.presets.get k = some q) (hZones : u.resolve q ≠ [])
    (hRoom : u.router.calls.length < 16) : u.pressPreset n k = (u.enterCall q (u.resolve q) (startLine q n)).walk := by
  unfold State.pressPreset
  rw [hPreset]
  dsimp only
  rw [submit_free hZones hRoom]

end

/-! ### The end of the event -/

section
variable {s : State} {n : LineId} {was : Bool}

theorem debounced_none (hWas : (s.line n).debounced = some was) (h : (s.line n).fn = .none) : s.debounced n = s.turned n !was := by
  cases was with
  | false => rw [debounced_press hWas, press_none ((turned_fn true).trans h)]; rfl
  | true =>
    have hFn := (turned_fn (s := s) (n := n) false).trans h
    rw [debounced_release hWas, release_other (by rw [hFn]; exact fun e => by cases e) (fun k => by rw [hFn]; exact fun e => by cases e)]
    rfl

theorem debounced_talk (hWas : (s.line n).debounced = some was) (h : (s.line n).fn = .talk) :
    s.debounced n = { s.turned n !was with foldback := s.foldback.holdLine n !was } := by
  cases was with
  | false => rw [debounced_press hWas, press_talk ((turned_fn true).trans h)]; rfl
  | true => rw [debounced_release hWas, release_talk ((turned_fn false).trans h)]; rfl

theorem debounced_talk_end (h : s.Settled) (hWas : (s.line n).debounced = some was) (hFn : (s.line n).fn = .talk) : (s.debounced n).finish =
    { s with lines := s.turnedLines n !was, foldback := s.foldback.holdLine n !was } := by
  rw [debounced_talk hWas hFn]
  exact finish_of_settled (settled_congr h rfl rfl rfl)

/-- A release of a line whose function takes none. -/
theorem debounced_let_go (hWas : (s.line n).debounced = some true) (h : (s.line n).fn = .go ∨ (s.line n).fn = .halt ∨
    (s.line n).fn = .resume ∨ (s.line n).fn = .stopAll) : s.debounced n = s.turned n false := by
  have hFn := turned_fn (s := s) (n := n) false
  rw [debounced_release hWas]
  refine release_other ?_ fun k => ?_ <;> rw [hFn] <;> rcases h with e | e | e | e <;> rw [e] <;> exact fun hNo => by cases hNo

theorem turned_finish (h : s.Settled) (active : Bool) : (s.turned n active).finish = s.turned n active := finish_of_settled (turned_settled h active)

/-- HALT and RESUME from a line (R114, R186). -/
theorem debounced_run (h : s.Settled) (halted : Bool) :
    ((s.turned n true).setRun halted).finish = { s with
      link := ((s.turned n true).setRun halted).finish.link
      lines := s.turnedLines n true
      engine := { s.engine with halted := halted } } ∧
      (s.engine.halted ≠ halted → s.Raised ((s.turned n true).setRun halted).finish .cue ("!CUE event=" ++ if halted then "halted" else "resumed")) := by
  obtain ⟨hAt, -, -, hRaised⟩ := setRun_leaves (turned_settled (n := n) h true) halted
  exact ⟨hAt, hRaised⟩

/-- STOP ALL from a line (R115, R186). -/
theorem debounced_stopAll (ms : Nat) : ((s.turned n true).stopAll ms).finish.lines = s.turnedLines n true ∧
    ((s.turned n true).stopAll ms).finish.engine.insts = [] ∧ ((s.turned n true).stopAll ms).finish.engine.chain = none ∧
    ((s.turned n true).stopAll ms).finish.engine.halted = false ∧ ((s.turned n true).stopAll ms).finish.engine.standby = s.engine.standby ∧
    s.Raised ((s.turned n true).stopAll ms).finish .cue "!CUE event=stopall" := by
  obtain ⟨hInsts, hChain, -, -, -, hRaised⟩ := stopAll_ends (s.turned n true) ms
  have hMarks := stopAll_marks (s.turned n true) ms
  obtain ⟨-, -, -, -, -, -, hLines⟩ := State.stopAll_frame (s.turned n true) ms
  obtain ⟨-, -, -, -, -, -, hLinesEnd⟩ := State.finish_frame ((s.turned n true).stopAll ms)
  have hLinesAll := hLinesEnd.trans hLines
  generalize ((s.turned n true).stopAll ms).finish = t at *
  exact ⟨hLinesAll, hInsts, hChain, congrArg Marks.halted hMarks, congrArg Marks.standby hMarks, hRaised⟩

/-- A call a line admits (R168, R178). -/
theorem debounced_admits {k : PresetId} {q : CallRequest} (h : s.Settled) (hFn : (s.line n).fn = .preset k) (hPreset : s.router.presets.get k = some q)
    (hZones : s.resolve q ≠ []) (hRoom : s.router.calls.length < 16) :
    ∃ id st, (s.turned n true).Admitted ((s.turned n true).press n).finish q (startLine q n) id st := by
  have hEnters := enters_self (s := s.turned n true) hRoom
  have hPress : (s.turned n true).press n = ((s.turned n true).enterCall q ((s.turned n true).resolve q) (startLine q n)).walk :=
    (press_preset ((turned_fn true).trans hFn)).trans (pressPreset_admits (u := s.turned n true) hPreset hZones hRoom)
  rw [hPress, finish_of_settled (enterCall_settled (turned_settled h true) hEnters)]
  exact ⟨_, _, enterCall_admitted hEnters (startLine q n)⟩

/-- The call a line holds ends with its release (R178). -/
theorem debounced_releases {k : PresetId} (h : s.Settled) (hFn : (s.line n).fn = .preset k) :
    ((∀ c ∈ s.router.calls, c.line ≠ some n) → ((s.turned n false).release n).finish = s.turned n false) ∧
      ∀ c, s.router.calls.find? (fun c => c.line = some n) = some c → (s.turned n false).CallGone ((s.turned n false).release n).finish c ∧
        s.Raised ((s.turned n false).release n).finish (.call c.id) " cause=released by=none event=ended" := by
  have hRelease := release_preset ((turned_fn (s := s) (n := n) false).trans hFn)
  have hSettled := (release_releases (s.turned n false) n).settled (turned_settled h false)
  rw [finish_of_settled hSettled, hRelease]
  refine ⟨fun hNone => releaseLine_none (s := s.turned n false) hNone, fun c hFound => ?_⟩
  obtain ⟨hGone, hRaised⟩ := releaseLine_gone (s := s.turned n false) hFound
  exact ⟨hGone, hRaised⟩

end

end Sys2Proof.Machine

namespace Sys2Proof.Proofs

open Sys2Proof Sys2Proof.Machine

/-- Settles O56: by the line's function, a GO press through the firing and every other through its operation; FRAME by what it leaves of a
line. -/
theorem lineEvents : Obligations.LineEvents := by
  refine ⟨fun s t u slots pins n hReset hFrame hu hExec => ?_, fun s n was hReset hCalm hWas => ⟨fun hEarly => ?_, fun hDue => ?_⟩⟩
  · rw [frame_line n hReset hFrame hu hExec]
    exact ⟨fun hNone => LineRec.frame_count_none hNone, fun active hActive => LineRec.frame_count_some hActive⟩
  · exact (exec_debounce s n).trans (event_unchanged hCalm hReset (g := fun s => s.lineDone n) (lineDone_early hEarly))
  · obtain ⟨hSettled, hPrompt⟩ := hCalm
    have hExec : exec (.debounce n) s = .next (s.debounced n).finish := by
      rw [exec_debounce, laterEvent_running hReset hPrompt, lineDone_due hWas hDue]
    have hKept : (s.debounced n).finish.kept = s.kept := (State.finish_frame _).1.trans (State.debounced_frame s n).1
    refine ⟨_, s.turnedLines n !was, hExec, kept_link hKept, rfl, fun hFn => ?_, fun hFn => ?_, fun hTrue hFn => ?_, fun hFalse => ?_,
      fun k hTrue hFn => ?_⟩
    · rw [debounced_none hWas hFn]
      exact turned_finish hSettled _
    · rw [debounced_talk_end hSettled hWas hFn]
      exact ⟨rfl, (s.foldback.holdLine_keeps n _).2.2.2.1⟩
    · subst hTrue
      rw [debounced_let_go hWas hFn]
      exact turned_finish hSettled _
    · subst hFalse
      have hPress := debounced_press hWas
      have hTurned := turned_fn (s := s) (n := n) true
      rw [hPress]
      refine ⟨fun hFn => ?_, fun hFn => ?_, fun hFn => ?_, fun c hFn hRuns hCue => ?_, fun hFn hOut => ?_, fun k hFn hEmpty => ?_,
        fun k q hFn hPreset hOut => ?_, fun k q hFn hPreset hZones hRoom => debounced_admits hSettled hFn hPreset hZones hRoom⟩
      · rw [press_halt (hTurned.trans hFn)]
        obtain ⟨hAt, hRaised⟩ := debounced_run (n := n) hSettled true
        exact ⟨hAt, fun hRuns => hRaised (by rw [hRuns]; decide)⟩
      · rw [press_resume (hTurned.trans hFn)]
        obtain ⟨hAt, hRaised⟩ := debounced_run (n := n) hSettled false
        exact ⟨hAt, fun hHalted => hRaised (by rw [hHalted]; decide)⟩
      · rw [press_stopAll (hTurned.trans hFn)]
        exact debounced_stopAll _
      · rw [press_go (hTurned.trans hFn), pressGo_fires (u := s.turned n true) hRuns hCue]
        exact ⟨fire_fired (s.turned n true) c, fun hOwners hPool => ⟨_, fire_tableFired (s := s.turned n true) (hOwners.accounts hPool) c,
          fire_actionsFired (s := s.turned n true) hPool hOwners c⟩⟩
      · rw [press_go (hTurned.trans hFn), pressGo_refused (u := s.turned n true) hOut]
        obtain ⟨t, hEnd, hAt, hLine, hCue⟩ := ignored_press (n := n) hSettled (if s.engine.halted then "halted" else "end")
        have hSame : (((s.turned n true).raiseCue { name := "ignored", extra := " why=" ++ if (s.turned n true).engine.halted then "halted" else "end" }).refusePress n
            (if (s.turned n true).engine.halted then "halted" else "end")).finish = t := hEnd
        rw [hSame]
        exact ⟨hAt, hLine, hCue⟩
      · rw [press_preset (hTurned.trans hFn), pressPreset_empty (u := s.turned n true) hEmpty]
        obtain ⟨hEnd, hAt, hRaised⟩ := refused_press (n := n) hSettled "empty"
        rw [hEnd]
        refine ⟨hAt, ?_⟩
        rw [show " event=refused why=" ++ "empty" ++ " refused=" = " event=refused why=empty refused=" by decide] at hRaised
        exact hRaised
      · rw [press_preset (hTurned.trans hFn), pressPreset_refused (u := s.turned n true) hPreset hOut]
        obtain ⟨hEnd, hAt, hRaised⟩ := refused_press (n := n) hSettled (if s.resolve q = [] then "nozones" else "queuefull")
        have hSame : ((s.turned n true).refusePress n (if (s.turned n true).resolve q = [] then "nozones" else "queuefull")).finish =
            (s.turned n true).refusePress n (if s.resolve q = [] then "nozones" else "queuefull") := hEnd
        rw [hSame]
        exact ⟨hAt, hRaised⟩
    · subst hTrue
      rw [debounced_release hWas]
      exact debounced_releases hSettled hFn

end Sys2Proof.Proofs
end
